-- ==== Sys2Proof/Word.lean ====
section
/-!
DEFINITION. The word types of the CT856 model.  A CSR holds 32 bits (R13), a K32 register 64 bits (R203),
a memory cell one byte.
-/
namespace Sys2Proof

/-- A byte of memory. -/
abbrev Byte := BitVec 8

/-- The content of one CSR (R13). -/
abbrev W32 := BitVec 32

/-- The content of one K32 general register (R203). -/
abbrev Word := BitVec 64

end Sys2Proof
end

