-- ==== Sys2Proof/Syntax.lean ====
section
/-!
DEFINITION. The commands of the CT856: one constructor for each row of the table of operations and events, in the
table's order, with the operands that the row's rule gives it.  What reaches the controller from outside (a message, a
frame, a measurement, an edge on a pin, the result of a job of a built-in controller) comes as operands.
-/
namespace Sys2Proof

/-- A general register of K32, g0 to g31 (R203). -/
abbrev Reg := Fin 32

/-- What executes an instruction: a K32 core (R199) or a thread context of the Conjugator (R236). -/
inductive Agent where
  | core (k : Fin 13)
  | thread (t : Fin 1024)
deriving DecidableEq, Repr

/-- Why a warm reset comes about (R416, RST_CAUSE). -/
inductive WarmCause where
  /-- A RESET message of kind 1 (R434). -/
  | resetMessage
  /-- The health window expired (R397). -/
  | health
  /-- A third halt of core k within 60 s (R421). -/
  | crash (k : Fin 13)
  /-- The security core's self-check failed (R419). -/
  | selfCheck
  /-- The activation of a resident image (R398). -/
  | activate
  /-- A write of RST_CTL.warm by core k. -/
  | csrWrite (k : Fin 13)
deriving DecidableEq, Repr

/-- A Tense counter with a LO and a HI register (R52). -/
inductive TnsCounter where
  | tick | optime | dtime
deriving DecidableEq, Repr

/-- A power-good input: a domain's, an eFuse's or a slot device's. -/
inductive PgInput where
  | dom (d : Fin 48)
  | efuse (s : Fin 8)
  | slot (s : Fin 8)
deriving DecidableEq, Repr

/-- How a sideband transfer of a clause ended: acknowledged, not acknowledged, or refused because the PMIC's
registers are locked (R69). -/
inductive XferResult where
  | ack | nack | locked
deriving DecidableEq, Repr

/-- One conversion of a sensor or analog input: the index of R130, the raw code (the mean code of a slow round; for a
diode the code of its forward voltages), the ratio of a ring oscillator in 1/65,536, and whether what the model does not
see was plausible: a diode's forward voltage, a ring oscillator's counts (R144). -/
structure Sample where
  index : Nat
  code : Nat
  ratio : Nat
  plausible : Bool
deriving DecidableEq, Repr

/-- What a wave of Period finds: a trip input, an invalid code, an overrun, or a Tense tick with nothing new. -/
structure WaveIn where
  invalidCode : Bool
  overrun : Bool
  vbus : Nat
  iin : Nat
  /-- Which SLOTn_THERMTRIP_N and SLOTn_EFUSE_FLT_N inputs are low. -/
  tripLow : BitVec 8
  fltLow : BitVec 8
deriving DecidableEq, Repr

/-- An output that Period gates with a keep-alive (R157). -/
inductive GovOut where
  | gate
  | efuse (s : Fin 8)
  | dom (d : Fin 48)
deriving DecidableEq, Repr

/-- A PACE cause of Period that clears by itself (R163). -/
inductive PaceCause where
  | ocPace (iin : Nat)
  | uvPace (vbus : Nat)
deriving DecidableEq, Repr

/-- A cause register of Period (R163). -/
inductive CauseReg where
  | tray
  | slot (s : Fin 8)
deriving DecidableEq, Repr

/-- A register of protection levels with a cross-field rule (R464). -/
inductive LevelReg where
  | iin | vbus
  | zone (z : Fin 8)
deriving DecidableEq, Repr

/-- One measurement of a leak rope: the A-to-B impedance in 0.1 kOhm and the two loop resistances in Ohm (R165). -/
structure RopeMeas where
  zAb : Nat
  loopA : Nat
  loopB : Nat
deriving DecidableEq, Repr

/-- What a metrology channel measured in a frame: its samples, current in uA and the voltage taken with it in uV, before
calibration, and whether the injected bias shows an open sense input (R176, R186). -/
structure ChanMeas where
  samples : List (Int × Int)
  open_ : Bool
deriving DecidableEq, Repr

/-- An entry of a group's peer table (R309): a MAC address, the mask of permitted ports, and the valid flag. -/
structure Peer where
  mac : Nat
  ports : Nat
  valid : Bool
deriving DecidableEq, Repr

/-- An Agreement frame as received on priority 7 (R318, R319): the source address and EtherType, and the payload's
version, type, domain, group, flags, sender, generation, domain time and body words. -/
structure AgrFrame where
  src : Nat
  ethertype : Nat
  version : Nat
  typ : Nat
  domain : Nat
  group : Fin 256
  flags : Nat
  sender : Nat
  generation : Nat
  dtime : Nat
  body : List Nat
deriving DecidableEq, Repr

/-- A connection request of the RDMA connection manager (R328, R332, R334, R337): its port, the port of its alternate
path, the QP number, the mailbox or the stream that its binding names, whether responses are delivered in PUSH mode and the
buffer they go to, and whether the record window is asked for. -/
structure CmReq where
  port : Fin 8
  alt : Option (Fin 8)
  qp : Nat
  mailbox : Option (Fin 16)
  stream : Option (Fin 8)
  push : Bool
  pushAddr : Nat
  pushLen : Nat
  records : Bool
deriving DecidableEq, Repr

/-- The payload of STREAM_CFG (R346). -/
structure StreamReq where
  stream : Nat
  mode : Nat
  types : Nat
  periodMs : Nat
  minSev : Nat
  rkey : Nat
  target : Nat
  ringRec : Nat
deriving DecidableEq, Repr

/-- What a received frame is to a port: an EAPOL frame passes without MACsec, and a PTP event message is timestamped (R58,
R331). -/
inductive FrameKind where
  | plain | eapol | ptpEvent
deriving DecidableEq, Repr

/-- What the coordinator of a MANAGER or TOP orders its own tray (R337), or sends to the mailbox of a child (R335, R351). -/
inductive OwnOrder where
  | power (target st capW : Nat)
  | clearFault (target : Nat)
  | abortRelease (mask : Nat)
  | stage (group capW epoch : Nat)
  | floor (slot ctx watts : Nat)
  | capCfg (group flags deadlineUs : Nat)
  | send (child cls cmd : Nat) (data : List (BitVec 8))
deriving DecidableEq, Repr

/-- An entry of a SUMMARY as a child brings it (R351): input power in 10 W, hottest zone, highest level, tray state, flags, slots
ON and the applied epoch. -/
structure SumEntry where
  watts10 : Nat
  hottest : Int
  level : Nat
  tray : Nat
  flags : Nat
  on : Nat
  applied : Nat
deriving DecidableEq, Repr

/-- An EVENT record of a child (R348, R352): its origin, slot byte, stamp, seq, source, code, severity, whether hardware wrote it,
and its payload. -/
structure KidEvent where
  origin : Nat
  slot : Nat
  cycles : Nat
  ms : Nat
  seq : Nat
  src : Nat
  code : Nat
  sev : Nat
  hw : Bool
  payload : List Nat
deriving DecidableEq, Repr

/-- What the children have brought in over a stream's period (R351, R352): the entries of each child, of a worker one, of a
manager those of its workers; and their events. -/
structure Brought where
  sums : List (Nat × List SumEntry)
  events : List KidEvent
deriving DecidableEq, Repr

/-- A step of the PLDM firmware-update flow (R408). -/
inductive PldmStep where
  | write (off : Nat) (data : List (BitVec 8))
  | verify
  | apply
deriving DecidableEq, Repr

/-- An error of a protected memory (R424): 0 shared SRAM, 1 tensor SRAM, 2 DDR5 (R463), by rows of 512 bytes and words of 8. -/
structure SramErr where
  mem : Fin 3
  row : Nat
  word : Nat
  uncorrectable : Bool
deriving DecidableEq, Repr

/-- A trigger that leaves STANDBY (R414). -/
inductive WakeTrigger where
  | trayOn | mainHold | ddrCommand
deriving DecidableEq, Repr

/-- What an identity read over I3C returned (R432). -/
structure IdRead where
  ack : Bool
  devClass : BitVec 32
  serial : BitVec 128
  modules : List (Nat × Nat × Nat)
deriving DecidableEq, Repr

/-- The commands, one constructor for each row of the table. -/
inductive Instr where
  /-- COLD_START (R416): Always-on power-good rises and everything except fused, flash and Itsal non-volatile state resets. -/
  | coldStart (role : BitVec 2) (trngOk : Bool)
  /-- ALWAYS_ON_LOSS (R413): VIN56 falls below 36 V, always-on power-good falls and the logic die enters OFF. -/
  | alwaysOnLoss
  /-- WARM_RESET (R417): A RESET message, HEALTH, resident ACTIVATE, CRASH, image self-check or RST_CTL.warm write holds every core in reset and reruns stage 0. -/
  | warmReset (cause : WarmCause)
  /-- BOOT_STAGE_0 (R389): After the GOLDEN_N debounce, the mask ROM chooses a candidate, loads and verifies it, and locks the security core's regions. -/
  | bootStage0 (goldenLow : Bool)
  /-- CORE_RELEASE (R390): A write to BOOT_RELEASE releases core k only if its region lock is set, and otherwise sets rel_refused. -/
  | coreRelease (by_ : Fin 13) (k : Fin 13)
  /-- CORE_LOCK (R221): A write to SYS_CORE_LOCK freezes regions 0 to 11 of core k until that core's reset. -/
  | coreLock (by_ : Fin 13) (k : Fin 13)
  /-- CSR_WRITE (R14): A write to a register that has no row of its own acts by its access code, subject to locks, res and reserved encodings. -/
  | csrWrite (k : Fin 13) (off : Nat) (v : BitVec 32)
  /-- TNS_COUNTER_LO_READ (R52): A read of a Tense counter LO register latches its HI register for a coherent 64-bit value. -/
  | tnsCounterLoRead (k : Fin 13) (c : TnsCounter)
  /-- TENSE_TICK (R52): The 1 µs tick count advances and starts Tense-timed activities and the frame strobe to Itsal. -/
  | tenseTick (speed : BitVec 16)
  /-- LOGIC_SLOW_CLEAR (R46): TNS_SPEED has stayed above the threshold for 10 ms, so the slow flag clears. -/
  | logicSlowClear
  /-- TNS_ADJ_WRITE (R54): A rate offset is written to TNS_ADJ and clamped to ±500 ppm, setting adj_clamp when clamped. -/
  | tnsAdjWrite (k : Fin 13) (v : BitVec 32)
  /-- DOMAIN_TIME_STEP (R55): A write of TNS_STEP_CTL.go steps domain time, or is refused when step_en is 0 or the limit is exceeded. -/
  | domainTimeStep (k : Fin 13) (v : BitVec 32)
  /-- EPOCH_DEADLINE_ARM (R57): A write of arm to TNS_EPOCH_DL_HI arms a group's epoch deadline with the LO value. -/
  | epochDeadlineArm (k : Fin 13) (g : Fin 256) (v : BitVec 32)
  /-- EPOCH_DEADLINE (R57): Domain time reaches an armed deadline, which sets TNS_EPOCH_PEND, disarms it and signals the power core. -/
  | epochDeadline (g : Fin 256)
  /-- PACE_ROUND_BOUNDARY (R56): Domain time reaches a group's round boundary, where committed caps apply and ROUND frames are sent. -/
  | paceRoundBoundary (g : Fin 256) (busy : Bool)
  /-- XTAL_LOST (R59): No crystal edge arrives for 200 ns, so Tense switches to the reference oscillator and stops PTP timestamping. -/
  | xtalLost
  /-- XTAL_RESTORED (R59): Crystal edges have returned continuously for 1 ms, so Tense switches back at the next tick. -/
  | xtalRestored
  /-- ETH_FRAME_RECEIVE (R50): A frame arrives in its priority's receive FIFO, and is dropped when the FIFO is full. -/
  | ethFrameReceive (port : Fin 8) (prio : Fin 8) (len : Nat) (taken : Nat) (macsecOk : Bool) (kind : FrameKind)
  /-- PFC_PAUSE_RECEIVED (R327): A received PFC pause is honoured on priorities 0 to 6 and ignored for priority 7. -/
  | pfcPauseReceived (port : Fin 8) (prios : BitVec 8)
  /-- POWER_ORDER (R78): A class 0x02 power state or cap order replaces its source's standing order, and the effective state and cap are recomputed. -/
  | powerOrder (m : Fin 16) (target st capW : Nat)
  /-- QUERY (R78): Class 0x02 returns both standing orders, effective state and cap, binding state and the last clause fault. -/
  | query (m : Fin 16) (target : Nat)
  /-- CLEAR_FAULT (R78): Clears SEQ_EFUSE_STATUS.fault for a slot or gate_fail for the tray. -/
  | clearFault (m : Fin 16) (target : Nat)
  /-- GATE_REQUEST_ON (R61): The gate request turns on once the tray is ON, Period is armed with no trip, and VIN56 lies in the window. -/
  | gateRequestOn
  /-- INPUT_GOOD (R62): VSNS_IN comes within 1.0 V of VIN56 at an export refresh, so the input is good. -/
  | inputGood
  /-- GATE_TIMEOUT (R62): The input is not good within gate_timeout, so the request is withdrawn, gate_fail is set and the tray becomes FAULT. -/
  | gateTimeout
  /-- EFUSE_FAULT (R63): SLOTn_EFUSE_FLT_N stays low past the 10 µs deglitch, so the eFuse is latched off and the slot fails. -/
  | efuseFault (n : Fin 8)
  /-- DOM_PG_GOOD (R71): DOMn_PG, SLOTn_EFUSE_PG or SLOTn_PG turns good after deglitch and completes a waiting clause instruction. -/
  | domPgGood (p : PgInput)
  /-- DOM_PG_LOST (R68): An enabled domain's power-good falls after being good, and the controller acts on its fault_action. -/
  | domPgLost (d : Fin 48)
  /-- CLAUSE_START (R229): A due up-clause or down-clause starts: the runtime sets its data page, regions, registers and budget and enters mode P. -/
  | clauseStart (t : Fin 9)
  /-- DOM_ON (R71): The clause drives a domain enable on after any discharge wait, or fails its binding, zone, trip or arming check. -/
  | domOn (t : Fin 9) (d : Nat)
  /-- DISCHARGE_WAIT_END (R67): A domain's discharge time elapses and a waiting dom_on drives the enable on. -/
  | dischargeWaitEnd (t : Fin 9)
  /-- DOM_OFF (R71): The clause drives a domain enable off. -/
  | domOff (t : Fin 9) (d : Nat)
  /-- WAIT_PG (R71): The clause waits for a domain's power-good. -/
  | waitPg (t : Fin 9) (d : Nat)
  /-- EFUSE_ON (R71): The clause drives SLOTn_EFUSE_EN on, or fails on a tray clause, latched fault, wet zone or unarmed Period. -/
  | efuseOn (t : Fin 9)
  /-- EFUSE_OFF (R71): The clause drives SLOTn_EFUSE_EN off. -/
  | efuseOff (t : Fin 9)
  /-- WAIT_EFUSE (R71): The clause waits for SLOTn_EFUSE_PG. -/
  | waitEfuse (t : Fin 9)
  /-- PMIC_ON (R71): The clause enables a module PMIC output over I3C. -/
  | pmicOn (t : Fin 9) (p : Nat)
  /-- PMIC_OFF (R71): The clause disables a module PMIC output over I3C. -/
  | pmicOff (t : Fin 9) (p : Nat)
  /-- PMIC_VSET (R69): The clause sets a PMIC voltage inside SEQ_PMIC_LIM, or the clause faults. -/
  | pmicVset (t : Fin 9) (p rail mv : Nat)
  /-- REG_ON (R71): The clause sends PMBus OPERATION on to a kind-1 domain's regulator and drives its enable. -/
  | regOn (t : Fin 9) (d : Nat)
  /-- REG_OFF (R71): The clause sends PMBus OPERATION off to a kind-1 domain's regulator. -/
  | regOff (t : Fin 9) (d : Nat)
  /-- REG_VSET (R71): The clause writes VOUT_COMMAND within the domain's vset window. -/
  | regVset (t : Fin 9) (d mv : Nat)
  /-- RST_ASSERT (R71): The clause drives SLOTn_RST_N low and the Comma link goes DOWN. -/
  | rstAssert (t : Fin 9)
  /-- RST_RELEASE (R71): The clause releases SLOTn_RST_N and the Comma link enters TRAIN, unless a flash update holds reset. -/
  | rstRelease (t : Fin 9)
  /-- WAIT_SLOT_PG (R71): The clause waits up to 1 s for SLOTn_PG. -/
  | waitSlotPg (t : Fin 9)
  /-- FLASH_MUX (R71): The clause switches the slot's xSPI mux, or fails with reason 6 while a firmware update holds it. -/
  | flashMux (t : Fin 9) (owner : Nat)
  /-- WAIT_TIME (R71): The clause waits a Tense-counted time. -/
  | waitTime (t : Fin 9) (us : Nat)
  /-- WAIT_TIME_EXPIRY (R71): The Tense-counted wait of a clause ends and the clause continues. -/
  | waitTimeExpiry (t : Fin 9)
  /-- EVENT (R71): The clause queues an info record with its code and position. -/
  | event (t : Fin 9) (code : BitVec 16)
  /-- END (R71): The clause completes and the binding's state is updated. -/
  | clauseEnd (t : Fin 9)
  /-- PG_TIMEOUT (R71): A clause wait's power-good timeout elapses, so the instruction fails with reason 1. -/
  | pgTimeout (t : Fin 9)
  /-- SIDEBAND_TRANSFER_DONE (R71): An I3C or PMBus transfer of a clause is acknowledged or runs out of retries. -/
  | sidebandTransferDone (t : Fin 9) (r : XferResult)
  /-- RB_CAP_STEP (R79): Every 1 ms, the resident image compares each slot's metered power with its rule-based cap and steps the pause duty. -/
  | rbCapStep
  /-- PACE_FRAME (R86): At each 1 µs tick, a pace frame is latched from the hold registers and sent on both lanes of each link. -/
  | paceFrame (busy : Bool)
  /-- ACTIVITY_FRAME (R88): An activity frame is received and checked, and its counts are accumulated or a TRAIN declaration is stored. -/
  | activityFrame (n : Fin 8) (rx0 rx1 : Option (BitVec 256))
  /-- CHARACTER_LOCK_LOSS (R83): A receive lane has lost character lock for 1 µs and is declared failed. -/
  | characterLockLoss (n : Fin 8) (lane : Fin 2)
  /-- COMMA_LINK_LOST (R84): loss_frames periods pass without a valid activity frame while UP, and the link becomes LOST. -/
  | commaLinkLost (n : Fin 8)
  /-- COMMA_LINK_DEAD (R84): A link stays LOST for dead_ms, becomes DEAD and is treated as a failed slot device. -/
  | commaLinkDead (n : Fin 8)
  /-- CONTROL_TICK (R268): Every 25 µs, the power core reads inputs, launches the tick job, validates and projects outputs, and writes Qualifier targets. -/
  | controlTick
  /-- DEMOTED_PROBE (R286): A demoted built-in controller is evaluated each 1 s, and is restored after 40 valid runs. -/
  | demotedProbe (role : Fin 4)
  /-- CAP_STAGE (R99): A member stages a group cap share, arms its deadline and sends STAGED, or answers STALE or DENIED. -/
  | capStage (m : Fin 16) (group capW epoch : Nat)
  /-- FLOOR_SET (R108): Sets the floor of a context on a slot. -/
  | floorSet (m : Fin 16) (slot ctx watts : Nat)
  /-- CAP_QUERY (R108): Returns standing and effective caps, budget, epochs, status and allocations under R107. -/
  | capQuery (m : Fin 16)
  /-- CAP_CFG (R108): Sets the cap group, group_valid and deadline, discarding a staged epoch when group_valid clears. -/
  | capCfg (m : Fin 16) (group flags deadlineUs : Nat)
  /-- GROUP_CAP (R353): A root or relay divides a group cap among itself and its children and sends GROUP_CAP or CAP_STAGE. -/
  | groupCap (m : Fin 16) (group mode epoch total : Nat) (shares : List Nat)
  /-- COMMIT_LIMIT (R99): The coordinator's commit limit arrives before all members have staged, so it sends COMMIT with the not-staged list. -/
  | commitLimit (g : Fin 256)
  /-- RAMP_STEP (R117): step_frames frames elapse and the ramp sequencer lowers the ramp duty by duty_step, ending the staircase at the Qualifier output. -/
  | rampStep (n : Fin 8)
  /-- RAMP_ABANDON (R118): No release is detected within hold_max_us, so the ramp duty is removed and the ramp recorded as abandoned. -/
  | rampAbandon (n : Fin 8)
  /-- BUF_READY (R120): lead_us before the planned release, the converter enters READY. -/
  | bufReady
  /-- LIMITER_UPDATE (R125): Every 0.625 µs, the slope limiter sets the discharge or charge power against its reference and limits. -/
  | limiterUpdate (iinMv dt vbank : Nat) (ibank : Int)
  /-- DISCHARGE_END (R121): The limiter demand has been 0 for 100 µs, the bank reaches vfloor, or discharge loses permission. -/
  | dischargeEnd
  /-- PHASE_OVERCURRENT (R126): A phase overcurrents, is marked failed, and the limits scale; a second failed phase enters FAULT. -/
  | phaseOvercurrent (p : Fin 4)
  /-- BANK_FAULT (R126): BUF_BANK_FLT_N is asserted for 10 µs and the converter enters FAULT. -/
  | bankFault
  /-- BANK_OVERVOLTAGE (R126): The bank rises above vmax + 1 V and the converter enters FAULT. -/
  | bankOvervoltage (vbank10mv : Nat)
  /-- SENSE_FAULT (R126): Bank or input sense goes out of range and the converter enters FAULT. -/
  | senseFault
  /-- MARGIN_WRITE (R113): After a domain comes up, a reg_vset or a pct change, the margined VOUT_COMMAND is written and clamped. -/
  | marginWrite (d : Fin 48)
  /-- CONTROL_SET_SAMPLE (R136): Just before each control tick, Parser converts the current monitors and the bus voltage input. -/
  | controlSetSample (samples : List Sample)
  /-- FAST_ROUND (R136): Every 100 µs, Parser checks converters and converts promoted channels. -/
  | fastRound (busy : Bool) (convBad : BitVec 5) (samples : List Sample)
  /-- SLOW_ROUND (R136): Every 10 ms, Parser converts and averages all other enabled channels. -/
  | slowRound (busy : Bool) (samples : List Sample)
  /-- RATE_UPDATE (R139): Every 10 ms, the rate of each evaluated sensor is computed and rate-based tests are made. -/
  | rateUpdate
  /-- MODULE_SENSOR_READ (R134): A slot core reads a DDR5 module sensor over I3C and hands the reading to THM. -/
  | moduleSensorRead (n : Fin 8) (i : Nat) (ack errFlag : Bool) (value : Int)
  /-- SENSOR_STALE (R134): 100 ms pass without a module reading, so the sensor is broken. -/
  | sensorStale (i : Nat)
  /-- STUCK_SENSOR (R144): A sensor's readings stay identical over stuck_s while a zone neighbour moves, so it is broken. -/
  | stuckSensor (i : Nat)
  /-- THM_BROKEN_SET (R144): The power core marks a sensor broken for disagreement. -/
  | thmBrokenSet (k : Fin 13) (w : Fin 9) (v : BitVec 32)
  /-- THM_BROKEN_CLEAR (R145): A write of 1 to THM_BROKEN clears a sensor's broken state for retesting. -/
  | thmBrokenClear (k : Fin 13) (w : Fin 9) (v : BitVec 32)
  /-- THROTTLE_UPDATE (R142): Every 1 ms, each slot's throttle duty rises, falls or holds by its governing zone. -/
  | throttleUpdate
  /-- FAN_FAIL (R147): A fan stays below min_rpm at duty 300 or more for its fail time and its group goes to maximum. -/
  | fanFail (i : Fin 16) (period ms : Nat)
  /-- FAN_RECOVER (R147): A failed fan has run at or above min_rpm for 5 s. -/
  | fanRecover (i : Fin 16) (period : Nat)
  /-- PUMP_FAIL (R148): PUMPp_FLT_N stays low for 10 ms or the tach is low, and the other pumps go to maximum. -/
  | pumpFail (p : Fin 4) (low : Bool) (period ms : Nat)
  /-- FLOW_LOST (R148): Flow stays below min_flow for 1 s with a pump enabled, and the zones are held at THROTTLE. -/
  | flowLost (f : Fin 4) (rate : Nat)
  /-- FLOW_RESTORED (R148): Flow has been back for 5 s and the overrides are released. -/
  | flowRestored (f : Fin 4) (rate : Nat)
  /-- VALVE_COMMAND (R149): A write to THM_VALVE_CTL.on drives or releases valves, subject to Period's forcing. -/
  | valveCommand (k : Fin 13) (v : BitVec 32)
  /-- VALVE_PULL_END (R149): pull_ms elapses and the valve drive drops to hold_pct. -/
  | valvePullEnd (v : Fin 8)
  /-- THERMAL_PREDICTOR_TICK (R152): Every 1 ms, the thermal predictor runs and writes fan and pump speeds, zone predictions and estimates. -/
  | thermalPredictorTick
  /-- ZONE_PRED_WRITE (R152): A write of THM_ZONE_PRED stamps the zone prediction as fresh. -/
  | zonePredWrite (k : Fin 13) (z : Fin 16) (v : BitVec 32)
  /-- FAN_CURVE_UPDATE (R152): Every 100 ms under the resident image, group fan and pump duties are set by the fixed curve. -/
  | fanCurveUpdate
  /-- PERIOD_WAVE (R156): At a Tense tick or a trip-input change, Period evaluates its inputs and refreshes or drops its permits. -/
  | periodWave (w : WaveIn)
  /-- TICK_ABSENT (R156): No Tense tick reaches Period for 4 µs, which is a self-fault. -/
  | tickAbsent
  /-- KEEPALIVE_EXPIRY (R157): An enable or the gate path is not refreshed for 3 µs and goes off. -/
  | keepaliveExpiry (o : GovOut)
  /-- PROOF_TEST (R158): Every 10 ms, Period proof-tests a comparator and decision path on a shadow copy. -/
  | proofTest (failPath : Nat)
  /-- PERIOD_ARM (R160): Setting PER_CTL.lock arms Period, locks PER and LKD fields and permits enables. -/
  | periodArm (k : Fin 13) (v : BitVec 32)
  /-- INPUT_OVERCURRENT_CUT (R161): BUF_IIN passes oc_cut for 2 µs and Period cuts the tray. -/
  | inputOvercurrentCut (iin : Nat)
  /-- INPUT_OVERCURRENT_PACE (R161): BUF_IIN passes oc_pace for 10 µs and Period applies pace duty. -/
  | inputOvercurrentPace (iin : Nat)
  /-- BUS_OVERVOLTAGE (R161): PER_VBUS passes the overvoltage level for 2 µs and Period cuts the tray. -/
  | busOvervoltage (vbus : Nat)
  /-- BUS_UNDERVOLTAGE_CUT (R161): PER_VBUS falls below uv_cut for 100 µs and Period cuts the tray. -/
  | busUndervoltageCut (vbus : Nat)
  /-- BUS_UNDERVOLTAGE_PACE (R161): PER_VBUS falls below uv_pace for 20 µs and Period applies pace duty. -/
  | busUndervoltagePace (vbus : Nat)
  /-- SLOT_THERMTRIP (R161): SLOTn_THERMTRIP_N stays low for 1 µs and Period cuts the slot. -/
  | slotThermtrip (n : Fin 8)
  /-- PACE_CAUSE_CLEAR (R163): A PACE cause's input has been on its clear side for 1 ms and the cause clears. -/
  | paceCauseClear (c : PaceCause)
  /-- PER_CAUSE_CLEAR (R163): A write of 1 to a latched cause bit clears it only if its input is clear, and leak_conf only under R169. -/
  | perCauseClear (k : Fin 13) (reg : CauseReg) (v : BitVec 32)
  /-- LEVEL_REGISTER_WRITE (R464): A write to PER_IIN_LVL, PER_VBUS_LVL or LKD_ZONE_CFG takes effect only if all its fields are jointly in range. -/
  | levelRegisterWrite (k : Fin 13) (reg : LevelReg) (v : BitVec 32)
  /-- LEAK_SAMPLE (R165): Every 50 µs each enabled rope is measured and the sample judged wet, open or dry. -/
  | leakSample (busy : Bool) (meas : List RopeMeas)
  /-- ROPE_SELF_TEST (R167): Every 10 s, and on retries, a 20 kΩ resistor is injected across a rope; three failures confirm the zone. -/
  | ropeSelfTest (busy : Bool) (rises : List (Nat × Nat))
  /-- PER_HB (R172): A PER_HB write marks the power core alive and ends fallback. -/
  | perHb (k : Fin 13) (v : BitVec 32)
  /-- FALLBACK_ENTRY (R172): No PER_HB arrives for 5 ms, so Period applies fb_duty to every link whose eFuse is on. -/
  | fallbackEntry
  /-- FRAME_STROBE (R179): Itsal opens a metering frame at each strobe, or at its own 1 µs count while the link is silent. -/
  | frameStrobe (heard : Bool) (meas : List ChanMeas)
  /-- EXPORT_REFRESH (R193): Every 1 ms, Itsal refreshes the export window, bracketing it with gen increments. -/
  | exportRefresh (vin56 : Nat) (temps : List (Int × Bool))
  /-- COMMAND_LINK_LOST (R30): The command link is silent for over 10 ms, so Itsal logs LINK_LOST and keeps accumulating. -/
  | commandLinkLost (silentMs : Nat)
  /-- COMMAND_LINK_RESTORED (R30): The command link returns and Itsal logs LINK_RESTORED. -/
  | commandLinkRestored (silentMs : Nat)
  /-- INTERVAL_BOUNDARY (R183): A billing interval ends and Itsal drains ENERGY, REVERSE and CLOSE records for every channel. -/
  | intervalBoundary (refBad : BitVec 9)
  /-- REFERENCE_CHECK (R186): Every 1 s and at each boundary, the modulator reference is checked, voiding channels on failure. -/
  | referenceCheck (refBad : BitVec 9)
  /-- NV_COMMIT (R177): Every 1 s, Itsal commits totals, counters and interval state to non-volatile store. -/
  | nvCommit
  /-- POWER_DOWN (R187): VIN56 falls below 36 V, and Itsal commits, drains PARTIAL and writes POWER_DOWN from hold-up. -/
  | powerDown
  /-- POWER_UP (R178): Itsal powers up, writes POWER_UP, drains any unfinished interval as VOID and selects the default registers. -/
  | powerUp (constsOk : Bool)
  /-- SEAL_OPENED (R188): CAL_EN_N falls after debounce, incrementing the seal-break count, enabling the port and setting CAL. -/
  | sealOpened
  /-- SEAL_CLOSED (R188): CAL_EN_N rises after debounce, disabling the calibration port. -/
  | sealClosed
  /-- READ_I (R190): Returns the uncalibrated mean current over the next 1 s. -/
  | readI (ch : Nat) (v : BitVec 32) (mean : Int) (crc : BitVec 16)
  /-- READ_V (R190): Returns the uncalibrated mean voltage over the next 1 s. -/
  | readV (ch : Nat) (v : BitVec 32) (mean : Int) (crc : BitVec 16)
  /-- SET_I_GAIN (R190): Sets a channel's current gain for the next commit. -/
  | setIGain (ch : Nat) (v : BitVec 32) (crc : BitVec 16)
  /-- SET_I_OFS (R190): Sets a channel's current offset for the next commit. -/
  | setIOfs (ch : Nat) (v : BitVec 32) (crc : BitVec 16)
  /-- SET_V_GAIN (R190): Sets a channel's voltage gain for the next commit. -/
  | setVGain (ch : Nat) (v : BitVec 32) (crc : BitVec 16)
  /-- SET_V_OFS (R190): Sets a channel's voltage offset for the next commit. -/
  | setVOfs (ch : Nat) (v : BitVec 32) (crc : BitVec 16)
  /-- COMMIT (R189): Commits the calibration constants within limits and increments the calibration count. -/
  | commit (ch : Nat) (v : BitVec 32) (crc : BitVec 16)
  /-- READ_CONST (R190): Returns one calibration constant. -/
  | readConst (ch : Nat) (v : BitVec 32) (crc : BitVec 16)
  /-- TARIFF (R196): A command port issues a tariff switch for a channel and strobe, refused if the core may not send it. -/
  | tariff (k : Fin 13) (channel register : Nat)
  /-- INTERVAL_LEN (R182): Sets the billing interval length from the next boundary. -/
  | intervalLen (k : Fin 13)
  /-- INTERVAL_ALIGN (R182): Closes the interval in progress at a named strobe with SHORT. -/
  | intervalAlign (k : Fin 13)
  /-- LOG_FETCH (R196): Requests 256 log records from a sequence into the export window. -/
  | logFetch (k : Fin 13)
  /-- ITS_COMMAND_ACK (R196): Itsal acknowledges or discards a command, busy clears and interrupt ITS is raised. -/
  | itsCommandAck (k : Fin 13)
  /-- METER_QUERY (R197): Returns a channel's export block with kind METERED. -/
  | meterQuery (m : Fin 16) (channel : Nat)
  /-- LOG_READ (R197): Returns metrological log records, filtered for the tray host. -/
  | logRead (m : Fin 16) (fromSeq count : Nat)
  /-- INTERVAL_SET (R197): Sets the interval length and optionally aligns it at a strobe. -/
  | intervalSet (m : Fin 16) (lengthMin align tickAt : Nat)
  /-- BAND_SET (R197): Sets the tariff band, switching every channel at a strobe. -/
  | bandSet (m : Fin 16) (band tickAt : Nat)
  /-- ATTRIB_QUERY (R278): Returns attributed energy of a slot for the last closed interval with kind ATTRIBUTED. -/
  | attribQuery (m : Fin 16) (slot : Nat)
  /-- LOG_EVENT_RECORD (R198): The scheduler core reads new log records and records the matching events, late if needed. -/
  | logEventRecord
  /-- ATTRIBUTION_RUN (R277): After CLOSE records on all nine channels, the attribution model is launched. -/
  | attributionRun
  /-- ADD (R207): 64-bit add. -/
  | add (w : Agent) (d a b : Reg)
  /-- SUB (R207): 64-bit subtract. -/
  | sub (w : Agent) (d a b : Reg)
  /-- AND (R207): Bitwise AND. -/
  | and (w : Agent) (d a b : Reg)
  /-- OR (R207): Bitwise OR. -/
  | or (w : Agent) (d a b : Reg)
  /-- XOR (R207): Bitwise XOR. -/
  | xor (w : Agent) (d a b : Reg)
  /-- ANDN (R207): a AND NOT b. -/
  | andn (w : Agent) (d a b : Reg)
  /-- SLL (R207): Shift left logical. -/
  | sll (w : Agent) (d a b : Reg)
  /-- SRL (R207): Shift right logical. -/
  | srl (w : Agent) (d a b : Reg)
  /-- SRA (R207): Shift right arithmetic. -/
  | sra (w : Agent) (d a b : Reg)
  /-- SLT (R207): Set if less, signed. -/
  | slt (w : Agent) (d a b : Reg)
  /-- SLTU (R207): Set if less, unsigned. -/
  | sltu (w : Agent) (d a b : Reg)
  /-- MIN (R207): Signed minimum. -/
  | min (w : Agent) (d a b : Reg)
  /-- MAX (R207): Signed maximum. -/
  | max (w : Agent) (d a b : Reg)
  /-- MINU (R207): Unsigned minimum. -/
  | minu (w : Agent) (d a b : Reg)
  /-- MAXU (R207): Unsigned maximum. -/
  | maxu (w : Agent) (d a b : Reg)
  /-- ADDW (R207): 32-bit add, sign-extended. -/
  | addw (w : Agent) (d a b : Reg)
  /-- SUBW (R207): 32-bit subtract, sign-extended. -/
  | subw (w : Agent) (d a b : Reg)
  /-- SLLW (R207): 32-bit shift left. -/
  | sllw (w : Agent) (d a b : Reg)
  /-- SRLW (R207): 32-bit shift right logical. -/
  | srlw (w : Agent) (d a b : Reg)
  /-- SRAW (R207): 32-bit shift right arithmetic. -/
  | sraw (w : Agent) (d a b : Reg)
  /-- CLZ (R207): Count leading zeros, 64 for 0. -/
  | clz (w : Agent) (d a : Reg)
  /-- CTZ (R207): Count trailing zeros, 64 for 0. -/
  | ctz (w : Agent) (d a : Reg)
  /-- POPC (R207): Population count. -/
  | popc (w : Agent) (d a : Reg)
  /-- SADD (R207): Signed add, saturating. -/
  | sadd (w : Agent) (d a b : Reg)
  /-- SSUB (R207): Signed subtract, saturating. -/
  | ssub (w : Agent) (d a b : Reg)
  /-- ADDI (R205): Add immediate. -/
  | addi (w : Agent) (d a : Reg) (imm : BitVec 17)
  /-- ANDI (R205): AND immediate. -/
  | andi (w : Agent) (d a : Reg) (imm : BitVec 17)
  /-- ORI (R205): OR immediate. -/
  | ori (w : Agent) (d a : Reg) (imm : BitVec 17)
  /-- XORI (R205): XOR immediate. -/
  | xori (w : Agent) (d a : Reg) (imm : BitVec 17)
  /-- SHI (R208): Shift or rotate by an immediate count. -/
  | shi (w : Agent) (d a : Reg) (imm : BitVec 17)
  /-- SLTI (R205): Set if less than immediate, signed. -/
  | slti (w : Agent) (d a : Reg) (imm : BitVec 17)
  /-- LUP (R205): Load upper immediate. -/
  | lup (w : Agent) (d : Reg) (imm : BitVec 22)
  /-- AUP (R205): Add upper immediate to PC. -/
  | aup (w : Agent) (d : Reg) (imm : BitVec 22)
  /-- LOAD (R209): Loads from memory, with alignment, region and map checks. -/
  | load (w : Agent) (d a : Reg) (width : BitVec 3) (off : BitVec 14)
  /-- STORE (R212): Posts a store, setting written shared-SRAM words FULL unless POISONED. -/
  | store (w : Agent) (d a : Reg) (width : BitVec 3) (off : BitVec 14)
  /-- BR (R210): Conditional branch. -/
  | br (w : Agent) (a b : Reg) (cond : BitVec 3) (off : BitVec 14)
  /-- JAL (R205): Jump and link. -/
  | jal (w : Agent) (d : Reg) (off : BitVec 22)
  /-- JALR (R210): Jump and link to a register target, with a MISALIGN check. -/
  | jalr (w : Agent) (d a : Reg) (imm : BitVec 17)
  /-- MUL (R210): Multiply, low 64 bits. -/
  | mul (w : Agent) (d a b : Reg)
  /-- MULH (R210): Multiply, signed high 64 bits. -/
  | mulh (w : Agent) (d a b : Reg)
  /-- MULHU (R210): Multiply, unsigned high 64 bits. -/
  | mulhu (w : Agent) (d a b : Reg)
  /-- DIV (R210): Signed divide without exceptions. -/
  | div (w : Agent) (d a b : Reg)
  /-- DIVU (R210): Unsigned divide. -/
  | divu (w : Agent) (d a b : Reg)
  /-- REM (R210): Signed remainder. -/
  | rem (w : Agent) (d a b : Reg)
  /-- REMU (R210): Unsigned remainder. -/
  | remu (w : Agent) (d a b : Reg)
  /-- LDW (R213): Waits for FULL and reads the word, leaving it FULL. -/
  | ldw (w : Agent) (d a : Reg)
  /-- LDE (R213): Waits for FULL, reads the word and makes it EMPTY. -/
  | lde (w : Agent) (d a : Reg)
  /-- STF (R213): Waits for EMPTY, writes the word and makes it FULL. -/
  | stf (w : Agent) (a b : Reg)
  /-- TCLR (R213): Makes a word EMPTY. -/
  | tclr (w : Agent) (a : Reg)
  /-- TGET (R213): Returns a word's tag state. -/
  | tget (w : Agent) (d a : Reg)
  /-- CADD (R216): Saturating count add on a tagged word. -/
  | cadd (w : Agent) (d a b : Reg)
  /-- TINITE (R213): Writes a word EMPTY and clears poison when issued by the new owner. -/
  | tinite (w : Agent) (a b : Reg)
  /-- TINITF (R213): Writes a word FULL and clears poison when issued by the new owner. -/
  | tinitf (w : Agent) (a b : Reg)
  /-- TAG_WAIT_COMPLETE (R214): A waiting LDW, LDE or STF completes when its condition holds or it meets poison. -/
  | tagWaitComplete (w : Agent)
  /-- WAIT_TIMEOUT (R214): CR_WAITLIM expires on a waiting instruction, which completes with TIMEOUT. -/
  | waitTimeout (k : Fin 13)
  /-- FENCE (R211): Completes earlier stores on the masked paths. -/
  | fence (w : Agent) (mask : BitVec 4)
  /-- IFENCE (R211): Completes all stores and discards the fetch buffer. -/
  | ifence (w : Agent)
  /-- ARV (R303): Arrives at a barrier line, parking early arrivals and completing the round when all have arrived. -/
  | arv (w : Agent) (d a : Reg)
  /-- BWT (R217): Waits until the line's sense changes. -/
  | bwt (w : Agent) (d a b : Reg)
  /-- BARRIER_WAIT_COMPLETE (R303): A round completes or the line is poisoned, and waiting BWTs complete. -/
  | barrierWaitComplete (k : Fin 13)
  /-- WFE (R218): Waits for an enabled pending interrupt or the wait limit. -/
  | wfe (w : Agent)
  /-- WFE_WAKE (R218): An enabled interrupt becomes pending and WFE completes. -/
  | wfeWake (k : Fin 13)
  /-- WTICK (R218): Waits until the tick count reaches a value. -/
  | wtick (w : Agent) (a : Reg)
  /-- WTICK_EXPIRY (R218): The tick count reaches the WTICK value and the wait completes. -/
  | wtickExpiry (w : Agent)
  /-- SVC (R219): Raises SVC with imm12 in CR_CAUSE.detail. -/
  | svc (w : Agent) (imm : BitVec 12)
  /-- BRK (R219): Raises BRK with imm12 in CR_CAUSE.detail. -/
  | brk (w : Agent) (imm : BitVec 12)
  /-- ERET (R219): Returns from an exception, restoring mode and ie. -/
  | eret (w : Agent)
  /-- CRD (R219): Reads a core register. -/
  | crd (w : Agent) (d : Reg) (cr : BitVec 12)
  /-- CWR (R219): Writes a core register. -/
  | cwr (w : Agent) (cr : BitVec 12) (a : Reg)
  /-- CSET (R219): Reads a core register and sets bits in it. -/
  | cset (w : Agent) (d a : Reg) (cr : BitVec 12)
  /-- CCLR (R219): Reads a core register and clears bits in it. -/
  | cclr (w : Agent) (d a : Reg) (cr : BitVec 12)
  /-- ILLEGAL (R206): An illegal, reserved or malformed instruction raises ILLEGAL before any effect. -/
  | illegal (w : Agent) (word : BitVec 32)
  /-- INTERRUPT (R226): A pending, enabled line is taken between instructions, lowest line first. -/
  | interrupt (k : Fin 13)
  /-- CLAUSE_WRITE (R230): Writes image bytes into a clause slot's staging bank. -/
  | clauseWrite (m : Fin 16) (slot off : Nat) (data : List (BitVec 8))
  /-- CLAUSE_COMMIT (R231): Checks the staging bank and swaps banks on success. -/
  | clauseCommit (m : Fin 16) (slot : Nat)
  /-- CLAUSE_BIND (R230): Binds up and down clauses to a target in SEQ_BIND. -/
  | clauseBind (m : Fin 16) (target flags up down : Nat)
  /-- CLAUSE_QUERY (R230): Returns a clause slot's owner, state, kind, digest and bindings. -/
  | clauseQuery (m : Fin 16) (slot : Nat)
  /-- CLAUSE_FREE (R231): Returns a clause slot to EMPTY unless it is bound or running. -/
  | clauseFree (m : Fin 16) (slot : Nat)
  /-- TDLD (R256): Loads a tensor descriptor from a record. -/
  | tdld (t : Fin 1024) (td : Fin 8) (a : Reg) (imm : BitVec 8)
  /-- TDST (R256): Stores a tensor descriptor as a record. -/
  | tdst (t : Fin 1024) (td : Fin 8) (a : Reg) (imm : BitVec 8)
  /-- TDRD (R256): Reads a descriptor field. -/
  | tdrd (t : Fin 1024) (d : Reg) (td : Fin 8) (imm : BitVec 8)
  /-- TDWR (R256): Writes a descriptor field. -/
  | tdwr (t : Fin 1024) (td : Fin 8) (imm : BitVec 8) (a : Reg)
  /-- TDADD (R256): Adds to a descriptor field. -/
  | tdadd (t : Fin 1024) (td : Fin 8) (imm : BitVec 8) (a : Reg)
  /-- TMMA (R256): Accumulates a matrix product into C. -/
  | tmma (t : Fin 1024) (c a b : Fin 8)
  /-- TMM (R256): Writes a matrix product into C. -/
  | tmm (t : Fin 1024) (c a b : Fin 8)
  /-- TEW_ADD (R256): Element-wise add. -/
  | tewAdd (t : Fin 1024) (c a b : Fin 8)
  /-- TEW_SUB (R256): Element-wise subtract. -/
  | tewSub (t : Fin 1024) (c a b : Fin 8)
  /-- TEW_MUL (R256): Element-wise multiply. -/
  | tewMul (t : Fin 1024) (c a b : Fin 8)
  /-- TEW_MAX (R256): Element-wise maximum. -/
  | tewMax (t : Fin 1024) (c a b : Fin 8)
  /-- TEW_MIN (R256): Element-wise minimum. -/
  | tewMin (t : Fin 1024) (c a b : Fin 8)
  /-- SCALE (R256): Multiplies by a register scalar. -/
  | scale (t : Fin 1024) (c a : Fin 8) (g : Reg)
  /-- RELU (R256): Rectifies A. -/
  | relu (t : Fin 1024) (c a : Fin 8)
  /-- CLAMP (R256): Clamps A between register bounds. -/
  | clamp (t : Fin 1024) (c a : Fin 8) (g : Reg)
  /-- SIGM (R257): Sigmoid of A. -/
  | sigm (t : Fin 1024) (c a : Fin 8)
  /-- TANH (R257): Hyperbolic tangent of A. -/
  | tanh (t : Fin 1024) (c a : Fin 8)
  /-- EXP (R257): Exponential of A. -/
  | exp (t : Fin 1024) (c a : Fin 8)
  /-- RECIP (R257): Reciprocal of A, saturating at 0. -/
  | recip (t : Fin 1024) (c a : Fin 8)
  /-- RSQRT (R257): Reciprocal square root of A. -/
  | rsqrt (t : Fin 1024) (c a : Fin 8)
  /-- GELU (R257): GELU of A. -/
  | gelu (t : Fin 1024) (c a : Fin 8)
  /-- SOFTPLUS (R257): Softplus of A. -/
  | softplus (t : Fin 1024) (c a : Fin 8)
  /-- LOG (R257): Logarithm of A, setting inval at or below 0. -/
  | log (t : Fin 1024) (c a : Fin 8)
  /-- RSUM (R256): Sum reduction along dimension 0. -/
  | rsum (t : Fin 1024) (c a : Fin 8)
  /-- RMAX (R256): Maximum reduction along dimension 0. -/
  | rmax (t : Fin 1024) (c a : Fin 8)
  /-- RMIN (R256): Minimum reduction along dimension 0. -/
  | rmin (t : Fin 1024) (c a : Fin 8)
  /-- TACC (R260): Adds A into C indivisibly per element. -/
  | tacc (t : Fin 1024) (c a : Fin 8)
  /-- TAMAX (R260): Takes the maximum into C indivisibly per element. -/
  | tamax (t : Fin 1024) (c a : Fin 8)
  /-- TCPY (R256): Copies A into C with format conversion. -/
  | tcpy (t : Fin 1024) (c a : Fin 8)
  /-- TZERO (R256): Zeroes C. -/
  | tzero (t : Fin 1024) (c : Fin 8)
  /-- TTRN (R256): Transposes dimensions 0 and 1. -/
  | ttrn (t : Fin 1024) (c a : Fin 8)
  /-- TWAIT (R258): Waits until the thread's earlier KT instructions are complete and visible. -/
  | twait (t : Fin 1024)
  /-- TEND (R256): Waits as TWAIT and ends the thread. -/
  | tend (t : Fin 1024)
  /-- TFLAGS (R256): Reads and clears the thread's flags. -/
  | tflags (t : Fin 1024) (d : Reg)
  /-- JOB_LAUNCH (R250): A write to CNJ_LAUNCH reads a job record and accepts or refuses the job. -/
  | jobLaunch (k : Fin 13) (v : BitVec 32)
  /-- JOB_START (R251): Enough contexts become free and a queued job's threads are placed and started. -/
  | jobStart
  /-- JOB_END (R254): A job's threads end, and its writes complete before its completion word is written. -/
  | jobEnd (j : Fin 64)
  /-- JOB_TIMEOUT (R253): limit_us passes and the job ends TIMEOUT. -/
  | jobTimeout (j : Fin 64)
  /-- JOB_ABORT (R253): A write to CNJ_ABORT by the launcher or the security core ends the job ABORTED. -/
  | jobAbort (k : Fin 13) (v : BitVec 32)
  /-- TILE_FAIL (R264): A tile fails a residue, register or 10 µs step check, its jobs fault, and a spare takes over or T falls. -/
  | tileFail (p : Fin 18) (reason : Nat)
  /-- PARTITION_ZERO (R266): A write of zero starts zeroing a model slot's tensor SRAM window, or is ignored while a job is busy. -/
  | partitionZero (k : Fin 13) (p : Fin 16) (v : BitVec 32)
  /-- ZERO_COMPLETE (R266): Zeroing of a partition's tensor window completes and the zero field reads 0. -/
  | zeroComplete (p : Fin 16)
  /-- QUALIFIER_TICK (R280): Every 1 µs, each channel output moves toward its target within its envelope and slew limits. -/
  | qualifierTick
  /-- QUA_TGT_WRITE (R283): Sets a channel target from the power or security core, and otherwise is refused and counted. -/
  | quaTgtWrite (k : Fin 13) (c : Fin 64) (v : BitVec 32)
  /-- MODEL_WRITE (R293): Writes image bytes into a model slot's staging area. -/
  | modelWrite (m : Fin 16) (slot off : Nat) (data : List (BitVec 8))
  /-- MODEL_COMMIT (R291): The security core verifies, allocates, zeroes and copies a model and sets valid. -/
  | modelCommit (m : Fin 16) (slot : Nat)
  /-- MODEL_ASSIGN (R293): Assigns a loaded model to a role, or returns the role to the built-in controller. -/
  | modelAssign (m : Fin 16) (slot role : Nat)
  /-- MODEL_QUERY (R293): Returns a model slot's or the roles' state. -/
  | modelQuery (m : Fin 16) (slot : Nat)
  /-- MODEL_FREE (R293): Releases the role, clears valid, zeroes the window and empties the slot. -/
  | modelFree (m : Fin 16) (slot : Nat)
  /-- MODEL_RUN (R293): Writes input and launches an advisory cadence-2 model. -/
  | modelRun (m : Fin 16) (slot : Nat) (data : List (BitVec 8))
  /-- MODEL_READ (R294): Returns an advisory model's last output block, denied in confidential mode. -/
  | modelRead (m : Fin 16) (slot : Nat)
  /-- MODEL_CFG (R293): Sets a role's fail_limit. -/
  | modelCfg (m : Fin 16) (role failLimit : Nat)
  /-- READ (R296): AGR_OBJ_CMD READ loads an object entry into this core's registers. -/
  | read (k : Fin 13)
  /-- REGISTER (R296): Registers a non-overlapping object with an owner, heirs and kind. -/
  | register (k : Fin 13)
  /-- UNREGISTER (R321): Removes an object, refused when it is poisoned or has waiters. -/
  | unregister (k : Fin 13)
  /-- CLAIM (R299): An heir or the designated core claims a poisoned object as its new owner. -/
  | claim (k : Fin 13)
  /-- SET_OWNER (R296): The owner or the security core changes a live object's owner. -/
  | setOwner (k : Fin 13)
  /-- LINE_CFG_WRITE (R302): An owner or security-core write to an idle or poisoned line reinitializes it, and other writes are misuse. -/
  | lineCfgWrite (k : Fin 13) (l : Fin 32) (v : BitVec 32)
  /-- LINE_FAIL (R307): A code violation or a stuck spacer fails a physical line, which is poisoned and replaced by a spare. -/
  | lineFail (l : Fin 32)
  /-- GROUP_COMMIT (R309): A write of AGR_GRP_GEN commits a group with a new generation, resetting its network barriers. -/
  | groupCommit (k : Fin 13) (g : Fin 256) (v : BitVec 32)
  /-- GROUP_JOIN (R324): Joins a group with a role, member identifier, generation, round and peers. -/
  | groupJoin (m : Fin 16) (group role member generation periodUs phaseUs children : Nat) (peers : List Peer)
  /-- GROUP_LEAVE (R324): Frees a group and poisons its network barriers. -/
  | groupLeave (m : Fin 16) (group generation : Nat)
  /-- GROUP_QUERY (R324): Returns a group entry and its maps. -/
  | groupQuery (m : Fin 16) (group : Nat)
  /-- OBJ_QUERY (R322): Returns one debugger entry for a core, object, line or group. -/
  | objQuery (m : Fin 16) (kind index : Nat)
  /-- DUMP_READ (R324): Reads, freezes, unfreezes or requests the Agreement dump. -/
  | dumpRead (m : Fin 16) (off length flags : Nat)
  /-- DUMP_REQUEST (R323): A write of AGR_DUMP_REQ.go triggers a dump. -/
  | dumpRequest (k : Fin 13) (v : BitVec 32)
  /-- DUMP_WRITE (R323): On an enabled trigger, a post-mortem dump is written to the window unless frozen. -/
  | dumpWrite (trigger : Fin 6) (core : Nat)
  /-- RELAY_ROUND (R311): At boundary + relay_us, a relay sends its upward ROUND with its children's maps. -/
  | relayRound (g : Fin 256)
  /-- ROUND_EXAMINE (R314): At boundary + collect_us, the root examines ROUND frames and resends COMMIT to members behind. -/
  | roundExamine (g : Fin 256)
  /-- ROUND (R311): An upward ROUND or a beacon is received and updates status maps, and relays forward the beacon. -/
  | round (port : Fin 8) (f : AgrFrame)
  /-- STAGED (R313): A STAGED frame updates the staged maps and can trigger COMMIT or an upward STAGED. -/
  | staged (port : Fin 8) (f : AgrFrame)
  /-- AGR_COMMIT (R313): A COMMIT frame is held for application at its named boundary and forwarded by relays. -/
  | agrCommit (port : Fin 8) (f : AgrFrame)
  /-- ARRIVE (R315): An ARRIVE marks a child arrived, leading to an upward ARRIVE or RELEASE. -/
  | arrive (port : Fin 8) (f : AgrFrame)
  /-- RELEASE (R315): A RELEASE completes the open round of a network barrier, or poisons it. -/
  | release (port : Fin 8) (f : AgrFrame)
  /-- STAGED_RETRY (R313): retry_us passes without COMMIT and STAGED is retransmitted, up to 8 times. -/
  | stagedRetry (g : Fin 256)
  /-- ARRIVE_RETRY (R316): retry_us passes without RELEASE and ARRIVE is retransmitted. -/
  | arriveRetry (l : Fin 32)
  /-- CHILD_LOST (R312): No ROUND from a child for lost_rounds boundaries, so it is marked lost and network barriers are poisoned. -/
  | childLost (g : Fin 256) (c : Fin 64)
  /-- ORPHANED (R312): No beacon for lost_rounds boundaries, so the device marks itself ORPHANED. -/
  | orphaned (g : Fin 256)
  /-- PORT_DOWN (R328): A port loses link or FEC lock for 50 µs, and its QPs migrate or enter error. -/
  | portDown (l : Fin 8)
  /-- PORT_UP (R328): A port has held link for 100 ms and comes up. -/
  | portUp (l : Fin 8)
  /-- CNP (R330): A received CNP halves the QP's sending rate, at most once per 50 µs. -/
  | cnp (qp : Nat)
  /-- RATE_RECOVERY (R330): 100 µs without a CNP raises a QP's rate by 1/16 of the line rate. -/
  | rateRecovery (qp : Nat)
  /-- MKA_SECURED (R331): A port's MKA reaches SECURED and traffic other than EAPOL may flow. -/
  | mkaSecured (l : Fin 8) (peer : Nat)
  /-- MKA_LOST (R331): A port loses SECURED and stops all other traffic, which is a port failure. -/
  | mkaLost (l : Fin 8) (reason : Nat)
  /-- PTP_MESSAGE (R333): A PTP message is handled by the scheduler core's PTP firmware and the power core's servo. -/
  | ptpMessage (l : Fin 8) (sent isEvent : Bool) (newState : Fin 4) (servo : Option (BitVec 32))
  /-- CM_REQ (R334): A connection request binding a mailbox or stream is authorized and granted windows, or refused. -/
  | cmReq (q : CmReq)
  /-- RDMA_WRITE (R334): A peer WRITE lands in its granted window, or draws a remote access error NAK. -/
  | rdmaWrite (qp rkey addr : Nat) (data : List (BitVec 8)) (ce : Bool)
  /-- RDMA_READ (R334): A peer READ of a granted window is served, or draws a remote access error NAK. -/
  | rdmaRead (qp rkey addr len : Nat) (ce : Bool)
  /-- WRITE_WITH_IMMEDIATE (R342): The last packet of a submission stores the immediate into the request word and sets pending, or overrun. -/
  | writeWithImmediate (qp rkey addr : Nat) (data : List (BitVec 8)) (imm : BitVec 32) (ce : Bool)
  /-- MAILBOX_SERVE (R343): The scheduler core takes a pending request in turn, authorizes and executes it, and writes seq last. -/
  | mailboxServe (own : Option OwnOrder)
  /-- MBX_DONE (R343): A write of done clears a mailbox's pending bit. -/
  | mbxDone (k : Fin 13) (m : Fin 16) (v : BitVec 32)
  /-- MBX_PUSH (R344): A write of push sends the response to the binding's buffer as one WRITE with immediate. -/
  | mbxPush (k : Fin 13) (m : Fin 16) (v : BitVec 32)
  /-- IDENTIFY (R346): Returns part number, revision, role, format version, serial and port modes. -/
  | identify (m : Fin 16)
  /-- PORT_QUERY (R346): Returns a logical port's status, MKA, PTP and counters. -/
  | portQuery (m : Fin 16) (port : Nat)
  /-- PORT_CFG (R346): Configures a logical port's enable, split, PHY and addresses. -/
  | portCfg (m : Fin 16) (port flags : Nat) (ipv4 : BitVec 32) (ipv6 : BitVec 128)
  /-- STREAM_CFG (R346): Configures a telemetry stream's mode, types, period and target. -/
  | streamCfg (m : Fin 16) (c : StreamReq)
  /-- STREAM_QUERY (R346): Returns a stream's configuration, owner and drop count. -/
  | streamQuery (m : Fin 16) (stream : Nat)
  /-- PTP_CFG (R346): Writes ETH_PTP_CFG and the per-port PTP enables. -/
  | ptpCfg (m : Fin 16) (cfg role : BitVec 32)
  /-- UP_CFG (R346): Writes ETH_UP_CFG. -/
  | upCfg (m : Fin 16) (cfg : BitVec 32)
  /-- RESET (R434): Requests a warm reset or sets or clears main_hold. -/
  | reset (m : Fin 16) (kind : Nat)
  /-- PLDM_PASSTHROUGH (R347): Carries a PLDM type 0 or 5 message and returns the controller's response and any pending request. -/
  | pldmPassthrough (m : Fin 16) (msg : List (BitVec 8))
  /-- UPDATE_COMPONENT (R408): A PLDM component is received and applied through the class 0x09 paths. -/
  | updateComponent (component size : Nat) (step : PldmStep)
  /-- ACTIVATE_FIRMWARE (R408): PLDM ActivateFirmware starts ACTIVATE of each applied component. -/
  | activateFirmware
  /-- STREAM_PERIOD (R349): Each stream period, records are built, budgeted, shed and written to the PULL ring or pushed. -/
  | streamPeriod (n : Fin 8) (brought : Brought)
  /-- ATTEST (R368): Queues a signed attestation report over the device state. -/
  | attest (m : Fin 16) (nonce : BitVec 256)
  /-- SIGNING_SERVE (R371): The security core signs the next queued report in arrival order. -/
  | signingServe
  /-- CERT_GET (R380): Returns certificate bytes. -/
  | certGet (m : Fin 16) (index off length : Nat)
  /-- CONF_SET (R376): Turns confidential mode on at once, or requests it off and sets conf_pending. -/
  | confSet (m : Fin 16) (on : Nat)
  /-- CONF_EXIT (R376): Every slot has passed a scrub or been NONE since the request, so confidential mode ends. -/
  | confExit
  /-- CTX_OPEN (R380): Opens a context with its tenant key digest. -/
  | ctxOpen (m : Fin 16) (slot ctx : Nat) (keyDigest : BitVec 256)
  /-- CTX_CLOSE (R375): Closes a context's sessions and zeroes its log. -/
  | ctxClose (m : Fin 16) (slot ctx : Nat)
  /-- CTX_ANNOUNCE (R380): Announces the incoming context of a slot. -/
  | ctxAnnounce (m : Fin 16) (slot ctx : Nat)
  /-- SESSION_OPEN (R373): Performs SM2 key exchange for a context and returns the device's half and a report. -/
  | sessionOpen (m : Fin 16) (slot ctx : Nat) (staticKey ephKey : BitVec 512) (nonce : BitVec 256)
  /-- SESSION_CONFIRM (R373): Verifies S_A and makes the session ACTIVE. -/
  | sessionConfirm (m : Fin 16) (session : Nat) (sA : BitVec 256)
  /-- SESSION_REQ (R374): Decrypts and serves one inner request of the session's context, refusing replays. -/
  | sessionReq (m : Fin 16) (session counter : Nat) (tag : BitVec 128) (cipher : List (BitVec 8))
  /-- SESSION_CLOSE (R380): Closes a session. -/
  | sessionClose (m : Fin 16) (session : Nat)
  /-- KEY_ENROLL (R380): Enrols or removes a model-signing key under the owner root signature. -/
  | keyEnroll (m : Fin 16) (slot : Nat) (key sig : BitVec 512)
  /-- CTX_LOG_READ (R375): Returns records of the session's context log. -/
  | ctxLogRead (m : Fin 16) (session fromSeq count : Nat)
  /-- DEBUG_CHALLENGE (R379): Returns a fresh 32-byte nonce valid for 60 s. -/
  | debugChallenge (m : Fin 16)
  /-- DEBUG_UNLOCK (R379): Unlocks or relocks debug scopes under an owner debug signature. -/
  | debugUnlock (m : Fin 16) (sig : BitVec 512) (scope : BitVec 8)
  /-- OWNER_PROVISION (R380): Fuses the owner key digests and advances the lifecycle to OWNED. -/
  | ownerProvision (m : Fin 16) (rootKey dbgKey : BitVec 512)
  /-- DECOMMISSION (R359): Blows the key-kill fuse and advances the lifecycle to DECOMMISSIONED. -/
  | decommission (m : Fin 16) (sig : BitVec 512)
  /-- NONCE_EXPIRY (R379): A debug nonce reaches 60 s and becomes invalid. -/
  | nonceExpiry
  /-- TRNG_FAIL (R358): A random-source health test fails and trng_fail is set. -/
  | trngFail (test : Nat)
  /-- SCRUB_STEP_DONE (R364): A core reports a handed-off scrub step complete through a tagged word. -/
  | scrubStepDone (n : Fin 8)
  /-- OWNED_ENTRY (R363): At a strobe where the scrub is done and the device reports the open announced context, the slot becomes OWNED. -/
  | ownedEntry (n : Fin 8)
  /-- IDCODE (R460): The TAP returns IDCODE. -/
  | idcode
  /-- BYPASS (R378): The TAP bypasses, also for locked scopes. -/
  | bypass
  /-- EXTEST (R378): Boundary-scan EXTEST drives pins only while unlocked and the gate request is off. -/
  | extest (drive : List (BitVec 8))
  /-- SAMPLE (R378): Boundary-scan SAMPLE captures pins when unlocked. -/
  | sample (capture : List (BitVec 8))
  /-- STAGE_WRITE (R409): Writes image bytes to a target's DDR5 staging area. -/
  | stageWrite (m : Fin 16) (target off : Nat) (data : List (BitVec 8))
  /-- STAGE_COMMIT (R409): Verifies a staged image, or starts a slot-flash update. -/
  | stageCommit (m : Fin 16) (target size : Nat)
  /-- ACTIVATE (R400): Queues activation of a staged or written image under the hold conditions. -/
  | activate (m : Fin 16) (target flags : Nat)
  /-- CONFIRM (R397): The manager confirms an image's health. -/
  | confirm (m : Fin 16) (target : Nat)
  /-- UPDATE_QUERY (R409): Returns update state, digests, records and progress. -/
  | updateQuery (m : Fin 16) (target : Nat)
  /-- CANCEL (R409): Drops a queued activation or forces fallback of a trial. -/
  | cancel (m : Fin 16) (target : Nat)
  /-- IMAGE_KEY_FUSE (R387): Fuses an owner image-signing key slot. -/
  | imageKeyFuse (m : Fin 16) (slot : Nat) (digest : BitVec 256) (sig : BitVec 512)
  /-- IMAGE_KEY_REVOKE (R387): Revokes an image-signing key slot. -/
  | imageKeyRevoke (m : Fin 16) (slot : Nat) (sig : BitVec 512)
  /-- ACTIVATION_RECHECK (R400): Every 1 ms a held activation is rechecked and starts once its holds clear. -/
  | activationRecheck
  /-- ACTIVATION_DROP (R400): An activation still held after queue_min is dropped with an event. -/
  | activationDrop
  /-- HEALTH_CONFIRM (R397): A write of BOOT_HEALTH.confirm from core 1 or 2 confirms the image's own health. -/
  | healthConfirm (k : Fin 13) (v : BitVec 32)
  /-- HEALTH_WINDOW_EXPIRY (R397): The health window expires unconfirmed, causing a HEALTH warm reset or a service fallback. -/
  | healthWindowExpiry
  /-- SLOT_FLASH_DONE (R407): Programming ends with a read-back, recording the firmware identifier or FAILED. -/
  | slotFlashDone (n : Fin 8) (result : Fin 6)
  /-- CORE_RESET (R416): A core is reset by halt handling, watchdog or RST_CORE_CMD, poisoning what it owns. -/
  | coreReset (k : Fin 13)
  /-- RST_CORE_CMD (R416): A security-core write resets a named core. -/
  | rstCoreCmd (by_ : Fin 13) (v : BitVec 32)
  /-- WATCHDOG_KICK (R418): Core k writes RST_WDOG(k) and its watchdog interval restarts. -/
  | watchdogKick (by_ : Fin 13) (k : Fin 13) (v : BitVec 32)
  /-- WATCHDOG_EXPIRY (R418): A core's watchdog expires and the core is reset. -/
  | watchdogExpiry (k : Fin 13)
  /-- CRASH_CHECK (R419): Every 1 ms the security core checks core states and restarts or spares crashed cores. -/
  | crashCheck
  /-- SELF_TEST_DONE (R421): A reset core's ROM self-test ends, making it a spare or retiring it, or causing a CRASH warm reset. -/
  | selfTestDone (k : Fin 13) (pass : Bool)
  /-- ABORT_RELEASE (R434): Releases the ABORT lines of named slots that are not FAULT. -/
  | abortRelease (m : Fin 16) (mask : Nat)
  /-- SRAM_ERROR (R424): An uncorrectable or repeated corrected SRAM error queues the row for repair. -/
  | sramError (e : SramErr)
  /-- WAKE (R414): A tray ON, main_hold or DDR5-needing command drives MAIN_EN on and enters WAKING. -/
  | wake (t : WakeTrigger)
  /-- MAIN_PG_GOOD (R413): MAIN_PG has been good for 1 ms and DDR5 trains, so the state becomes ACTIVE. -/
  | mainPgGood (train : List (Nat × Nat))
  /-- MAIN_SUPPLY_TIMEOUT (R414): MAIN_PG is not good within 100 ms, so MAIN_EN goes off and the state returns to STANDBY. -/
  | mainSupplyTimeout
  /-- MAIN_PG_LOSS (R443): MAIN_PG falls in ACTIVE, so MAIN_EN goes off and the controller enters STANDBY. -/
  | mainPgLoss
  /-- WAKE_RETRY (R443): 1 s after a main-supply loss, the controller retries through WAKING. -/
  | wakeRetry
  /-- STANDBY_ENTRY (R415): The STANDBY conditions hold for stby_delay_s, so main power is dropped with its losses. -/
  | standbyEntry
  /-- THERMAL_SHED_EXIT (R448): Logic-die sensors have been below CRIT less hyst for 10 s and wake triggers are honoured again. -/
  | thermalShedExit
  /-- AVS_SETPOINT (R443): The VDD_MAIN setpoint is sent over AVSBus when MAIN_EN turns on or SLT_AVS.mv is written. -/
  | avsSetpoint (ack : Bool)
  /-- EVENT_ADMIT (R431): A record is filtered, admitted under the token bucket, queued if critical, or shed. -/
  | eventAdmit (src : Nat) (code : Nat) (sev : Nat) (hw : Bool) (payload : List Nat)
  /-- INVENTORY_READ (R432): On link UP, the slot core reads the identity block and module SPD and updates the inventory. -/
  | inventoryRead (n : Fin 8) (id : IdRead)
  /-- INVENTORY_COMMIT (R433): Every 10 min and at each eFuse turn-off, the inventory ON minutes are committed to flash. -/
  | inventoryCommit
  /-- INV_QUERY (R435): Returns device, slot or module inventory. -/
  | invQuery (m : Fin 16) (section_ : Nat)
  /-- RECORDS_READ (R435): Returns event records checked under R430. -/
  | recordsRead (m : Fin 16) (fromSeq count : Nat)
  /-- REPAIR_QUERY (R435): Returns the repair record and the spares left. -/
  | repairQuery (m : Fin 16)
  /-- HOURS_READ (R435): Returns one inventory entry. -/
  | hoursRead (m : Fin 16) (index : Nat)
  /-- PUMP_RECOVER (R148): A failed pump recovers when its PUMPp_FLT_N returns high or its tachometer returns to min_rpm, and its overrides can be released. -/
  | pumpRecover (p : Fin 4) (period : Nat)
  /-- QP_DISCONNECT (R345): The QP bound to a mailbox disconnects or enters the error state, so a push is dropped and the mailbox becomes unbound. -/
  | qpDisconnect (qp : Nat)
  /-- READY_HOLD_TIMEOUT (R120): The converter has held READY for hold_max_us without a detected release and returns to CHARGE or IDLE. -/
  | readyHoldTimeout
  /-- IMAGE_SLOT_WRITTEN (R398): Erasing, programming and read-back of the resident-image slot complete, and the slot's record becomes WRITTEN. -/
  | imageSlotWritten (ok : Bool)
  /-- SAK_REKEY (R331): At the rekey interval of ETH_MKA_CFG.rekey_h, or near XPN exhaustion, a new SAK is distributed and replaces the old one between frames. -/
  | sakRekey (l : Fin 8)
deriving DecidableEq, Repr

end Sys2Proof
end

