-- ==== Sys2Proof/Decode.lean ====
section
/-!
DEFINITION. The command a table word spells.  The table of operations and events gives no row an encoding of its own in
bits: a command is an event or a message, and what it carries comes as operands.
-/
namespace Sys2Proof

/-- No row of the table has bits, so no word spells a command. -/
def decodeTableWord (_nbits _w : Nat) : Option Instr := none

end Sys2Proof
end

