-- ==== Sys2Proof/Config.lean ====
section
/-!
DEFINITION. What an implementation fixes and the values the manual leaves open.  A constant without a body is a free
value: nothing can be proved of which value it has.
-/
namespace Sys2Proof

/-- The free values, one for each drawing: State.free counts the drawings (log entry 1). -/
opaque Config.freeWord : Nat → BitVec 64

/-- The boot ROMs' bytes, by offset from address 0 (log entry 2). -/
opaque Config.romByte : Nat → BitVec 8

/-- Byte i (0 to 15) of the payload of an event record with the listed items; the manual gives the items' order but not
their widths (R429; log entry 3). -/
opaque Config.evPayloadByte : List Nat → Nat → BitVec 8

/-- How many payload bytes the response to a command of a class has where the manual lists what it carries but not its
layout (log entry 8). -/
opaque Config.respLen : Nat → Nat → Nat

/-- Byte i of the payload of such a response, from the listed values it carries (log entry 8). -/
opaque Config.respByte : Nat → Nat → List Nat → Nat → BitVec 8

/-- SM3 of a byte string, its 32 bytes read as a little-endian number; the manual cites the standard (R357; log entry 9). -/
opaque Config.sm3 : List (BitVec 8) → Nat

/-- SM2 verification of a signature over a message by a public key with a user identifier (R357; log entry 9). -/
opaque Config.sm2Verify : (key : Nat) → (uid msg : List (BitVec 8)) → (sig : Nat) → Bool

/-- The SM2 signature by a private key over a message, under a user identifier (R357; log entry 9). -/
opaque Config.sm2Sign : (key : Nat) → (uid msg : List (BitVec 8)) → Nat

/-- The device's half of SM2 key exchange (R373; log entry 9): the public key of a fresh ephemeral secret, the 20 bytes of
key and salt that the device's static key and secret and the peer's keys yield, S_B, and whether S_A verifies. -/
opaque Config.kexPublic : (secret : Nat) → Nat
opaque Config.kexKey : (identity secret static ephemeral : Nat) → Nat
opaque Config.kexConfirm : (key ephemeral own : Nat) → Nat
opaque Config.kexAccepts : (key ephemeral own sA : Nat) → Bool

/-- SM4-GCM under a session's key and salt: the tag of ciphertext, and deciphering and enciphering (R374; log entry 9). -/
opaque Config.gcmTag : (key counter : Nat) → (aad cipher : List (BitVec 8)) → Nat
opaque Config.gcmOpen : (key counter : Nat) → List (BitVec 8) → List (BitVec 8)
opaque Config.gcmSeal : (key counter : Nat) → List (BitVec 8) → List (BitVec 8)

/-- The bytes of the device certificates (R371; log entry 9). -/
opaque Config.certByte : (index off : Nat) → BitVec 8
opaque Config.certLen : Nat → Nat

/-- What the manual leaves open of a temperature in 1/16 degC: how the result of an NTC's or a ring oscillator's formula is
rounded, which the model holds to its two neighbours, and the correction of a remote diode's forward voltages (R131 to
R133; log entry 18). -/
opaque Config.ntcTemp : (beta ratio code : Nat) → Int
opaque Config.diodeTemp : (eta code : Nat) → Int
opaque Config.ringTemp : (coefs : List Int) → (ratio : Nat) → Int

/-- The power in W of a slot's current monitor and the tray voltage, both in mV, before the gain trim: the manual does not
state the monitor's scale (R96; log entry 18). -/
opaque Config.fastWatts : (monitor vbus : Nat) → Nat

/-- The VOUT_COMMAND in mV that the regulator of a domain holds before the controller has written one (R113; log entry 18).
-/
opaque Config.voutDefault : (dom : Nat) → Nat

/-- The value from which on the model takes the rkey of the n-th window granted, the first that no connection has had
(R334): the manual does not state it (log entry 9). -/
opaque Config.rkey : Nat → Nat

/-- Itsal's mask-ROM version and digest, and the digest of the calibration constants (R193; log entry 9). -/
opaque Config.itsRomVersion : Nat
opaque Config.itsRomDigest : Nat
opaque Config.itsConstsDigest : List Int → Nat

/-- What the attribution model's outputs say of a slot: the weight with which a register, or with 33 the unassigned
remainder, shares the overhead energy, and the boundary energy of a register in mJ.  The manual gives the outputs no layout
(R277, R278; log entry 23). -/
opaque Config.attribWeight : (out : List (BitVec 32)) → (slot register : Nat) → Nat
opaque Config.attribBoundary : (out : List (BitVec 32)) → (slot register : Nat) → Int

/-- The service image's own jobs (0 tick, 1 thermal, 2 attribution), by the image's digest: the fields of their records and
the addresses of their blocks, and how many words the attribution model returns. They are the image's affair (R268, R277;
log entry 88). -/
opaque Config.svcJob : (image job field : Nat) → Nat
opaque Config.attribWords : Nat

/-- Where the security core places a window of a partition, of a kind (0 tensor SRAM, 1 DDR5, 2 shared SRAM) and a size,
given the windows in use: the manual gives no rule (R291; log entry 24). -/
opaque Config.windowBase : (kind size : Nat) → (used : List (Nat × Nat)) → Nat

/-- The offset from its PTP master that a logical port has measured by a tick, in ns as 64 bits: no command carries it
(R333, log entry 1). -/
opaque Config.ptpOffset : (port tick : Nat) → Nat

/-- How far a port's copy of domain time lies off Tense at a tick, in ns, which the model bounds at 4 ns (R58; log entry
25). -/
opaque Config.portSkew : (port tick : Nat) → Int

/-- How many bytes the receive FIFO of a priority of a port holds (R50), which the manual does not state (log entry 25). -/
opaque Config.fifoBytes : Nat

/-- How many children a child of a group has, 0 for a leaf: a coordinator knows who is a relay and whom it has below it
(R313, R353), but the peer table does not carry it (log entry 26). -/
opaque Config.childKids : (group child : Nat) → Nat

/-- Puenar's key, by which a debug token is checked in PROVISIONED (R359; log entry 9). -/
opaque Config.puenarKey : Nat

/-- Puenar's manufacturer identity in IDCODE, 11 bits (R460; log entry 9). -/
opaque Config.manufacturer : Nat

/-- The random source (R356, R379; log entry 9). -/
opaque Config.random : Nat → Nat

/-- A binary32 infinity or NaN read as a KT operand, in units of 2^-149: the manual gives rules for binary16 alone (R241;
log entry 28). -/
opaque Config.special32 : (bits : Nat) → Int

/-- The result of a TACT function, in units of 2^-149, for the bits of its binary32 operand: the manual bounds it and does
not give it, and the model holds it to the bound (R257; log entry 28). -/
opaque Config.tact : (fn bits : Nat) → Int

/-- The sum of three or more elements, in units of 2^-149, for their bits as binary32, where it depends on the order in
which RSUM adds: the manual gives none, and the model bounds it (R256; log entry 28). -/
opaque Config.rsum : (bits : List Nat) → Int

/-- The sign of the zero that a maximum or minimum of two zeros of different sign gives (R256; log entry 28). -/
opaque Config.zeroSign : (isMax aNeg : Bool) → Bool

/-- Whether an access of a thread outside tensor SRAM comes after an earlier KT write of its own that it has not waited for,
by the write's address and the thread's count of instructions: the two are not ordered (R258; log entry 89). -/
opaque Config.ktFirst : (thread addr retired : Nat) → Bool

/-- The power of a child over the last second, in W, at a draw, where no summary of that second has come (R353; log entry
1). -/
opaque Config.childWatts : (draw child : Nat) → Nat

end Sys2Proof
end

