-- ==== Sys2Proof/Machine/Bits.lean ====
section
/-!
DEFINITION. Bit fields of 32-bit registers, saturating counts, signed readings and byte order.
Fields are numbered as the manual numbers them: [hi:lo] with bit 0 least significant.
-/
namespace Sys2Proof.Machine

/-- How many values a field [hi:lo] can hold. -/
def fldSize (hi lo : Nat) : Nat := 2 ^ (hi + 1 - lo)

/-- The value of field [hi:lo] of a register. -/
def fldOf (v : W32) (hi lo : Nat) : Nat := v.toNat / 2 ^ lo % fldSize hi lo

/-- The register with field [hi:lo] replaced by the low bits of x. -/
def fldPut (v : W32) (hi lo x : Nat) : W32 :=
  BitVec.ofNat 32 (v.toNat % 2 ^ lo + x % fldSize hi lo * 2 ^ lo + v.toNat / 2 ^ (hi + 1) * 2 ^ (hi + 1))

/-- Bit i of a number. -/
def bitOf (v i : Nat) : Bool := v / 2 ^ i % 2 == 1

/-- The number with bit i set. -/
def setBit (v i : Nat) : Nat := if bitOf v i then v else v + 2 ^ i

/-- Setting a bit clears no other. -/
theorem bitOf_setBit (v i j : Nat) (h : bitOf v j = true) : bitOf (setBit v i) j = true := by
  unfold setBit
  split
  · exact h
  · rename_i hi
    simp only [bitOf, beq_iff_eq] at h hi ⊢
    have hij : i ≠ j := fun e => hi (e ▸ h)
    rcases Nat.lt_or_gt_of_ne hij with hl | hl
    · obtain ⟨d, rfl⟩ := Nat.exists_eq_add_of_lt hl
      have e : 2 ^ (i + d + 1) = 2 ^ i * 2 * 2 ^ d := by rw [Nat.pow_add, Nat.pow_succ, Nat.pow_add]; grind
      have hp : 0 < 2 ^ i := Nat.two_pow_pos i
      have q : (v + 2 ^ i) / 2 ^ i = v / 2 ^ i + 1 := Nat.add_div_right v hp
      have w : v / 2 ^ i / 2 = (v / 2 ^ i + 1) / 2 := by omega
      rw [e, ← Nat.div_div_eq_div_mul, ← Nat.div_div_eq_div_mul] at h ⊢
      rw [q, ← w]
      exact h
    · obtain ⟨d, rfl⟩ := Nat.exists_eq_add_of_lt hl
      have e : 2 ^ (j + d + 1) = 2 * 2 ^ d * 2 ^ j := by rw [Nat.pow_succ, Nat.pow_add]; grind
      rw [e, Nat.add_mul_div_right _ _ (Nat.two_pow_pos j)]
      omega

/-- The number with bit i clear. -/
def clrBit (v i : Nat) : Nat := if bitOf v i then v - 2 ^ i else v

/-- The number with bit i set to b. -/
def putBit (v i : Nat) (b : Bool) : Nat := if b then setBit v i else clrBit v i

/-- 1 for true, 0 for false. -/
def b2n (b : Bool) : Nat := if b then 1 else 0

/-- How many of the low n bits of v are set. -/
def popBits (v : Nat) : Nat → Nat
  | 0 => 0
  | n + 1 => popBits v n + b2n (bitOf v n)

/-- The lowest set bit below n, if there is one. -/
def lowestBit (v n : Nat) : Option Nat := (List.range n).find? (bitOf v)

/-- The indices below n whose bit is set. -/
def bitsOf (v n : Nat) : List Nat := (List.range n).filter (bitOf v)

/-- The mask with the listed bits set. -/
def maskOf (l : List Nat) : Nat := l.foldl setBit 0

/-- The signed reading of the low w bits of v. -/
def signed (w v : Nat) : Int :=
  if v % 2 ^ w < 2 ^ (w - 1) then ((v % 2 ^ w : Nat) : Int) else ((v % 2 ^ w : Nat) : Int) - (2 ^ w : Nat)

/-- The two's complement coding of i in w bits. -/
def unsignedOf (w : Nat) (i : Int) : Nat := (i % ((2 ^ w : Nat) : Int)).toNat

/-- i clamped to the signed range of w bits. -/
def satSigned (w : Nat) (i : Int) : Int :=
  max (-((2 ^ (w - 1) : Nat) : Int)) (min i (((2 ^ (w - 1) : Nat) : Int) - 1))

/-- Insert by key, before the entries of a greater key. -/
def insertBy {α : Type} (key : α → Nat) (x : α) : List α → List α
  | [] => [x]
  | y :: r => if key x < key y then x :: y :: r else y :: insertBy key x r

/-- The list in ascending order of a key; entries of one key keep their order. -/
def sortBy {α : Type} (key : α → Nat) (l : List α) : List α := l.foldl (fun r x => insertBy key x r) []

/-- The integer square root of a number below 4^n. -/
def isqrt (n v : Nat) : Nat :=
  (List.range n).foldl (fun r i => let t := r + 2 ^ (n - 1 - i); if t * t ≤ v then t else r) 0

/-- Round a quotient up. -/
def ceilDiv (a b : Nat) : Nat := if b = 0 then 0 else (a + b - 1) / b

/-- The little-endian bytes of a number, n of them. -/
def leBytes : Nat → Nat → List Byte
  | 0, _ => []
  | n + 1, v => BitVec.ofNat 8 v :: leBytes n (v / 256)

/-- The number that bytes spell, the first least significant. -/
def leNat : List Byte → Nat
  | [] => 0
  | b :: r => b.toNat + 256 * leNat r

/-- The big-endian bytes of a number, n of them, and the number that big-endian bytes spell. -/
def beBytes (n v : Nat) : List Byte := (leBytes n v).reverse
def beNat (l : List Byte) : Nat := leNat l.reverse

/-- n bytes at offset o of a list, zero bytes beyond its end. -/
def slice (l : List Byte) (o n : Nat) : List Byte :=
  ((l.drop o).take n) ++ List.replicate (n - ((l.drop o).take n).length) 0#8

/-- The number at bytes o to o + n - 1 of a list, little-endian. -/
def leAt (l : List Byte) (o n : Nat) : Nat := leNat (slice l o n)

/-- The list with its bytes from offset o on replaced by d. -/
def spliceBytes (l : List Byte) (o : Nat) (d : List Byte) : List Byte :=
  slice l 0 o ++ d ++ l.drop (o + d.length)

/-- One step of a CRC register of w bits with the given polynomial, taking one bit first-bit-high. -/
def crcBit (w poly reg : Nat) (b : Bool) : Nat :=
  let top := bitOf reg (w - 1) != b
  let sh := reg * 2 % 2 ^ w
  if top then sh ^^^ poly else sh

/-- CRC over one byte, its most significant bit first. -/
def crcByte (w poly reg : Nat) (v : Byte) : Nat :=
  [7, 6, 5, 4, 3, 2, 1, 0].foldl (fun r i => crcBit w poly r (bitOf v.toNat i)) reg

/-- The frame CRC of R88: polynomial 0x1021, initial value 0xFFFF, no reflection and no final inversion,
over the bytes in byte order. -/
def crc16 (l : List Byte) : Nat := l.foldl (crcByte 16 0x1021) 0xFFFF

/-- One step of the reflected CRC-32C register. -/
def crc32cByte (reg : Nat) (v : Byte) : Nat :=
  (List.range 8).foldl (fun r i => if bitOf r 0 != bitOf v.toNat i then (r / 2) ^^^ 0x82F63B78 else r / 2) reg

/-- CRC-32C over bytes.  PRESUMED: the manual names CRC-32C without its polynomial; this is the Castagnoli
polynomial, reflected, with initial value and final inversion of all ones (log entry 12). -/
def crc32c (l : List Byte) : Nat := (l.foldl crc32cByte 0xFFFFFFFF) ^^^ 0xFFFFFFFF

end Sys2Proof.Machine
end

