-- ==== Sys2Proof/Machine/Approx.lean ====
section
/-!
DEFINITION. Fixed-point values of the functions that the manual names without a formula, close enough to keep its bounds: the
logarithm of R133, and the exponential, the logarithm and the normal distribution of R256 and R257.
-/
namespace Sys2Proof.Machine

/-- The inverse hyperbolic tangent of z, both in 2^-48, by its series, for z up to 1/3. -/
def atanhFix (z : Nat) : Nat :=
  ((List.range 20).foldl (fun (p : Nat × Nat) j => (p.1 + p.2 / (2 * j + 1), p.2 * z / 2 ^ 48 * z / 2 ^ 48)) (0, z)).1

/-- The natural logarithm of 2 in 2^-48. -/
def ln2Fix : Nat := 2 * atanhFix (2 ^ 48 / 3)

/-- The natural logarithm of n / d in 2^-48, to within 2^12 of it. -/
def lnFix (n d : Nat) : Int :=
  let up := n.log2 - d.log2
  let dn := d.log2 - n.log2
  let m := n * 2 ^ dn * 2 ^ 48 / (d * 2 ^ up)
  let e : Int := ((up : Int) - (dn : Int)) * (ln2Fix : Int)
  if 2 ^ 48 ≤ m then e + ((2 * atanhFix ((m - 2 ^ 48) * 2 ^ 48 / (m + 2 ^ 48)) : Nat) : Int)
  else e - ((2 * atanhFix ((2 ^ 48 - m) * 2 ^ 48 / (m + 2 ^ 48)) : Nat) : Int)

/-- e to the power r, both in 2^-48, by its series, for r from 0 to the logarithm of 2. -/
def expSmall (r : Nat) : Nat :=
  ((List.range 20).foldl (fun (p : Nat × Nat) j => (p.1 + p.2, p.2 * r / 2 ^ 48 / (j + 1))) (0, 2 ^ 48)).1

/-- e to the power x as a whole number of units of 2^-u, for x in 2^-48 from -128 to 128 and u from 48 on. -/
def expFix (u : Nat) (x : Int) : Nat :=
  let k := x / (ln2Fix : Int)
  let m := expSmall (x - k * (ln2Fix : Int)).toNat * 2 ^ (u - 48)
  if 0 ≤ k then m * 2 ^ k.toNat else m / 2 ^ (-k).toNat

/-- The part of the standard normal distribution between 0 and x, both in 2^-48, for x up to 8: its density times the series
x + x^3 / 3 + x^5 / 15 + … -/
def normalFix (x : Nat) : Nat :=
  let series := ((List.range 120).foldl
    (fun (p : Nat × Nat) j => (p.1 + p.2, p.2 * x / 2 ^ 48 * x / 2 ^ 48 / (2 * j + 3))) (0, x)).1
  expFix 96 (-((x * x / 2 ^ 49 : Nat) : Int)) * series / 2 ^ 96 * 112292269084889 / 2 ^ 48

end Sys2Proof.Machine
end

