-- ==== Sys2Proof/Machine/Fp.lean ====
section
/-!
DEFINITION. The arithmetic of KT (R239 to R242, R257): finite numbers with a sign, exact sums and products, rounding to
binary32 and binary16, and the block formats.
-/
namespace Sys2Proof.Machine

/-- A finite number: (-1)^neg × m × 2^e. -/
structure Fp where
  neg : Bool
  m : Nat
  e : Int
deriving DecidableEq, Repr

/-- Zero. -/
def Fp.zero : Fp := ⟨false, 0, 0⟩

/-- An integer times 2^e. -/
def Fp.ofInt (i e : Int) : Fp := ⟨i < 0, i.natAbs, e⟩

/-- 2 to a power that is not negative. -/
def pow2 (e : Int) : Nat := 2 ^ e.toNat

/-- The number in units of 2^e, where e is at most its own exponent. -/
def Fp.units (x : Fp) (e : Int) : Int :=
  let v : Int := (x.m * pow2 (x.e - e) : Nat)
  if x.neg then -v else v

/-- The exact sum; a sum of zero has the sign that rounding to nearest gives it. -/
def Fp.add (x y : Fp) : Fp :=
  let e := min x.e y.e
  let v := x.units e + y.units e
  if v = 0 then ⟨x.neg && y.neg && x.m = 0 && y.m = 0, 0, 0⟩ else Fp.ofInt v e

def Fp.opposite (x : Fp) : Fp := { x with neg := !x.neg }

/-- The exact product. -/
def Fp.mul (x y : Fp) : Fp := ⟨x.neg != y.neg, x.m * y.m, x.e + y.e⟩

/-- x < y. -/
def Fp.lt (x y : Fp) : Bool :=
  let e := min x.e y.e
  x.units e < y.units e

/-- The larger or the smaller; of two zeros of different sign the sign is free. -/
def Fp.pick (x : Fp) (isMax : Bool) (y : Fp) : Fp :=
  if x.m = 0 && y.m = 0 then (if x.neg = y.neg then x else ⟨Config.zeroSign isMax x.neg, 0, 0⟩)
  else if x.lt y then (if isMax then y else x) else (if isMax then x else y)

/-- The larger of two for TAMAX, whose result does not depend on the order of arrival (R260): of two zeros of different sign
the sign is free, but always the same. -/
def Fp.amax (x y : Fp) : Fp :=
  if x.m = 0 && y.m = 0 && x.neg != y.neg then ⟨Config.zeroSign true true, 0, 0⟩ else x.pick true y

/-- n / 2^sh to nearest, ties to even. -/
def rne (n sh : Nat) : Nat :=
  let q := n / 2 ^ sh
  let r := n % 2 ^ sh
  if sh = 0 then n
  else if 2 ^ (sh - 1) < r || (r = 2 ^ (sh - 1) && q % 2 = 1) then q + 1 else q

/-- A binary format: precision, the exponent of its least unit, and the largest unit. -/
structure FpFormat where
  p : Nat
  emin : Int
  emax : Int

def fp32 : FpFormat := ⟨24, -149, 104⟩
def fp16 : FpFormat := ⟨11, -24, 5⟩

/-- The largest finite number of a format. -/
def FpFormat.largest (f : FpFormat) (neg : Bool) : Fp := ⟨neg, 2 ^ f.p - 1, f.emax⟩

/-- Whether the magnitude of a number exceeds the largest finite one of a format. -/
def Fp.exceeds (f : FpFormat) (x : Fp) : Bool := (f.largest false).lt { x with neg := false }

/-- Round to a format (R241): nearest, ties to even; a magnitude beyond the largest finite value becomes that value and sets
the sat flag, also where it would round to it. -/
def Fp.round (f : FpFormat) (x : Fp) : Fp × Bool :=
  if x.m = 0 then (x, false)
  else
    let t := max (x.e + (Nat.log2 x.m + 1 : Nat) - (f.p : Nat)) f.emin
    let q := if t ≤ x.e then x.m * pow2 (x.e - t) else rne x.m (t - x.e).toNat
    let top := 2 ^ f.p
    let (q, t) := if q = top then (q / 2, t + 1) else (q, t)
    if x.exceeds f then (f.largest x.neg, true) else (⟨x.neg, q, t⟩, false)

/-- The bits of a rounded number. -/
def Fp.bits (f : FpFormat) (w : Nat) (x : Fp) : Nat :=
  let hid := 2 ^ (f.p - 1)
  let body := if x.m = 0 then 0 else if x.m < hid then x.m else (x.e - f.emin + 1).toNat * hid + x.m % hid
  body + (if x.neg then 2 ^ (w - 1) else 0)

/-- The number that bits below the special exponent hold. -/
def fpOfBits (f : FpFormat) (w : Nat) (v : Nat) : Fp :=
  let hid := 2 ^ (f.p - 1)
  let frac := v % hid
  let ex := v / hid % (2 ^ w / (2 * hid))
  ⟨bitOf v (w - 1), if ex = 0 then frac else hid + frac, if ex = 0 then f.emin else f.emin + ex - 1⟩

/-- Read a binary32: an infinity or NaN is a free value, which the manual's rules for operands do not name. -/
def fpRead32 (v : Nat) : Fp := if v / 2 ^ 23 % 256 = 255 then Fp.ofInt (Config.special32 v) (-149) else fpOfBits fp32 32 v

/-- Read a binary16: an infinity as ±65,504 and a NaN as 0, either with the inval flag. -/
def fpRead16 (v : Nat) : Fp × Bool :=
  if v / 2 ^ 10 % 32 = 31 then
    (if v % 2 ^ 10 = 0 then (⟨bitOf v 15, 2047, 5⟩, true) else (Fp.zero, true))
  else (fpOfBits fp16 16 v, false)

/-! ## Values with flags -/

/-- A value and the flags its making has set. -/
structure KtV where
  v : Fp
  sat : Bool
  inval : Bool
  oob : Bool

/-- A value without flags. -/
def KtV.pure (v : Fp) : KtV := ⟨v, false, false, false⟩

/-- Round a value to binary32. -/
def KtV.r32 (x : KtV) : KtV :=
  let r := x.v.round fp32
  { x with v := r.1, sat := x.sat || r.2 }

/-- A value computed from two, rounded to binary32, with the flags of both. -/
def KtV.map2 (f : Fp → Fp → Fp) (x y : KtV) : KtV :=
  KtV.r32 ⟨f x.v y.v, x.sat || y.sat, x.inval || y.inval, x.oob || y.oob⟩

/-- A value computed from one, rounded to binary32. -/
def KtV.map1 (f : Fp → Fp) (x : KtV) : KtV := KtV.r32 { x with v := f x.v }

/-- Values of a list added in order. -/
def KtV.sum : List KtV → KtV
  | [] => KtV.pure Fp.zero
  | x :: r => r.foldl (KtV.map2 Fp.add) x.r32

/-! ## Block formats (R239, R240, R242) -/

/-- A value divided by 2^(E - 127), rounded to nearest even. -/
def kbMant (x : Fp) (ex : Nat) : Int :=
  let sh := x.e - ((ex : Int) - 127)
  let n : Int := ((if 0 ≤ sh then x.m * pow2 sh else rne x.m (-sh).toNat : Nat) : Int)
  if x.neg then -n else n

/-- The exponent and mantissas of a block, and whether they saturate; half is 8 for KB4 and 128 for KB8. -/
def kbBlock (half : Nat) (l : List Fp) : Nat × List Int × Bool :=
  let fits (ex : Nat) : Bool := l.all fun x => decide (-(half : Int) ≤ kbMant x ex) && decide (kbMant x ex < (half : Int))
  match (List.range 255).find? fits with
  | some ex => (ex, l.map fun x => kbMant x ex, false)
  | none => (254, l.map fun x => max (-(half : Int)) (min ((half : Int) - 1) (kbMant x 254)), true)

/-! ## Activation functions (R256, R257) -/

/-- A free value kept within the bound of R257 about the true one, all in units of 2^-149; the bound is widened by 1 part in
4,096 for the rounding of the fixed-point value given for the true one (log entry 28). -/
def within (exact free : Int) : Int :=
  let tol := max (exact.natAbs / 2 ^ 11) (2 ^ 129)
  let wide : Int := ((tol + tol / 2 ^ 12 : Nat) : Int)
  max (exact - wide) (min (exact + wide) free)

/-- The largest finite binary32. -/
def fpMax (neg : Bool) : Fp := fp32.largest neg

/-- A number in whole units of 2^-48. -/
def Fp.fix48 (x : Fp) : Int :=
  let m : Int := ((if -48 ≤ x.e then x.m * pow2 (x.e + 48) else x.m / pow2 (-48 - x.e) : Nat) : Int)
  if x.neg then -m else m

/-- 1 in units of 2^-149. -/
def fpOne : Nat := 2 ^ 149

/-- e to the power of a negative number of units of 2^-48, in units of 2^-149; 0 below e^-120. -/
def expDown (x : Nat) : Nat := if 120 * 2 ^ 48 ≤ x then 0 else expFix 149 (-(x : Int))

/-- The true value of an activation function that is not a quotient or a root, in units of 2^-149 (R256): GELU is taken as
the product of x and the standard normal distribution at x (PRESUMED, log entry 28). -/
def tactTrue (fn : Nat) (v : Fp) : Int :=
  let x := v.fix48
  let a := x.natAbs
  let sg (i : Nat) : Int := if v.neg then -(i : Int) else (i : Int)
  match fn with
  | 0 =>
    let e := expDown a
    (((if v.neg then e else fpOne) * fpOne / (fpOne + e) : Nat) : Int)
  | 1 =>
    let e := expDown (2 * a)
    sg ((fpOne - e) * fpOne / (fpOne + e))
  | 2 => if 89 * 2 ^ 48 ≤ x then ((2 ^ 278 : Nat) : Int) else if x < -(120 * 2 ^ 48) then 0 else (expFix 149 x : Int)
  | 5 =>
    if 8 * 2 ^ 48 ≤ a then (if v.neg then 0 else v.units (-149))
    else v.units (-149) * (2 ^ 47 + sg (normalFix a)) / 2 ^ 48
  | 6 =>
    if 40 * 2 ^ 48 ≤ a then (if v.neg then 0 else v.units (-149))
    else lnFix (fpOne + expFix 149 x) fpOne * 2 ^ 101
  | _ => (lnFix v.m 1 + v.e * (ln2Fix : Int)) * 2 ^ 101

/-- TACT: 0 SIGM, 1 TANH, 2 EXP, 3 RECIP, 4 RSQRT, 5 GELU, 6 SOFTPLUS, 7 LOG. Every result is held to the bound of R257
about the true value; RSQRT of a negative number, of which the manual states nothing, is a free value (log entry 28). -/
def tact (fn : Nat) (x : KtV) : KtV :=
  let v := x.v
  let free := Config.tact fn (v.bits fp32 32)
  let sg (i : Int) : Int := if v.neg then -i else i
  let out (i : Int) : KtV := KtV.r32 { x with v := Fp.ofInt i (-149) }
  match fn with
  | 3 => if v.m = 0 then { x with v := fpMax false, sat := true }
         else out (within (sg ((pow2 (149 - v.e) / v.m : Nat) : Int)) free)
  | 4 => if v.m = 0 then { x with v := fpMax false, sat := true }
         else if v.neg then out free
         else out (within ((isqrt 512 (pow2 (298 - v.e) / v.m) : Nat) : Int) free)
  | 7 => if v.neg || v.m = 0 then { x with v := fpMax true, inval := true } else out (within (tactTrue 7 v) free)
  | _ => out (within (tactTrue fn v) free)

/-! ## Sums without an order (R256) -/

/-- The sum of a row, in whose adding the manual names no order. Two elements have one sum, and so have more where every sum
of some of them is exact in binary32; otherwise the sum is free within what the roundings of any order can come to (log
entry 28). -/
def rowSum (l : List KtV) : KtV :=
  let units := l.map fun x => x.v.units (-149)
  let common := units.foldl (fun (n : Nat) i => n.gcd i.natAbs) 0
  let total := units.foldl (fun (n : Nat) i => n + i.natAbs) 0
  if l.length ≤ 2 || total ≤ 2 ^ 24 * (common &&& (common ^^^ (common - 1))) then KtV.sum l
  else
    let free := Config.rsum (l.map fun x => x.v.bits fp32 32)
    let exact := units.foldl (· + ·) 0
    let tol : Int := ((l.length * (total / 2 ^ 23) + l.length : Nat) : Int)
    let v := if Fp.exceeds fp32 (Fp.ofInt total (-149)) then free else max (exact - tol) (min (exact + tol) free)
    KtV.r32 ⟨Fp.ofInt v (-149), false, l.any (·.inval), l.any (·.oob)⟩

end Sys2Proof.Machine
end

