-- ==== Sys2Proof/Machine/F32.lean ====
section
/-!
DEFINITION. binary32 values as exact numbers: a finite value is a whole multiple of 2^-149 (R240, R275), and the integer that
the power core takes from one (R466).
-/
namespace Sys2Proof.Machine

/-- The exponent field of a binary32 word. -/
def f32exp (w : BitVec 32) : Nat := w.toNat / 2 ^ 23 % 256

/-- The fraction field of a binary32 word. -/
def f32frac (w : BitVec 32) : Nat := w.toNat % 2 ^ 23

/-- Whether the sign bit is set. -/
def f32neg (w : BitVec 32) : Bool := bitOf w.toNat 31

/-- Neither an infinity nor a NaN. -/
def f32finite (w : BitVec 32) : Bool := f32exp w ≠ 255

/-- A NaN. -/
def f32nan (w : BitVec 32) : Bool := f32exp w = 255 && f32frac w ≠ 0

/-- The magnitude of a finite value in units of 2^-149. -/
def f32mag (w : BitVec 32) : Nat :=
  if f32exp w = 0 then f32frac w else (2 ^ 23 + f32frac w) * 2 ^ (f32exp w - 1)

/-- A finite value in units of 2^-149. -/
def f32val (w : BitVec 32) : Int := if f32neg w then -(f32mag w : Int) else (f32mag w : Int)

/-- The unit of f32val: 1 is this many of it. -/
def f32one : Nat := 2 ^ 149

/-- num / den rounded to the nearest integer, halves up, for den > 0. -/
def roundUp (num : Int) (den : Nat) : Int := (2 * num + den) / (2 * (den : Int))

/-- A whole number kept within 0 to 65,535 (R466). -/
def clip16 (i : Int) : Nat := (max 0 (min i 65535)).toNat

/-- What the power core writes for a finite binary32 value: nearest, halves up, within 0 to 65,535 (R466). -/
def f32target (w : BitVec 32) : Nat := clip16 (roundUp (f32val w) f32one)

end Sys2Proof.Machine
end

