-- ==== Sys2Proof/Machine/RegMap.lean ====
section
/-!
DEFINITION. The access codes, reset values, locks and legal values of every CSR field (R13 to R18), as the register
tables of the chapters give them, and which registers a warm reset returns to their defaults.
-/
namespace Sys2Proof.Machine

/-- The access codes of R14.  cnt is a W1C count of which writing 1 to any bit clears the whole field; secW1s is
settable to 1 by the security core only; w1cCond is a W1C cause bit that clears only on its clear side (R163, R169)
and is written through a meaning of its own. -/
inductive Acc where
  | rw | ro | wo | w1c | w1s | rwl | sec | fus | cnt | secW1s | w1cCond
deriving DecidableEq, Repr

/-- Which lock governs a field: none, a bit of a register, the region lock of the register's core, or MBX_CTL.lock. -/
inductive Lock where
  | none
  | bit (off : Nat) (i : Nat)
  | core
deriving DecidableEq, Repr

/-- A field's reset value: a number, or one given per index. -/
inductive RstVal where
  | val (v : Nat)
  | coreRole | zoneTarget | snsEn | snsZone | snsLevels | envMin | envMax | slewUp | slewDn | quaKind | quaIndex
  | mbxSource
deriving DecidableEq, Repr

/-- One field of a register table.  legal lists the ranges of values that are not reserved encodings; an empty list
admits every value (R17). -/
structure FieldSpec where
  hi : Nat
  lo : Nat
  acc : Acc
  rst : RstVal
  lock : Lock
  legal : List (Nat × Nat)
deriving DecidableEq, Repr

/-- One register table: n registers stride apart, each m registers stride2 apart, and its fields.  warm: a warm reset
returns it to its defaults.  copy: one copy per core. -/
structure RegSpec where
  off : Nat
  n : Nat
  stride : Nat
  m : Nat
  stride2 : Nat
  warm : Bool
  copy : Bool
  fields : List FieldSpec
deriving DecidableEq, Repr

/-- Register tables of block SYS (chapter 08,09). -/
def regsSys : List RegSpec := [
  ⟨0x400, 1, 0x0, 1, 0x0, false, true, -- SYS_ITS_ARG
    [⟨31, 0, .rw, .val 0, .none, []⟩]⟩,
  ⟨0x404, 1, 0x0, 1, 0x0, false, true, -- SYS_ITS_CMD
    [⟨15, 12, .wo, .val 0, .none, []⟩, ⟨11, 8, .wo, .val 0, .none, []⟩, ⟨5, 0, .wo, .val 0, .none, []⟩]⟩,
  ⟨0x408, 1, 0x0, 1, 0x0, false, true, -- SYS_ITS_STAT
    [⟨31, 16, .ro, .val 0, .none, []⟩, ⟨7, 4, .ro, .val 0, .none, []⟩, ⟨0, 0, .ro, .val 0, .none, []⟩]⟩,
  ⟨0x2000, 13, 0x200, 12, 0x10, false, false, -- SYS_CORE_MPU_BASE
    [⟨31, 0, .sec, .val 0, .core, []⟩]⟩,
  ⟨0x2004, 13, 0x200, 12, 0x10, false, false, -- SYS_CORE_MPU_LIMIT
    [⟨31, 0, .sec, .val 0, .core, []⟩]⟩,
  ⟨0x2008, 13, 0x200, 12, 0x10, false, false, -- SYS_CORE_MPU_ATTR
    [⟨4, 0, .sec, .val 0, .core, []⟩]⟩,
  ⟨0x2100, 13, 0x200, 1, 0x0, false, false, -- SYS_CORE_LOCK
    [⟨0, 0, .secW1s, .val 0, .none, []⟩]⟩,
  ⟨0x2104, 13, 0x200, 1, 0x0, false, false, -- SYS_CORE_STAT
    [⟨1, 0, .ro, .val 0, .none, []⟩]⟩]

/-- Register tables of block SEC (chapter 14). -/
def regsSec : List RegSpec := [
  ⟨0x10000, 1, 0x0, 1, 0x0, false, false, -- SEC_CTL
    [⟨16, 16, .w1s, .val 0, .none, []⟩, ⟨2, 2, .rwl, .val 0, .bit 0x10000 16, []⟩, ⟨1, 1, .rwl, .val 0, .bit 0x10000 16, []⟩, ⟨0, 0, .sec, .val 0, .none, []⟩]⟩,
  ⟨0x10004, 1, 0x0, 1, 0x0, false, false, -- SEC_STATUS
    [⟨14, 8, .ro, .val 0, .none, []⟩, ⟨7, 7, .ro, .val 0, .none, []⟩, ⟨6, 4, .ro, .val 0, .none, []⟩, ⟨3, 3, .ro, .val 0, .none, []⟩, ⟨2, 0, .ro, .val 0, .none, []⟩]⟩,
  ⟨0x10008, 1, 0x0, 1, 0x0, false, false, -- SEC_LIFECYCLE
    [⟨8, 8, .fus, .val 0, .none, []⟩, ⟨2, 0, .fus, .val 0, .none, []⟩]⟩,
  ⟨0x10010, 4, 0x4, 1, 0x0, false, false, -- SEC_SERIAL
    [⟨31, 0, .fus, .val 0, .none, []⟩]⟩,
  ⟨0x10020, 8, 0x4, 1, 0x0, false, false, -- SEC_OWNER_DIG
    [⟨31, 0, .fus, .val 0, .none, []⟩]⟩,
  ⟨0x10040, 8, 0x4, 1, 0x0, false, false, -- SEC_DBG_DIG
    [⟨31, 0, .fus, .val 0, .none, []⟩]⟩,
  ⟨0x10060, 1, 0x0, 1, 0x0, false, false, -- SEC_ATT_CNT
    [⟨31, 0, .cnt, .val 0, .none, []⟩]⟩,
  ⟨0x10064, 1, 0x0, 1, 0x0, false, false, -- SEC_ATT_BUSY
    [⟨31, 0, .cnt, .val 0, .none, []⟩]⟩,
  ⟨0x10068, 1, 0x0, 1, 0x0, false, false, -- SEC_MODEL_KEYS
    [⟨7, 0, .ro, .val 0, .none, []⟩]⟩,
  ⟨0x10100, 8, 0x4, 1, 0x0, false, false, -- SEC_SLOT
    [⟨31, 30, .sec, .val 0, .none, []⟩, ⟨29, 29, .sec, .val 0, .none, []⟩, ⟨28, 25, .sec, .val 0, .none, []⟩, ⟨24, 24, .sec, .val 0, .none, []⟩, ⟨23, 20, .sec, .val 0, .none, []⟩, ⟨15, 0, .sec, .val 0, .none, []⟩]⟩,
  ⟨0x10120, 8, 0x4, 1, 0x0, false, false, -- SEC_SCRUB_CNT
    [⟨31, 0, .cnt, .val 0, .none, []⟩]⟩]

/-- Register tables of block BOOT (chapter 15). -/
def regsBoot0 : List RegSpec := [
  ⟨0x20000, 1, 0x0, 1, 0x0, false, false, -- BOOT_CFG
    [⟨16, 16, .w1s, .val 0, .none, []⟩, ⟨15, 6, .rwl, .val 60, .bit 0x20000 16, [(10, 600)]⟩, ⟨5, 0, .rwl, .val 10, .bit 0x20000 16, [(1, 60)]⟩]⟩,
  ⟨0x20004, 1, 0x0, 1, 0x0, false, false, -- BOOT_STATUS
    [⟨19, 19, .w1c, .val 0, .none, []⟩, ⟨18, 16, .ro, .val 0, .none, []⟩, ⟨15, 15, .ro, .val 0, .none, []⟩, ⟨14, 14, .ro, .val 0, .none, []⟩, ⟨13, 12, .ro, .val 0, .none, []⟩, ⟨11, 11, .ro, .val 0, .none, []⟩, ⟨10, 9, .ro, .val 0, .none, []⟩, ⟨8, 8, .ro, .val 0, .none, []⟩, ⟨2, 0, .ro, .val 0, .none, []⟩]⟩,
  ⟨0x20008, 1, 0x0, 1, 0x0, false, false, -- BOOT_RELEASE
    [⟨12, 1, .secW1s, .val 0, .none, []⟩]⟩,
  ⟨0x2000C, 1, 0x0, 1, 0x0, false, false, -- BOOT_HEALTH
    [⟨31, 31, .wo, .val 0, .none, []⟩, ⟨30, 30, .ro, .val 0, .none, []⟩, ⟨9, 0, .ro, .val 0, .none, []⟩]⟩,
  ⟨0x20010, 1, 0x0, 1, 0x0, false, false, -- BOOT_SVN
    [⟨15, 8, .fus, .val 0, .none, []⟩, ⟨7, 0, .fus, .val 0, .none, []⟩]⟩,
  ⟨0x20014, 1, 0x0, 1, 0x0, false, false, -- BOOT_KEYS
    [⟨7, 4, .fus, .val 0, .none, []⟩, ⟨3, 0, .fus, .val 0, .none, []⟩]⟩,
  ⟨0x20018, 1, 0x0, 1, 0x0, false, false, -- BOOT_QUEUE
    [⟨31, 30, .ro, .val 0, .none, []⟩, ⟨20, 16, .ro, .val 0, .none, []⟩, ⟨15, 0, .ro, .val 0, .none, []⟩]⟩,
  ⟨0x20100, 13, 0x8, 1, 0x0, false, false, -- BOOT_VEC_LO
    [⟨31, 0, .sec, .val 0x20000, .core, []⟩]⟩,
  ⟨0x20104, 13, 0x8, 1, 0x0, false, false, -- BOOT_VEC_HI
    [⟨15, 0, .sec, .val 0, .core, []⟩]⟩,
  ⟨0x20200, 8, 0x4, 1, 0x0, false, false, -- BOOT_RES_DIG
    [⟨31, 0, .ro, .val 0, .none, []⟩]⟩,
  ⟨0x20220, 8, 0x4, 1, 0x0, false, false, -- BOOT_SVC_DIG
    [⟨31, 0, .ro, .val 0, .none, []⟩]⟩,
  ⟨0x20240, 8, 0x4, 1, 0x0, false, false, -- BOOT_PEND_DIG
    [⟨31, 0, .ro, .val 0, .none, []⟩]⟩]

/-- Register tables of block BOOT (chapter 15). -/
def regsBoot1 : List RegSpec := [
  ⟨0x20300, 8, 0x8, 1, 0x0, false, false, -- BOOT_SLOTFL_CFG
    [⟨31, 16, .rwl, .val 0, .bit 0x20000 16, []⟩, ⟨15, 0, .rwl, .val 0, .bit 0x20000 16, []⟩]⟩,
  ⟨0x20304, 8, 0x8, 1, 0x0, false, false, -- BOOT_SLOTFL_STAT
    [⟨31, 29, .ro, .val 0, .none, []⟩, ⟨28, 26, .ro, .val 0, .none, []⟩, ⟨15, 0, .ro, .val 0, .none, []⟩]⟩]

/-- Register tables of block RST (chapter 16). -/
def regsRst0 : List RegSpec := [
  ⟨0x30000, 1, 0x0, 1, 0x0, false, false, -- RST_CTL
    [⟨16, 16, .w1s, .val 0, .none, []⟩, ⟨1, 1, .rw, .val 0, .none, []⟩, ⟨0, 0, .wo, .val 0, .none, []⟩]⟩,
  ⟨0x30004, 1, 0x0, 1, 0x0, false, false, -- RST_STATUS
    [⟨4, 4, .ro, .val 0, .none, []⟩, ⟨3, 3, .ro, .val 0, .none, []⟩, ⟨2, 0, .ro, .val 1, .none, []⟩]⟩,
  ⟨0x30008, 1, 0x0, 1, 0x0, false, false, -- RST_CAUSE
    [⟨15, 8, .ro, .val 0xFF, .none, []⟩, ⟨2, 0, .ro, .val 0, .none, []⟩]⟩,
  ⟨0x3000C, 1, 0x0, 1, 0x0, false, false, -- RST_WARM_CNT
    [⟨31, 0, .ro, .val 0, .none, []⟩]⟩,
  ⟨0x30010, 1, 0x0, 1, 0x0, false, false, -- RST_PWR_CFG
    [⟨23, 16, .rwl, .val 60, .bit 0x30000 16, [(1, 255)]⟩, ⟨2, 0, .rwl, .val 0, .bit 0x30000 16, []⟩]⟩,
  ⟨0x30014, 1, 0x0, 1, 0x0, false, false, -- RST_CORE_CMD
    [⟨8, 8, .wo, .val 0, .none, []⟩, ⟨3, 0, .sec, .val 0, .none, [(1, 12)]⟩]⟩,
  ⟨0x30018, 1, 0x0, 1, 0x0, false, false, -- RST_SLOT_MAP
    [⟨31, 0, .sec, .val 0xA9876543, .none, []⟩]⟩,
  ⟨0x3001C, 1, 0x0, 1, 0x0, false, false, -- RST_ABORT
    [⟨15, 8, .ro, .val 0, .none, []⟩, ⟨7, 0, .ro, .val 0, .none, []⟩]⟩,
  ⟨0x30020, 1, 0x0, 1, 0x0, false, false, -- RST_ABORT_CFG
    [⟨0, 0, .rwl, .val 1, .bit 0x30000 16, []⟩]⟩,
  ⟨0x30024, 1, 0x0, 1, 0x0, false, false, -- RST_REPAIR_SH
    [⟨31, 16, .ro, .val 0, .none, []⟩, ⟨15, 0, .ro, .val 0, .none, []⟩]⟩,
  ⟨0x30028, 1, 0x0, 1, 0x0, false, false, -- RST_REPAIR_TS
    [⟨31, 16, .ro, .val 0, .none, []⟩, ⟨15, 0, .ro, .val 0, .none, []⟩]⟩,
  ⟨0x30100, 13, 0x8, 1, 0x0, false, false, -- RST_WDOG_CFG
    [⟨15, 0, .rwl, .val 0, .bit 0x30000 16, []⟩]⟩]

/-- Register tables of block RST (chapter 16). -/
def regsRst1 : List RegSpec := [
  ⟨0x30104, 13, 0x8, 1, 0x0, false, false, -- RST_WDOG
    [⟨0, 0, .wo, .val 0, .none, []⟩]⟩,
  ⟨0x30200, 13, 0x4, 1, 0x0, false, false, -- RST_CORE_STAT
    [⟨31, 24, .ro, .val 0, .none, []⟩, ⟨23, 16, .ro, .val 0, .none, []⟩, ⟨1, 0, .ro, .coreRole, .none, []⟩]⟩]

/-- Register tables of block TNS (chapter 02). -/
def regsTns0 : List RegSpec := [
  ⟨0x40000, 1, 0x0, 1, 0x0, false, false, -- TNS_CTL
    [⟨16, 16, .w1s, .val 0, .none, []⟩, ⟨15, 1, .rw, .val 750, .none, []⟩, ⟨0, 0, .rwl, .val 0, .bit 0x40000 16, []⟩]⟩,
  ⟨0x40004, 1, 0x0, 1, 0x0, false, false, -- TNS_STATUS
    [⟨4, 4, .ro, .val 0, .none, []⟩, ⟨3, 3, .w1c, .val 0, .none, []⟩, ⟨2, 2, .w1c, .val 0, .none, []⟩, ⟨1, 1, .ro, .val 0, .none, []⟩, ⟨0, 0, .ro, .val 0, .none, []⟩]⟩,
  ⟨0x40008, 1, 0x0, 1, 0x0, false, false, -- TNS_SPEED
    [⟨15, 0, .ro, .val 0, .none, []⟩]⟩,
  ⟨0x40010, 1, 0x0, 1, 0x0, false, false, -- TNS_TICK_LO
    [⟨31, 0, .ro, .val 0, .none, []⟩]⟩,
  ⟨0x40014, 1, 0x0, 1, 0x0, false, false, -- TNS_TICK_HI
    [⟨31, 0, .ro, .val 0, .none, []⟩]⟩,
  ⟨0x40018, 1, 0x0, 1, 0x0, false, false, -- TNS_OPTIME_LO
    [⟨31, 0, .ro, .val 0, .none, []⟩]⟩,
  ⟨0x4001C, 1, 0x0, 1, 0x0, false, false, -- TNS_OPTIME_HI
    [⟨7, 0, .ro, .val 0, .none, []⟩]⟩,
  ⟨0x40020, 1, 0x0, 1, 0x0, false, false, -- TNS_DTIME_LO
    [⟨31, 0, .ro, .val 0, .none, []⟩]⟩,
  ⟨0x40024, 1, 0x0, 1, 0x0, false, false, -- TNS_DTIME_HI
    [⟨31, 0, .ro, .val 0, .none, []⟩]⟩,
  ⟨0x40028, 1, 0x0, 1, 0x0, false, false, -- TNS_ADJ
    [⟨31, 0, .rw, .val 0, .none, []⟩]⟩,
  ⟨0x40030, 1, 0x0, 1, 0x0, false, false, -- TNS_STEP_LO
    [⟨31, 0, .rw, .val 0, .none, []⟩]⟩,
  ⟨0x40034, 1, 0x0, 1, 0x0, false, false, -- TNS_STEP_HI
    [⟨31, 0, .rw, .val 0, .none, []⟩]⟩]

/-- Register tables of block TNS (chapter 02). -/
def regsTns1 : List RegSpec := [
  ⟨0x40038, 1, 0x0, 1, 0x0, false, false, -- TNS_STEP_CTL
    [⟨0, 0, .wo, .val 0, .none, []⟩]⟩,
  ⟨0x4003C, 1, 0x0, 1, 0x0, false, false, -- TNS_STEP_LIMIT
    [⟨31, 0, .rwl, .val 1000000, .bit 0x40000 16, []⟩]⟩,
  ⟨0x40040, 8, 0x4, 1, 0x0, false, false, -- TNS_SKIP
    [⟨31, 0, .cnt, .val 0, .none, []⟩]⟩,
  ⟨0x41000, 256, 0x8, 1, 0x0, true, false, -- TNS_EPOCH_DL_LO
    [⟨31, 0, .rw, .val 0, .none, []⟩]⟩,
  ⟨0x41004, 256, 0x8, 1, 0x0, true, false, -- TNS_EPOCH_DL_HI
    [⟨31, 1, .rw, .val 0, .none, []⟩, ⟨0, 0, .rw, .val 0, .none, []⟩]⟩,
  ⟨0x42000, 8, 0x4, 1, 0x0, true, false, -- TNS_EPOCH_PEND
    [⟨31, 0, .w1c, .val 0, .none, []⟩]⟩,
  ⟨0x42100, 8, 0x4, 1, 0x0, false, false, -- TNS_EPOCH_STEPPED
    [⟨31, 0, .w1c, .val 0, .none, []⟩]⟩]

/-- Register tables of block PER (chapter 07). -/
def regsPer : List RegSpec := [
  ⟨0x50000, 1, 0x0, 1, 0x0, false, false, -- PER_CTL
    [⟨16, 16, .w1s, .val 0, .none, []⟩]⟩,
  ⟨0x50004, 1, 0x0, 1, 0x0, false, false, -- PER_STATUS
    [⟨11, 11, .ro, .val 0, .none, []⟩, ⟨10, 10, .ro, .val 0, .none, []⟩, ⟨9, 9, .ro, .val 0, .none, []⟩, ⟨8, 8, .ro, .val 0, .none, []⟩, ⟨7, 0, .ro, .val 0, .none, []⟩]⟩,
  ⟨0x50008, 1, 0x0, 1, 0x0, false, false, -- PER_CAUSE
    [⟨9, 9, .ro, .val 0, .none, []⟩, ⟨8, 8, .ro, .val 0, .none, []⟩, ⟨7, 7, .ro, .val 0, .none, []⟩, ⟨6, 6, .ro, .val 0, .none, []⟩, ⟨5, 5, .w1cCond, .val 0, .none, []⟩, ⟨4, 4, .w1cCond, .val 0, .none, []⟩, ⟨3, 3, .w1cCond, .val 0, .none, []⟩, ⟨2, 2, .w1cCond, .val 0, .none, []⟩, ⟨1, 1, .w1cCond, .val 0, .none, []⟩, ⟨0, 0, .w1cCond, .val 0, .none, []⟩]⟩,
  ⟨0x50010, 1, 0x0, 1, 0x0, false, false, -- PER_IIN_LVL
    [⟨31, 16, .rwl, .val 900, .bit 0x50000 16, [(100, 1000)]⟩, ⟨15, 0, .rwl, .val 0, .bit 0x50000 16, []⟩]⟩,
  ⟨0x50014, 1, 0x0, 1, 0x0, false, false, -- PER_VBUS_LVL
    [⟨23, 16, .rwl, .val 150, .bit 0x50000 16, [(146, 156)]⟩, ⟨15, 8, .rwl, .val 76, .bit 0x50000 16, [(70, 84)]⟩, ⟨7, 0, .rwl, .val 0, .bit 0x50000 16, []⟩]⟩,
  ⟨0x50018, 1, 0x0, 1, 0x0, false, false, -- PER_DUTY
    [⟨25, 16, .rwl, .val 512, .bit 0x50000 16, [(256, 1023)]⟩, ⟨9, 0, .rwl, .val 768, .bit 0x50000 16, [(256, 1023)]⟩]⟩,
  ⟨0x5001C, 1, 0x0, 1, 0x0, false, false, -- PER_HB
    [⟨0, 0, .wo, .val 0, .none, []⟩]⟩,
  ⟨0x50020, 1, 0x0, 1, 0x0, false, false, -- PER_MON
    [⟨31, 16, .ro, .val 0, .none, []⟩, ⟨15, 0, .ro, .val 0, .none, []⟩]⟩,
  ⟨0x50024, 1, 0x0, 1, 0x0, false, false, -- PER_PROOF
    [⟨31, 24, .ro, .val 0, .none, []⟩, ⟨23, 0, .ro, .val 0, .none, []⟩]⟩,
  ⟨0x50040, 8, 0x4, 1, 0x0, false, false, -- PER_SLOT_CAUSE
    [⟨2, 2, .ro, .val 0, .none, []⟩, ⟨1, 1, .w1cCond, .val 0, .none, []⟩, ⟨0, 0, .w1cCond, .val 0, .none, []⟩]⟩]

/-- Register tables of block PRS (chapter 06). -/
def regsPrs : List RegSpec := [
  ⟨0x60000, 1, 0x0, 1, 0x0, false, false, -- PRS_CTL
    [⟨16, 16, .w1s, .val 0, .none, []⟩, ⟨3, 0, .rwl, .val 5, .bit 0x60000 16, [(1, 15)]⟩]⟩,
  ⟨0x60004, 1, 0x0, 1, 0x0, false, false, -- PRS_STATUS
    [⟨8, 8, .ro, .val 0, .none, []⟩, ⟨7, 5, .ro, .val 7, .none, []⟩, ⟨4, 0, .ro, .val 0, .none, []⟩]⟩,
  ⟨0x60008, 1, 0x0, 1, 0x0, false, false, -- PRS_VBUS_CFG
    [⟨7, 7, .rwl, .val 0, .bit 0x60000 16, []⟩, ⟨6, 0, .rwl, .val 0, .bit 0x60000 16, []⟩]⟩,
  ⟨0x60100, 128, 0x8, 1, 0x0, false, false, -- PRS_AIN_CFG
    [⟨31, 24, .rwl, .val 0xFC, .bit 0x60000 16, []⟩, ⟨23, 16, .rwl, .val 0x04, .bit 0x60000 16, []⟩, ⟨2, 0, .rwl, .val 0, .bit 0x60000 16, [(0, 3)]⟩]⟩,
  ⟨0x60104, 128, 0x8, 1, 0x0, false, false, -- PRS_AIN_CAL
    [⟨31, 16, .rwl, .val 0, .bit 0x60000 16, []⟩, ⟨15, 0, .rwl, .val 0, .bit 0x60000 16, []⟩]⟩,
  ⟨0x60600, 32, 0x4, 1, 0x0, false, false, -- PRS_DIODE_CFG
    [⟨23, 16, .rwl, .val 0, .bit 0x60000 16, []⟩, ⟨15, 0, .rwl, .val 524, .bit 0x60000 16, []⟩]⟩,
  ⟨0x60700, 8, 0x4, 1, 0x0, false, false, -- PRS_FAST
    [⟨31, 0, .ro, .val 0, .none, []⟩]⟩,
  ⟨0x60800, 16, 0x4, 1, 0x0, false, false, -- PRS_TACH
    [⟨19, 0, .ro, .val 0xFFFFF, .none, []⟩]⟩,
  ⟨0x60840, 4, 0x4, 1, 0x0, false, false, -- PRS_FLOW
    [⟨19, 0, .ro, .val 0xFFFFF, .none, []⟩]⟩,
  ⟨0x60900, 64, 0x4, 1, 0x0, false, false, -- PRS_RO_RAW
    [⟨31, 0, .ro, .val 0, .none, []⟩]⟩]

/-- Register tables of block THM (chapter 06). -/
def regsThm0 : List RegSpec := [
  ⟨0x70000, 1, 0x0, 1, 0x0, false, false, -- THM_CTL
    [⟨16, 16, .w1s, .val 0, .none, []⟩, ⟨13, 12, .rwl, .val 0, .bit 0x70000 16, [(0, 2)]⟩, ⟨11, 8, .rwl, .val 3, .bit 0x70000 16, [(1, 15)]⟩, ⟨5, 0, .rwl, .val 15, .bit 0x70000 16, [(1, 63)]⟩]⟩,
  ⟨0x70004, 1, 0x0, 1, 0x0, false, false, -- THM_STATUS
    [⟨17, 17, .ro, .val 0, .none, []⟩, ⟨16, 16, .ro, .val 0, .none, []⟩, ⟨15, 0, .ro, .val 0, .none, []⟩]⟩,
  ⟨0x70008, 1, 0x0, 1, 0x0, false, false, -- THM_BROKEN_CFG
    [⟨31, 24, .rwl, .val 8, .bit 0x70000 16, []⟩, ⟨23, 16, .rwl, .val 30, .bit 0x70000 16, [(5, 255)]⟩]⟩,
  ⟨0x7000C, 1, 0x0, 1, 0x0, false, false, -- THM_CURVE
    [⟨7, 0, .rw, .val 20, .none, [(5, 60)]⟩]⟩,
  ⟨0x70100, 16, 0x10, 1, 0x0, false, false, -- THM_ZONE_CFG
    [⟨27, 24, .rwl, .zoneTarget, .bit 0x70000 16, [(0, 8)]⟩, ⟨20, 18, .rwl, .val 0, .bit 0x70000 16, []⟩, ⟨17, 8, .rwl, .val 768, .bit 0x70000 16, []⟩, ⟨7, 0, .rwl, .val 16, .bit 0x70000 16, []⟩]⟩,
  ⟨0x70104, 16, 0x10, 1, 0x0, false, false, -- THM_ZONE_THR
    [⟨9, 0, .rwl, .val 768, .bit 0x70000 16, []⟩]⟩,
  ⟨0x70108, 16, 0x10, 1, 0x0, false, false, -- THM_ZONE_STAT
    [⟨31, 29, .ro, .val 0, .none, []⟩, ⟨28, 24, .ro, .val 0, .none, []⟩, ⟨15, 0, .ro, .val 0, .none, []⟩]⟩,
  ⟨0x7010C, 16, 0x10, 1, 0x0, false, false, -- THM_ZONE_PRED
    [⟨31, 16, .rw, .val 0, .none, []⟩, ⟨15, 0, .rw, .val 0, .none, []⟩]⟩,
  ⟨0x70200, 8, 0x4, 1, 0x0, false, false, -- THM_GROUP
    [⟨19, 16, .rwl, .val 0, .bit 0x70000 16, []⟩, ⟨15, 0, .rwl, .val 0, .bit 0x70000 16, []⟩]⟩,
  ⟨0x70220, 8, 0x4, 1, 0x0, false, false, -- THM_THR_DUTY
    [⟨9, 0, .ro, .val 0, .none, []⟩]⟩,
  ⟨0x71000, 280, 0x8, 1, 0x0, false, false, -- THM_SNS_CFG
    [⟨5, 5, .rwl, .snsEn, .bit 0x70000 16, []⟩, ⟨4, 0, .rwl, .snsZone, .bit 0x70000 16, [(0, 15), (31, 31)]⟩]⟩,
  ⟨0x71004, 280, 0x8, 1, 0x0, false, false, -- THM_SNS_LVL
    [⟨31, 0, .rwl, .snsLevels, .bit 0x70000 16, []⟩]⟩]

/-- Register tables of block THM (chapter 06). -/
def regsThm1 : List RegSpec := [
  ⟨0x72000, 280, 0x4, 1, 0x0, false, false, -- THM_SNS_VAL
    [⟨31, 31, .ro, .val 0, .none, []⟩, ⟨30, 28, .ro, .val 0, .none, []⟩, ⟨27, 16, .ro, .val 0, .none, []⟩, ⟨15, 0, .ro, .val 0x8000, .none, []⟩]⟩,
  ⟨0x73000, 9, 0x4, 1, 0x0, false, false, -- THM_BROKEN
    [⟨31, 0, .w1c, .val 0, .none, []⟩]⟩,
  ⟨0x73040, 9, 0x4, 1, 0x0, false, false, -- THM_BROKEN_SET
    [⟨31, 0, .ro, .val 0, .none, []⟩]⟩,
  ⟨0x74000, 16, 0x8, 1, 0x0, false, false, -- THM_FAN_CFG
    [⟨31, 16, .rwl, .val 0, .bit 0x70000 16, []⟩, ⟨9, 8, .rwl, .val 1, .bit 0x70000 16, []⟩, ⟨7, 0, .rwl, .val 20, .bit 0x70000 16, [(1, 255)]⟩]⟩,
  ⟨0x74004, 16, 0x8, 1, 0x0, false, false, -- THM_FAN_STAT
    [⟨31, 31, .ro, .val 0, .none, []⟩, ⟨30, 30, .ro, .val 0, .none, []⟩, ⟨25, 16, .ro, .val 0, .none, []⟩, ⟨15, 0, .ro, .val 0, .none, []⟩]⟩,
  ⟨0x74100, 4, 0x8, 1, 0x0, false, false, -- THM_PUMP_CFG
    [⟨31, 16, .rwl, .val 0, .bit 0x70000 16, []⟩, ⟨12, 12, .rwl, .val 0, .bit 0x70000 16, []⟩, ⟨11, 8, .rwl, .val 0, .bit 0x70000 16, []⟩, ⟨7, 0, .rwl, .val 20, .bit 0x70000 16, [(1, 255)]⟩]⟩,
  ⟨0x74104, 4, 0x8, 1, 0x0, false, false, -- THM_PUMP_STAT
    [⟨31, 31, .ro, .val 0, .none, []⟩, ⟨30, 30, .ro, .val 0, .none, []⟩, ⟨29, 29, .ro, .val 0, .none, []⟩, ⟨25, 16, .ro, .val 0, .none, []⟩, ⟨15, 0, .ro, .val 0, .none, []⟩]⟩,
  ⟨0x74200, 4, 0x8, 1, 0x0, false, false, -- THM_FLOW_CFG
    [⟨31, 16, .rwl, .val 0, .bit 0x70000 16, []⟩, ⟨15, 8, .rwl, .val 0, .bit 0x70000 16, []⟩, ⟨7, 0, .rwl, .val 0, .bit 0x70000 16, []⟩]⟩,
  ⟨0x74204, 4, 0x8, 1, 0x0, false, false, -- THM_FLOW_STAT
    [⟨31, 31, .ro, .val 0, .none, []⟩, ⟨15, 0, .ro, .val 0, .none, []⟩]⟩,
  ⟨0x74300, 8, 0x4, 1, 0x0, false, false, -- THM_VALVE_CFG
    [⟨16, 16, .rwl, .val 0, .bit 0x70000 16, []⟩, ⟨15, 8, .rwl, .val 50, .bit 0x70000 16, []⟩, ⟨7, 0, .rwl, .val 40, .bit 0x70000 16, [(10, 100)]⟩]⟩,
  ⟨0x74320, 1, 0x0, 1, 0x0, false, false, -- THM_VALVE_CTL
    [⟨15, 8, .ro, .val 0, .none, []⟩, ⟨7, 0, .rw, .val 0, .none, []⟩]⟩]

/-- Register tables of block LKD (chapter 07). -/
def regsLkd : List RegSpec := [
  ⟨0x80000, 1, 0x0, 1, 0x0, false, false, -- LKD_CTL
    [⟨7, 0, .rwl, .val 0, .bit 0x50000 16, []⟩]⟩,
  ⟨0x80004, 1, 0x0, 1, 0x0, false, false, -- LKD_STATUS
    [⟨31, 24, .ro, .val 0, .none, []⟩, ⟨23, 16, .ro, .val 0, .none, []⟩, ⟨15, 8, .ro, .val 0, .none, []⟩, ⟨7, 0, .ro, .val 0, .none, []⟩]⟩,
  ⟨0x80008, 1, 0x0, 1, 0x0, false, false, -- LKD_VALVE_LEAK
    [⟨7, 0, .rwl, .val 0, .bit 0x50000 16, []⟩]⟩,
  ⟨0x80100, 8, 0x10, 1, 0x0, false, false, -- LKD_ZONE_CFG
    [⟨31, 24, .rwl, .val 0, .bit 0x50000 16, []⟩, ⟨23, 16, .rwl, .val 100, .bit 0x50000 16, [(10, 255)]⟩, ⟨15, 8, .rwl, .val 200, .bit 0x50000 16, []⟩, ⟨7, 0, .rwl, .val 50, .bit 0x50000 16, [(5, 200)]⟩]⟩,
  ⟨0x80104, 8, 0x10, 1, 0x0, false, false, -- LKD_ZONE_MEAS
    [⟨31, 16, .ro, .val 0xFFFF, .none, []⟩, ⟨15, 0, .ro, .val 0xFFFF, .none, []⟩]⟩,
  ⟨0x80108, 8, 0x10, 1, 0x0, false, false, -- LKD_ZONE_WET
    [⟨31, 0, .cnt, .val 0, .none, []⟩]⟩,
  ⟨0x8010C, 8, 0x10, 1, 0x0, false, false, -- LKD_ZONE_TFAIL
    [⟨31, 0, .cnt, .val 0, .none, []⟩]⟩]

/-- Register tables of block SEQ (chapter 03). -/
def regsSeq0 : List RegSpec := [
  ⟨0x90000, 1, 0x0, 1, 0x0, false, false, -- SEQ_CTL
    [⟨2, 2, .w1s, .val 0, .none, []⟩, ⟨1, 1, .rwl, .val 0, .bit 0x90000 2, []⟩]⟩,
  ⟨0x90004, 1, 0x0, 1, 0x0, false, false, -- SEQ_STATUS
    [⟨3, 2, .ro, .val 0, .none, []⟩, ⟨1, 1, .ro, .val 0, .none, []⟩, ⟨0, 0, .ro, .val 0, .none, []⟩]⟩,
  ⟨0x90008, 1, 0x0, 1, 0x0, false, false, -- SEQ_INPUT_CFG
    [⟨23, 16, .rwl, .val 10, .bit 0x90000 2, [(1, 100)]⟩, ⟨15, 8, .rwl, .val 140, .bit 0x90000 2, [(0, 144)]⟩, ⟨7, 0, .rwl, .val 88, .bit 0x90000 2, [(80, 255)]⟩]⟩,
  ⟨0x9000C, 1, 0x0, 1, 0x0, false, false, -- SEQ_PREC
    [⟨1, 0, .rwl, .val 0, .bit 0x90000 2, [(0, 2)]⟩]⟩,
  ⟨0x90010, 1, 0x0, 1, 0x0, false, false, -- SEQ_RBCAP_SLOT
    [⟨31, 24, .rw, .val 4, .none, []⟩, ⟨15, 0, .rwl, .val 1200, .bit 0x90000 2, []⟩]⟩,
  ⟨0x90014, 1, 0x0, 1, 0x0, false, false, -- SEQ_RBCAP_TRAY
    [⟨15, 0, .rwl, .val 10000, .bit 0x90000 2, []⟩]⟩,
  ⟨0x90018, 1, 0x0, 1, 0x0, false, false, -- SEQ_PMIC_LIM
    [⟨31, 16, .rwl, .val 1435, .bit 0x90000 2, []⟩, ⟨15, 0, .rwl, .val 1045, .bit 0x90000 2, []⟩]⟩,
  ⟨0x90024, 1, 0x0, 1, 0x0, false, false, -- SEQ_EFUSE_STATUS
    [⟨31, 24, .w1c, .val 0, .none, []⟩, ⟨23, 16, .ro, .val 0, .none, []⟩, ⟨15, 8, .ro, .val 0, .none, []⟩, ⟨7, 0, .ro, .val 0, .none, []⟩]⟩,
  ⟨0x90030, 2, 0x4, 1, 0x0, false, false, -- SEQ_DOM_EN
    [⟨31, 0, .ro, .val 0, .none, []⟩]⟩,
  ⟨0x90038, 2, 0x4, 1, 0x0, false, false, -- SEQ_DOM_PG
    [⟨31, 0, .ro, .val 0, .none, []⟩]⟩,
  ⟨0x90040, 2, 0x4, 1, 0x0, false, false, -- SEQ_DOM_FAULT
    [⟨31, 0, .w1c, .val 0, .none, []⟩]⟩,
  ⟨0x90100, 48, 0x8, 1, 0x0, false, false, -- SEQ_DOM_CFG
    [⟨29, 28, .rwl, .val 1, .bit 0x90000 2, []⟩, ⟨27, 20, .rwl, .val 10, .bit 0x90000 2, []⟩, ⟨19, 12, .rwl, .val 20, .bit 0x90000 2, []⟩, ⟨9, 8, .rwl, .val 0, .bit 0x90000 2, [(0, 1)]⟩, ⟨7, 4, .rwl, .val 15, .bit 0x90000 2, [(0, 7), (15, 15)]⟩, ⟨3, 0, .rwl, .val 15, .bit 0x90000 2, [(0, 8), (15, 15)]⟩]⟩]

/-- Register tables of block SEQ (chapter 03). -/
def regsSeq1 : List RegSpec := [
  ⟨0x90104, 48, 0x8, 1, 0x0, false, false, -- SEQ_DOM_BUS
    [⟨24, 23, .rwl, .val 0, .bit 0x90000 2, []⟩, ⟨22, 16, .rwl, .val 0, .bit 0x90000 2, []⟩, ⟨15, 8, .rwl, .val 0, .bit 0x90000 2, []⟩, ⟨7, 0, .rwl, .val 0, .bit 0x90000 2, []⟩]⟩,
  ⟨0x90300, 8, 0x4, 1, 0x0, false, false, -- SEQ_EFUSE_CFG
    [⟨11, 4, .rwl, .val 50, .bit 0x90000 2, [(1, 255)]⟩, ⟨3, 0, .rwl, .val 15, .bit 0x90000 2, [(0, 7), (15, 15)]⟩]⟩,
  ⟨0x90340, 9, 0x4, 1, 0x0, false, false, -- SEQ_CLAUSE_STAT
    [⟨31, 24, .ro, .val 0, .none, []⟩, ⟨23, 12, .ro, .val 0, .none, []⟩, ⟨11, 7, .ro, .val 0, .none, []⟩, ⟨6, 5, .ro, .val 0, .none, []⟩]⟩,
  ⟨0x90380, 9, 0x4, 1, 0x0, false, false, -- SEQ_BIND
    [⟨13, 13, .rw, .val 0, .none, []⟩, ⟨12, 8, .rw, .val 0, .none, []⟩, ⟨5, 5, .rw, .val 0, .none, []⟩, ⟨4, 0, .rw, .val 0, .none, []⟩]⟩]

/-- Register tables of block CMA (chapter 04). -/
def regsCma0 : List RegSpec := [
  ⟨0xA0000, 1, 0x0, 1, 0x0, false, false, -- CMA_CTL
    [⟨7, 0, .rw, .val 0, .none, []⟩]⟩,
  ⟨0xA0004, 1, 0x0, 1, 0x0, false, false, -- CMA_LINK_CFG
    [⟨23, 16, .rw, .val 10, .none, [(1, 255)]⟩, ⟨15, 8, .rw, .val 20, .none, [(2, 255)]⟩, ⟨7, 0, .rw, .val 8, .none, [(2, 255)]⟩]⟩,
  ⟨0xA0100, 8, 0x40, 1, 0x0, false, false, -- CMA_STATUS
    [⟨7, 4, .ro, .val 0, .none, []⟩, ⟨2, 0, .ro, .val 0, .none, []⟩]⟩,
  ⟨0xA0104, 8, 0x40, 1, 0x0, false, false, -- CMA_PACE_CTL
    [⟨31, 31, .rw, .val 0, .none, []⟩, ⟨30, 30, .ro, .val 0, .none, []⟩, ⟨29, 29, .ro, .val 0, .none, []⟩, ⟨9, 0, .ro, .val 0, .none, []⟩]⟩,
  ⟨0xA0108, 8, 0x40, 1, 0x0, false, false, -- CMA_RAMP
    [⟨12, 12, .rw, .val 0, .none, []⟩, ⟨11, 8, .rw, .val 0, .none, []⟩, ⟨7, 0, .rw, .val 0, .none, []⟩]⟩,
  ⟨0xA010C, 8, 0x40, 1, 0x0, false, false, -- CMA_CTX
    [⟨23, 23, .w1c, .val 0, .none, []⟩, ⟨22, 22, .ro, .val 0, .none, []⟩, ⟨21, 18, .ro, .val 0, .none, []⟩, ⟨5, 5, .rw, .val 0, .none, []⟩, ⟨4, 1, .rw, .val 0, .none, []⟩]⟩,
  ⟨0xA0110, 8, 0x40, 1, 0x0, false, false, -- CMA_CHG_TICK
    [⟨31, 0, .ro, .val 0, .none, []⟩]⟩,
  ⟨0xA0114, 8, 0x40, 1, 0x0, false, false, -- CMA_INTENT
    [⟨31, 0, .ro, .val 0, .none, []⟩]⟩,
  ⟨0xA0118, 8, 0x40, 4, 0x4, false, false, -- CMA_ACC
    [⟨31, 0, .ro, .val 0, .none, []⟩]⟩,
  ⟨0xA0128, 8, 0x40, 1, 0x0, false, false, -- CMA_ACC_FLAGS
    [⟨7, 4, .w1c, .val 0, .none, []⟩, ⟨3, 0, .w1c, .val 0, .none, []⟩]⟩,
  ⟨0xA012C, 8, 0x40, 2, 0x4, false, false, -- CMA_ERR
    [⟨31, 0, .cnt, .val 0, .none, []⟩]⟩,
  ⟨0xA0134, 8, 0x40, 1, 0x0, false, false, -- CMA_MISS
    [⟨31, 0, .cnt, .val 0, .none, []⟩]⟩]

/-- Register tables of block CMA (chapter 04). -/
def regsCma1 : List RegSpec := [
  ⟨0xA0138, 8, 0x40, 1, 0x0, false, false, -- CMA_COALESCE
    [⟨31, 0, .cnt, .val 0, .none, []⟩]⟩]

/-- Register tables of block BUF (chapter 05). -/
def regsBuf0 : List RegSpec := [
  ⟨0xB0000, 1, 0x0, 1, 0x0, false, false, -- BUF_CTL
    [⟨16, 16, .w1s, .val 0, .none, []⟩, ⟨3, 3, .rwl, .val 0, .bit 0xB0000 16, []⟩, ⟨2, 2, .rw, .val 1, .none, []⟩, ⟨1, 1, .rw, .val 1, .none, []⟩, ⟨0, 0, .rwl, .val 0, .bit 0xB0000 16, []⟩]⟩,
  ⟨0xB0004, 1, 0x0, 1, 0x0, false, false, -- BUF_STATUS
    [⟨15, 12, .ro, .val 0, .none, []⟩, ⟨11, 11, .ro, .val 0, .none, []⟩, ⟨10, 10, .ro, .val 0, .none, []⟩, ⟨9, 9, .ro, .val 0, .none, []⟩, ⟨8, 8, .w1c, .val 0, .none, []⟩, ⟨2, 0, .ro, .val 0, .none, []⟩]⟩,
  ⟨0xB0008, 1, 0x0, 1, 0x0, false, false, -- BUF_LIM
    [⟨31, 16, .rwl, .val 1000, .bit 0xB0000 16, [(0, 2000)]⟩, ⟨15, 0, .rwl, .val 8000, .bit 0xB0000 16, [(0, 8000)]⟩]⟩,
  ⟨0xB000C, 1, 0x0, 1, 0x0, false, false, -- BUF_BANK_CFG
    [⟨31, 24, .rwl, .val 94, .bit 0xB0000 16, [(80, 100)]⟩, ⟨23, 16, .rwl, .val 200, .bit 0xB0000 16, [(0, 250)]⟩, ⟨15, 0, .rwl, .val 0, .bit 0xB0000 16, []⟩]⟩,
  ⟨0xB0010, 1, 0x0, 1, 0x0, false, false, -- BUF_BANK_V
    [⟨31, 24, .rwl, .val 92, .bit 0xB0000 16, [(48, 96)]⟩, ⟨23, 16, .rwl, .val 36, .bit 0xB0000 16, [(32, 80)]⟩, ⟨15, 0, .ro, .val 0, .none, []⟩]⟩,
  ⟨0xB0014, 1, 0x0, 1, 0x0, false, false, -- BUF_BANK_I
    [⟨15, 0, .ro, .val 0, .none, []⟩]⟩,
  ⟨0xB0018, 1, 0x0, 1, 0x0, false, false, -- BUF_TEMP_CFG
    [⟨15, 8, .rwl, .val 60, .bit 0xB0000 16, [(0, 70), (236, 255)]⟩, ⟨7, 0, .rwl, .val 0, .bit 0xB0000 16, [(0, 70), (236, 255)]⟩]⟩,
  ⟨0xB001C, 1, 0x0, 1, 0x0, false, false, -- BUF_TEMP_SRC
    [⟨7, 0, .rwl, .val 0xFF, .bit 0xB0000 16, [(0, 159), (255, 255)]⟩, ⟨15, 8, .rwl, .val 0xFF, .bit 0xB0000 16, [(0, 159), (255, 255)]⟩, ⟨23, 16, .rwl, .val 0xFF, .bit 0xB0000 16, [(0, 159), (255, 255)]⟩, ⟨31, 24, .rwl, .val 0xFF, .bit 0xB0000 16, [(0, 159), (255, 255)]⟩]⟩,
  ⟨0xB0020, 1, 0x0, 1, 0x0, false, false, -- BUF_TEMP_STAT
    [⟨11, 8, .ro, .val 0, .none, []⟩, ⟨7, 0, .ro, .val 0, .none, []⟩]⟩,
  ⟨0xB0024, 1, 0x0, 1, 0x0, false, false, -- BUF_SETPT
    [⟨31, 16, .ro, .val 0, .none, []⟩, ⟨15, 0, .ro, .val 0, .none, []⟩]⟩,
  ⟨0xB0028, 1, 0x0, 1, 0x0, false, false, -- BUF_SLOPE_CFG
    [⟨31, 16, .rwl, .val 0, .bit 0xB0000 16, []⟩, ⟨15, 0, .rwl, .val 1000, .bit 0xB0000 16, [(100, 10000)]⟩]⟩,
  ⟨0xB002C, 1, 0x0, 1, 0x0, false, false, -- BUF_MARGIN_CFG
    [⟨15, 8, .ro, .val 0, .none, []⟩, ⟨7, 0, .rwl, .val 6, .bit 0xB0000 16, [(6, 10)]⟩]⟩]

/-- Register tables of block BUF (chapter 05). -/
def regsBuf1 : List RegSpec := [
  ⟨0xB0030, 1, 0x0, 1, 0x0, false, false, -- BUF_MARGIN_MAP0
    [⟨31, 0, .rwl, .val 0, .bit 0xB0000 16, []⟩]⟩,
  ⟨0xB0034, 1, 0x0, 1, 0x0, false, false, -- BUF_MARGIN_MAP1
    [⟨15, 0, .rwl, .val 0, .bit 0xB0000 16, []⟩]⟩,
  ⟨0xB0038, 1, 0x0, 1, 0x0, false, false, -- BUF_BUS_STEP
    [⟨31, 16, .rwl, .val 0, .bit 0xB0000 16, []⟩, ⟨15, 0, .rwl, .val 0, .bit 0xB0000 16, []⟩]⟩,
  ⟨0xB0040, 1, 0x0, 1, 0x0, false, false, -- BUF_RAMP_CFG
    [⟨31, 26, .rw, .val 10, .none, [(2, 50)]⟩, ⟨25, 16, .rw, .val 896, .none, [(1, 1023)]⟩, ⟨15, 8, .rw, .val 64, .none, [(1, 255)]⟩, ⟨7, 0, .rw, .val 20, .none, [(1, 255)]⟩]⟩,
  ⟨0xB0044, 1, 0x0, 1, 0x0, false, false, -- BUF_RAMP_CFG2
    [⟨31, 20, .rw, .val 1000, .none, [(100, 4095)]⟩, ⟨19, 12, .rw, .val 50, .none, [(10, 255)]⟩, ⟨9, 0, .rw, .val 25, .none, [(1, 1023)]⟩]⟩,
  ⟨0xB0048, 1, 0x0, 1, 0x0, false, false, -- BUF_PLAN
    [⟨31, 16, .ro, .val 0, .none, []⟩, ⟨15, 0, .ro, .val 0, .none, []⟩]⟩,
  ⟨0xB0050, 1, 0x0, 1, 0x0, false, false, -- BUF_ENERGY_OUT
    [⟨31, 0, .cnt, .val 0, .none, []⟩]⟩,
  ⟨0xB0054, 1, 0x0, 1, 0x0, false, false, -- BUF_ENERGY_IN
    [⟨31, 0, .cnt, .val 0, .none, []⟩]⟩,
  ⟨0xB0058, 1, 0x0, 1, 0x0, false, false, -- BUF_FAULT
    [⟨3, 3, .w1c, .val 0, .none, []⟩, ⟨2, 2, .w1c, .val 0, .none, []⟩, ⟨1, 1, .w1c, .val 0, .none, []⟩, ⟨0, 0, .w1c, .val 0, .none, []⟩]⟩,
  ⟨0xB005C, 1, 0x0, 1, 0x0, false, false, -- BUF_REL_PLANNED
    [⟨31, 0, .cnt, .val 0, .none, []⟩]⟩,
  ⟨0xB0060, 1, 0x0, 1, 0x0, false, false, -- BUF_REL_UNPLANNED
    [⟨31, 0, .cnt, .val 0, .none, []⟩]⟩,
  ⟨0xB0100, 8, 0x4, 1, 0x0, false, false, -- BUF_RAMP_STAT
    [⟨31, 31, .ro, .val 0, .none, []⟩, ⟨30, 30, .ro, .val 0, .none, []⟩, ⟨29, 20, .ro, .val 0, .none, []⟩, ⟨13, 10, .ro, .val 0, .none, []⟩, ⟨9, 0, .ro, .val 0, .none, []⟩]⟩]

/-- Register tables of block CAP (chapter 04). -/
def regsCap : List RegSpec := [
  ⟨0xC0000, 1, 0x0, 1, 0x0, false, false, -- CAP_CTL
    [⟨28, 16, .rw, .val 500, .none, [(100, 5000)]⟩, ⟨8, 8, .rw, .val 0, .none, []⟩, ⟨7, 0, .rw, .val 0, .none, []⟩]⟩,
  ⟨0xC0004, 1, 0x0, 1, 0x0, false, false, -- CAP_STATUS
    [⟨17, 17, .w1c, .val 0, .none, []⟩, ⟨16, 16, .ro, .val 0, .none, []⟩, ⟨15, 0, .ro, .val 0xFFFF, .none, []⟩]⟩,
  ⟨0xC0008, 1, 0x0, 1, 0x0, false, false, -- CAP_TRAY
    [⟨31, 16, .ro, .val 0, .none, []⟩, ⟨15, 0, .ro, .val 0, .none, []⟩]⟩,
  ⟨0xC000C, 1, 0x0, 1, 0x0, false, false, -- CAP_TRAY_RSV
    [⟨15, 0, .rw, .val 600, .none, []⟩]⟩,
  ⟨0xC0010, 1, 0x0, 1, 0x0, false, false, -- CAP_EPOCH_APPLIED
    [⟨31, 0, .ro, .val 0, .none, []⟩]⟩,
  ⟨0xC0014, 1, 0x0, 1, 0x0, true, false, -- CAP_EPOCH_STAGED
    [⟨31, 0, .ro, .val 0, .none, []⟩]⟩,
  ⟨0xC0018, 1, 0x0, 1, 0x0, true, false, -- CAP_STAGED_W
    [⟨15, 0, .ro, .val 0, .none, []⟩]⟩,
  ⟨0xC001C, 1, 0x0, 1, 0x0, false, false, -- CAP_STRAG_CNT
    [⟨31, 0, .cnt, .val 0, .none, []⟩]⟩,
  ⟨0xC0100, 8, 0x10, 1, 0x0, false, false, -- CAP_SLOT_ALLOC
    [⟨31, 16, .ro, .val 0, .none, []⟩, ⟨15, 0, .ro, .val 0, .none, []⟩]⟩,
  ⟨0xC0104, 8, 0x10, 1, 0x0, false, false, -- CAP_SLOT_CFG
    [⟨8, 8, .rwl, .val 0, .bit 0x90000 2, []⟩, ⟨6, 0, .rwl, .val 0, .bit 0x90000 2, []⟩]⟩,
  ⟨0xC0108, 8, 0x10, 1, 0x0, false, false, -- CAP_SLOT_FAST
    [⟨31, 16, .rw, .val 0x8000, .none, []⟩, ⟨15, 0, .ro, .val 0, .none, []⟩]⟩,
  ⟨0xC0200, 8, 0x40, 16, 0x4, false, false, -- CAP_FLOOR
    [⟨31, 16, .ro, .val 0, .none, []⟩, ⟨15, 0, .rw, .val 0, .none, []⟩]⟩]

/-- Register tables of block CNJ (chapter 10). -/
def regsCnj0 : List RegSpec := [
  ⟨0xD0000, 1, 0x0, 1, 0x0, true, false, -- CNJ_CTL
    [⟨16, 16, .w1s, .val 0, .none, []⟩, ⟨11, 8, .rwl, .val 4, .bit 0xD0000 16, []⟩, ⟨0, 0, .rw, .val 0, .none, []⟩]⟩,
  ⟨0xD0004, 1, 0x0, 1, 0x0, false, false, -- CNJ_STATUS
    [⟨25, 24, .ro, .val 0, .none, []⟩, ⟨20, 16, .ro, .val 0, .none, []⟩, ⟨10, 0, .ro, .val 0, .none, []⟩]⟩,
  ⟨0xD0010, 1, 0x0, 1, 0x0, true, true, -- CNJ_LAUNCH
    [⟨31, 6, .wo, .val 0, .none, []⟩]⟩,
  ⟨0xD0014, 1, 0x0, 1, 0x0, true, true, -- CNJ_LAUNCH_STAT
    [⟨13, 8, .ro, .val 0, .none, []⟩, ⟨3, 0, .ro, .val 0, .none, []⟩]⟩,
  ⟨0xD0018, 1, 0x0, 1, 0x0, true, false, -- CNJ_ABORT
    [⟨5, 0, .wo, .val 0, .none, []⟩]⟩,
  ⟨0xD0020, 1, 0x0, 1, 0x0, false, false, -- CNJ_TILE_FAIL
    [⟨17, 0, .ro, .val 0, .none, []⟩]⟩,
  ⟨0xD0028, 4, 0x4, 1, 0x0, false, false, -- CNJ_TILE_MAP
    [⟨31, 0, .ro, .val 0, .none, []⟩]⟩,
  ⟨0xD0040, 1, 0x0, 1, 0x0, true, false, -- CNJ_JOBS_DONE
    [⟨31, 0, .cnt, .val 0, .none, []⟩]⟩,
  ⟨0xD0044, 1, 0x0, 1, 0x0, true, false, -- CNJ_JOBS_FAULT
    [⟨31, 0, .cnt, .val 0, .none, []⟩]⟩,
  ⟨0xD0048, 1, 0x0, 1, 0x0, true, false, -- CNJ_JOBS_TIMEOUT
    [⟨31, 0, .cnt, .val 0, .none, []⟩]⟩,
  ⟨0xD004C, 1, 0x0, 1, 0x0, true, false, -- CNJ_OOB
    [⟨31, 0, .cnt, .val 0, .none, []⟩]⟩,
  ⟨0xD0100, 64, 0x4, 1, 0x0, true, false, -- CNJ_JOB_STAT
    [⟨31, 30, .ro, .val 0, .none, []⟩, ⟨27, 24, .ro, .val 0, .none, []⟩, ⟨23, 23, .ro, .val 0, .none, []⟩, ⟨22, 22, .ro, .val 0, .none, []⟩, ⟨21, 18, .ro, .val 0, .none, []⟩, ⟨10, 0, .ro, .val 0, .none, []⟩]⟩]

/-- Register tables of block CNJ (chapter 10). -/
def regsCnj1 : List RegSpec := [
  ⟨0xD0200, 16, 0x10, 1, 0x0, true, false, -- CNJ_PART_TS
    [⟨15, 8, .sec, .val 0, .none, [(0, 128)]⟩, ⟨7, 0, .sec, .val 0, .none, [(0, 127)]⟩]⟩,
  ⟨0xD0204, 16, 0x10, 1, 0x0, true, false, -- CNJ_PART_DDR
    [⟨26, 16, .sec, .val 0, .none, [(0, 1024)]⟩, ⟨9, 0, .sec, .val 0, .none, []⟩]⟩,
  ⟨0xD0208, 16, 0x10, 1, 0x0, true, false, -- CNJ_PART_SH
    [⟨28, 16, .sec, .val 0, .none, [(0, 6144)]⟩, ⟨12, 0, .sec, .val 0, .none, [(0, 6143)]⟩]⟩,
  ⟨0xD020C, 16, 0x10, 1, 0x0, true, false, -- CNJ_PART_CTL
    [⟨2, 2, .w1c, .val 0, .none, []⟩, ⟨1, 1, .secW1s, .val 0, .none, []⟩, ⟨0, 0, .sec, .val 0, .none, []⟩]⟩]

/-- Register tables of block QUA (chapter 11). -/
def regsQua : List RegSpec := [
  ⟨0xE0000, 1, 0x0, 1, 0x0, false, false, -- QUA_CTL
    [⟨16, 16, .w1s, .val 0, .none, []⟩]⟩,
  ⟨0xE0004, 1, 0x0, 1, 0x0, false, false, -- QUA_REFUSED
    [⟨31, 0, .cnt, .val 0, .none, []⟩]⟩,
  ⟨0xE0100, 64, 0x20, 1, 0x0, false, false, -- QUA_ENV
    [⟨31, 16, .rwl, .envMax, .bit 0xE0000 16, []⟩, ⟨15, 0, .rwl, .envMin, .bit 0xE0000 16, []⟩]⟩,
  ⟨0xE0104, 64, 0x20, 1, 0x0, false, false, -- QUA_SLEW
    [⟨31, 16, .rwl, .slewDn, .bit 0xE0000 16, []⟩, ⟨15, 0, .rwl, .slewUp, .bit 0xE0000 16, []⟩]⟩,
  ⟨0xE0108, 64, 0x20, 1, 0x0, false, false, -- QUA_TIGHT
    [⟨31, 16, .rw, .val 0xFFFF, .none, []⟩, ⟨15, 0, .rw, .val 0, .none, []⟩]⟩,
  ⟨0xE010C, 64, 0x20, 1, 0x0, false, false, -- QUA_TGT
    [⟨15, 0, .rw, .val 0, .none, []⟩]⟩,
  ⟨0xE0110, 64, 0x20, 1, 0x0, false, false, -- QUA_OUT
    [⟨31, 16, .ro, .val 0, .none, []⟩, ⟨15, 0, .ro, .envMin, .none, []⟩]⟩,
  ⟨0xE0114, 64, 0x20, 1, 0x0, false, false, -- QUA_CNT
    [⟨31, 16, .cnt, .val 0, .none, []⟩, ⟨15, 0, .cnt, .val 0, .none, []⟩]⟩,
  ⟨0xE0118, 64, 0x20, 1, 0x0, false, false, -- QUA_INFO
    [⟨26, 24, .ro, .quaKind, .none, []⟩, ⟨5, 0, .ro, .quaIndex, .none, []⟩]⟩]

/-- Register tables of block AGR (chapter 12). -/
def regsAgr0 : List RegSpec := [
  ⟨0xF0000, 1, 0x0, 1, 0x0, false, false, -- AGR_CTL
    [⟨16, 16, .w1s, .val 0, .none, []⟩, ⟨0, 0, .rwl, .val 0, .bit 0xF0000 16, []⟩]⟩,
  ⟨0xF0004, 1, 0x0, 1, 0x0, false, false, -- AGR_STATUS
    [⟨4, 4, .w1c, .val 0, .none, []⟩, ⟨3, 3, .ro, .val 0, .none, []⟩, ⟨2, 2, .ro, .val 0, .none, []⟩, ⟨1, 1, .ro, .val 0, .none, []⟩, ⟨0, 0, .w1c, .val 0, .none, []⟩]⟩,
  ⟨0xF0008, 1, 0x0, 1, 0x0, false, false, -- AGR_NET_CFG
    [⟨31, 16, .rwl, .val 0x88B5, .bit 0xF0000 16, []⟩, ⟨15, 0, .rwl, .val 0, .bit 0xF0000 16, []⟩]⟩,
  ⟨0xF000C, 1, 0x0, 1, 0x0, false, false, -- AGR_NET_VLAN
    [⟨11, 0, .rwl, .val 0, .bit 0xF0000 16, []⟩]⟩,
  ⟨0xF0010, 1, 0x0, 1, 0x0, false, false, -- AGR_NET_TIME
    [⟨31, 24, .rw, .val 4, .none, [(2, 255)]⟩, ⟨23, 16, .rw, .val 10, .none, [(5, 100)]⟩, ⟨15, 8, .rw, .val 20, .none, [(10, 200)]⟩, ⟨7, 0, .rw, .val 20, .none, [(5, 255)]⟩]⟩,
  ⟨0xF0014, 1, 0x0, 1, 0x0, false, false, -- AGR_MISUSE_CNT
    [⟨31, 0, .cnt, .val 0, .none, []⟩]⟩,
  ⟨0xF0018, 1, 0x0, 1, 0x0, false, false, -- AGR_RX_DROP
    [⟨31, 0, .cnt, .val 0, .none, []⟩]⟩,
  ⟨0xF001C, 1, 0x0, 1, 0x0, false, false, -- AGR_RETRY_CNT
    [⟨31, 0, .cnt, .val 0, .none, []⟩]⟩,
  ⟨0xF0020, 1, 0x0, 1, 0x0, false, false, -- AGR_LINE_MAP
    [⟨15, 10, .ro, .val 0x3F, .none, []⟩, ⟨9, 4, .ro, .val 0x3F, .none, []⟩, ⟨1, 0, .ro, .val 2, .none, []⟩]⟩,
  ⟨0xF0024, 1, 0x0, 1, 0x0, false, false, -- AGR_DUMP_CTL
    [⟨8, 8, .rw, .val 0, .none, []⟩, ⟨3, 0, .rw, .val 0xF, .none, []⟩]⟩,
  ⟨0xF0028, 1, 0x0, 1, 0x0, false, false, -- AGR_DUMP_REQ
    [⟨0, 0, .wo, .val 0, .none, []⟩]⟩,
  ⟨0xF0040, 1, 0x0, 1, 0x0, false, true, -- AGR_OBJ_IDX
    [⟨9, 0, .rw, .val 0, .none, []⟩]⟩]

/-- Register tables of block AGR (chapter 12). -/
def regsAgr1 : List RegSpec := [
  ⟨0xF0044, 1, 0x0, 1, 0x0, false, true, -- AGR_OBJ_BASE
    [⟨21, 0, .rw, .val 0, .none, []⟩]⟩,
  ⟨0xF0048, 1, 0x0, 1, 0x0, false, true, -- AGR_OBJ_LEN
    [⟨16, 0, .rw, .val 0, .none, []⟩]⟩,
  ⟨0xF004C, 1, 0x0, 1, 0x0, false, true, -- AGR_OBJ_OWN
    [⟨28, 16, .rw, .val 0, .none, []⟩, ⟨11, 8, .rw, .val 0, .none, [(0, 3)]⟩, ⟨7, 0, .rw, .val 0xFF, .none, []⟩]⟩,
  ⟨0xF0050, 1, 0x0, 1, 0x0, false, true, -- AGR_OBJ_CMD
    [⟨2, 0, .wo, .val 0, .none, []⟩]⟩,
  ⟨0xF0054, 1, 0x0, 1, 0x0, false, true, -- AGR_OBJ_RES
    [⟨31, 30, .ro, .val 0, .none, []⟩, ⟨29, 26, .ro, .val 0, .none, []⟩, ⟨25, 24, .ro, .val 0, .none, []⟩, ⟨16, 0, .ro, .val 0, .none, []⟩]⟩,
  ⟨0xF0100, 32, 0x10, 1, 0x0, false, false, -- AGR_LINE_CFG
    [⟨31, 24, .rw, .val 0, .none, []⟩, ⟨23, 23, .rw, .val 0, .none, []⟩, ⟨16, 13, .rw, .val 1, .none, [(0, 12)]⟩, ⟨12, 0, .rw, .val 0, .none, []⟩]⟩,
  ⟨0xF0104, 32, 0x10, 1, 0x0, false, false, -- AGR_LINE_STAT
    [⟨31, 31, .ro, .val 0, .none, []⟩, ⟨30, 30, .ro, .val 0, .none, []⟩, ⟨29, 29, .ro, .val 0, .none, []⟩, ⟨25, 13, .ro, .val 0, .none, []⟩, ⟨12, 0, .ro, .val 0, .none, []⟩]⟩,
  ⟨0xF0108, 32, 0x10, 1, 0x0, false, false, -- AGR_LINE_ROUND
    [⟨31, 0, .ro, .val 0, .none, []⟩]⟩,
  ⟨0xF010C, 32, 0x10, 1, 0x0, false, false, -- AGR_LINE_MIS
    [⟨31, 0, .cnt, .val 0, .none, []⟩]⟩,
  ⟨0xF1000, 256, 0x20, 1, 0x0, false, false, -- AGR_GRP_CFG
    [⟨29, 28, .rw, .val 0, .none, [(0, 2)]⟩, ⟨22, 16, .rw, .val 0, .none, [(0, 64)]⟩, ⟨15, 0, .rw, .val 0, .none, []⟩]⟩,
  ⟨0xF1004, 256, 0x20, 1, 0x0, false, false, -- AGR_GRP_ROUND
    [⟨31, 16, .rw, .val 0, .none, []⟩, ⟨15, 0, .rw, .val 250, .none, [(100, 10000)]⟩]⟩,
  ⟨0xF1008, 256, 0x20, 1, 0x0, false, false, -- AGR_GRP_GEN
    [⟨31, 0, .rw, .val 0, .none, []⟩]⟩]

/-- Register tables of block AGR (chapter 12). -/
def regsAgr2 : List RegSpec := [
  ⟨0xF100C, 256, 0x20, 1, 0x0, false, false, -- AGR_GRP_STAT
    [⟨31, 30, .ro, .val 0, .none, []⟩, ⟨7, 0, .ro, .val 0, .none, []⟩]⟩,
  ⟨0xF1010, 256, 0x20, 2, 0x4, false, false, -- AGR_GRP_LAG
    [⟨31, 0, .ro, .val 0, .none, []⟩]⟩,
  ⟨0xF1018, 256, 0x20, 2, 0x4, false, false, -- AGR_GRP_LOST
    [⟨31, 0, .ro, .val 0, .none, []⟩]⟩,
  ⟨0xF8000, 8192, 0x4, 1, 0x0, false, false, -- AGR_DUMP
    [⟨31, 0, .ro, .val 0, .none, []⟩]⟩]

/-- Register tables of block ETH (chapter 13). -/
def regsEth0 : List RegSpec := [
  ⟨0x100000, 1, 0x0, 1, 0x0, false, false, -- ETH_CTL
    [⟨16, 16, .w1s, .val 0, .none, []⟩, ⟨10, 8, .rwl, .val 5, .bit 0x100000 16, [(0, 5)]⟩, ⟨0, 0, .rwl, .val 0, .bit 0x100000 16, []⟩]⟩,
  ⟨0x100004, 1, 0x0, 1, 0x0, false, false, -- ETH_MKA_CFG
    [⟨31, 24, .rwl, .val 0x10, .bit 0x100000 16, []⟩, ⟨23, 16, .rwl, .val 24, .bit 0x100000 16, []⟩, ⟨15, 0, .rwl, .val 0, .bit 0x100000 16, []⟩]⟩,
  ⟨0x100008, 1, 0x0, 1, 0x0, true, false, -- ETH_PTP_CFG
    [⟨31, 24, .rw, .val 0, .none, []⟩, ⟨23, 16, .rw, .val 128, .none, []⟩, ⟨15, 8, .rw, .val 0, .none, []⟩, ⟨7, 4, .rw, .val 0xD, .none, [(0, 4), (9, 15)]⟩, ⟨3, 2, .rw, .val 0, .none, [(0, 2)]⟩, ⟨1, 1, .rw, .val 1, .none, []⟩, ⟨0, 0, .rw, .val 0, .none, []⟩]⟩,
  ⟨0x10000C, 1, 0x0, 1, 0x0, true, false, -- ETH_PTP_ROLE
    [⟨1, 0, .rw, .val 0, .none, [(0, 2)]⟩]⟩,
  ⟨0x100010, 1, 0x0, 1, 0x0, true, false, -- ETH_UP_CFG
    [⟨28, 16, .rw, .val 256, .none, [(8, 4096)]⟩, ⟨3, 0, .rw, .val 3, .none, [(0, 4)]⟩]⟩,
  ⟨0x100014, 1, 0x0, 1, 0x0, true, false, -- ETH_UP_SHED
    [⟨31, 0, .cnt, .val 0, .none, []⟩]⟩,
  ⟨0x100018, 1, 0x0, 1, 0x0, true, false, -- ETH_RKEY_ERR
    [⟨31, 0, .cnt, .val 0, .none, []⟩]⟩,
  ⟨0x10001C, 1, 0x0, 1, 0x0, true, false, -- ETH_QP_ACTIVE
    [⟨12, 0, .ro, .val 0, .none, []⟩]⟩,
  ⟨0x100100, 8, 0x40, 1, 0x0, false, false, -- ETH_PORT_CFG
    [⟨5, 5, .rwl, .val 1, .bit 0x100000 16, []⟩, ⟨4, 4, .rwl, .val 1, .bit 0x100000 16, []⟩, ⟨3, 3, .rwl, .val 0, .bit 0x100000 16, []⟩, ⟨2, 1, .rwl, .val 0, .bit 0x100000 16, [(0, 2)]⟩, ⟨0, 0, .rw, .val 0, .none, []⟩]⟩,
  ⟨0x100104, 8, 0x40, 1, 0x0, true, false, -- ETH_PORT_STAT
    [⟨9, 8, .ro, .val 0, .none, []⟩, ⟨7, 6, .ro, .val 0, .none, []⟩, ⟨3, 3, .w1c, .val 0, .none, []⟩, ⟨2, 2, .ro, .val 0, .none, []⟩, ⟨1, 1, .ro, .val 0, .none, []⟩, ⟨0, 0, .ro, .val 0, .none, []⟩]⟩,
  ⟨0x100108, 8, 0x40, 1, 0x0, true, false, -- ETH_PORT_IP4
    [⟨31, 0, .rw, .val 0, .none, []⟩]⟩,
  ⟨0x10010C, 8, 0x40, 1, 0x0, true, false, -- ETH_PORT_QPS
    [⟨12, 0, .ro, .val 0, .none, []⟩]⟩]

/-- Register tables of block ETH (chapter 13). -/
def regsEth1 : List RegSpec := [
  ⟨0x100110, 8, 0x40, 8, 0x4, true, false, -- ETH_RX_DROP
    [⟨31, 0, .cnt, .val 0, .none, []⟩]⟩,
  ⟨0x100130, 8, 0x40, 1, 0x0, true, false, -- ETH_FEC_CORR
    [⟨31, 0, .cnt, .val 0, .none, []⟩]⟩,
  ⟨0x100134, 8, 0x40, 1, 0x0, true, false, -- ETH_FEC_UNCORR
    [⟨31, 0, .cnt, .val 0, .none, []⟩]⟩,
  ⟨0x100138, 8, 0x40, 1, 0x0, true, false, -- ETH_MACSEC_DROP
    [⟨31, 0, .cnt, .val 0, .none, []⟩]⟩,
  ⟨0x100400, 8, 0x10, 4, 0x4, true, false, -- ETH_PORT_IP6
    [⟨31, 0, .rw, .val 0, .none, []⟩]⟩]

/-- Register tables of block MBX (chapter 13). -/
def regsMbx : List RegSpec := [
  ⟨0x110000, 1, 0x0, 1, 0x0, true, false, -- MBX_CTL
    [⟨16, 16, .w1s, .val 0, .none, []⟩, ⟨0, 0, .rw, .val 0, .none, []⟩]⟩,
  ⟨0x110004, 1, 0x0, 1, 0x0, true, false, -- MBX_PENDING
    [⟨15, 0, .ro, .val 0, .none, []⟩]⟩,
  ⟨0x110008, 1, 0x0, 1, 0x0, true, false, -- MBX_OVERRUN
    [⟨15, 0, .w1c, .val 0, .none, []⟩]⟩,
  ⟨0x110100, 16, 0x10, 1, 0x0, false, false, -- MBX_ASSIGN
    [⟨1, 0, .sec, .mbxSource, .bit 0x110000 16, [(0, 2)]⟩]⟩,
  ⟨0x110104, 16, 0x10, 1, 0x0, true, false, -- MBX_STAT
    [⟨31, 31, .ro, .val 0, .none, []⟩, ⟨30, 30, .ro, .val 0, .none, []⟩, ⟨29, 29, .ro, .val 0, .none, []⟩, ⟨11, 0, .ro, .val 0, .none, []⟩]⟩,
  ⟨0x110108, 16, 0x10, 1, 0x0, true, false, -- MBX_DONE
    [⟨1, 1, .wo, .val 0, .none, []⟩, ⟨0, 0, .wo, .val 0, .none, []⟩]⟩,
  ⟨0x11010C, 16, 0x10, 1, 0x0, true, false, -- MBX_CNT
    [⟨31, 0, .cnt, .val 0, .none, []⟩]⟩]

/-- Register tables of block EVR (chapter 16). -/
def regsEvr : List RegSpec := [
  ⟨0x120000, 1, 0x0, 1, 0x0, false, false, -- EVR_CTL
    [⟨16, 16, .w1s, .val 0, .none, []⟩, ⟨7, 4, .rwl, .val 3, .bit 0x120000 16, [(0, 4)]⟩, ⟨3, 0, .rw, .val 1, .none, [(0, 4)]⟩]⟩,
  ⟨0x120004, 1, 0x0, 1, 0x0, false, false, -- EVR_HEAD
    [⟨31, 0, .ro, .val 0xFFFFFFFF, .none, []⟩]⟩,
  ⟨0x120008, 1, 0x0, 1, 0x0, false, false, -- EVR_STAT
    [⟨13, 8, .ro, .val 0, .none, []⟩, ⟨6, 0, .ro, .val 64, .none, []⟩]⟩,
  ⟨0x120010, 5, 0x4, 1, 0x0, false, false, -- EVR_SHED
    [⟨31, 0, .cnt, .val 0, .none, []⟩]⟩]

/-- Register tables of block INV (chapter 16). -/
def regsInv : List RegSpec := [
  ⟨0x130000, 1, 0x0, 1, 0x0, false, false, -- INV_CTL
    [⟨16, 16, .w1s, .val 0, .none, []⟩]⟩,
  ⟨0x130100, 8, 0x4, 1, 0x0, false, false, -- INV_SLOT_CFG
    [⟨6, 0, .rwl, .val 0, .bit 0x130000 16, []⟩]⟩,
  ⟨0x130120, 8, 0x4, 1, 0x0, false, false, -- INV_SLOT_STAT
    [⟨31, 31, .ro, .val 0, .none, []⟩, ⟨30, 30, .ro, .val 0, .none, []⟩, ⟨7, 0, .ro, .val 0xFF, .none, []⟩]⟩]

/-- Register tables of block SLT (chapter 17). -/
def regsSlt : List RegSpec := [
  ⟨0x140000, 1, 0x0, 1, 0x0, false, false, -- SLT_PMB_CFG
    [⟨1, 0, .rw, .val 1, .none, [(0, 2)]⟩, ⟨3, 2, .rw, .val 1, .none, [(0, 2)]⟩, ⟨5, 4, .rw, .val 1, .none, [(0, 2)]⟩, ⟨7, 6, .rw, .val 1, .none, [(0, 2)]⟩]⟩,
  ⟨0x140004, 1, 0x0, 1, 0x0, false, false, -- SLT_AVS
    [⟨16, 16, .ro, .val 0, .none, []⟩, ⟨15, 0, .rwl, .val 800, .bit 0x150000 16, [(720, 900)]⟩]⟩,
  ⟨0x140100, 8, 0x8, 1, 0x0, false, false, -- SLT_I3C_CFG
    [⟨1, 0, .rw, .val 0, .none, []⟩]⟩,
  ⟨0x140104, 8, 0x8, 1, 0x0, false, false, -- SLT_STAT
    [⟨5, 5, .ro, .val 0, .none, []⟩, ⟨4, 4, .ro, .val 1, .none, []⟩, ⟨3, 3, .ro, .val 0, .none, []⟩, ⟨2, 2, .ro, .val 0, .none, []⟩, ⟨1, 1, .ro, .val 0, .none, []⟩, ⟨0, 0, .ro, .val 0, .none, []⟩]⟩]

/-- Register tables of block DDR (chapter 17). -/
def regsDdr : List RegSpec := [
  ⟨0x150000, 1, 0x0, 1, 0x0, false, false, -- DDR_CTL
    [⟨16, 16, .w1s, .val 0, .none, []⟩, ⟨2, 1, .rwl, .val 2, .bit 0x150000 16, [(0, 2)]⟩, ⟨0, 0, .rwl, .val 0, .bit 0x150000 16, []⟩]⟩,
  ⟨0x150004, 1, 0x0, 1, 0x0, false, false, -- DDR_STATUS
    [⟨3, 3, .ro, .val 0, .none, []⟩, ⟨2, 0, .ro, .val 0, .none, []⟩]⟩,
  ⟨0x150008, 1, 0x0, 1, 0x0, false, false, -- DDR_ECC_CORR
    [⟨31, 0, .cnt, .val 0, .none, []⟩]⟩,
  ⟨0x15000C, 1, 0x0, 1, 0x0, false, false, -- DDR_ECC_UNCORR
    [⟨31, 0, .cnt, .val 0, .none, []⟩]⟩,
  ⟨0x150010, 1, 0x0, 1, 0x0, false, false, -- DDR_ERR_ADDR_LO
    [⟨31, 0, .ro, .val 0, .none, []⟩]⟩,
  ⟨0x150014, 1, 0x0, 1, 0x0, false, false, -- DDR_ERR_ADDR_HI
    [⟨15, 0, .ro, .val 0, .none, []⟩]⟩]

/-- Register tables of block TMX (chapter 17). -/
def regsTmx : List RegSpec := [
  ⟨0x160000, 1, 0x0, 1, 0x0, false, false, -- TMX_CTL
    [⟨0, 0, .sec, .val 0, .none, []⟩]⟩,
  ⟨0x160010, 4, 0x4, 1, 0x0, false, false, -- TMX_DSEL
    [⟨7, 0, .sec, .val 0, .none, []⟩]⟩,
  ⟨0x160020, 2, 0x4, 1, 0x0, false, false, -- TMX_ASEL
    [⟨2, 0, .sec, .val 0, .none, []⟩]⟩]

/-- The register tables of the block at 64 KiB unit b of CSR space (R35). -/
def regsOfBlock (b : Nat) : List RegSpec :=
  match b with
  | 0 => regsSys
  | 1 => regsSec
  | 2 => regsBoot0 ++ regsBoot1
  | 3 => regsRst0 ++ regsRst1
  | 4 => regsTns0 ++ regsTns1
  | 5 => regsPer
  | 6 => regsPrs
  | 7 => regsThm0 ++ regsThm1
  | 8 => regsLkd
  | 9 => regsSeq0 ++ regsSeq1
  | 10 => regsCma0 ++ regsCma1
  | 11 => regsBuf0 ++ regsBuf1
  | 12 => regsCap
  | 13 => regsCnj0 ++ regsCnj1
  | 14 => regsQua
  | 15 => regsAgr0 ++ regsAgr1 ++ regsAgr2
  | 16 => regsEth0 ++ regsEth1
  | 17 => regsMbx
  | 18 => regsEvr
  | 19 => regsInv
  | 20 => regsSlt
  | 21 => regsDdr
  | 22 => regsTmx
  | _ => []

/-- The index of an offset in a register table, with its second index, if it names a register of the table. -/
def RegSpec.index (r : RegSpec) (off : Nat) : Option (Nat × Nat) :=
  if off < r.off then none
  else
    let d := off - r.off
    let i := if r.stride = 0 then 0 else d / r.stride
    let e := if r.stride = 0 then d else d % r.stride
    let j := if r.stride2 = 0 then 0 else e / r.stride2
    let rem := if r.stride2 = 0 then e else e % r.stride2
    if i < r.n && j < r.m && rem = 0 then some (i, j) else none

/-- The register at an offset: its table and its index. -/
def findReg (off : Nat) : Option (RegSpec × Nat) :=
  (regsOfBlock (off / 0x10000)).findSome? fun r => (r.index off).map fun p => (r, p.1)

/-- The event-free part of R130: whether sensor i takes part at reset. -/
def snsEnReset (i : Nat) : Nat := if 160 ≤ i && i < 232 then 1 else 0

/-- The zone of sensor i at reset (R130); 0x1F is none. -/
def snsZoneReset (i : Nat) : Nat :=
  if i < 128 then 0x1F else if i < 160 then (i - 128) / 4 else if i < 224 then 14 else if i < 232 then 15
  else (i - 232) / 2 / 3

/-- The levels of sensor i at reset (R130): TRIP, CRIT, THROTTLE and WARN from the top byte down. -/
def snsLevelsReset (i : Nat) : Nat :=
  let p (w t c r : Nat) : Nat := r * 0x1000000 + c * 0x10000 + t * 0x100 + w
  if i < 128 then p 70 80 90 100 else if i < 160 then p 85 95 105 115 else if i < 232 then p 100 105 110 115
  else p 80 85 90 95

/-- The kind of Qualifier channel c (R279). -/
def quaKindOf (c : Nat) : Nat :=
  if c < 8 then 1 else if c < 16 then 2 else if c < 32 then 3 else if c < 36 then 4 else if c = 36 then 5
  else if c = 37 then 6 else 7

/-- The slot, fan or pump that channel c drives; 0 for other kinds (R279, QUA_INFO). -/
def quaIndexOf (c : Nat) : Nat :=
  if c < 8 then c else if c < 16 then c - 8 else if c < 32 then c - 16 else if c < 36 then c - 32 else 0

/-- Reset envelope minimum of channel c (R279). -/
def envMinReset (c : Nat) : Nat := match quaKindOf c with | 3 => 200 | 4 => 300 | _ => 0

/-- Reset envelope maximum of channel c (R279). -/
def envMaxReset (c : Nat) : Nat :=
  match quaKindOf c with
  | 1 => 1023 | 2 => 1400 | 3 => 1000 | 4 => 1000 | 5 => 8000 | 6 => 2000 | _ => 65535

/-- The reset value of a field for register index i. -/
def RstVal.at (i : Nat) : RstVal → Nat
  | .val v => v
  | .coreRole => if i = 11 || i = 12 then 1 else 0
  | .zoneTarget => if i < 8 then i else 8
  | .snsEn => snsEnReset i
  | .snsZone => snsZoneReset i
  | .snsLevels => snsLevelsReset i
  | .envMin => envMinReset i
  | .envMax => envMaxReset i
  | .slewUp => if quaKindOf i = 2 then 10000 else 0
  | .slewDn => match quaKindOf i with | 1 => 2048 | 3 => 100 | 4 => 50 | _ => 0
  | .quaKind => quaKindOf i
  | .quaIndex => quaIndexOf i
  | .mbxSource => if i < 8 then 1 else if i < 14 then 2 else 0

/-- The value a register takes at reset. -/
def RegSpec.resetAt (r : RegSpec) (i : Nat) : W32 :=
  r.fields.foldl (fun v f => fldPut v f.hi f.lo (f.rst.at i)) 0#32

/-- The reset value of the register at a key; a key that names no register reads 0. -/
def csrReset (key : Nat) : W32 :=
  match findReg (key % 0x1000000) with
  | some (r, i) => r.resetAt i
  | none => 0#32

/-- Whether a warm reset returns the register at a key to its defaults. -/
def csrWarm (key : Nat) : Bool :=
  match findReg (key % 0x1000000) with
  | some (r, _) => r.warm
  | none => false

end Sys2Proof.Machine
end

