-- ==== Sys2Proof/Machine/Sparse.lean ====
section
/-!
DEFINITION. Sparse tables in one canonical form: a list of key and value pairs, keys strictly rising, no entry
equal to what an unlisted key reads as.  Memory, tags and the CSR file are such tables.
-/
namespace Sys2Proof.Machine

/-- The value at a key; an unlisted key reads its default. -/
def Sparse.get {α : Type} (d : Nat → α) (k : Nat) : List (Nat × α) → α
  | [] => d k
  | (a, v) :: r => if a = k then v else Sparse.get d k r

/-- The list with key k bound to v, in key order. -/
def Sparse.ins {α : Type} (k : Nat) (v : α) : List (Nat × α) → List (Nat × α)
  | [] => [(k, v)]
  | (a, w) :: r =>
    if k < a then (k, v) :: (a, w) :: r
    else if k = a then (k, v) :: r
    else (a, w) :: Sparse.ins k v r

/-- Write v at key k.  Writing the default removes the entry. -/
def Sparse.set {α : Type} [DecidableEq α] (d : Nat → α) (k : Nat) (v : α) (l : List (Nat × α)) :
    List (Nat × α) :=
  if v = d k then l.filter (fun p => p.1 != k) else Sparse.ins k v l

/-- Return every key that keep does not hold of to its default. -/
def Sparse.restrict {α : Type} (keep : Nat → Bool) (l : List (Nat × α)) : List (Nat × α) :=
  l.filter (fun p => keep p.1)

/-- Keys strictly rise. -/
def Sparse.sorted {α : Type} : List (Nat × α) → Bool
  | [] => true
  | (a, _) :: r => r.all (fun p => a < p.1) && Sparse.sorted r

/-- The canonical form. -/
def Sparse.wf {α : Type} [DecidableEq α] (d : Nat → α) (l : List (Nat × α)) : Bool :=
  Sparse.sorted l && l.all (fun p => decide (p.2 ≠ d p.1))

theorem Sparse.get_ins_same {α : Type} (d : Nat → α) (k : Nat) (v : α) (l : List (Nat × α)) :
    Sparse.get d k (Sparse.ins k v l) = v := by
  induction l with
  | nil => simp [Sparse.ins, Sparse.get]
  | cons p r ih =>
    obtain ⟨a, w⟩ := p
    simp only [Sparse.ins]
    split
    · simp [Sparse.get]
    · split
      · simp [Sparse.get]
      · rename_i h1 h2
        simp [Sparse.get, Ne.symm h2, ih]

theorem Sparse.get_ins_other {α : Type} (d : Nat → α) {j k : Nat} (h : j ≠ k) (v : α) (l : List (Nat × α)) :
    Sparse.get d j (Sparse.ins k v l) = Sparse.get d j l := by
  induction l with
  | nil => simp [Sparse.ins, Sparse.get, Ne.symm h]
  | cons p r ih =>
    obtain ⟨a, w⟩ := p
    simp only [Sparse.ins]
    split
    · simp [Sparse.get, Ne.symm h]
    · split
      · rename_i h1 h2
        subst h2
        simp [Sparse.get, Ne.symm h]
      · simp [Sparse.get, ih]

theorem Sparse.get_filter_same {α : Type} (d : Nat → α) (k : Nat) (l : List (Nat × α)) :
    Sparse.get d k (l.filter (fun p => p.1 != k)) = d k := by
  induction l with
  | nil => rfl
  | cons p r ih =>
    obtain ⟨a, w⟩ := p
    by_cases h : a = k
    · simp [h, ih]
    · simp [h, Sparse.get, ih]

theorem Sparse.get_restrict {α : Type} (d : Nat → α) (keep : Nat → Bool) (j : Nat) (l : List (Nat × α)) :
    Sparse.get d j (Sparse.restrict keep l) = if keep j then Sparse.get d j l else d j := by
  induction l with
  | nil => simp [Sparse.restrict, Sparse.get]
  | cons p r ih =>
    obtain ⟨a, w⟩ := p
    simp only [Sparse.restrict] at ih
    by_cases ha : keep a <;> by_cases h : a = j <;> subst_vars <;>
      simp_all [Sparse.restrict, Sparse.get]

theorem Sparse.get_filter_other {α : Type} (d : Nat → α) {j k : Nat} (h : j ≠ k) (l : List (Nat × α)) :
    Sparse.get d j (l.filter (fun p => p.1 != k)) = Sparse.get d j l := by
  have := Sparse.get_restrict d (fun x => x != k) j l
  simpa [Sparse.restrict, h] using this

/-- A write is read back. -/
theorem Sparse.get_set_same {α : Type} [DecidableEq α] (d : Nat → α) (k : Nat) (v : α) (l : List (Nat × α)) :
    Sparse.get d k (Sparse.set d k v l) = v := by
  unfold Sparse.set
  split
  · rename_i h
    rw [Sparse.get_filter_same, h]
  · exact Sparse.get_ins_same d k v l

/-- A write leaves every other key alone. -/
theorem Sparse.get_set_other {α : Type} [DecidableEq α] (d : Nat → α) {j k : Nat} (h : j ≠ k) (v : α)
    (l : List (Nat × α)) : Sparse.get d j (Sparse.set d k v l) = Sparse.get d j l := by
  unfold Sparse.set
  split
  · exact Sparse.get_filter_other d h l
  · exact Sparse.get_ins_other d h v l

theorem Sparse.sorted_filter {α : Type} (f : Nat × α → Bool) (l : List (Nat × α)) (h : Sparse.sorted l) :
    Sparse.sorted (l.filter f) := by
  induction l with
  | nil => exact h
  | cons p r ih =>
    obtain ⟨a, w⟩ := p
    simp only [Sparse.sorted, Bool.and_eq_true, List.all_eq_true, decide_eq_true_eq] at h
    simp only [List.filter_cons]
    split
    · simp only [Sparse.sorted, Bool.and_eq_true, List.all_eq_true, decide_eq_true_eq]
      exact ⟨fun x hx => h.1 x (List.mem_filter.mp hx).1, ih h.2⟩
    · exact ih h.2

theorem Sparse.ins_all {α : Type} (q : Nat × α → Prop) (k : Nat) (v : α) (l : List (Nat × α))
    (hk : q (k, v)) (h : ∀ p ∈ l, q p) : ∀ p ∈ Sparse.ins k v l, q p := by
  induction l with
  | nil => simpa [Sparse.ins] using hk
  | cons p r ih =>
    obtain ⟨a, w⟩ := p
    have ih := ih (fun p hp => h p (List.mem_cons_of_mem _ hp))
    simp only [Sparse.ins]
    split
    · intro p hp
      rcases List.mem_cons.mp hp with rfl | hp
      · exact hk
      · exact h p hp
    · split
      · intro p hp
        rcases List.mem_cons.mp hp with rfl | hp
        · exact hk
        · exact h p (List.mem_cons_of_mem _ hp)
      · intro p hp
        rcases List.mem_cons.mp hp with rfl | hp
        · exact h _ (List.mem_cons_self ..)
        · exact ih p hp

theorem Sparse.sorted_ins {α : Type} (k : Nat) (v : α) (l : List (Nat × α)) (h : Sparse.sorted l) :
    Sparse.sorted (Sparse.ins k v l) := by
  induction l with
  | nil => simp [Sparse.ins, Sparse.sorted]
  | cons p r ih =>
    obtain ⟨a, w⟩ := p
    have hs := h
    simp only [Sparse.sorted, Bool.and_eq_true, List.all_eq_true, decide_eq_true_eq] at h
    simp only [Sparse.ins]
    split
    · rename_i hk
      simp only [Sparse.sorted, Bool.and_eq_true, List.all_eq_true, decide_eq_true_eq]
      refine ⟨?_, h⟩
      intro x hx
      rcases List.mem_cons.mp hx with rfl | hx
      · exact hk
      · exact Nat.lt_trans hk (h.1 x hx)
    · split
      · rename_i h1 h2
        subst h2
        simpa [Sparse.sorted] using h
      · rename_i h1 h2
        simp only [Sparse.sorted, Bool.and_eq_true, List.all_eq_true, decide_eq_true_eq]
        exact ⟨Sparse.ins_all (fun p => a < p.1) k v r (by show a < k; omega) h.1, ih h.2⟩

/-- A write keeps the canonical form. -/
theorem Sparse.wf_set {α : Type} [DecidableEq α] (d : Nat → α) (k : Nat) (v : α) (l : List (Nat × α))
    (h : Sparse.wf d l) : Sparse.wf d (Sparse.set d k v l) := by
  simp only [Sparse.wf, Bool.and_eq_true, List.all_eq_true, decide_eq_true_eq] at h ⊢
  unfold Sparse.set
  split
  · exact ⟨Sparse.sorted_filter _ l h.1, fun p hp => h.2 p (List.mem_filter.mp hp).1⟩
  · rename_i hv
    exact ⟨Sparse.sorted_ins k v l h.1, Sparse.ins_all (fun p => p.2 ≠ d p.1) k v l hv h.2⟩

/-- Returning keys to their defaults keeps the canonical form. -/
theorem Sparse.wf_restrict {α : Type} [DecidableEq α] (d : Nat → α) (keep : Nat → Bool) (l : List (Nat × α))
    (h : Sparse.wf d l) : Sparse.wf d (Sparse.restrict keep l) := by
  simp only [Sparse.wf, Bool.and_eq_true, List.all_eq_true, decide_eq_true_eq] at h ⊢
  exact ⟨Sparse.sorted_filter _ l h.1, fun p hp => h.2 p (List.mem_filter.mp hp).1⟩

end Sys2Proof.Machine
end

