-- ==== Sys2Proof/Machine/Regs.lean ====
section
/-!
DEFINITION. The registers of CSR space: every block of R35, every register of the chapters' register tables, every
field with its bits.  A register is named by its offset from 0x0000_3000_0000.  A register that has one copy per core
is keyed by its offset plus 0x100_0000 times the core's number plus one.
-/
namespace Sys2Proof.Machine

/-- Where a field stands: its register's key and its bits [hi:lo]. -/
structure Fd where
  off : Nat
  hi : Nat
  lo : Nat
deriving DecidableEq, Repr


/-! ### Block SYS (chapter 08,09) -/

abbrev R.SYS_ITS_ARG (k : Nat) : Nat := 0x400 + 0x1000000 * (k + 1)
abbrev R.SYS_ITS_CMD (k : Nat) : Nat := 0x404 + 0x1000000 * (k + 1)
abbrev R.SYS_ITS_STAT (k : Nat) : Nat := 0x408 + 0x1000000 * (k + 1)
abbrev R.SYS_CORE_MPU_BASE (i : Nat) (j : Nat) : Nat := 0x2000 + 0x200 * i + 0x10 * j
abbrev R.SYS_CORE_MPU_LIMIT (i : Nat) (j : Nat) : Nat := 0x2004 + 0x200 * i + 0x10 * j
abbrev R.SYS_CORE_MPU_ATTR (i : Nat) (j : Nat) : Nat := 0x2008 + 0x200 * i + 0x10 * j
abbrev R.SYS_CORE_LOCK (i : Nat) : Nat := 0x2100 + 0x200 * i
abbrev R.SYS_CORE_STAT (i : Nat) : Nat := 0x2104 + 0x200 * i

/-! ### Block SEC (chapter 14) -/

abbrev R.SEC_CTL : Nat := 0x10000
abbrev R.SEC_STATUS : Nat := 0x10004
abbrev R.SEC_LIFECYCLE : Nat := 0x10008
abbrev R.SEC_SERIAL (i : Nat) : Nat := 0x10010 + 0x4 * i
abbrev R.SEC_OWNER_DIG (i : Nat) : Nat := 0x10020 + 0x4 * i
abbrev R.SEC_DBG_DIG (i : Nat) : Nat := 0x10040 + 0x4 * i
abbrev R.SEC_ATT_CNT : Nat := 0x10060
abbrev R.SEC_ATT_BUSY : Nat := 0x10064
abbrev R.SEC_MODEL_KEYS : Nat := 0x10068
abbrev R.SEC_SLOT (i : Nat) : Nat := 0x10100 + 0x4 * i
abbrev R.SEC_SCRUB_CNT (i : Nat) : Nat := 0x10120 + 0x4 * i

/-! ### Block BOOT (chapter 15) -/

abbrev R.BOOT_CFG : Nat := 0x20000
abbrev R.BOOT_STATUS : Nat := 0x20004
abbrev R.BOOT_RELEASE : Nat := 0x20008
abbrev R.BOOT_HEALTH : Nat := 0x2000C
abbrev R.BOOT_SVN : Nat := 0x20010
abbrev R.BOOT_KEYS : Nat := 0x20014
abbrev R.BOOT_QUEUE : Nat := 0x20018
abbrev R.BOOT_VEC_LO (i : Nat) : Nat := 0x20100 + 0x8 * i
abbrev R.BOOT_VEC_HI (i : Nat) : Nat := 0x20104 + 0x8 * i
abbrev R.BOOT_RES_DIG (i : Nat) : Nat := 0x20200 + 0x4 * i
abbrev R.BOOT_SVC_DIG (i : Nat) : Nat := 0x20220 + 0x4 * i
abbrev R.BOOT_PEND_DIG (i : Nat) : Nat := 0x20240 + 0x4 * i
abbrev R.BOOT_SLOTFL_CFG (i : Nat) : Nat := 0x20300 + 0x8 * i
abbrev R.BOOT_SLOTFL_STAT (i : Nat) : Nat := 0x20304 + 0x8 * i

/-! ### Block RST (chapter 16) -/

abbrev R.RST_CTL : Nat := 0x30000
abbrev R.RST_STATUS : Nat := 0x30004
abbrev R.RST_CAUSE : Nat := 0x30008
abbrev R.RST_WARM_CNT : Nat := 0x3000C
abbrev R.RST_PWR_CFG : Nat := 0x30010
abbrev R.RST_CORE_CMD : Nat := 0x30014
abbrev R.RST_SLOT_MAP : Nat := 0x30018
abbrev R.RST_ABORT : Nat := 0x3001C
abbrev R.RST_ABORT_CFG : Nat := 0x30020
abbrev R.RST_REPAIR_SH : Nat := 0x30024
abbrev R.RST_REPAIR_TS : Nat := 0x30028
abbrev R.RST_WDOG_CFG (i : Nat) : Nat := 0x30100 + 0x8 * i
abbrev R.RST_WDOG (i : Nat) : Nat := 0x30104 + 0x8 * i
abbrev R.RST_CORE_STAT (i : Nat) : Nat := 0x30200 + 0x4 * i

/-! ### Block TNS (chapter 02) -/

abbrev R.TNS_CTL : Nat := 0x40000
abbrev R.TNS_STATUS : Nat := 0x40004
abbrev R.TNS_SPEED : Nat := 0x40008
abbrev R.TNS_TICK_LO : Nat := 0x40010
abbrev R.TNS_TICK_HI : Nat := 0x40014
abbrev R.TNS_OPTIME_LO : Nat := 0x40018
abbrev R.TNS_OPTIME_HI : Nat := 0x4001C
abbrev R.TNS_DTIME_LO : Nat := 0x40020
abbrev R.TNS_DTIME_HI : Nat := 0x40024
abbrev R.TNS_ADJ : Nat := 0x40028
abbrev R.TNS_STEP_LO : Nat := 0x40030
abbrev R.TNS_STEP_HI : Nat := 0x40034
abbrev R.TNS_STEP_CTL : Nat := 0x40038
abbrev R.TNS_STEP_LIMIT : Nat := 0x4003C
abbrev R.TNS_SKIP (i : Nat) : Nat := 0x40040 + 0x4 * i
abbrev R.TNS_EPOCH_DL_LO (i : Nat) : Nat := 0x41000 + 0x8 * i
abbrev R.TNS_EPOCH_DL_HI (i : Nat) : Nat := 0x41004 + 0x8 * i
abbrev R.TNS_EPOCH_PEND (i : Nat) : Nat := 0x42000 + 0x4 * i
abbrev R.TNS_EPOCH_STEPPED (i : Nat) : Nat := 0x42100 + 0x4 * i

/-! ### Block PER (chapter 07) -/

abbrev R.PER_CTL : Nat := 0x50000
abbrev R.PER_STATUS : Nat := 0x50004
abbrev R.PER_CAUSE : Nat := 0x50008
abbrev R.PER_IIN_LVL : Nat := 0x50010
abbrev R.PER_VBUS_LVL : Nat := 0x50014
abbrev R.PER_DUTY : Nat := 0x50018
abbrev R.PER_HB : Nat := 0x5001C
abbrev R.PER_MON : Nat := 0x50020
abbrev R.PER_PROOF : Nat := 0x50024
abbrev R.PER_SLOT_CAUSE (i : Nat) : Nat := 0x50040 + 0x4 * i

/-! ### Block PRS (chapter 06) -/

abbrev R.PRS_CTL : Nat := 0x60000
abbrev R.PRS_STATUS : Nat := 0x60004
abbrev R.PRS_VBUS_CFG : Nat := 0x60008
abbrev R.PRS_AIN_CFG (i : Nat) : Nat := 0x60100 + 0x8 * i
abbrev R.PRS_AIN_CAL (i : Nat) : Nat := 0x60104 + 0x8 * i
abbrev R.PRS_DIODE_CFG (i : Nat) : Nat := 0x60600 + 0x4 * i
abbrev R.PRS_FAST (i : Nat) : Nat := 0x60700 + 0x4 * i
abbrev R.PRS_TACH (i : Nat) : Nat := 0x60800 + 0x4 * i
abbrev R.PRS_FLOW (i : Nat) : Nat := 0x60840 + 0x4 * i
abbrev R.PRS_RO_RAW (i : Nat) : Nat := 0x60900 + 0x4 * i

/-! ### Block THM (chapter 06) -/

abbrev R.THM_CTL : Nat := 0x70000
abbrev R.THM_STATUS : Nat := 0x70004
abbrev R.THM_BROKEN_CFG : Nat := 0x70008
abbrev R.THM_CURVE : Nat := 0x7000C
abbrev R.THM_ZONE_CFG (i : Nat) : Nat := 0x70100 + 0x10 * i
abbrev R.THM_ZONE_THR (i : Nat) : Nat := 0x70104 + 0x10 * i
abbrev R.THM_ZONE_STAT (i : Nat) : Nat := 0x70108 + 0x10 * i
abbrev R.THM_ZONE_PRED (i : Nat) : Nat := 0x7010C + 0x10 * i
abbrev R.THM_GROUP (i : Nat) : Nat := 0x70200 + 0x4 * i
abbrev R.THM_THR_DUTY (i : Nat) : Nat := 0x70220 + 0x4 * i
abbrev R.THM_SNS_CFG (i : Nat) : Nat := 0x71000 + 0x8 * i
abbrev R.THM_SNS_LVL (i : Nat) : Nat := 0x71004 + 0x8 * i
abbrev R.THM_SNS_VAL (i : Nat) : Nat := 0x72000 + 0x4 * i
abbrev R.THM_BROKEN (i : Nat) : Nat := 0x73000 + 0x4 * i
abbrev R.THM_BROKEN_SET (i : Nat) : Nat := 0x73040 + 0x4 * i
abbrev R.THM_FAN_CFG (i : Nat) : Nat := 0x74000 + 0x8 * i
abbrev R.THM_FAN_STAT (i : Nat) : Nat := 0x74004 + 0x8 * i
abbrev R.THM_PUMP_CFG (i : Nat) : Nat := 0x74100 + 0x8 * i
abbrev R.THM_PUMP_STAT (i : Nat) : Nat := 0x74104 + 0x8 * i
abbrev R.THM_FLOW_CFG (i : Nat) : Nat := 0x74200 + 0x8 * i
abbrev R.THM_FLOW_STAT (i : Nat) : Nat := 0x74204 + 0x8 * i
abbrev R.THM_VALVE_CFG (i : Nat) : Nat := 0x74300 + 0x4 * i
abbrev R.THM_VALVE_CTL : Nat := 0x74320

/-! ### Block LKD (chapter 07) -/

abbrev R.LKD_CTL : Nat := 0x80000
abbrev R.LKD_STATUS : Nat := 0x80004
abbrev R.LKD_VALVE_LEAK : Nat := 0x80008
abbrev R.LKD_ZONE_CFG (i : Nat) : Nat := 0x80100 + 0x10 * i
abbrev R.LKD_ZONE_MEAS (i : Nat) : Nat := 0x80104 + 0x10 * i
abbrev R.LKD_ZONE_WET (i : Nat) : Nat := 0x80108 + 0x10 * i
abbrev R.LKD_ZONE_TFAIL (i : Nat) : Nat := 0x8010C + 0x10 * i

/-! ### Block SEQ (chapter 03) -/

abbrev R.SEQ_CTL : Nat := 0x90000
abbrev R.SEQ_STATUS : Nat := 0x90004
abbrev R.SEQ_INPUT_CFG : Nat := 0x90008
abbrev R.SEQ_PREC : Nat := 0x9000C
abbrev R.SEQ_RBCAP_SLOT : Nat := 0x90010
abbrev R.SEQ_RBCAP_TRAY : Nat := 0x90014
abbrev R.SEQ_PMIC_LIM : Nat := 0x90018
abbrev R.SEQ_EFUSE_STATUS : Nat := 0x90024
abbrev R.SEQ_DOM_EN (i : Nat) : Nat := 0x90030 + 0x4 * i
abbrev R.SEQ_DOM_PG (i : Nat) : Nat := 0x90038 + 0x4 * i
abbrev R.SEQ_DOM_FAULT (i : Nat) : Nat := 0x90040 + 0x4 * i
abbrev R.SEQ_DOM_CFG (i : Nat) : Nat := 0x90100 + 0x8 * i
abbrev R.SEQ_DOM_BUS (i : Nat) : Nat := 0x90104 + 0x8 * i
abbrev R.SEQ_EFUSE_CFG (i : Nat) : Nat := 0x90300 + 0x4 * i
abbrev R.SEQ_CLAUSE_STAT (i : Nat) : Nat := 0x90340 + 0x4 * i
abbrev R.SEQ_BIND (i : Nat) : Nat := 0x90380 + 0x4 * i

/-! ### Block CMA (chapter 04) -/

abbrev R.CMA_CTL : Nat := 0xA0000
abbrev R.CMA_LINK_CFG : Nat := 0xA0004
abbrev R.CMA_STATUS (i : Nat) : Nat := 0xA0100 + 0x40 * i
abbrev R.CMA_PACE_CTL (i : Nat) : Nat := 0xA0104 + 0x40 * i
abbrev R.CMA_RAMP (i : Nat) : Nat := 0xA0108 + 0x40 * i
abbrev R.CMA_CTX (i : Nat) : Nat := 0xA010C + 0x40 * i
abbrev R.CMA_CHG_TICK (i : Nat) : Nat := 0xA0110 + 0x40 * i
abbrev R.CMA_INTENT (i : Nat) : Nat := 0xA0114 + 0x40 * i
abbrev R.CMA_ACC (i : Nat) (j : Nat) : Nat := 0xA0118 + 0x40 * i + 0x4 * j
abbrev R.CMA_ACC_FLAGS (i : Nat) : Nat := 0xA0128 + 0x40 * i
abbrev R.CMA_ERR (i : Nat) (j : Nat) : Nat := 0xA012C + 0x40 * i + 0x4 * j
abbrev R.CMA_MISS (i : Nat) : Nat := 0xA0134 + 0x40 * i
abbrev R.CMA_COALESCE (i : Nat) : Nat := 0xA0138 + 0x40 * i

/-! ### Block BUF (chapter 05) -/

abbrev R.BUF_CTL : Nat := 0xB0000
abbrev R.BUF_STATUS : Nat := 0xB0004
abbrev R.BUF_LIM : Nat := 0xB0008
abbrev R.BUF_BANK_CFG : Nat := 0xB000C
abbrev R.BUF_BANK_V : Nat := 0xB0010
abbrev R.BUF_BANK_I : Nat := 0xB0014
abbrev R.BUF_TEMP_CFG : Nat := 0xB0018
abbrev R.BUF_TEMP_SRC : Nat := 0xB001C
abbrev R.BUF_TEMP_STAT : Nat := 0xB0020
abbrev R.BUF_SETPT : Nat := 0xB0024
abbrev R.BUF_SLOPE_CFG : Nat := 0xB0028
abbrev R.BUF_MARGIN_CFG : Nat := 0xB002C
abbrev R.BUF_MARGIN_MAP0 : Nat := 0xB0030
abbrev R.BUF_MARGIN_MAP1 : Nat := 0xB0034
abbrev R.BUF_BUS_STEP : Nat := 0xB0038
abbrev R.BUF_RAMP_CFG : Nat := 0xB0040
abbrev R.BUF_RAMP_CFG2 : Nat := 0xB0044
abbrev R.BUF_PLAN : Nat := 0xB0048
abbrev R.BUF_ENERGY_OUT : Nat := 0xB0050
abbrev R.BUF_ENERGY_IN : Nat := 0xB0054
abbrev R.BUF_FAULT : Nat := 0xB0058
abbrev R.BUF_REL_PLANNED : Nat := 0xB005C
abbrev R.BUF_REL_UNPLANNED : Nat := 0xB0060
abbrev R.BUF_RAMP_STAT (i : Nat) : Nat := 0xB0100 + 0x4 * i

/-! ### Block CAP (chapter 04) -/

abbrev R.CAP_CTL : Nat := 0xC0000
abbrev R.CAP_STATUS : Nat := 0xC0004
abbrev R.CAP_TRAY : Nat := 0xC0008
abbrev R.CAP_TRAY_RSV : Nat := 0xC000C
abbrev R.CAP_EPOCH_APPLIED : Nat := 0xC0010
abbrev R.CAP_EPOCH_STAGED : Nat := 0xC0014
abbrev R.CAP_STAGED_W : Nat := 0xC0018
abbrev R.CAP_STRAG_CNT : Nat := 0xC001C
abbrev R.CAP_SLOT_ALLOC (i : Nat) : Nat := 0xC0100 + 0x10 * i
abbrev R.CAP_SLOT_CFG (i : Nat) : Nat := 0xC0104 + 0x10 * i
abbrev R.CAP_SLOT_FAST (i : Nat) : Nat := 0xC0108 + 0x10 * i
abbrev R.CAP_FLOOR (i : Nat) (j : Nat) : Nat := 0xC0200 + 0x40 * i + 0x4 * j

/-! ### Block CNJ (chapter 10) -/

abbrev R.CNJ_CTL : Nat := 0xD0000
abbrev R.CNJ_STATUS : Nat := 0xD0004
abbrev R.CNJ_LAUNCH (k : Nat) : Nat := 0xD0010 + 0x1000000 * (k + 1)
abbrev R.CNJ_LAUNCH_STAT (k : Nat) : Nat := 0xD0014 + 0x1000000 * (k + 1)
abbrev R.CNJ_ABORT : Nat := 0xD0018
abbrev R.CNJ_TILE_FAIL : Nat := 0xD0020
abbrev R.CNJ_TILE_MAP (i : Nat) : Nat := 0xD0028 + 0x4 * i
abbrev R.CNJ_JOBS_DONE : Nat := 0xD0040
abbrev R.CNJ_JOBS_FAULT : Nat := 0xD0044
abbrev R.CNJ_JOBS_TIMEOUT : Nat := 0xD0048
abbrev R.CNJ_OOB : Nat := 0xD004C
abbrev R.CNJ_JOB_STAT (i : Nat) : Nat := 0xD0100 + 0x4 * i
abbrev R.CNJ_PART_TS (i : Nat) : Nat := 0xD0200 + 0x10 * i
abbrev R.CNJ_PART_DDR (i : Nat) : Nat := 0xD0204 + 0x10 * i
abbrev R.CNJ_PART_SH (i : Nat) : Nat := 0xD0208 + 0x10 * i
abbrev R.CNJ_PART_CTL (i : Nat) : Nat := 0xD020C + 0x10 * i

/-! ### Block QUA (chapter 11) -/

abbrev R.QUA_CTL : Nat := 0xE0000
abbrev R.QUA_REFUSED : Nat := 0xE0004
abbrev R.QUA_ENV (i : Nat) : Nat := 0xE0100 + 0x20 * i
abbrev R.QUA_SLEW (i : Nat) : Nat := 0xE0104 + 0x20 * i
abbrev R.QUA_TIGHT (i : Nat) : Nat := 0xE0108 + 0x20 * i
abbrev R.QUA_TGT (i : Nat) : Nat := 0xE010C + 0x20 * i
abbrev R.QUA_OUT (i : Nat) : Nat := 0xE0110 + 0x20 * i
abbrev R.QUA_CNT (i : Nat) : Nat := 0xE0114 + 0x20 * i
abbrev R.QUA_INFO (i : Nat) : Nat := 0xE0118 + 0x20 * i

/-! ### Block AGR (chapter 12) -/

abbrev R.AGR_CTL : Nat := 0xF0000
abbrev R.AGR_STATUS : Nat := 0xF0004
abbrev R.AGR_NET_CFG : Nat := 0xF0008
abbrev R.AGR_NET_VLAN : Nat := 0xF000C
abbrev R.AGR_NET_TIME : Nat := 0xF0010
abbrev R.AGR_MISUSE_CNT : Nat := 0xF0014
abbrev R.AGR_RX_DROP : Nat := 0xF0018
abbrev R.AGR_RETRY_CNT : Nat := 0xF001C
abbrev R.AGR_LINE_MAP : Nat := 0xF0020
abbrev R.AGR_DUMP_CTL : Nat := 0xF0024
abbrev R.AGR_DUMP_REQ : Nat := 0xF0028
abbrev R.AGR_OBJ_IDX (k : Nat) : Nat := 0xF0040 + 0x1000000 * (k + 1)
abbrev R.AGR_OBJ_BASE (k : Nat) : Nat := 0xF0044 + 0x1000000 * (k + 1)
abbrev R.AGR_OBJ_LEN (k : Nat) : Nat := 0xF0048 + 0x1000000 * (k + 1)
abbrev R.AGR_OBJ_OWN (k : Nat) : Nat := 0xF004C + 0x1000000 * (k + 1)
abbrev R.AGR_OBJ_CMD (k : Nat) : Nat := 0xF0050 + 0x1000000 * (k + 1)
abbrev R.AGR_OBJ_RES (k : Nat) : Nat := 0xF0054 + 0x1000000 * (k + 1)
abbrev R.AGR_LINE_CFG (i : Nat) : Nat := 0xF0100 + 0x10 * i
abbrev R.AGR_LINE_STAT (i : Nat) : Nat := 0xF0104 + 0x10 * i
abbrev R.AGR_LINE_ROUND (i : Nat) : Nat := 0xF0108 + 0x10 * i
abbrev R.AGR_LINE_MIS (i : Nat) : Nat := 0xF010C + 0x10 * i
abbrev R.AGR_GRP_CFG (i : Nat) : Nat := 0xF1000 + 0x20 * i
abbrev R.AGR_GRP_ROUND (i : Nat) : Nat := 0xF1004 + 0x20 * i
abbrev R.AGR_GRP_GEN (i : Nat) : Nat := 0xF1008 + 0x20 * i
abbrev R.AGR_GRP_STAT (i : Nat) : Nat := 0xF100C + 0x20 * i
abbrev R.AGR_GRP_LAG (i : Nat) (j : Nat) : Nat := 0xF1010 + 0x20 * i + 0x4 * j
abbrev R.AGR_GRP_LOST (i : Nat) (j : Nat) : Nat := 0xF1018 + 0x20 * i + 0x4 * j
abbrev R.AGR_DUMP (i : Nat) : Nat := 0xF8000 + 0x4 * i

/-! ### Block ETH (chapter 13) -/

abbrev R.ETH_CTL : Nat := 0x100000
abbrev R.ETH_MKA_CFG : Nat := 0x100004
abbrev R.ETH_PTP_CFG : Nat := 0x100008
abbrev R.ETH_PTP_ROLE : Nat := 0x10000C
abbrev R.ETH_UP_CFG : Nat := 0x100010
abbrev R.ETH_UP_SHED : Nat := 0x100014
abbrev R.ETH_RKEY_ERR : Nat := 0x100018
abbrev R.ETH_QP_ACTIVE : Nat := 0x10001C
abbrev R.ETH_PORT_CFG (i : Nat) : Nat := 0x100100 + 0x40 * i
abbrev R.ETH_PORT_STAT (i : Nat) : Nat := 0x100104 + 0x40 * i
abbrev R.ETH_PORT_IP4 (i : Nat) : Nat := 0x100108 + 0x40 * i
abbrev R.ETH_PORT_QPS (i : Nat) : Nat := 0x10010C + 0x40 * i
abbrev R.ETH_RX_DROP (i : Nat) (j : Nat) : Nat := 0x100110 + 0x40 * i + 0x4 * j
abbrev R.ETH_FEC_CORR (i : Nat) : Nat := 0x100130 + 0x40 * i
abbrev R.ETH_FEC_UNCORR (i : Nat) : Nat := 0x100134 + 0x40 * i
abbrev R.ETH_MACSEC_DROP (i : Nat) : Nat := 0x100138 + 0x40 * i
abbrev R.ETH_PORT_IP6 (i : Nat) (j : Nat) : Nat := 0x100400 + 0x10 * i + 0x4 * j

/-! ### Block MBX (chapter 13) -/

abbrev R.MBX_CTL : Nat := 0x110000
abbrev R.MBX_PENDING : Nat := 0x110004
abbrev R.MBX_OVERRUN : Nat := 0x110008
abbrev R.MBX_ASSIGN (i : Nat) : Nat := 0x110100 + 0x10 * i
abbrev R.MBX_STAT (i : Nat) : Nat := 0x110104 + 0x10 * i
abbrev R.MBX_DONE (i : Nat) : Nat := 0x110108 + 0x10 * i
abbrev R.MBX_CNT (i : Nat) : Nat := 0x11010C + 0x10 * i

/-! ### Block EVR (chapter 16) -/

abbrev R.EVR_CTL : Nat := 0x120000
abbrev R.EVR_HEAD : Nat := 0x120004
abbrev R.EVR_STAT : Nat := 0x120008
abbrev R.EVR_SHED (i : Nat) : Nat := 0x120010 + 0x4 * i

/-! ### Block INV (chapter 16) -/

abbrev R.INV_CTL : Nat := 0x130000
abbrev R.INV_SLOT_CFG (i : Nat) : Nat := 0x130100 + 0x4 * i
abbrev R.INV_SLOT_STAT (i : Nat) : Nat := 0x130120 + 0x4 * i

/-! ### Block SLT (chapter 17) -/

abbrev R.SLT_PMB_CFG : Nat := 0x140000
abbrev R.SLT_AVS : Nat := 0x140004
abbrev R.SLT_I3C_CFG (i : Nat) : Nat := 0x140100 + 0x8 * i
abbrev R.SLT_STAT (i : Nat) : Nat := 0x140104 + 0x8 * i

/-! ### Block DDR (chapter 17) -/

abbrev R.DDR_CTL : Nat := 0x150000
abbrev R.DDR_STATUS : Nat := 0x150004
abbrev R.DDR_ECC_CORR : Nat := 0x150008
abbrev R.DDR_ECC_UNCORR : Nat := 0x15000C
abbrev R.DDR_ERR_ADDR_LO : Nat := 0x150010
abbrev R.DDR_ERR_ADDR_HI : Nat := 0x150014

/-! ### Block TMX (chapter 17) -/

abbrev R.TMX_CTL : Nat := 0x160000
abbrev R.TMX_DSEL (i : Nat) : Nat := 0x160010 + 0x4 * i
abbrev R.TMX_ASEL (i : Nat) : Nat := 0x160020 + 0x4 * i

/-! ## Fields -/

/-! ### Block SYS (chapter 08,09) -/

abbrev F.SYS_ITS_ARG.arg (k : Nat) : Fd := ⟨(R.SYS_ITS_ARG k), 31, 0⟩
abbrev F.SYS_ITS_CMD.op (k : Nat) : Fd := ⟨(R.SYS_ITS_CMD k), 15, 12⟩
abbrev F.SYS_ITS_CMD.channel (k : Nat) : Fd := ⟨(R.SYS_ITS_CMD k), 11, 8⟩
abbrev F.SYS_ITS_CMD.register (k : Nat) : Fd := ⟨(R.SYS_ITS_CMD k), 5, 0⟩
abbrev F.SYS_ITS_STAT.refused (k : Nat) : Fd := ⟨(R.SYS_ITS_STAT k), 31, 16⟩
abbrev F.SYS_ITS_STAT.status (k : Nat) : Fd := ⟨(R.SYS_ITS_STAT k), 7, 4⟩
abbrev F.SYS_ITS_STAT.busy (k : Nat) : Fd := ⟨(R.SYS_ITS_STAT k), 0, 0⟩
abbrev F.SYS_CORE_MPU_BASE.page (i : Nat) (j : Nat) : Fd := ⟨(R.SYS_CORE_MPU_BASE i j), 31, 0⟩
abbrev F.SYS_CORE_MPU_LIMIT.page (i : Nat) (j : Nat) : Fd := ⟨(R.SYS_CORE_MPU_LIMIT i j), 31, 0⟩
abbrev F.SYS_CORE_MPU_ATTR.attr (i : Nat) (j : Nat) : Fd := ⟨(R.SYS_CORE_MPU_ATTR i j), 4, 0⟩
abbrev F.SYS_CORE_LOCK.lock (i : Nat) : Fd := ⟨(R.SYS_CORE_LOCK i), 0, 0⟩
abbrev F.SYS_CORE_STAT.state (i : Nat) : Fd := ⟨(R.SYS_CORE_STAT i), 1, 0⟩

/-! ### Block SEC (chapter 14) -/

abbrev F.SEC_CTL.lock : Fd := ⟨R.SEC_CTL, 16, 16⟩
abbrev F.SEC_CTL.dbg_dis : Fd := ⟨R.SEC_CTL, 2, 2⟩
abbrev F.SEC_CTL.conf_force : Fd := ⟨R.SEC_CTL, 1, 1⟩
abbrev F.SEC_CTL.conf : Fd := ⟨R.SEC_CTL, 0, 0⟩
abbrev F.SEC_STATUS.queue : Fd := ⟨R.SEC_STATUS, 14, 8⟩
abbrev F.SEC_STATUS.trng_fail : Fd := ⟨R.SEC_STATUS, 7, 7⟩
abbrev F.SEC_STATUS.debug : Fd := ⟨R.SEC_STATUS, 6, 4⟩
abbrev F.SEC_STATUS.conf_pending : Fd := ⟨R.SEC_STATUS, 3, 3⟩
abbrev F.SEC_STATUS.lifecycle : Fd := ⟨R.SEC_STATUS, 2, 0⟩
abbrev F.SEC_LIFECYCLE.key_kill : Fd := ⟨R.SEC_LIFECYCLE, 8, 8⟩
abbrev F.SEC_LIFECYCLE.state : Fd := ⟨R.SEC_LIFECYCLE, 2, 0⟩
abbrev F.SEC_SERIAL.value (i : Nat) : Fd := ⟨(R.SEC_SERIAL i), 31, 0⟩
abbrev F.SEC_OWNER_DIG.value (i : Nat) : Fd := ⟨(R.SEC_OWNER_DIG i), 31, 0⟩
abbrev F.SEC_DBG_DIG.value (i : Nat) : Fd := ⟨(R.SEC_DBG_DIG i), 31, 0⟩
abbrev F.SEC_ATT_CNT.count : Fd := ⟨R.SEC_ATT_CNT, 31, 0⟩
abbrev F.SEC_ATT_BUSY.count : Fd := ⟨R.SEC_ATT_BUSY, 31, 0⟩
abbrev F.SEC_MODEL_KEYS.valid : Fd := ⟨R.SEC_MODEL_KEYS, 7, 0⟩
abbrev F.SEC_SLOT.phase (i : Nat) : Fd := ⟨(R.SEC_SLOT i), 31, 30⟩
abbrev F.SEC_SLOT.ann_valid (i : Nat) : Fd := ⟨(R.SEC_SLOT i), 29, 29⟩
abbrev F.SEC_SLOT.ann_ctx (i : Nat) : Fd := ⟨(R.SEC_SLOT i), 28, 25⟩
abbrev F.SEC_SLOT.own_valid (i : Nat) : Fd := ⟨(R.SEC_SLOT i), 24, 24⟩
abbrev F.SEC_SLOT.own_ctx (i : Nat) : Fd := ⟨(R.SEC_SLOT i), 23, 20⟩
abbrev F.SEC_SLOT.sessions (i : Nat) : Fd := ⟨(R.SEC_SLOT i), 15, 0⟩
abbrev F.SEC_SCRUB_CNT.count (i : Nat) : Fd := ⟨(R.SEC_SCRUB_CNT i), 31, 0⟩

/-! ### Block BOOT (chapter 15) -/

abbrev F.BOOT_CFG.lock : Fd := ⟨R.BOOT_CFG, 16, 16⟩
abbrev F.BOOT_CFG.window_s : Fd := ⟨R.BOOT_CFG, 15, 6⟩
abbrev F.BOOT_CFG.queue_min : Fd := ⟨R.BOOT_CFG, 5, 0⟩
abbrev F.BOOT_STATUS.rel_refused : Fd := ⟨R.BOOT_STATUS, 19, 19⟩
abbrev F.BOOT_STATUS.svc : Fd := ⟨R.BOOT_STATUS, 18, 16⟩
abbrev F.BOOT_STATUS.svc_bank : Fd := ⟨R.BOOT_STATUS, 15, 15⟩
abbrev F.BOOT_STATUS.transition : Fd := ⟨R.BOOT_STATUS, 14, 14⟩
abbrev F.BOOT_STATUS.last_cause : Fd := ⟨R.BOOT_STATUS, 13, 12⟩
abbrev F.BOOT_STATUS.golden_n : Fd := ⟨R.BOOT_STATUS, 11, 11⟩
abbrev F.BOOT_STATUS.source : Fd := ⟨R.BOOT_STATUS, 10, 9⟩
abbrev F.BOOT_STATUS.trial : Fd := ⟨R.BOOT_STATUS, 8, 8⟩
abbrev F.BOOT_STATUS.stage : Fd := ⟨R.BOOT_STATUS, 2, 0⟩
abbrev F.BOOT_RELEASE.release : Fd := ⟨R.BOOT_RELEASE, 12, 1⟩
abbrev F.BOOT_HEALTH.confirm : Fd := ⟨R.BOOT_HEALTH, 31, 31⟩
abbrev F.BOOT_HEALTH.self_ok : Fd := ⟨R.BOOT_HEALTH, 30, 30⟩
abbrev F.BOOT_HEALTH.left_s : Fd := ⟨R.BOOT_HEALTH, 9, 0⟩
abbrev F.BOOT_SVN.service : Fd := ⟨R.BOOT_SVN, 15, 8⟩
abbrev F.BOOT_SVN.resident : Fd := ⟨R.BOOT_SVN, 7, 0⟩
abbrev F.BOOT_KEYS.revoked : Fd := ⟨R.BOOT_KEYS, 7, 4⟩
abbrev F.BOOT_KEYS.fused : Fd := ⟨R.BOOT_KEYS, 3, 0⟩
abbrev F.BOOT_QUEUE.target : Fd := ⟨R.BOOT_QUEUE, 31, 30⟩
abbrev F.BOOT_QUEUE.cond : Fd := ⟨R.BOOT_QUEUE, 20, 16⟩
abbrev F.BOOT_QUEUE.left_s : Fd := ⟨R.BOOT_QUEUE, 15, 0⟩
abbrev F.BOOT_VEC_LO.vec (i : Nat) : Fd := ⟨(R.BOOT_VEC_LO i), 31, 0⟩
abbrev F.BOOT_VEC_HI.vec (i : Nat) : Fd := ⟨(R.BOOT_VEC_HI i), 15, 0⟩
abbrev F.BOOT_RES_DIG.digest (i : Nat) : Fd := ⟨(R.BOOT_RES_DIG i), 31, 0⟩
abbrev F.BOOT_SVC_DIG.digest (i : Nat) : Fd := ⟨(R.BOOT_SVC_DIG i), 31, 0⟩
abbrev F.BOOT_PEND_DIG.digest (i : Nat) : Fd := ⟨(R.BOOT_PEND_DIG i), 31, 0⟩
abbrev F.BOOT_SLOTFL_CFG.limit (i : Nat) : Fd := ⟨(R.BOOT_SLOTFL_CFG i), 31, 16⟩
abbrev F.BOOT_SLOTFL_CFG.base (i : Nat) : Fd := ⟨(R.BOOT_SLOTFL_CFG i), 15, 0⟩
abbrev F.BOOT_SLOTFL_STAT.state (i : Nat) : Fd := ⟨(R.BOOT_SLOTFL_STAT i), 31, 29⟩
abbrev F.BOOT_SLOTFL_STAT.reason (i : Nat) : Fd := ⟨(R.BOOT_SLOTFL_STAT i), 28, 26⟩
abbrev F.BOOT_SLOTFL_STAT.done (i : Nat) : Fd := ⟨(R.BOOT_SLOTFL_STAT i), 15, 0⟩

/-! ### Block RST (chapter 16) -/

abbrev F.RST_CTL.lock : Fd := ⟨R.RST_CTL, 16, 16⟩
abbrev F.RST_CTL.main_hold : Fd := ⟨R.RST_CTL, 1, 1⟩
abbrev F.RST_CTL.warm : Fd := ⟨R.RST_CTL, 0, 0⟩
abbrev F.RST_STATUS.main_pg : Fd := ⟨R.RST_STATUS, 4, 4⟩
abbrev F.RST_STATUS.main_en : Fd := ⟨R.RST_STATUS, 3, 3⟩
abbrev F.RST_STATUS.pwr : Fd := ⟨R.RST_STATUS, 2, 0⟩
abbrev F.RST_CAUSE.core : Fd := ⟨R.RST_CAUSE, 15, 8⟩
abbrev F.RST_CAUSE.cause : Fd := ⟨R.RST_CAUSE, 2, 0⟩
abbrev F.RST_WARM_CNT.count : Fd := ⟨R.RST_WARM_CNT, 31, 0⟩
abbrev F.RST_PWR_CFG.stby_delay_s : Fd := ⟨R.RST_PWR_CFG, 23, 16⟩
abbrev F.RST_PWR_CFG.stby_port : Fd := ⟨R.RST_PWR_CFG, 2, 0⟩
abbrev F.RST_CORE_CMD.reset : Fd := ⟨R.RST_CORE_CMD, 8, 8⟩
abbrev F.RST_CORE_CMD.core : Fd := ⟨R.RST_CORE_CMD, 3, 0⟩
abbrev F.RST_SLOT_MAP.map : Fd := ⟨R.RST_SLOT_MAP, 31, 0⟩
abbrev F.RST_ABORT.failed : Fd := ⟨R.RST_ABORT, 15, 8⟩
abbrev F.RST_ABORT.asserted : Fd := ⟨R.RST_ABORT, 7, 0⟩
abbrev F.RST_ABORT_CFG.all : Fd := ⟨R.RST_ABORT_CFG, 0, 0⟩
abbrev F.RST_REPAIR_SH.pending : Fd := ⟨R.RST_REPAIR_SH, 31, 16⟩
abbrev F.RST_REPAIR_SH.used : Fd := ⟨R.RST_REPAIR_SH, 15, 0⟩
abbrev F.RST_REPAIR_TS.pending : Fd := ⟨R.RST_REPAIR_TS, 31, 16⟩
abbrev F.RST_REPAIR_TS.used : Fd := ⟨R.RST_REPAIR_TS, 15, 0⟩
abbrev F.RST_WDOG_CFG.ms (i : Nat) : Fd := ⟨(R.RST_WDOG_CFG i), 15, 0⟩
abbrev F.RST_WDOG.kick (i : Nat) : Fd := ⟨(R.RST_WDOG i), 0, 0⟩
abbrev F.RST_CORE_STAT.halts (i : Nat) : Fd := ⟨(R.RST_CORE_STAT i), 31, 24⟩
abbrev F.RST_CORE_STAT.restarts (i : Nat) : Fd := ⟨(R.RST_CORE_STAT i), 23, 16⟩
abbrev F.RST_CORE_STAT.role (i : Nat) : Fd := ⟨(R.RST_CORE_STAT i), 1, 0⟩

/-! ### Block TNS (chapter 02) -/

abbrev F.TNS_CTL.lock : Fd := ⟨R.TNS_CTL, 16, 16⟩
abbrev F.TNS_CTL.slow_thresh : Fd := ⟨R.TNS_CTL, 15, 1⟩
abbrev F.TNS_CTL.step_en : Fd := ⟨R.TNS_CTL, 0, 0⟩
abbrev F.TNS_STATUS.ptp_valid : Fd := ⟨R.TNS_STATUS, 4, 4⟩
abbrev F.TNS_STATUS.step_refused : Fd := ⟨R.TNS_STATUS, 3, 3⟩
abbrev F.TNS_STATUS.adj_clamp : Fd := ⟨R.TNS_STATUS, 2, 2⟩
abbrev F.TNS_STATUS.xtal_lost : Fd := ⟨R.TNS_STATUS, 1, 1⟩
abbrev F.TNS_STATUS.slow : Fd := ⟨R.TNS_STATUS, 0, 0⟩
abbrev F.TNS_SPEED.speed : Fd := ⟨R.TNS_SPEED, 15, 0⟩
abbrev F.TNS_TICK_LO.lo : Fd := ⟨R.TNS_TICK_LO, 31, 0⟩
abbrev F.TNS_TICK_HI.hi : Fd := ⟨R.TNS_TICK_HI, 31, 0⟩
abbrev F.TNS_OPTIME_LO.lo : Fd := ⟨R.TNS_OPTIME_LO, 31, 0⟩
abbrev F.TNS_OPTIME_HI.hi : Fd := ⟨R.TNS_OPTIME_HI, 7, 0⟩
abbrev F.TNS_DTIME_LO.lo : Fd := ⟨R.TNS_DTIME_LO, 31, 0⟩
abbrev F.TNS_DTIME_HI.hi : Fd := ⟨R.TNS_DTIME_HI, 31, 0⟩
abbrev F.TNS_ADJ.rate : Fd := ⟨R.TNS_ADJ, 31, 0⟩
abbrev F.TNS_STEP_LO.lo : Fd := ⟨R.TNS_STEP_LO, 31, 0⟩
abbrev F.TNS_STEP_HI.hi : Fd := ⟨R.TNS_STEP_HI, 31, 0⟩
abbrev F.TNS_STEP_CTL.go : Fd := ⟨R.TNS_STEP_CTL, 0, 0⟩
abbrev F.TNS_STEP_LIMIT.limit : Fd := ⟨R.TNS_STEP_LIMIT, 31, 0⟩
abbrev F.TNS_SKIP.count (i : Nat) : Fd := ⟨(R.TNS_SKIP i), 31, 0⟩
abbrev F.TNS_EPOCH_DL_LO.time (i : Nat) : Fd := ⟨(R.TNS_EPOCH_DL_LO i), 31, 0⟩
abbrev F.TNS_EPOCH_DL_HI.time (i : Nat) : Fd := ⟨(R.TNS_EPOCH_DL_HI i), 31, 1⟩
abbrev F.TNS_EPOCH_DL_HI.arm (i : Nat) : Fd := ⟨(R.TNS_EPOCH_DL_HI i), 0, 0⟩
abbrev F.TNS_EPOCH_PEND.pend (i : Nat) : Fd := ⟨(R.TNS_EPOCH_PEND i), 31, 0⟩
abbrev F.TNS_EPOCH_STEPPED.stepped (i : Nat) : Fd := ⟨(R.TNS_EPOCH_STEPPED i), 31, 0⟩

/-! ### Block PER (chapter 07) -/

abbrev F.PER_CTL.lock : Fd := ⟨R.PER_CTL, 16, 16⟩
abbrev F.PER_STATUS.self_fault : Fd := ⟨R.PER_STATUS, 11, 11⟩
abbrev F.PER_STATUS.gate_cut : Fd := ⟨R.PER_STATUS, 10, 10⟩
abbrev F.PER_STATUS.fallback : Fd := ⟨R.PER_STATUS, 9, 9⟩
abbrev F.PER_STATUS.pace : Fd := ⟨R.PER_STATUS, 8, 8⟩
abbrev F.PER_STATUS.slot_cut : Fd := ⟨R.PER_STATUS, 7, 0⟩
abbrev F.PER_CAUSE.self_fault : Fd := ⟨R.PER_CAUSE, 9, 9⟩
abbrev F.PER_CAUSE.fallback : Fd := ⟨R.PER_CAUSE, 8, 8⟩
abbrev F.PER_CAUSE.uv_pace : Fd := ⟨R.PER_CAUSE, 7, 7⟩
abbrev F.PER_CAUSE.oc_pace : Fd := ⟨R.PER_CAUSE, 6, 6⟩
abbrev F.PER_CAUSE.leak_conf : Fd := ⟨R.PER_CAUSE, 5, 5⟩
abbrev F.PER_CAUSE.leak_wet : Fd := ⟨R.PER_CAUSE, 4, 4⟩
abbrev F.PER_CAUSE.thm_trip : Fd := ⟨R.PER_CAUSE, 3, 3⟩
abbrev F.PER_CAUSE.vbus_ov : Fd := ⟨R.PER_CAUSE, 2, 2⟩
abbrev F.PER_CAUSE.vbus_uv : Fd := ⟨R.PER_CAUSE, 1, 1⟩
abbrev F.PER_CAUSE.iin_oc : Fd := ⟨R.PER_CAUSE, 0, 0⟩
abbrev F.PER_IIN_LVL.oc_cut : Fd := ⟨R.PER_IIN_LVL, 31, 16⟩
abbrev F.PER_IIN_LVL.oc_pace : Fd := ⟨R.PER_IIN_LVL, 15, 0⟩
abbrev F.PER_VBUS_LVL.ov : Fd := ⟨R.PER_VBUS_LVL, 23, 16⟩
abbrev F.PER_VBUS_LVL.uv_cut : Fd := ⟨R.PER_VBUS_LVL, 15, 8⟩
abbrev F.PER_VBUS_LVL.uv_pace : Fd := ⟨R.PER_VBUS_LVL, 7, 0⟩
abbrev F.PER_DUTY.fb_duty : Fd := ⟨R.PER_DUTY, 25, 16⟩
abbrev F.PER_DUTY.pace_duty : Fd := ⟨R.PER_DUTY, 9, 0⟩
abbrev F.PER_HB.beat : Fd := ⟨R.PER_HB, 0, 0⟩
abbrev F.PER_MON.vbus : Fd := ⟨R.PER_MON, 31, 16⟩
abbrev F.PER_MON.iin : Fd := ⟨R.PER_MON, 15, 0⟩
abbrev F.PER_PROOF.fail_path : Fd := ⟨R.PER_PROOF, 31, 24⟩
abbrev F.PER_PROOF.passes : Fd := ⟨R.PER_PROOF, 23, 0⟩
abbrev F.PER_SLOT_CAUSE.efuse_flt (i : Nat) : Fd := ⟨(R.PER_SLOT_CAUSE i), 2, 2⟩
abbrev F.PER_SLOT_CAUSE.thermtrip (i : Nat) : Fd := ⟨(R.PER_SLOT_CAUSE i), 1, 1⟩
abbrev F.PER_SLOT_CAUSE.thm_trip (i : Nat) : Fd := ⟨(R.PER_SLOT_CAUSE i), 0, 0⟩

/-! ### Block PRS (chapter 06) -/

abbrev F.PRS_CTL.lock : Fd := ⟨R.PRS_CTL, 16, 16⟩
abbrev F.PRS_CTL.prom_margin : Fd := ⟨R.PRS_CTL, 3, 0⟩
abbrev F.PRS_STATUS.degraded : Fd := ⟨R.PRS_STATUS, 8, 8⟩
abbrev F.PRS_STATUS.spare_for : Fd := ⟨R.PRS_STATUS, 7, 5⟩
abbrev F.PRS_STATUS.conv_fail : Fd := ⟨R.PRS_STATUS, 4, 0⟩
abbrev F.PRS_VBUS_CFG.en : Fd := ⟨R.PRS_VBUS_CFG, 7, 7⟩
abbrev F.PRS_VBUS_CFG.ain : Fd := ⟨R.PRS_VBUS_CFG, 6, 0⟩
abbrev F.PRS_AIN_CFG.band_hi (i : Nat) : Fd := ⟨(R.PRS_AIN_CFG i), 31, 24⟩
abbrev F.PRS_AIN_CFG.band_lo (i : Nat) : Fd := ⟨(R.PRS_AIN_CFG i), 23, 16⟩
abbrev F.PRS_AIN_CFG.kind (i : Nat) : Fd := ⟨(R.PRS_AIN_CFG i), 2, 0⟩
abbrev F.PRS_AIN_CAL.a (i : Nat) : Fd := ⟨(R.PRS_AIN_CAL i), 31, 16⟩
abbrev F.PRS_AIN_CAL.b (i : Nat) : Fd := ⟨(R.PRS_AIN_CAL i), 15, 0⟩
abbrev F.PRS_DIODE_CFG.offset (i : Nat) : Fd := ⟨(R.PRS_DIODE_CFG i), 23, 16⟩
abbrev F.PRS_DIODE_CFG.eta (i : Nat) : Fd := ⟨(R.PRS_DIODE_CFG i), 15, 0⟩
abbrev F.PRS_FAST.fast (i : Nat) : Fd := ⟨(R.PRS_FAST i), 31, 0⟩
abbrev F.PRS_TACH.period (i : Nat) : Fd := ⟨(R.PRS_TACH i), 19, 0⟩
abbrev F.PRS_FLOW.period (i : Nat) : Fd := ⟨(R.PRS_FLOW i), 19, 0⟩
abbrev F.PRS_RO_RAW.r (i : Nat) : Fd := ⟨(R.PRS_RO_RAW i), 31, 0⟩

/-! ### Block THM (chapter 06) -/

abbrev F.THM_CTL.lock : Fd := ⟨R.THM_CTL, 16, 16⟩
abbrev F.THM_CTL.mode : Fd := ⟨R.THM_CTL, 13, 12⟩
abbrev F.THM_CTL.hyst : Fd := ⟨R.THM_CTL, 11, 8⟩
abbrev F.THM_CTL.rate_limit : Fd := ⟨R.THM_CTL, 5, 0⟩
abbrev F.THM_STATUS.trip_any : Fd := ⟨R.THM_STATUS, 17, 17⟩
abbrev F.THM_STATUS.crit_any : Fd := ⟨R.THM_STATUS, 16, 16⟩
abbrev F.THM_STATUS.crit : Fd := ⟨R.THM_STATUS, 15, 0⟩
abbrev F.THM_BROKEN_CFG.pred_margin : Fd := ⟨R.THM_BROKEN_CFG, 31, 24⟩
abbrev F.THM_BROKEN_CFG.stuck_s : Fd := ⟨R.THM_BROKEN_CFG, 23, 16⟩
abbrev F.THM_CURVE.span : Fd := ⟨R.THM_CURVE, 7, 0⟩
abbrev F.THM_ZONE_CFG.target (i : Nat) : Fd := ⟨(R.THM_ZONE_CFG i), 27, 24⟩
abbrev F.THM_ZONE_CFG.group (i : Nat) : Fd := ⟨(R.THM_ZONE_CFG i), 20, 18⟩
abbrev F.THM_ZONE_CFG.crit_duty (i : Nat) : Fd := ⟨(R.THM_ZONE_CFG i), 17, 8⟩
abbrev F.THM_ZONE_CFG.thr_step (i : Nat) : Fd := ⟨(R.THM_ZONE_CFG i), 7, 0⟩
abbrev F.THM_ZONE_THR.thr_max (i : Nat) : Fd := ⟨(R.THM_ZONE_THR i), 9, 0⟩
abbrev F.THM_ZONE_STAT.level (i : Nat) : Fd := ⟨(R.THM_ZONE_STAT i), 31, 29⟩
abbrev F.THM_ZONE_STAT.broken (i : Nat) : Fd := ⟨(R.THM_ZONE_STAT i), 28, 24⟩
abbrev F.THM_ZONE_STAT.hottest (i : Nat) : Fd := ⟨(R.THM_ZONE_STAT i), 15, 0⟩
abbrev F.THM_ZONE_PRED.rate (i : Nat) : Fd := ⟨(R.THM_ZONE_PRED i), 31, 16⟩
abbrev F.THM_ZONE_PRED.temp (i : Nat) : Fd := ⟨(R.THM_ZONE_PRED i), 15, 0⟩
abbrev F.THM_GROUP.pumps (i : Nat) : Fd := ⟨(R.THM_GROUP i), 19, 16⟩
abbrev F.THM_GROUP.fans (i : Nat) : Fd := ⟨(R.THM_GROUP i), 15, 0⟩
abbrev F.THM_THR_DUTY.duty (i : Nat) : Fd := ⟨(R.THM_THR_DUTY i), 9, 0⟩
abbrev F.THM_SNS_CFG.en (i : Nat) : Fd := ⟨(R.THM_SNS_CFG i), 5, 5⟩
abbrev F.THM_SNS_CFG.zone (i : Nat) : Fd := ⟨(R.THM_SNS_CFG i), 4, 0⟩
abbrev F.THM_SNS_LVL.levels (i : Nat) : Fd := ⟨(R.THM_SNS_LVL i), 31, 0⟩
abbrev F.THM_SNS_VAL.broken (i : Nat) : Fd := ⟨(R.THM_SNS_VAL i), 31, 31⟩
abbrev F.THM_SNS_VAL.level (i : Nat) : Fd := ⟨(R.THM_SNS_VAL i), 30, 28⟩
abbrev F.THM_SNS_VAL.rate (i : Nat) : Fd := ⟨(R.THM_SNS_VAL i), 27, 16⟩
abbrev F.THM_SNS_VAL.value (i : Nat) : Fd := ⟨(R.THM_SNS_VAL i), 15, 0⟩
abbrev F.THM_BROKEN.broken (i : Nat) : Fd := ⟨(R.THM_BROKEN i), 31, 0⟩
abbrev F.THM_BROKEN_SET.mark (i : Nat) : Fd := ⟨(R.THM_BROKEN_SET i), 31, 0⟩
abbrev F.THM_FAN_CFG.min_rpm (i : Nat) : Fd := ⟨(R.THM_FAN_CFG i), 31, 16⟩
abbrev F.THM_FAN_CFG.ppr (i : Nat) : Fd := ⟨(R.THM_FAN_CFG i), 9, 8⟩
abbrev F.THM_FAN_CFG.fail_100ms (i : Nat) : Fd := ⟨(R.THM_FAN_CFG i), 7, 0⟩
abbrev F.THM_FAN_STAT.failed (i : Nat) : Fd := ⟨(R.THM_FAN_STAT i), 31, 31⟩
abbrev F.THM_FAN_STAT.forced (i : Nat) : Fd := ⟨(R.THM_FAN_STAT i), 30, 30⟩
abbrev F.THM_FAN_STAT.duty (i : Nat) : Fd := ⟨(R.THM_FAN_STAT i), 25, 16⟩
abbrev F.THM_FAN_STAT.rpm (i : Nat) : Fd := ⟨(R.THM_FAN_STAT i), 15, 0⟩
abbrev F.THM_PUMP_CFG.min_rpm (i : Nat) : Fd := ⟨(R.THM_PUMP_CFG i), 31, 16⟩
abbrev F.THM_PUMP_CFG.tach_en (i : Nat) : Fd := ⟨(R.THM_PUMP_CFG i), 12, 12⟩
abbrev F.THM_PUMP_CFG.tach (i : Nat) : Fd := ⟨(R.THM_PUMP_CFG i), 11, 8⟩
abbrev F.THM_PUMP_CFG.fail_100ms (i : Nat) : Fd := ⟨(R.THM_PUMP_CFG i), 7, 0⟩
abbrev F.THM_PUMP_STAT.failed (i : Nat) : Fd := ⟨(R.THM_PUMP_STAT i), 31, 31⟩
abbrev F.THM_PUMP_STAT.forced (i : Nat) : Fd := ⟨(R.THM_PUMP_STAT i), 30, 30⟩
abbrev F.THM_PUMP_STAT.flt (i : Nat) : Fd := ⟨(R.THM_PUMP_STAT i), 29, 29⟩
abbrev F.THM_PUMP_STAT.duty (i : Nat) : Fd := ⟨(R.THM_PUMP_STAT i), 25, 16⟩
abbrev F.THM_PUMP_STAT.rpm (i : Nat) : Fd := ⟨(R.THM_PUMP_STAT i), 15, 0⟩
abbrev F.THM_FLOW_CFG.kfactor (i : Nat) : Fd := ⟨(R.THM_FLOW_CFG i), 31, 16⟩
abbrev F.THM_FLOW_CFG.min_flow (i : Nat) : Fd := ⟨(R.THM_FLOW_CFG i), 15, 8⟩
abbrev F.THM_FLOW_CFG.groups (i : Nat) : Fd := ⟨(R.THM_FLOW_CFG i), 7, 0⟩
abbrev F.THM_FLOW_STAT.lost (i : Nat) : Fd := ⟨(R.THM_FLOW_STAT i), 31, 31⟩
abbrev F.THM_FLOW_STAT.flow (i : Nat) : Fd := ⟨(R.THM_FLOW_STAT i), 15, 0⟩
abbrev F.THM_VALVE_CFG.normal (i : Nat) : Fd := ⟨(R.THM_VALVE_CFG i), 16, 16⟩
abbrev F.THM_VALVE_CFG.pull_ms (i : Nat) : Fd := ⟨(R.THM_VALVE_CFG i), 15, 8⟩
abbrev F.THM_VALVE_CFG.hold_pct (i : Nat) : Fd := ⟨(R.THM_VALVE_CFG i), 7, 0⟩
abbrev F.THM_VALVE_CTL.forced : Fd := ⟨R.THM_VALVE_CTL, 15, 8⟩
abbrev F.THM_VALVE_CTL.on : Fd := ⟨R.THM_VALVE_CTL, 7, 0⟩

/-! ### Block LKD (chapter 07) -/

abbrev F.LKD_CTL.zone_en : Fd := ⟨R.LKD_CTL, 7, 0⟩
abbrev F.LKD_STATUS.confirmed : Fd := ⟨R.LKD_STATUS, 31, 24⟩
abbrev F.LKD_STATUS.wet : Fd := ⟨R.LKD_STATUS, 23, 16⟩
abbrev F.LKD_STATUS.open_ : Fd := ⟨R.LKD_STATUS, 15, 8⟩
abbrev F.LKD_STATUS.test_fail : Fd := ⟨R.LKD_STATUS, 7, 0⟩
abbrev F.LKD_VALVE_LEAK.state : Fd := ⟨R.LKD_VALVE_LEAK, 7, 0⟩
abbrev F.LKD_ZONE_CFG.valves (i : Nat) : Fd := ⟨(R.LKD_ZONE_CFG i), 31, 24⟩
abbrev F.LKD_ZONE_CFG.loop_10ohm (i : Nat) : Fd := ⟨(R.LKD_ZONE_CFG i), 23, 16⟩
abbrev F.LKD_ZONE_CFG.dry_kohm (i : Nat) : Fd := ⟨(R.LKD_ZONE_CFG i), 15, 8⟩
abbrev F.LKD_ZONE_CFG.wet_kohm (i : Nat) : Fd := ⟨(R.LKD_ZONE_CFG i), 7, 0⟩
abbrev F.LKD_ZONE_MEAS.z_ab (i : Nat) : Fd := ⟨(R.LKD_ZONE_MEAS i), 31, 16⟩
abbrev F.LKD_ZONE_MEAS.loop (i : Nat) : Fd := ⟨(R.LKD_ZONE_MEAS i), 15, 0⟩
abbrev F.LKD_ZONE_WET.count (i : Nat) : Fd := ⟨(R.LKD_ZONE_WET i), 31, 0⟩
abbrev F.LKD_ZONE_TFAIL.count (i : Nat) : Fd := ⟨(R.LKD_ZONE_TFAIL i), 31, 0⟩

/-! ### Block SEQ (chapter 03) -/

abbrev F.SEQ_CTL.cfg_lock : Fd := ⟨R.SEQ_CTL, 2, 2⟩
abbrev F.SEQ_CTL.auto_on : Fd := ⟨R.SEQ_CTL, 1, 1⟩
abbrev F.SEQ_STATUS.tray_state : Fd := ⟨R.SEQ_STATUS, 3, 2⟩
abbrev F.SEQ_STATUS.gate_fail : Fd := ⟨R.SEQ_STATUS, 1, 1⟩
abbrev F.SEQ_STATUS.gate_req : Fd := ⟨R.SEQ_STATUS, 0, 0⟩
abbrev F.SEQ_INPUT_CFG.gate_timeout : Fd := ⟨R.SEQ_INPUT_CFG, 23, 16⟩
abbrev F.SEQ_INPUT_CFG.vmax : Fd := ⟨R.SEQ_INPUT_CFG, 15, 8⟩
abbrev F.SEQ_INPUT_CFG.vmin : Fd := ⟨R.SEQ_INPUT_CFG, 7, 0⟩
abbrev F.SEQ_PREC.raise_auth : Fd := ⟨R.SEQ_PREC, 1, 0⟩
abbrev F.SEQ_RBCAP_SLOT.step : Fd := ⟨R.SEQ_RBCAP_SLOT, 31, 24⟩
abbrev F.SEQ_RBCAP_SLOT.watts : Fd := ⟨R.SEQ_RBCAP_SLOT, 15, 0⟩
abbrev F.SEQ_RBCAP_TRAY.watts : Fd := ⟨R.SEQ_RBCAP_TRAY, 15, 0⟩
abbrev F.SEQ_PMIC_LIM.vmax : Fd := ⟨R.SEQ_PMIC_LIM, 31, 16⟩
abbrev F.SEQ_PMIC_LIM.vmin : Fd := ⟨R.SEQ_PMIC_LIM, 15, 0⟩
abbrev F.SEQ_EFUSE_STATUS.fault : Fd := ⟨R.SEQ_EFUSE_STATUS, 31, 24⟩
abbrev F.SEQ_EFUSE_STATUS.flt : Fd := ⟨R.SEQ_EFUSE_STATUS, 23, 16⟩
abbrev F.SEQ_EFUSE_STATUS.pg : Fd := ⟨R.SEQ_EFUSE_STATUS, 15, 8⟩
abbrev F.SEQ_EFUSE_STATUS.en : Fd := ⟨R.SEQ_EFUSE_STATUS, 7, 0⟩
abbrev F.SEQ_DOM_EN.en (i : Nat) : Fd := ⟨(R.SEQ_DOM_EN i), 31, 0⟩
abbrev F.SEQ_DOM_PG.pg (i : Nat) : Fd := ⟨(R.SEQ_DOM_PG i), 31, 0⟩
abbrev F.SEQ_DOM_FAULT.fault (i : Nat) : Fd := ⟨(R.SEQ_DOM_FAULT i), 31, 0⟩
abbrev F.SEQ_DOM_CFG.fault_action (i : Nat) : Fd := ⟨(R.SEQ_DOM_CFG i), 29, 28⟩
abbrev F.SEQ_DOM_CFG.discharge (i : Nat) : Fd := ⟨(R.SEQ_DOM_CFG i), 27, 20⟩
abbrev F.SEQ_DOM_CFG.pg_timeout (i : Nat) : Fd := ⟨(R.SEQ_DOM_CFG i), 19, 12⟩
abbrev F.SEQ_DOM_CFG.kind (i : Nat) : Fd := ⟨(R.SEQ_DOM_CFG i), 9, 8⟩
abbrev F.SEQ_DOM_CFG.zone (i : Nat) : Fd := ⟨(R.SEQ_DOM_CFG i), 7, 4⟩
abbrev F.SEQ_DOM_CFG.owner (i : Nat) : Fd := ⟨(R.SEQ_DOM_CFG i), 3, 0⟩
abbrev F.SEQ_DOM_BUS.segment (i : Nat) : Fd := ⟨(R.SEQ_DOM_BUS i), 24, 23⟩
abbrev F.SEQ_DOM_BUS.addr (i : Nat) : Fd := ⟨(R.SEQ_DOM_BUS i), 22, 16⟩
abbrev F.SEQ_DOM_BUS.vset_max (i : Nat) : Fd := ⟨(R.SEQ_DOM_BUS i), 15, 8⟩
abbrev F.SEQ_DOM_BUS.vset_min (i : Nat) : Fd := ⟨(R.SEQ_DOM_BUS i), 7, 0⟩
abbrev F.SEQ_EFUSE_CFG.pg_timeout (i : Nat) : Fd := ⟨(R.SEQ_EFUSE_CFG i), 11, 4⟩
abbrev F.SEQ_EFUSE_CFG.zone (i : Nat) : Fd := ⟨(R.SEQ_EFUSE_CFG i), 3, 0⟩
abbrev F.SEQ_CLAUSE_STAT.reason (i : Nat) : Fd := ⟨(R.SEQ_CLAUSE_STAT i), 31, 24⟩
abbrev F.SEQ_CLAUSE_STAT.index (i : Nat) : Fd := ⟨(R.SEQ_CLAUSE_STAT i), 23, 12⟩
abbrev F.SEQ_CLAUSE_STAT.clause (i : Nat) : Fd := ⟨(R.SEQ_CLAUSE_STAT i), 11, 7⟩
abbrev F.SEQ_CLAUSE_STAT.state (i : Nat) : Fd := ⟨(R.SEQ_CLAUSE_STAT i), 6, 5⟩
abbrev F.SEQ_BIND.down_valid (i : Nat) : Fd := ⟨(R.SEQ_BIND i), 13, 13⟩
abbrev F.SEQ_BIND.down (i : Nat) : Fd := ⟨(R.SEQ_BIND i), 12, 8⟩
abbrev F.SEQ_BIND.up_valid (i : Nat) : Fd := ⟨(R.SEQ_BIND i), 5, 5⟩
abbrev F.SEQ_BIND.up (i : Nat) : Fd := ⟨(R.SEQ_BIND i), 4, 0⟩

/-! ### Block CMA (chapter 04) -/

abbrev F.CMA_CTL.link_en : Fd := ⟨R.CMA_CTL, 7, 0⟩
abbrev F.CMA_LINK_CFG.dead_ms : Fd := ⟨R.CMA_LINK_CFG, 23, 16⟩
abbrev F.CMA_LINK_CFG.loss_frames : Fd := ⟨R.CMA_LINK_CFG, 15, 8⟩
abbrev F.CMA_LINK_CFG.lane_err : Fd := ⟨R.CMA_LINK_CFG, 7, 0⟩
abbrev F.CMA_STATUS.lane_fail (i : Nat) : Fd := ⟨(R.CMA_STATUS i), 7, 4⟩
abbrev F.CMA_STATUS.state (i : Nat) : Fd := ⟨(R.CMA_STATUS i), 2, 0⟩
abbrev F.CMA_PACE_CTL.scrub (i : Nat) : Fd := ⟨(R.CMA_PACE_CTL i), 31, 31⟩
abbrev F.CMA_PACE_CTL.hold (i : Nat) : Fd := ⟨(R.CMA_PACE_CTL i), 30, 30⟩
abbrev F.CMA_PACE_CTL.emergency (i : Nat) : Fd := ⟨(R.CMA_PACE_CTL i), 29, 29⟩
abbrev F.CMA_PACE_CTL.duty (i : Nat) : Fd := ⟨(R.CMA_PACE_CTL i), 9, 0⟩
abbrev F.CMA_RAMP.valid (i : Nat) : Fd := ⟨(R.CMA_RAMP i), 12, 12⟩
abbrev F.CMA_RAMP.ramp_id (i : Nat) : Fd := ⟨(R.CMA_RAMP i), 11, 8⟩
abbrev F.CMA_RAMP.ramp_start (i : Nat) : Fd := ⟨(R.CMA_RAMP i), 7, 0⟩
abbrev F.CMA_CTX.changed (i : Nat) : Fd := ⟨(R.CMA_CTX i), 23, 23⟩
abbrev F.CMA_CTX.rep_valid (i : Nat) : Fd := ⟨(R.CMA_CTX i), 22, 22⟩
abbrev F.CMA_CTX.rep_ctx (i : Nat) : Fd := ⟨(R.CMA_CTX i), 21, 18⟩
abbrev F.CMA_CTX.exp_valid (i : Nat) : Fd := ⟨(R.CMA_CTX i), 5, 5⟩
abbrev F.CMA_CTX.exp_ctx (i : Nat) : Fd := ⟨(R.CMA_CTX i), 4, 1⟩
abbrev F.CMA_CHG_TICK.tick (i : Nat) : Fd := ⟨(R.CMA_CHG_TICK i), 31, 0⟩
abbrev F.CMA_INTENT.intent (i : Nat) : Fd := ⟨(R.CMA_INTENT i), 31, 0⟩
abbrev F.CMA_ACC.count (i : Nat) (j : Nat) : Fd := ⟨(R.CMA_ACC i j), 31, 0⟩
abbrev F.CMA_ACC_FLAGS.frame_sat (i : Nat) : Fd := ⟨(R.CMA_ACC_FLAGS i), 7, 4⟩
abbrev F.CMA_ACC_FLAGS.overflow (i : Nat) : Fd := ⟨(R.CMA_ACC_FLAGS i), 3, 0⟩
abbrev F.CMA_ERR.count (i : Nat) (j : Nat) : Fd := ⟨(R.CMA_ERR i j), 31, 0⟩
abbrev F.CMA_MISS.count (i : Nat) : Fd := ⟨(R.CMA_MISS i), 31, 0⟩
abbrev F.CMA_COALESCE.count (i : Nat) : Fd := ⟨(R.CMA_COALESCE i), 31, 0⟩

/-! ### Block BUF (chapter 05) -/

abbrev F.BUF_CTL.lock : Fd := ⟨R.BUF_CTL, 16, 16⟩
abbrev F.BUF_CTL.fall_en : Fd := ⟨R.BUF_CTL, 3, 3⟩
abbrev F.BUF_CTL.ramp_en : Fd := ⟨R.BUF_CTL, 2, 2⟩
abbrev F.BUF_CTL.chg_en : Fd := ⟨R.BUF_CTL, 1, 1⟩
abbrev F.BUF_CTL.en : Fd := ⟨R.BUF_CTL, 0, 0⟩
abbrev F.BUF_STATUS.phase_fail : Fd := ⟨R.BUF_STATUS, 15, 12⟩
abbrev F.BUF_STATUS.chg_ok : Fd := ⟨R.BUF_STATUS, 11, 11⟩
abbrev F.BUF_STATUS.dis_ok : Fd := ⟨R.BUF_STATUS, 10, 10⟩
abbrev F.BUF_STATUS.rest : Fd := ⟨R.BUF_STATUS, 9, 9⟩
abbrev F.BUF_STATUS.slope_exceeded : Fd := ⟨R.BUF_STATUS, 8, 8⟩
abbrev F.BUF_STATUS.mode : Fd := ⟨R.BUF_STATUS, 2, 0⟩
abbrev F.BUF_LIM.chg_w : Fd := ⟨R.BUF_LIM, 31, 16⟩
abbrev F.BUF_LIM.dis_w : Fd := ⟨R.BUF_LIM, 15, 0⟩
abbrev F.BUF_BANK_CFG.eff : Fd := ⟨R.BUF_BANK_CFG, 31, 24⟩
abbrev F.BUF_BANK_CFG.ibank_max : Fd := ⟨R.BUF_BANK_CFG, 23, 16⟩
abbrev F.BUF_BANK_CFG.cap : Fd := ⟨R.BUF_BANK_CFG, 15, 0⟩
abbrev F.BUF_BANK_V.vmax : Fd := ⟨R.BUF_BANK_V, 31, 24⟩
abbrev F.BUF_BANK_V.vfloor : Fd := ⟨R.BUF_BANK_V, 23, 16⟩
abbrev F.BUF_BANK_V.vbank : Fd := ⟨R.BUF_BANK_V, 15, 0⟩
abbrev F.BUF_BANK_I.ibank : Fd := ⟨R.BUF_BANK_I, 15, 0⟩
abbrev F.BUF_TEMP_CFG.chg_tmax : Fd := ⟨R.BUF_TEMP_CFG, 15, 8⟩
abbrev F.BUF_TEMP_CFG.chg_tmin : Fd := ⟨R.BUF_TEMP_CFG, 7, 0⟩
abbrev F.BUF_TEMP_SRC.src0 : Fd := ⟨R.BUF_TEMP_SRC, 7, 0⟩
abbrev F.BUF_TEMP_SRC.src1 : Fd := ⟨R.BUF_TEMP_SRC, 15, 8⟩
abbrev F.BUF_TEMP_SRC.src2 : Fd := ⟨R.BUF_TEMP_SRC, 23, 16⟩
abbrev F.BUF_TEMP_SRC.src3 : Fd := ⟨R.BUF_TEMP_SRC, 31, 24⟩
abbrev F.BUF_TEMP_STAT.broken : Fd := ⟨R.BUF_TEMP_STAT, 11, 8⟩
abbrev F.BUF_TEMP_STAT.hottest : Fd := ⟨R.BUF_TEMP_STAT, 7, 0⟩
abbrev F.BUF_SETPT.chg_ceil : Fd := ⟨R.BUF_SETPT, 31, 16⟩
abbrev F.BUF_SETPT.dis_ceil : Fd := ⟨R.BUF_SETPT, 15, 0⟩
abbrev F.BUF_SLOPE_CFG.iin_gain : Fd := ⟨R.BUF_SLOPE_CFG, 31, 16⟩
abbrev F.BUF_SLOPE_CFG.slope : Fd := ⟨R.BUF_SLOPE_CFG, 15, 0⟩
abbrev F.BUF_MARGIN_CFG.achieved : Fd := ⟨R.BUF_MARGIN_CFG, 15, 8⟩
abbrev F.BUF_MARGIN_CFG.pct : Fd := ⟨R.BUF_MARGIN_CFG, 7, 0⟩
abbrev F.BUF_MARGIN_MAP0.map : Fd := ⟨R.BUF_MARGIN_MAP0, 31, 0⟩
abbrev F.BUF_MARGIN_MAP1.map : Fd := ⟨R.BUF_MARGIN_MAP1, 15, 0⟩
abbrev F.BUF_BUS_STEP.w10 : Fd := ⟨R.BUF_BUS_STEP, 31, 16⟩
abbrev F.BUF_BUS_STEP.w6 : Fd := ⟨R.BUF_BUS_STEP, 15, 0⟩
abbrev F.BUF_RAMP_CFG.stagger_us : Fd := ⟨R.BUF_RAMP_CFG, 31, 26⟩
abbrev F.BUF_RAMP_CFG.duty_start : Fd := ⟨R.BUF_RAMP_CFG, 25, 16⟩
abbrev F.BUF_RAMP_CFG.duty_step : Fd := ⟨R.BUF_RAMP_CFG, 15, 8⟩
abbrev F.BUF_RAMP_CFG.window_us : Fd := ⟨R.BUF_RAMP_CFG, 7, 0⟩
abbrev F.BUF_RAMP_CFG2.hold_max_us : Fd := ⟨R.BUF_RAMP_CFG2, 31, 20⟩
abbrev F.BUF_RAMP_CFG2.lead_us : Fd := ⟨R.BUF_RAMP_CFG2, 19, 12⟩
abbrev F.BUF_RAMP_CFG2.min_frames : Fd := ⟨R.BUF_RAMP_CFG2, 9, 0⟩
abbrev F.BUF_PLAN.dp_w : Fd := ⟨R.BUF_PLAN, 31, 16⟩
abbrev F.BUF_PLAN.tl : Fd := ⟨R.BUF_PLAN, 15, 0⟩
abbrev F.BUF_ENERGY_OUT.joules : Fd := ⟨R.BUF_ENERGY_OUT, 31, 0⟩
abbrev F.BUF_ENERGY_IN.joules : Fd := ⟨R.BUF_ENERGY_IN, 31, 0⟩
abbrev F.BUF_FAULT.sense : Fd := ⟨R.BUF_FAULT, 3, 3⟩
abbrev F.BUF_FAULT.bank_flt : Fd := ⟨R.BUF_FAULT, 2, 2⟩
abbrev F.BUF_FAULT.bank_ov : Fd := ⟨R.BUF_FAULT, 1, 1⟩
abbrev F.BUF_FAULT.phase2 : Fd := ⟨R.BUF_FAULT, 0, 0⟩
abbrev F.BUF_REL_PLANNED.count : Fd := ⟨R.BUF_REL_PLANNED, 31, 0⟩
abbrev F.BUF_REL_UNPLANNED.count : Fd := ⟨R.BUF_REL_UNPLANNED, 31, 0⟩
abbrev F.BUF_RAMP_STAT.active (i : Nat) : Fd := ⟨(R.BUF_RAMP_STAT i), 31, 31⟩
abbrev F.BUF_RAMP_STAT.released (i : Nat) : Fd := ⟨(R.BUF_RAMP_STAT i), 30, 30⟩
abbrev F.BUF_RAMP_STAT.step_frames (i : Nat) : Fd := ⟨(R.BUF_RAMP_STAT i), 29, 20⟩
abbrev F.BUF_RAMP_STAT.ramp_id (i : Nat) : Fd := ⟨(R.BUF_RAMP_STAT i), 13, 10⟩
abbrev F.BUF_RAMP_STAT.duty (i : Nat) : Fd := ⟨(R.BUF_RAMP_STAT i), 9, 0⟩

/-! ### Block CAP (chapter 04) -/

abbrev F.CAP_CTL.deadline_us : Fd := ⟨R.CAP_CTL, 28, 16⟩
abbrev F.CAP_CTL.group_valid : Fd := ⟨R.CAP_CTL, 8, 8⟩
abbrev F.CAP_CTL.group : Fd := ⟨R.CAP_CTL, 7, 0⟩
abbrev F.CAP_STATUS.lagging : Fd := ⟨R.CAP_STATUS, 17, 17⟩
abbrev F.CAP_STATUS.staged : Fd := ⟨R.CAP_STATUS, 16, 16⟩
abbrev F.CAP_STATUS.floor_scale : Fd := ⟨R.CAP_STATUS, 15, 0⟩
abbrev F.CAP_TRAY.budget : Fd := ⟨R.CAP_TRAY, 31, 16⟩
abbrev F.CAP_TRAY.eff : Fd := ⟨R.CAP_TRAY, 15, 0⟩
abbrev F.CAP_TRAY_RSV.watts : Fd := ⟨R.CAP_TRAY_RSV, 15, 0⟩
abbrev F.CAP_EPOCH_APPLIED.epoch : Fd := ⟨R.CAP_EPOCH_APPLIED, 31, 0⟩
abbrev F.CAP_EPOCH_STAGED.epoch : Fd := ⟨R.CAP_EPOCH_STAGED, 31, 0⟩
abbrev F.CAP_STAGED_W.watts : Fd := ⟨R.CAP_STAGED_W, 15, 0⟩
abbrev F.CAP_STRAG_CNT.count : Fd := ⟨R.CAP_STRAG_CNT, 31, 0⟩
abbrev F.CAP_SLOT_ALLOC.eff (i : Nat) : Fd := ⟨(R.CAP_SLOT_ALLOC i), 31, 16⟩
abbrev F.CAP_SLOT_ALLOC.alloc (i : Nat) : Fd := ⟨(R.CAP_SLOT_ALLOC i), 15, 0⟩
abbrev F.CAP_SLOT_CFG.en (i : Nat) : Fd := ⟨(R.CAP_SLOT_CFG i), 8, 8⟩
abbrev F.CAP_SLOT_CFG.ain (i : Nat) : Fd := ⟨(R.CAP_SLOT_CFG i), 6, 0⟩
abbrev F.CAP_SLOT_FAST.trim (i : Nat) : Fd := ⟨(R.CAP_SLOT_FAST i), 31, 16⟩
abbrev F.CAP_SLOT_FAST.watts (i : Nat) : Fd := ⟨(R.CAP_SLOT_FAST i), 15, 0⟩
abbrev F.CAP_FLOOR.eff (i : Nat) (j : Nat) : Fd := ⟨(R.CAP_FLOOR i j), 31, 16⟩
abbrev F.CAP_FLOOR.watts (i : Nat) (j : Nat) : Fd := ⟨(R.CAP_FLOOR i j), 15, 0⟩

/-! ### Block CNJ (chapter 10) -/

abbrev F.CNJ_CTL.lock : Fd := ⟨R.CNJ_CTL, 16, 16⟩
abbrev F.CNJ_CTL.ctl_ctx : Fd := ⟨R.CNJ_CTL, 11, 8⟩
abbrev F.CNJ_CTL.en : Fd := ⟨R.CNJ_CTL, 0, 0⟩
abbrev F.CNJ_STATUS.spares_left : Fd := ⟨R.CNJ_STATUS, 25, 24⟩
abbrev F.CNJ_STATUS.active_tiles : Fd := ⟨R.CNJ_STATUS, 20, 16⟩
abbrev F.CNJ_STATUS.ctx_free : Fd := ⟨R.CNJ_STATUS, 10, 0⟩
abbrev F.CNJ_LAUNCH.addr (k : Nat) : Fd := ⟨(R.CNJ_LAUNCH k), 31, 6⟩
abbrev F.CNJ_LAUNCH_STAT.job (k : Nat) : Fd := ⟨(R.CNJ_LAUNCH_STAT k), 13, 8⟩
abbrev F.CNJ_LAUNCH_STAT.status (k : Nat) : Fd := ⟨(R.CNJ_LAUNCH_STAT k), 3, 0⟩
abbrev F.CNJ_ABORT.job : Fd := ⟨R.CNJ_ABORT, 5, 0⟩
abbrev F.CNJ_TILE_FAIL.fail : Fd := ⟨R.CNJ_TILE_FAIL, 17, 0⟩
abbrev F.CNJ_TILE_MAP.map (i : Nat) : Fd := ⟨(R.CNJ_TILE_MAP i), 31, 0⟩
abbrev F.CNJ_JOBS_DONE.count : Fd := ⟨R.CNJ_JOBS_DONE, 31, 0⟩
abbrev F.CNJ_JOBS_FAULT.count : Fd := ⟨R.CNJ_JOBS_FAULT, 31, 0⟩
abbrev F.CNJ_JOBS_TIMEOUT.count : Fd := ⟨R.CNJ_JOBS_TIMEOUT, 31, 0⟩
abbrev F.CNJ_OOB.count : Fd := ⟨R.CNJ_OOB, 31, 0⟩
abbrev F.CNJ_JOB_STAT.state (i : Nat) : Fd := ⟨(R.CNJ_JOB_STAT i), 31, 30⟩
abbrev F.CNJ_JOB_STAT.issuer (i : Nat) : Fd := ⟨(R.CNJ_JOB_STAT i), 27, 24⟩
abbrev F.CNJ_JOB_STAT.prio (i : Nat) : Fd := ⟨(R.CNJ_JOB_STAT i), 23, 23⟩
abbrev F.CNJ_JOB_STAT.mode (i : Nat) : Fd := ⟨(R.CNJ_JOB_STAT i), 22, 22⟩
abbrev F.CNJ_JOB_STAT.slot (i : Nat) : Fd := ⟨(R.CNJ_JOB_STAT i), 21, 18⟩
abbrev F.CNJ_JOB_STAT.running (i : Nat) : Fd := ⟨(R.CNJ_JOB_STAT i), 10, 0⟩
abbrev F.CNJ_PART_TS.size (i : Nat) : Fd := ⟨(R.CNJ_PART_TS i), 15, 8⟩
abbrev F.CNJ_PART_TS.base (i : Nat) : Fd := ⟨(R.CNJ_PART_TS i), 7, 0⟩
abbrev F.CNJ_PART_DDR.size (i : Nat) : Fd := ⟨(R.CNJ_PART_DDR i), 26, 16⟩
abbrev F.CNJ_PART_DDR.base (i : Nat) : Fd := ⟨(R.CNJ_PART_DDR i), 9, 0⟩
abbrev F.CNJ_PART_SH.size (i : Nat) : Fd := ⟨(R.CNJ_PART_SH i), 28, 16⟩
abbrev F.CNJ_PART_SH.base (i : Nat) : Fd := ⟨(R.CNJ_PART_SH i), 12, 0⟩
abbrev F.CNJ_PART_CTL.part_busy (i : Nat) : Fd := ⟨(R.CNJ_PART_CTL i), 2, 2⟩
abbrev F.CNJ_PART_CTL.zero (i : Nat) : Fd := ⟨(R.CNJ_PART_CTL i), 1, 1⟩
abbrev F.CNJ_PART_CTL.valid (i : Nat) : Fd := ⟨(R.CNJ_PART_CTL i), 0, 0⟩

/-! ### Block QUA (chapter 11) -/

abbrev F.QUA_CTL.lock : Fd := ⟨R.QUA_CTL, 16, 16⟩
abbrev F.QUA_REFUSED.count : Fd := ⟨R.QUA_REFUSED, 31, 0⟩
abbrev F.QUA_ENV.max (i : Nat) : Fd := ⟨(R.QUA_ENV i), 31, 16⟩
abbrev F.QUA_ENV.min (i : Nat) : Fd := ⟨(R.QUA_ENV i), 15, 0⟩
abbrev F.QUA_SLEW.dn (i : Nat) : Fd := ⟨(R.QUA_SLEW i), 31, 16⟩
abbrev F.QUA_SLEW.up (i : Nat) : Fd := ⟨(R.QUA_SLEW i), 15, 0⟩
abbrev F.QUA_TIGHT.tmax (i : Nat) : Fd := ⟨(R.QUA_TIGHT i), 31, 16⟩
abbrev F.QUA_TIGHT.tmin (i : Nat) : Fd := ⟨(R.QUA_TIGHT i), 15, 0⟩
abbrev F.QUA_TGT.target (i : Nat) : Fd := ⟨(R.QUA_TGT i), 15, 0⟩
abbrev F.QUA_OUT.applied (i : Nat) : Fd := ⟨(R.QUA_OUT i), 31, 16⟩
abbrev F.QUA_OUT.out (i : Nat) : Fd := ⟨(R.QUA_OUT i), 15, 0⟩
abbrev F.QUA_CNT.slewed (i : Nat) : Fd := ⟨(R.QUA_CNT i), 31, 16⟩
abbrev F.QUA_CNT.clamped (i : Nat) : Fd := ⟨(R.QUA_CNT i), 15, 0⟩
abbrev F.QUA_INFO.kind (i : Nat) : Fd := ⟨(R.QUA_INFO i), 26, 24⟩
abbrev F.QUA_INFO.index (i : Nat) : Fd := ⟨(R.QUA_INFO i), 5, 0⟩

/-! ### Block AGR (chapter 12) -/

abbrev F.AGR_CTL.lock : Fd := ⟨R.AGR_CTL, 16, 16⟩
abbrev F.AGR_CTL.net_en : Fd := ⟨R.AGR_CTL, 0, 0⟩
abbrev F.AGR_STATUS.grp_event : Fd := ⟨R.AGR_STATUS, 4, 4⟩
abbrev F.AGR_STATUS.dump_frozen : Fd := ⟨R.AGR_STATUS, 3, 3⟩
abbrev F.AGR_STATUS.dump_valid : Fd := ⟨R.AGR_STATUS, 2, 2⟩
abbrev F.AGR_STATUS.poisoned : Fd := ⟨R.AGR_STATUS, 1, 1⟩
abbrev F.AGR_STATUS.misuse : Fd := ⟨R.AGR_STATUS, 0, 0⟩
abbrev F.AGR_NET_CFG.ethertype : Fd := ⟨R.AGR_NET_CFG, 31, 16⟩
abbrev F.AGR_NET_CFG.domain : Fd := ⟨R.AGR_NET_CFG, 15, 0⟩
abbrev F.AGR_NET_VLAN.vid : Fd := ⟨R.AGR_NET_VLAN, 11, 0⟩
abbrev F.AGR_NET_TIME.lost_rounds : Fd := ⟨R.AGR_NET_TIME, 31, 24⟩
abbrev F.AGR_NET_TIME.relay_us : Fd := ⟨R.AGR_NET_TIME, 23, 16⟩
abbrev F.AGR_NET_TIME.collect_us : Fd := ⟨R.AGR_NET_TIME, 15, 8⟩
abbrev F.AGR_NET_TIME.retry_us : Fd := ⟨R.AGR_NET_TIME, 7, 0⟩
abbrev F.AGR_MISUSE_CNT.count : Fd := ⟨R.AGR_MISUSE_CNT, 31, 0⟩
abbrev F.AGR_RX_DROP.count : Fd := ⟨R.AGR_RX_DROP, 31, 0⟩
abbrev F.AGR_RETRY_CNT.count : Fd := ⟨R.AGR_RETRY_CNT, 31, 0⟩
abbrev F.AGR_LINE_MAP.spare1_for : Fd := ⟨R.AGR_LINE_MAP, 15, 10⟩
abbrev F.AGR_LINE_MAP.spare0_for : Fd := ⟨R.AGR_LINE_MAP, 9, 4⟩
abbrev F.AGR_LINE_MAP.spares_left : Fd := ⟨R.AGR_LINE_MAP, 1, 0⟩
abbrev F.AGR_DUMP_CTL.freeze : Fd := ⟨R.AGR_DUMP_CTL, 8, 8⟩
abbrev F.AGR_DUMP_CTL.trig_en : Fd := ⟨R.AGR_DUMP_CTL, 3, 0⟩
abbrev F.AGR_DUMP_REQ.go : Fd := ⟨R.AGR_DUMP_REQ, 0, 0⟩
abbrev F.AGR_OBJ_IDX.idx (k : Nat) : Fd := ⟨(R.AGR_OBJ_IDX k), 9, 0⟩
abbrev F.AGR_OBJ_BASE.word (k : Nat) : Fd := ⟨(R.AGR_OBJ_BASE k), 21, 0⟩
abbrev F.AGR_OBJ_LEN.words (k : Nat) : Fd := ⟨(R.AGR_OBJ_LEN k), 16, 0⟩
abbrev F.AGR_OBJ_OWN.heirs (k : Nat) : Fd := ⟨(R.AGR_OBJ_OWN k), 28, 16⟩
abbrev F.AGR_OBJ_OWN.kind (k : Nat) : Fd := ⟨(R.AGR_OBJ_OWN k), 11, 8⟩
abbrev F.AGR_OBJ_OWN.owner (k : Nat) : Fd := ⟨(R.AGR_OBJ_OWN k), 7, 0⟩
abbrev F.AGR_OBJ_CMD.cmd (k : Nat) : Fd := ⟨(R.AGR_OBJ_CMD k), 2, 0⟩
abbrev F.AGR_OBJ_RES.result (k : Nat) : Fd := ⟨(R.AGR_OBJ_RES k), 31, 30⟩
abbrev F.AGR_OBJ_RES.reason (k : Nat) : Fd := ⟨(R.AGR_OBJ_RES k), 29, 26⟩
abbrev F.AGR_OBJ_RES.state (k : Nat) : Fd := ⟨(R.AGR_OBJ_RES k), 25, 24⟩
abbrev F.AGR_OBJ_RES.remain (k : Nat) : Fd := ⟨(R.AGR_OBJ_RES k), 16, 0⟩
abbrev F.AGR_LINE_CFG.group (i : Nat) : Fd := ⟨(R.AGR_LINE_CFG i), 31, 24⟩
abbrev F.AGR_LINE_CFG.net (i : Nat) : Fd := ⟨(R.AGR_LINE_CFG i), 23, 23⟩
abbrev F.AGR_LINE_CFG.owner (i : Nat) : Fd := ⟨(R.AGR_LINE_CFG i), 16, 13⟩
abbrev F.AGR_LINE_CFG.members (i : Nat) : Fd := ⟨(R.AGR_LINE_CFG i), 12, 0⟩
abbrev F.AGR_LINE_STAT.poisoned (i : Nat) : Fd := ⟨(R.AGR_LINE_STAT i), 31, 31⟩
abbrev F.AGR_LINE_STAT.sense (i : Nat) : Fd := ⟨(R.AGR_LINE_STAT i), 30, 30⟩
abbrev F.AGR_LINE_STAT.net_pending (i : Nat) : Fd := ⟨(R.AGR_LINE_STAT i), 29, 29⟩
abbrev F.AGR_LINE_STAT.parked (i : Nat) : Fd := ⟨(R.AGR_LINE_STAT i), 25, 13⟩
abbrev F.AGR_LINE_STAT.arrived (i : Nat) : Fd := ⟨(R.AGR_LINE_STAT i), 12, 0⟩
abbrev F.AGR_LINE_ROUND.round (i : Nat) : Fd := ⟨(R.AGR_LINE_ROUND i), 31, 0⟩
abbrev F.AGR_LINE_MIS.count (i : Nat) : Fd := ⟨(R.AGR_LINE_MIS i), 31, 0⟩
abbrev F.AGR_GRP_CFG.role (i : Nat) : Fd := ⟨(R.AGR_GRP_CFG i), 29, 28⟩
abbrev F.AGR_GRP_CFG.children (i : Nat) : Fd := ⟨(R.AGR_GRP_CFG i), 22, 16⟩
abbrev F.AGR_GRP_CFG.member (i : Nat) : Fd := ⟨(R.AGR_GRP_CFG i), 15, 0⟩
abbrev F.AGR_GRP_ROUND.phase_us (i : Nat) : Fd := ⟨(R.AGR_GRP_ROUND i), 31, 16⟩
abbrev F.AGR_GRP_ROUND.period_us (i : Nat) : Fd := ⟨(R.AGR_GRP_ROUND i), 15, 0⟩
abbrev F.AGR_GRP_GEN.generation (i : Nat) : Fd := ⟨(R.AGR_GRP_GEN i), 31, 0⟩
abbrev F.AGR_GRP_STAT.state (i : Nat) : Fd := ⟨(R.AGR_GRP_STAT i), 31, 30⟩
abbrev F.AGR_GRP_STAT.lost (i : Nat) : Fd := ⟨(R.AGR_GRP_STAT i), 7, 0⟩
abbrev F.AGR_GRP_LAG.map (i : Nat) (j : Nat) : Fd := ⟨(R.AGR_GRP_LAG i j), 31, 0⟩
abbrev F.AGR_GRP_LOST.map (i : Nat) (j : Nat) : Fd := ⟨(R.AGR_GRP_LOST i j), 31, 0⟩
abbrev F.AGR_DUMP.data (i : Nat) : Fd := ⟨(R.AGR_DUMP i), 31, 0⟩

/-! ### Block ETH (chapter 13) -/

abbrev F.ETH_CTL.lock : Fd := ⟨R.ETH_CTL, 16, 16⟩
abbrev F.ETH_CTL.roce_pcp : Fd := ⟨R.ETH_CTL, 10, 8⟩
abbrev F.ETH_CTL.en : Fd := ⟨R.ETH_CTL, 0, 0⟩
abbrev F.ETH_MKA_CFG.ks_prio : Fd := ⟨R.ETH_MKA_CFG, 31, 24⟩
abbrev F.ETH_MKA_CFG.rekey_h : Fd := ⟨R.ETH_MKA_CFG, 23, 16⟩
abbrev F.ETH_MKA_CFG.replay : Fd := ⟨R.ETH_MKA_CFG, 15, 0⟩
abbrev F.ETH_PTP_CFG.domain : Fd := ⟨R.ETH_PTP_CFG, 31, 24⟩
abbrev F.ETH_PTP_CFG.prio1 : Fd := ⟨R.ETH_PTP_CFG, 23, 16⟩
abbrev F.ETH_PTP_CFG.ports : Fd := ⟨R.ETH_PTP_CFG, 15, 8⟩
abbrev F.ETH_PTP_CFG.log_sync : Fd := ⟨R.ETH_PTP_CFG, 7, 4⟩
abbrev F.ETH_PTP_CFG.transport : Fd := ⟨R.ETH_PTP_CFG, 3, 2⟩
abbrev F.ETH_PTP_CFG.two_step : Fd := ⟨R.ETH_PTP_CFG, 1, 1⟩
abbrev F.ETH_PTP_CFG.p2p : Fd := ⟨R.ETH_PTP_CFG, 0, 0⟩
abbrev F.ETH_PTP_ROLE.role : Fd := ⟨R.ETH_PTP_ROLE, 1, 0⟩
abbrev F.ETH_UP_CFG.rec_per_ms : Fd := ⟨R.ETH_UP_CFG, 28, 16⟩
abbrev F.ETH_UP_CFG.fwd_sev : Fd := ⟨R.ETH_UP_CFG, 3, 0⟩
abbrev F.ETH_UP_SHED.count : Fd := ⟨R.ETH_UP_SHED, 31, 0⟩
abbrev F.ETH_RKEY_ERR.count : Fd := ⟨R.ETH_RKEY_ERR, 31, 0⟩
abbrev F.ETH_QP_ACTIVE.count : Fd := ⟨R.ETH_QP_ACTIVE, 12, 0⟩
abbrev F.ETH_PORT_CFG.mgmt (i : Nat) : Fd := ⟨(R.ETH_PORT_CFG i), 5, 5⟩
abbrev F.ETH_PORT_CFG.macsec_req (i : Nat) : Fd := ⟨(R.ETH_PORT_CFG i), 4, 4⟩
abbrev F.ETH_PORT_CFG.split (i : Nat) : Fd := ⟨(R.ETH_PORT_CFG i), 3, 3⟩
abbrev F.ETH_PORT_CFG.phy (i : Nat) : Fd := ⟨(R.ETH_PORT_CFG i), 2, 1⟩
abbrev F.ETH_PORT_CFG.en (i : Nat) : Fd := ⟨(R.ETH_PORT_CFG i), 0, 0⟩
abbrev F.ETH_PORT_STAT.macsec (i : Nat) : Fd := ⟨(R.ETH_PORT_STAT i), 9, 8⟩
abbrev F.ETH_PORT_STAT.ptp (i : Nat) : Fd := ⟨(R.ETH_PORT_STAT i), 7, 6⟩
abbrev F.ETH_PORT_STAT.failover (i : Nat) : Fd := ⟨(R.ETH_PORT_STAT i), 3, 3⟩
abbrev F.ETH_PORT_STAT.fec_lock (i : Nat) : Fd := ⟨(R.ETH_PORT_STAT i), 2, 2⟩
abbrev F.ETH_PORT_STAT.link (i : Nat) : Fd := ⟨(R.ETH_PORT_STAT i), 1, 1⟩
abbrev F.ETH_PORT_STAT.present (i : Nat) : Fd := ⟨(R.ETH_PORT_STAT i), 0, 0⟩
abbrev F.ETH_PORT_IP4.addr (i : Nat) : Fd := ⟨(R.ETH_PORT_IP4 i), 31, 0⟩
abbrev F.ETH_PORT_QPS.count (i : Nat) : Fd := ⟨(R.ETH_PORT_QPS i), 12, 0⟩
abbrev F.ETH_RX_DROP.count (i : Nat) (j : Nat) : Fd := ⟨(R.ETH_RX_DROP i j), 31, 0⟩
abbrev F.ETH_FEC_CORR.count (i : Nat) : Fd := ⟨(R.ETH_FEC_CORR i), 31, 0⟩
abbrev F.ETH_FEC_UNCORR.count (i : Nat) : Fd := ⟨(R.ETH_FEC_UNCORR i), 31, 0⟩
abbrev F.ETH_MACSEC_DROP.count (i : Nat) : Fd := ⟨(R.ETH_MACSEC_DROP i), 31, 0⟩
abbrev F.ETH_PORT_IP6.addr (i : Nat) (j : Nat) : Fd := ⟨(R.ETH_PORT_IP6 i j), 31, 0⟩

/-! ### Block MBX (chapter 13) -/

abbrev F.MBX_CTL.lock : Fd := ⟨R.MBX_CTL, 16, 16⟩
abbrev F.MBX_CTL.en : Fd := ⟨R.MBX_CTL, 0, 0⟩
abbrev F.MBX_PENDING.pending : Fd := ⟨R.MBX_PENDING, 15, 0⟩
abbrev F.MBX_OVERRUN.overrun : Fd := ⟨R.MBX_OVERRUN, 15, 0⟩
abbrev F.MBX_ASSIGN.source (i : Nat) : Fd := ⟨(R.MBX_ASSIGN i), 1, 0⟩
abbrev F.MBX_STAT.pending (i : Nat) : Fd := ⟨(R.MBX_STAT i), 31, 31⟩
abbrev F.MBX_STAT.bound (i : Nat) : Fd := ⟨(R.MBX_STAT i), 30, 30⟩
abbrev F.MBX_STAT.push (i : Nat) : Fd := ⟨(R.MBX_STAT i), 29, 29⟩
abbrev F.MBX_STAT.qp (i : Nat) : Fd := ⟨(R.MBX_STAT i), 11, 0⟩
abbrev F.MBX_DONE.push (i : Nat) : Fd := ⟨(R.MBX_DONE i), 1, 1⟩
abbrev F.MBX_DONE.done (i : Nat) : Fd := ⟨(R.MBX_DONE i), 0, 0⟩
abbrev F.MBX_CNT.count (i : Nat) : Fd := ⟨(R.MBX_CNT i), 31, 0⟩

/-! ### Block EVR (chapter 16) -/

abbrev F.EVR_CTL.lock : Fd := ⟨R.EVR_CTL, 16, 16⟩
abbrev F.EVR_CTL.shed_sev : Fd := ⟨R.EVR_CTL, 7, 4⟩
abbrev F.EVR_CTL.min_sev : Fd := ⟨R.EVR_CTL, 3, 0⟩
abbrev F.EVR_HEAD.seq : Fd := ⟨R.EVR_HEAD, 31, 0⟩
abbrev F.EVR_STAT.crit_queue : Fd := ⟨R.EVR_STAT, 13, 8⟩
abbrev F.EVR_STAT.tokens : Fd := ⟨R.EVR_STAT, 6, 0⟩
abbrev F.EVR_SHED.count (i : Nat) : Fd := ⟨(R.EVR_SHED i), 31, 0⟩

/-! ### Block INV (chapter 16) -/

abbrev F.INV_CTL.lock : Fd := ⟨R.INV_CTL, 16, 16⟩
abbrev F.INV_SLOT_CFG.addr (i : Nat) : Fd := ⟨(R.INV_SLOT_CFG i), 6, 0⟩
abbrev F.INV_SLOT_STAT.present (i : Nat) : Fd := ⟨(R.INV_SLOT_STAT i), 31, 31⟩
abbrev F.INV_SLOT_STAT.class_mismatch (i : Nat) : Fd := ⟨(R.INV_SLOT_STAT i), 30, 30⟩
abbrev F.INV_SLOT_STAT.entry (i : Nat) : Fd := ⟨(R.INV_SLOT_STAT i), 7, 0⟩

/-! ### Block SLT (chapter 17) -/

abbrev F.SLT_PMB_CFG.seg0 : Fd := ⟨R.SLT_PMB_CFG, 1, 0⟩
abbrev F.SLT_PMB_CFG.seg1 : Fd := ⟨R.SLT_PMB_CFG, 3, 2⟩
abbrev F.SLT_PMB_CFG.seg2 : Fd := ⟨R.SLT_PMB_CFG, 5, 4⟩
abbrev F.SLT_PMB_CFG.seg3 : Fd := ⟨R.SLT_PMB_CFG, 7, 6⟩
abbrev F.SLT_AVS.ack : Fd := ⟨R.SLT_AVS, 16, 16⟩
abbrev F.SLT_AVS.mv : Fd := ⟨R.SLT_AVS, 15, 0⟩
abbrev F.SLT_I3C_CFG.rate (i : Nat) : Fd := ⟨(R.SLT_I3C_CFG i), 1, 0⟩
abbrev F.SLT_STAT.fl_sel (i : Nat) : Fd := ⟨(R.SLT_STAT i), 5, 5⟩
abbrev F.SLT_STAT.rst (i : Nat) : Fd := ⟨(R.SLT_STAT i), 4, 4⟩
abbrev F.SLT_STAT.pg (i : Nat) : Fd := ⟨(R.SLT_STAT i), 3, 3⟩
abbrev F.SLT_STAT.thermtrip (i : Nat) : Fd := ⟨(R.SLT_STAT i), 2, 2⟩
abbrev F.SLT_STAT.abort (i : Nat) : Fd := ⟨(R.SLT_STAT i), 1, 1⟩
abbrev F.SLT_STAT.busy (i : Nat) : Fd := ⟨(R.SLT_STAT i), 0, 0⟩

/-! ### Block DDR (chapter 17) -/

abbrev F.DDR_CTL.lock : Fd := ⟨R.DDR_CTL, 16, 16⟩
abbrev F.DDR_CTL.rate : Fd := ⟨R.DDR_CTL, 2, 1⟩
abbrev F.DDR_CTL.en : Fd := ⟨R.DDR_CTL, 0, 0⟩
abbrev F.DDR_STATUS.trng_off : Fd := ⟨R.DDR_STATUS, 3, 3⟩
abbrev F.DDR_STATUS.state : Fd := ⟨R.DDR_STATUS, 2, 0⟩
abbrev F.DDR_ECC_CORR.count : Fd := ⟨R.DDR_ECC_CORR, 31, 0⟩
abbrev F.DDR_ECC_UNCORR.count : Fd := ⟨R.DDR_ECC_UNCORR, 31, 0⟩
abbrev F.DDR_ERR_ADDR_LO.addr : Fd := ⟨R.DDR_ERR_ADDR_LO, 31, 0⟩
abbrev F.DDR_ERR_ADDR_HI.addr : Fd := ⟨R.DDR_ERR_ADDR_HI, 15, 0⟩

/-! ### Block TMX (chapter 17) -/

abbrev F.TMX_CTL.en : Fd := ⟨R.TMX_CTL, 0, 0⟩
abbrev F.TMX_DSEL.sel (i : Nat) : Fd := ⟨(R.TMX_DSEL i), 7, 0⟩
abbrev F.TMX_ASEL.sel (i : Nat) : Fd := ⟨(R.TMX_ASEL i), 2, 0⟩

end Sys2Proof.Machine
end

