-- ==== Sys2Proof/Machine/State.lean ====
section
/-!
DEFINITION. The state of the CT856 as plain data: every register, memory, queue, counter and mode the spec gives it,
the queue of commands that wait, the two reason types of a stop, and the state after reset.
-/
namespace Sys2Proof.Machine

/-- One event record (R429): its stamp, seq, source, code, severity, whether hardware wrote it, and its payload in the
owning chapter's order. -/
structure EvRec where
  cycles : Nat
  ms : Nat
  seq : Nat
  src : Nat
  code : Nat
  sev : Nat
  hw : Bool
  payload : List Nat
deriving DecidableEq, Repr

/-- The event recorder (R429 to R431): tokens, the queue of waiting critical records (oldest first), the ring (newest
first), the next seq, the shed counts by severity, whether line 10 is raised, and the windows of R465: which events
have been recorded in which 1 s window. -/
structure Evr where
  tokens : Nat
  queue : List EvRec
  ring : List EvRec
  nextSeq : Nat
  shed : Vector Nat 5
  shedIrq : Bool
  firsts : List (Nat × Nat × Nat)
deriving DecidableEq, Repr

/-- The recorder at reset: 64 tokens, nothing recorded (R431, EVR registers). -/
def Evr.reset : Evr := ⟨64, [], [], 0, Vector.replicate 5 0, false, []⟩

/-- Tense (R52 to R59): the tick count, operating time in ms and domain time in ns, the part of a 2 ns counter step
not yet counted (in 1/10^9 ns), the power-cycle count that stamps carry, and what the recovery conditions of R46 and
R59 have counted so far. -/
structure Tense where
  tick : Nat
  opMs : Nat
  dtime : Nat
  dfrac : Int
  cycles : Nat
  /-- Ticks for which the speed has stayed above the threshold since it last fell below (R46). -/
  goodTicks : Nat
  /-- The tick at which the crystal was lost (R59). -/
  lostAt : Nat
  /-- The armed epoch deadlines by group, as latched (R57). -/
  deadlines : List (Nat × Nat)
deriving DecidableEq, Repr

/-- Tense at reset (R52). -/
def Tense.reset : Tense := ⟨0, 0, 0, 0, 0, 0, 0, []⟩

/-- What a clause instruction in progress waits for (R71). -/
inductive ClauseWait where
  /-- The discharge time of domain d (R67). -/
  | discharge (d : Nat)
  | pg (d : Nat)
  | efuse
  | slotPg
  /-- Tense has counted the time: until this tick. -/
  | time (until_ : Nat)
  /-- The acknowledge of a sideband transfer. -/
  | pmicOn (m : Nat)
  | pmicOff (m : Nat)
  | pmicVset (m rail mv : Nat)
  | regOn (d : Nat)
  | regOff (d : Nat)
  | regVset (d mv : Nat)
deriving DecidableEq, Repr

/-- A running clause (R70, R229): the core that runs it, its clause slot and bank, whether it is the up-clause, whether
the binding is FAULT at its end, whether its on_fail block runs, when it started, and its wait. -/
structure ClauseRun where
  core : Fin 13
  slot : Nat
  bank : Nat
  up : Bool
  toFault : Bool
  onFail : Bool
  started : Nat
  wait : Option ClauseWait
  /-- The tick at which the wait began. -/
  since : Nat
  /-- The discharge waits that no wait_pg has counted yet: their domains and how many us they took (R67). -/
  discharged : List (Nat × Nat)
  /-- A reduce order has come during a bus transfer: the clause stops when that instruction ends (R73). -/
  stop : Bool
deriving DecidableEq, Repr

/-- What is due for a binding: nothing, its up-clause, or its down-clause, ending OFF or FAULT. -/
inductive Due where
  | none | up | down | downFault
deriving DecidableEq, Repr

/-- One target of power orders: slot 0 to 7, or 8 the tray.  The standing orders of both sources (R74), their standing caps
as they are in force and the caps ordered since the last control tick (R95), what is due, and the clause that runs. -/
structure Target where
  stM : Nat
  stH : Nat
  capM : Option Nat
  capH : Option Nat
  newM : Option (Option Nat)
  newH : Option (Option Nat)
  due : Due
  /-- Its place in the order in which clauses became due (R70). -/
  dueNo : Nat
  run : Option ClauseRun
  /-- An ON order has come since the target became FAULT (R77). -/
  lift : Bool
deriving DecidableEq, Repr

/-- A target at reset: no orders, nothing due. -/
def Target.reset : Target := ⟨0, 0, none, none, none, none, .none, 0, none, false⟩

/-- What the controller holds of a domain beside its registers: when its enable last turned off, whether it ever did,
whether its power-good has been good since it was enabled, the regulator's OPERATION, its VOUT_COMMAND once the controller
has written it, and the base of its margin in mV (R67, R68, R71, R113). -/
structure Dom where
  offAt : Nat
  wasOff : Bool
  pgSeen : Bool
  operation : Bool
  vout : Option Nat
  base : Option Nat
deriving DecidableEq, Repr

/-- A domain at reset. -/
def Dom.reset : Dom := ⟨0, false, false, false, none, none⟩

/-- The sequencer's own state: since when the gate request is on and whether the input is good (R61, R62), the sources
whose order was cleared under R76 and not yet told, the module PMICs that are on and their last setpoints, and the tray
power-order target's final step. -/
structure Seq where
  gateAt : Nat
  inputGood : Bool
  toldM : Bool
  toldH : Bool
  pmicOn : Nat
  pmicSet : List (Nat × Nat × Nat)
  /-- The next place in the order in which clauses become due (R70). -/
  dueSeq : Nat
deriving DecidableEq, Repr

/-- The sequencer at reset. -/
def Seq.reset : Seq := ⟨0, false, false, false, 0, [], 0⟩

/-- A character of a lane (R81): K28.5 idle, K27.7 start, K29.7 end, or a byte. -/
inductive LineChar where
  | idle | start | stop
  | byte (b : BitVec 8)
deriving DecidableEq, Repr

/-- What the Comma block holds of one link beside its registers (R82 to R91): valid frames counted in TRAIN, periods without
a valid frame, when the link became LOST, the consecutive invalid frames of each receive lane and bad reports of each
transmit lane, the seq of the next pace frame, the pace frame last sent and the characters in which either transmit lane
carries it (R81, R82), whether this period has brought a valid activity frame, the valid frames and the pace periods since
the last control-tick read, the units of the counts that the device has declared, each as kind, shift and full_scale, and
its class (R270), the context reference of R91 (ctx_id 16 where there is none), and pace_echo and self_throttle of the
newest frame. -/
structure Link where
  validRun : Nat
  missRun : Nat
  lostAt : Nat
  rxBad : Vector Nat 2
  txBad : Vector Nat 2
  seq : Nat
  sent : Nat
  line : List LineChar
  got : Bool
  merged : Nat
  periods : Nat
  units : List (Nat × Nat × Nat)
  devClass : Nat
  refCtx : Nat
  refValid : Bool
  echo : Nat
  throttled : Bool
deriving DecidableEq, Repr

/-- A link at reset. -/
def Link.reset : Link :=
  ⟨0, 0, 0, Vector.replicate 2 0, Vector.replicate 2 0, 0, 0, [.idle], false, 0, 0, [], 0, 16, false, 0, false⟩

/-- The drives of slot s: whether its clause drives SLOTn_RST_N low, and whether a slot-flash update holds the mux and
the reset (R71, R405). -/
structure SlotPins where
  rstLow : Bool
  flashHold : Bool
deriving DecidableEq, Repr

/-- What the caps hold beside their registers (R98): whether the floors are scaled, and the contexts told of a floor
reduction, as slot and context; and the sum and the count of each slot's fast powers since the trims were last set (R96). -/
structure Caps where
  scaled : Bool
  told : List (Nat × Nat)
  fastSum : Vector Nat 8
  fastCnt : Nat
  /-- The 1 s window in progress by its number, how many control ticks it holds, the sums of the allocations and of the fast
  powers over it, and of the last window its number and the two averages (R107, R376). -/
  win : Nat
  winCnt : Nat
  allocSum : Vector Nat 8
  powerSum : Vector Nat 8
  winAvg : Option (Nat × List Nat × List Nat)
  /-- The same for the slots' metered powers in mW, one reading for each export refresh (R194). -/
  meterWin : Nat
  meterCnt : Nat
  meterSum : Vector Nat 8
  meterAvg : Option (Nat × List Nat)
  /-- The sums of the fast powers since each stream's last period ended, and how many control ticks they hold (R348). -/
  strSum : Vector (Vector Nat 8) 8
  strCnt : Vector Nat 8
  /-- The tray's metered powers in mW over the last second, newest first, each with its tick (R353). -/
  trayPower : List (Nat × Nat)
deriving DecidableEq, Repr

/-- What a ramp sequencer holds beside BUF_RAMP_STAT (R111, R115 to R118): whether the slot's present hint has been planned,
whether its release is awaited, the barrier_tag it was planned for, the tick of its release, the tick of the ramp_start-0
frame of a grant whose release is awaited, the step period of the grant that stands, the step period of the staircase that
runs, the frames since its last step, and whether the grant lapsed and the duty is held (R127). -/
structure Ramp where
  planned : Bool
  awaits : Bool
  tag : Nat
  releaseAt : Nat
  zeroAt : Option Nat
  next : Nat
  stair : Option Nat
  frames : Nat
  lapsed : Bool
deriving DecidableEq, Repr

/-- A ramp sequencer at reset. -/
def Ramp.reset : Ramp := ⟨false, false, 0, 0, none, 0, none, 0, false⟩

/-- A release that has been planned and is awaited (R111, R120): the mask of its slots, the tick at which READY is due and
the one until which it is held, whether the converter has been placed in READY for it, and what it takes of the tray's
capacity: the step in W that the bus carries, and what the buffer gives, in units of 1/10,000 W and of 1/(2 × 10^9) J. -/
structure Plan where
  slots : Nat
  readyAt : Nat
  holdTill : Nat
  readied : Bool
  bus : Nat
  power : Nat
  energy : Nat
deriving DecidableEq, Repr

/-- What the buffer converter holds beside its registers (R120 to R126): the plans whose release is awaited, the present
power (discharge positive) in W, the limiter's reference in W and the time since the reference began in units of 0.625 µs,
for how long the demand has been 0, the 10 µs averages of the last 100 µs (newest first), the time above 2,000 W within the
last 100 ms as pairs of end time and length in units of 0.625 µs, the converter's own time in those units, the energy not
yet counted as whole joules, and whether the discharge power stands at its limit, so that one occurrence of R125 is recorded
once. -/
structure Conv where
  plans : List Plan
  power : Int
  refW : Nat
  elapsed : Nat
  zeroFor : Nat
  iins : List Nat
  avgs : List Nat
  above : List (Nat × Nat)
  now : Nat
  outFrac : Nat
  inFrac : Nat
  limited : Bool
deriving DecidableEq, Repr

/-- The converter at reset. -/
def Conv.reset : Conv := ⟨[], 0, 0, 0, 0, [], [], [], 0, 0, 0, false⟩

/-- What THM and Parser hold of one sensor beside its registers (R134 to R146): the last result in 1/16 degC, whether
there is one, its level, whether it is promoted, the sum and count of its results since the last rate, its values at the
last ten rate instants (newest first), the rate in 1/16 degC/s, whether a rate above the limit has a cause that drives the
group, for how many rate instants it has been quiet, the tick of the last reading, and its recent results, newest first:
tick, raw reading, value. -/
structure Sensor where
  value : Int
  has : Bool
  level : Nat
  promoted : Bool
  acc : Int
  cnt : Nat
  hist : List Int
  rate : Int
  rateCause : Bool
  quiet : Nat
  lastAt : Nat
  trail : List (Nat × Int × Int)
deriving DecidableEq, Repr

/-- A sensor without a result. -/
def Sensor.reset : Sensor := ⟨0, false, 0, false, 0, 0, [], 0, false, 0, 0, []⟩

/-- What THM holds beside its registers: per zone the level last decided and the tick of its prediction, per valve when
its full drive ends, and which half of the promoted channels the next degraded round converts. -/
structure Thm where
  levels : Vector Nat 16
  predAt : Vector (Option Nat) 16
  pullEnd : Vector (Option Nat) 8
  half : Bool
deriving DecidableEq, Repr

/-- THM at reset. -/
def Thm.reset : Thm := ⟨Vector.replicate 16 0, Vector.replicate 16 none, Vector.replicate 8 none, false⟩

/-- What Period holds beside its registers (R157, R163, R172): the tick of the last write of PER_HB, the tick of the last
completed wave, and since when the inputs of the two PACE causes have been on their clear sides. -/
structure Per where
  hbAt : Nat
  waveAt : Nat
  ocClear : Option Nat
  uvClear : Option Nat
  /-- The polarity of the next leak excitation (R165). -/
  polarity : Bool
deriving DecidableEq, Repr

/-- Period at reset. -/
def Per.reset : Per := ⟨0, 0, none, none, false⟩

/-- What the leak detector holds of one zone (R166, R167, R169): the run of wet samples, since when its samples have been
dry and clear, the run of failed self-tests, and whether it passed a self-test since its last wet sample. -/
structure Rope where
  wetRun : Nat
  clearSince : Option Nat
  failRun : Nat
  passed : Bool
  /-- Event 0x0713 has been recorded for this confirmation. -/
  told : Bool
deriving DecidableEq, Repr

/-- A leak zone at reset. -/
def Rope.reset : Rope := ⟨0, none, 0, false, false⟩

/-- What a channel of Itsal counts (R178): its forward and reverse totals, the reverse energy of the interval, and the
forward energy of the interval by register for the registers selected in it, all in units of 1/128 aJ, in which the energy
of one sample is a whole number (R176, R177); and the flags of its interval (R184): VOID, LATE and OVERLOAD. -/
structure ItsChan where
  fwd : Nat
  rev : Nat
  irev : Nat
  regs : List (Nat × Nat)
  void : Bool
  late : Bool
  overload : Bool
deriving DecidableEq, Repr

/-- A channel at first power-up. -/
def ItsChan.reset : ItsChan := ⟨0, 0, 0, [], false, false, false⟩

/-- An interval that a boundary strobe has closed and whose records are still to be drained (R182, R183): its channels and
number, whether it ran to its natural end, the strobe named by the alignment that closed it, the boundary strobe, and
whether LINK and CAL hold for it. -/
structure ItsClosing where
  chans : Vector ItsChan 9
  number : Nat
  natural : Bool
  align : Option Nat
  strobe : Nat
  link : Bool
  cal : Bool
deriving DecidableEq, Repr

/-- What Itsal commits to its non-volatile store every second (R177, R182, R188, R189, R191): the channels, the
power-cycle count, the operating time in ms, the interval's number, elapsed time and length, the seal-break and
calibration counts, the discarded commands, the calibration constants (current gain, current offset, voltage gain,
voltage offset), whether LINK and CAL hold for the interval, and a closed interval that is still to be drained. -/
structure ItsCore where
  chans : Vector ItsChan 9
  cycles : Nat
  opMs : Nat
  interval : Nat
  elapsed : Nat
  len : Nat
  seals : Nat
  cals : Nat
  discards : Nat
  consts : Vector (Vector Int 4) 9
  link : Bool
  cal : Bool
  closing : Option ItsClosing
deriving DecidableEq, Repr

/-- The non-volatile store at first power-up: 15 min intervals (R182), gains of 1. -/
def ItsCore.reset : ItsCore :=
  ⟨Vector.replicate 9 ItsChan.reset, 0, 0, 0, 0, 15, 0, 0, 0,
   Vector.replicate 9 (Vector.ofFn fun i : Fin 4 => if i.val % 2 = 0 then 16777216 else 0), false, false, none⟩

/-- What a channel last measured: mV, mA, mW over the last refresh, and whether it is invalid or overloaded. -/
structure ItsRead where
  voltage : Nat
  current : Int
  power : Int
  invalid : Bool
  overload : Bool
deriving DecidableEq, Repr

/-- The calibrated samples of a channel since the last refresh of the window: how many, and the sums of their voltages in
µV, of their currents in µA and of their products in pW (R193). -/
structure ItsSum where
  n : Nat
  v : Int
  i : Int
  p : Int
deriving DecidableEq, Repr

/-- A record of the metrological log (R192) but for its CRC. -/
structure ItsRec where
  seq : Nat
  typ : Nat
  chan : Nat
  reg : Nat
  flags : Nat
  cycles : Nat
  ms : Nat
  interval : Nat
  tick : Nat
  value : Nat
  aux : Nat
deriving DecidableEq, Repr

/-- The export window as last refreshed (R193): gen, the counts, the readings, the selected registers, the status word,
the last log sequence, the ring oscillators and the sequence of LOG_FETCH. -/
structure ItsMirror where
  gen : Nat
  core : ItsCore
  reads : Vector ItsRead 9
  selected : Vector Nat 9
  status : Nat
  lastSeq : Nat
  temps : List (Int × Bool)
  fetch : Nat
  /-- VIN56 as Itsal reports it, in mV (R61, R62). -/
  vin56 : Nat
deriving DecidableEq, Repr

/-- The Itsal die (R174 to R194): whether it runs; what it counts and what it last committed; the metrological log
(newest first), the next sequence and whether it has saturated; the selected registers, the tariff switches that wait as
channel, strobe, register and whether the strobe had passed at receipt (R181), an alignment that waits with the same mark
and a new length that waits; the command link and since when it is silent; the
seal, the constants' validity, the constants written and not yet committed; the channels in the span of a failing
reference check; the last strobe; readings; ring oscillators; the sequence of the last LOG_FETCH; the export window; and
on the scheduler core's side the last log record handled (R198) and the tariff band. -/
structure Its where
  up : Bool
  cur : ItsCore
  saved : ItsCore
  log : List ItsRec
  nextSeq : Nat
  saturated : Bool
  selected : Vector Nat 9
  switches : List (Nat × Nat × Nat × Bool)
  align : Option (Nat × Bool)
  newLen : Option Nat
  linkUp : Bool
  sealOpen : Bool
  constsOk : Bool
  staged : Vector (Vector Int 4) 9
  refFail : Nat
  strobe : Nat
  reads : Vector ItsRead 9
  sums : Vector ItsSum 9
  temps : List (Int × Bool)
  fetch : Nat
  mirror : ItsMirror
  handled : Nat
  band : Nat
  /-- A band that BAND_SET has named for a strobe (R180). -/
  bandNext : Option (Nat × Nat)
  /-- Commands that firmware sends when its port is free again (R196): the core, the word, the argument. -/
  queue : List (Nat × Nat × Nat)
  /-- Commands in flight: the core, the word, the argument. -/
  flying : List (Nat × Nat × Nat)
  /-- The channels whose open frame began with a late switch. -/
  lateNow : Nat
  /-- The seven bytes of the last response of the calibration port (R190). -/
  reply : List Byte
deriving DecidableEq, Repr

/-- The selection at power-up (R178): register 0 on channel 0, register 32 on the slot channels. -/
def itsSelectReset : Vector Nat 9 := (Vector.replicate 9 32).set 0 0

/-- A reading of nothing. -/
def ItsRead.reset : ItsRead := ⟨0, 0, 0, false, false⟩

/-- Itsal before its first power-up. -/
def Its.reset : Its :=
  { up := false, cur := ItsCore.reset, saved := ItsCore.reset, log := [], nextSeq := 1, saturated := false,
    selected := itsSelectReset, switches := [], align := none, newLen := none, linkUp := true, sealOpen := false,
    constsOk := true, staged := ItsCore.reset.consts, refFail := 0, strobe := 0, reads := Vector.replicate 9 ItsRead.reset, sums := Vector.replicate 9 ⟨0, 0, 0, 0⟩,
    temps := List.replicate 8 (0, true), fetch := 0,
    mirror := ⟨0, ItsCore.reset, Vector.replicate 9 ItsRead.reset, itsSelectReset, 7, 0, List.replicate 8 (0, true), 0, 0⟩,
    handled := 0, band := 0, bandNext := none, queue := [], flying := [], lateNow := 0, reply := [] }

/-- A protection region of mode P, regions 12 to 15 (R220). -/
structure Region where
  base : Nat
  limit : Nat
  attr : Nat
deriving DecidableEq, Repr

/-- A region at reset. -/
def Region.reset : Region := ⟨0, 0, 0⟩

/-- What a waiting K32 instruction waits for (R214, R218). -/
inductive WaitFor where
  /-- LDW or LDE of the word at a physical address, into register d. -/
  | load (take : Bool) (addr : Nat) (d : Fin 32)
  /-- STF of a value into the word at a physical address. -/
  | fill (addr : Nat) (v : Word)
  /-- BWT on a line for the sense to differ from b, into register d. -/
  | barrier (line : Fin 32) (b : Bool) (d : Fin 32)
  | event
  | tick (t : Nat)
deriving DecidableEq, Repr

/-- A wait in progress: what for, since which tick, its place in the order of waiters, and, once its condition has held
or it has met a POISONED word, the status it completes with and the value it returns (R214, R298). -/
structure Wait where
  what : WaitFor
  since : Nat
  order : Nat
  grant : Option (Nat × Word)
deriving DecidableEq, Repr

/-- The run state of a core, as SYS_CORE_STAT shows it (R225). -/
inductive RunState where
  | held | running | waiting | halted
deriving DecidableEq, Repr

/-- One K32 core (R203, R219 to R226): its registers, its mode, its core registers, its mode P regions, the interrupt
lines that have been raised and not yet taken, and its wait. -/
structure Core where
  gpr : Vector Word 32
  pc : Nat
  /-- Mode P. -/
  p : Bool
  exl : Bool
  ppm : Bool
  pie : Bool
  ie : Bool
  vec : Nat
  epc : Word
  causeIrq : Bool
  causeDetail : Nat
  causeCode : Nat
  badaddr : Word
  scratch : Word
  ien : Nat
  /-- Lines raised by an edge and not yet taken. -/
  raised : Nat
  tstat : Nat
  waitlim : Nat
  retired : Nat
  pbudget : Nat
  regions : Vector Region 4
  run : RunState
  wait : Option Wait
deriving DecidableEq, Repr

/-- A core held in reset: registers zero, the program counter at the boot vector (R203). -/
def Core.reset (vec : Nat) : Core :=
  { gpr := Vector.replicate 32 0#64, pc := vec, p := false, exl := false, ppm := false, pie := false, ie := false,
    vec := 0, epc := 0#64, causeIrq := false, causeDetail := 0, causeCode := 0, badaddr := 0#64, scratch := 0#64,
    ien := 0, raised := 0, tstat := 0, waitlim := 0, retired := 0, pbudget := 0,
    regions := Vector.replicate 4 Region.reset, run := .held, wait := none }

/-- The cores at reset: each at the vector that BOOT_VEC resets to, core 0 at 0 (R390); core 0 runs its mask ROM, the others
are held (R25, R389). -/
def coresReset : Vector Core 13 := (Vector.replicate 13 (Core.reset 0x20000)).set 0 { Core.reset 0 with run := .running }

/-- A clause slot (R227 to R231): its owner (0 while EMPTY), whether an image is committed, the current bank, and the kind
and digest of the committed image. -/
structure ClauseSlot where
  owner : Nat
  loaded : Bool
  bank : Nat
  kind : Nat
  digest : Nat
deriving DecidableEq, Repr

/-- An EMPTY clause slot. -/
def ClauseSlot.reset : ClauseSlot := ⟨0, false, 0, 0, 0⟩

/-- A tensor descriptor (R243). -/
structure TDesc where
  base : Nat
  ebase : Nat
  format : Nat
  rank : Nat
  dims : Vector Nat 4
  strides : Vector Nat 3
  estrides : Vector Nat 3
deriving DecidableEq, Repr

/-- A descriptor with rank 0 and every field 0 (R245). -/
def TDesc.reset : TDesc := ⟨0, 0, 0, 0, Vector.replicate 4 0, Vector.replicate 3 0, Vector.replicate 3 0⟩

/-- The run state of a thread context (R236, R253). -/
inductive TState where
  | free | running | waiting | ended
deriving DecidableEq, Repr

/-- Bytes that a KT instruction has written and that other requesters do not see yet (R258), and whether they were stored,
which fills the words of shared SRAM (R212, R256). -/
structure KtWrite where
  addr : Nat
  bytes : List Byte
  stores : Bool
deriving DecidableEq, Repr

/-- A thread context of the Conjugator (R236, R251): its job, its number in the job, its registers, its descriptors
and its flags, and what its KT instructions have written since its last TWAIT, in issue order (R258). -/
structure Thread where
  st : TState
  job : Nat
  num : Nat
  gpr : Vector Word 32
  pc : Nat
  tds : Vector TDesc 8
  sat : Bool
  inval : Bool
  oob : Bool
  tstat : Nat
  retired : Nat
  wait : Option Wait
  pend : List KtWrite
deriving DecidableEq, Repr

/-- A free thread context. -/
def Thread.reset : Thread :=
  ⟨.free, 0, 0, Vector.replicate 32 0#64, 0, Vector.replicate 8 TDesc.reset, false, false, false, 0, 0, none, []⟩

/-- The state of a job number (R250, R253, CNJ_JOB_STAT). -/
inductive JState where
  | free | queued | running | ending
deriving DecidableEq, Repr

/-- A job (R249): its record as read at the launch, who launched it, when it was accepted, its place in the order of
acceptance, and what it has gathered for its completion word. -/
structure Job where
  st : JState
  issuer : Nat
  prio : Nat
  modeP : Bool
  slot : Nat
  entry : Nat
  arg : Nat
  done : Nat
  threads : Nat
  limitUs : Nat
  accepted : Nat
  order : Nat
  sat : Bool
  inval : Bool
  oob : Bool
  /-- Why it ends: 0 DONE, 1 FAULT, 2 ABORTED, 3 TIMEOUT (R254). -/
  status : Nat
  cause : Nat
  faultThread : Nat
  faultPc : Nat
  /-- The events 0x0A00 to 0x0A02 it has recorded (R267). -/
  recorded : Nat
deriving DecidableEq, Repr

/-- A free job number. -/
def Job.reset : Job := ⟨.free, 0, 0, false, 0, 0, 0, 0, 0, 0, 0, 0, false, false, false, 0, 0, 0, 0, 0⟩

/-- A model slot (R289 to R294): its owner (0 while EMPTY), its state (0 EMPTY, 1 STAGED, 2 LOADED, 3 ACTIVE, 4 DEMOTED),
and of the committed image its role, cadence, count of outputs, threads, time limit, code size, entry and digest. -/
structure Model where
  owner : Nat
  state : Nat
  role : Nat
  cadence : Nat
  nOut : Nat
  threads : Nat
  limitUs : Nat
  codeSize : Nat
  entry : Nat
  digest : Nat
  /-- The slot and context of the session it was committed in, if it was (R365). -/
  bound : Option (Nat × Nat)
  /-- The output block of its last DONE (R293). -/
  out : List Byte
  /-- The model-signing key slot its image was signed under (R380). -/
  keySlot : Nat
deriving DecidableEq, Repr

/-- An EMPTY model slot. -/
def Model.reset : Model := ⟨0, 0, 0, 0, 0, 0, 0, 0, 0, 0, none, [], 0⟩

/-- A role (R286, MODEL_CFG): the model slot that holds it, whether its built-in controller is demoted, the run of
discarded evaluations and the cause of the last, the fail limit, and the run of probes that would have been valid. -/
structure Role where
  holder : Option Nat
  demoted : Bool
  run : Nat
  cause : Nat
  limit : Nat
  probes : Nat
  /-- All discarded evaluations of its controllers. -/
  total : Nat
  /-- A demoted built-in controller is to be evaluated once (R286). -/
  probing : Bool
deriving DecidableEq, Repr

/-- The attribution of a slot for an interval (R277, R278): the unassigned overhead, and per register its overhead and
boundary energy, as the model returned them. -/
structure Attrib where
  interval : Nat
  slot : Nat
  out : List (BitVec 32)
  regs : List Nat
deriving DecidableEq, Repr

/-- The result of an evaluation (R254, R285): the status and the flags of its completion word, whether it came too late or
its start was skipped, and its output words. -/
structure EvalRes where
  status : Nat
  sat : Bool
  inval : Bool
  oob : Bool
  late : Bool
  skipped : Bool
  out : List (BitVec 32)
deriving DecidableEq, Repr

/-- A job in flight: its number, and its place in the order of acceptance, which no other job has. -/
abbrev JobRef := Nat × Nat

/-- A job of the service image's own (R268, R277), as its record has it (R249), with the addresses of its input and of its
output blocks.  Where they lie is the service image's affair (log entry 88). -/
structure SvcJob where
  entry : Nat
  threads : Nat
  done : Nat
  ins : List Nat
  outs : List Nat
deriving DecidableEq, Repr

/-- No such job. -/
def SvcJob.reset : SvcJob := ⟨0, 0, 0, [], []⟩

/-- The evaluations of a control tick (R268): its tick, the tick job and its result once it has ended, and the jobs of host
models, each with its role and its result once it has ended. -/
structure Chain where
  began : Nat
  job : Option JobRef
  cls : Option EvalRes
  hosts : List (Nat × JobRef × Option EvalRes)
deriving DecidableEq, Repr

/-- What the attribution model is given of an interval (R277): the CLOSE values of its metered records by channel, register
and energy, the 1 ms means, and the timeline: slot, context and CMA_CHG_TICK. -/
structure AttribIn where
  interval : Nat
  energies : List (Nat × Nat × Nat)
  means : List (List Nat)
  timeline : List (Nat × Nat × Nat)
deriving DecidableEq, Repr

/-- Learned control: the model slots, the roles by number (0 stands for none), the attribution and its interval, the class
and the confidence that the phase classifier last gave each slot (R273), and the droop predictor's draws. -/
structure Learned where
  models : Vector Model 16
  roles : Vector Role 4
  attribs : List Attrib
  attribInterval : Option Nat
  phase : List (Nat × BitVec 32)
  posts : Vector (Option Nat) 8
  /-- The sensors that differ from their estimates, with the tick since when they have (R144). -/
  differs : List (Nat × Nat)
  /-- The estimates of the sensors that the thermal role last returned, in 1/16 degC as 16 bits (R276). -/
  estimates : List Nat
  /-- The service image's tick job, thermal job and attribution job. -/
  svc : Vector SvcJob 3
  /-- The control tick's evaluations in flight, the thermal job with its tick, and the attribution job with its interval. -/
  chain : Option Chain
  thermal : Option (JobRef × Nat)
  attrib : Option (JobRef × Nat)
  attribIn : Option AttribIn
  /-- The normalized counts of the last control tick, four for each slot (R271), and what the phase classifier is given of
  the last 16 ticks, newest first (R272). -/
  counts : List (BitVec 32)
  history : List (List (BitVec 32))
  /-- The sums of the millisecond in progress and its control ticks, those of the last whole millisecond, the 1 ms means by
  interval, and the context switches by interval: slot, context and CMA_CHG_TICK (R275, R277). -/
  msSum : List Nat
  msCnt : Nat
  msLast : List Nat × Nat
  means : List (Nat × List Nat)
  timeline : List (Nat × Nat × Nat × Nat)
deriving DecidableEq, Repr

/-- Learned control without a service image: fail limits of 40 and 10 (R286). -/
def Learned.reset : Learned :=
  { models := Vector.replicate 16 Model.reset
    roles := Vector.ofFn fun i : Fin 4 => ⟨none, false, 0, 0, if i.val = 3 then 10 else 40, 0, 0, false⟩
    attribs := [], attribInterval := none, phase := [], posts := Vector.replicate 8 none, differs := [], estimates := []
    svc := Vector.replicate 3 SvcJob.reset, chain := none, thermal := none, attrib := none, attribIn := none
    counts := [], history := [], msSum := [], msCnt := 0, msLast := ([], 0), means := [], timeline := [] }

/-- An entry of the object table (R296): a range of words of shared SRAM, its owner code, its heirs and its kind;
whether it is POISONED, and which of its words have been reinitialized since (R299). -/
structure Obj where
  base : Nat
  len : Nat
  owner : Nat
  heirs : Nat
  kind : Nat
  poisoned : Bool
  cleared : List Nat
  /-- The core that has claimed it since it was poisoned (R299). -/
  claimer : Option Nat
deriving DecidableEq, Repr

/-- What a barrier line holds beside its registers: its 64-bit round, and for a network barrier the children that have
arrived, whether this device has sent its ARRIVE, whether poison is to be reported upward, whether its physical line failed
with no spare left, and whether this device has sent or forwarded the RELEASE that poisons its open round (R307, R315 to
R317). -/
structure LineX where
  round : Nat
  kids : Nat
  sentArrive : Bool
  poisonUp : Bool
  dead : Bool
  /-- The tick at which its ARRIVE was last sent (R316). -/
  sentAt : Nat
  poisonSent : Bool
deriving DecidableEq, Repr

/-- A line at reset. -/
def LineX.reset : LineX := ⟨0, 0, false, false, false, 0, false⟩

/-- What a group holds beside its registers (R309 to R314): the peer table as copied at the commit, the boundary last
produced (its index and its domain time), the emergency map, what has been heard from the children and the parent since
then, the epochs each child showed, and the state of the EPOCH exchange. -/
structure Grp where
  parent : Peer
  kids : List Peer
  mcast : Peer
  /-- Domain time up to which boundaries have been produced (R56). -/
  upTo : Nat
  lastBoundary : Nat
  /-- Children whose ROUND arrived since the last boundary. -/
  heard : Nat
  /-- Boundaries in a row each child missed. -/
  missed : List Nat
  beaconHeard : Bool
  beaconMissed : Nat
  /-- Children that report an emergency. -/
  emerg : Nat
  /-- The lagging, lost and emergency maps that each child's ROUND carried since the last boundary. -/
  below : List (Nat × Nat × Nat)
  /-- The applied epoch each child's last ROUND showed. -/
  kidApplied : List Nat
  /-- Children that have staged the epoch in exchange, with everything below them. -/
  kidStaged : Nat
  /-- As the coordinator: the epoch it has ordered, the shares it gave, the commit limit, whether COMMIT was sent, the
  boundary it named, and the not-staged map it carried. -/
  ordered : Nat
  limit : Nat
  committed : Nat
  named : Nat
  notStaged : Nat
  /-- A COMMIT held for its named boundary: epoch and boundary. -/
  held : Option (Nat × Nat)
  /-- STAGED sent and not yet answered by a COMMIT: when last sent and how often retransmitted. -/
  stagedOpen : Bool
  stagedAt : Nat
  stagedTries : Nat
  /-- A relay's STAGED that waits for its 5 µs (R313). -/
  stagedDue : Bool
  /-- The epochs of the last beacon. -/
  beaconApplied : Nat
  beaconCommitted : Nat
  /-- The boundary for which the relay's upward ROUND, or the root's examination, is still due. -/
  examDue : Bool
  /-- The tray reports itself lagging (R101) or under emergency (R105) in its next upward ROUND. -/
  selfLagging : Bool
  selfEmerg : Bool
  /-- ROUND frames for a boundary that this device has not come to: child, flags and body words (R311). -/
  ahead : List (Nat × Nat × List Nat)
  stepped : Bool
deriving DecidableEq, Repr

/-- A group just committed with a peer table. -/
def Grp.fresh (parent : Peer) (kids : List Peer) (mcast : Peer) (now : Nat) : Grp :=
  { parent := parent, kids := kids, mcast := mcast, upTo := now, lastBoundary := 0, heard := 2 ^ 64 - 1,
    missed := List.replicate 64 0, beaconHeard := true, beaconMissed := 0, emerg := 0, below := List.replicate 64 (0, 0, 0),
    kidApplied := List.replicate 64 0, kidStaged := 0, ordered := 0, limit := 0,
    committed := 0, named := 0, notStaged := 0, held := none, stagedOpen := false, stagedAt := 0, stagedTries := 0, stagedDue := false,
    beaconApplied := 0, beaconCommitted := 0, examDue := false, selfLagging := false, selfEmerg := false, ahead := [], stepped := false }

/-- An Agreement frame as handed to a port (R318, R319, R328): the port, the MAC addresses of the peer it goes to and of the
port it comes from, the VLAN identifier of its 802.1Q tag and its EtherType, and of its payload the domain, group, type,
flags, sender, generation, the sender's domain time and the five 8-byte words of the body. -/
structure AgrTx where
  port : Nat
  dest : Nat
  src : Nat
  vid : Nat
  ethertype : Nat
  domain : Nat
  group : Nat
  typ : Nat
  flags : Nat
  sender : Nat
  generation : Nat
  dtime : Nat
  body : List Nat
deriving DecidableEq, Repr

/-- A dump that a trigger has asked for: the trigger, the core, and the dump of that instant (R323). -/
structure DumpReq where
  trigger : Nat
  core : Nat
  entries : Nat
  bytes : List Byte
deriving DecidableEq, Repr

/-- What left an Ethernet port besides Agreement frames (R50, R330, R334, R344, R349): a PFC pause, a remote access error
NAK, the data of a READ, a WRITE with or without an immediate, a CM reply with its rkeys or a refusal, a CNP, or a PTP
message, an event message with its timestamp. -/
inductive EthTx where
  | pause (port prio : Nat)
  | nak (qp : Nat)
  | readData (qp : Nat) (bytes : List Byte)
  | write (qp addr : Nat) (imm : Option Nat) (bytes : List Byte)
  | cmRep (qp : Nat) (rkeys : List Nat)
  | cmRefused (qp : Nat)
  | cnp (qp : Nat)
  | ptp (port : Nat) (stamp : Option Nat)
  | announce (port clockClass : Nat)
  /-- A request to a worker's mailbox: the child, the class and command, and the payload (R353). -/
  | request (child cls cmd : Nat) (payload : List Byte)
deriving DecidableEq, Repr

/-- A frame as it leaves (R327, R331): its logical port, the priority of its 802.1Q tag, which a PFC pause has none of,
whether it carries a SecTAG, and what it carries. -/
structure EthFrame where
  port : Nat
  tag : Option Nat
  secTag : Bool
  body : EthTx
deriving DecidableEq, Repr

/-- A connected QP (R328, R330, R334): its number, source, paths, binding, whether it delivers in PUSH mode and where, the
rkeys of its windows (window kind and index with the rkey), its sending rate in 1/65536 of the line rate, when the rate
was last halved, when the last CNP came, and when the last one was sent. -/
structure Qp where
  num : Nat
  source : Nat
  port : Nat
  alt : Option Nat
  mailbox : Option Nat
  stream : Option Nat
  push : Bool
  pushAddr : Nat
  pushLen : Nat
  rkeys : List (Nat × Nat × Nat)
  rate : Nat
  halvedAt : Option Nat
  cnpAt : Option Nat
  cnpSentAt : Option Nat
  error : Bool
deriving DecidableEq, Repr

/-- A logical port beside its registers (R50, R326 to R333): how many bytes each receive FIFO holds, the priorities whose
peers this port has paused and those a peer has paused here, when its present SAK was installed, the MKA peer last SECURED
with, and the last timestamp taken of a PTP event message (R58). -/
structure Port where
  fifo : Vector Nat 8
  pausing : Nat
  paused : Nat
  sakAt : Nat
  sakGen : Nat
  mkaPeer : Nat
  stamp : Option Nat
deriving DecidableEq, Repr

/-- A port at reset. -/
def Port.reset : Port := ⟨Vector.replicate 8 0, 0, 0, 0, 0, 0, none⟩

/-- A telemetry stream (R346, R348, R349): its owner, mode (0 off, 1 PULL, 2 PUSH), record types, period, severity floor,
subscriber's ring, generation, the seq of its next record, what was dropped, when its next period ends, the next event
seq to send, the gap to report: reason, count and first seq; and the newest seq written. -/
structure Stream where
  owner : Nat
  mode : Nat
  types : Nat
  periodMs : Nat
  minSev : Nat
  rkey : Nat
  target : Nat
  ringRec : Nat
  generation : Nat
  seq : Nat
  dropped : Nat
  nextAt : Nat
  evNext : Nat
  gap : Option (Nat × Nat × Nat)
  lastConf : Nat
  newest : Nat
deriving DecidableEq, Repr

/-- A stream that is off. -/
def Stream.reset : Stream := ⟨0, 0, 0, 1, 0, 0, 0, 16, 0, 0, 0, 0, 0, none, 0, 0xFFFFFFFF⟩

/-- The Ethernet block and the mailboxes beside their registers: QPs, ports, streams, the upward budget (R352) in records
with when it was filled, the rkeys granted so far (R334), the mailbox served last (R343), what has left the ports, and what
waits for a peer's pause to end, oldest first (R327). -/
structure Eth where
  qps : List Qp
  ports : Vector Port 8
  streams : Vector Stream 8
  rkeysUsed : List Nat
  budget : Nat
  budgetAt : Nat
  lastServed : Nat
  out : List EthFrame
  held : List EthFrame
  /-- Pending PLDM state (R347, R408): the command code of the request of the controller's own that awaits an answer, the
  components applied, and the component at work. -/
  pldmReq : Option Nat
  pldmApplied : List Nat
  pldmStaging : Option (Nat × Nat × Nat)
  /-- What the summaries of the children say: the last of each child, and its power in 10 W with its tick over the last
  second (R351, R353). -/
  kidSums : List (Nat × List SumEntry)
  kidPower : List (Nat × Nat × Nat)
deriving DecidableEq, Repr

/-- The Ethernet block at reset. -/
def Eth.reset : Eth :=
  ⟨[], Vector.replicate 8 Port.reset, Vector.replicate 8 Stream.reset, [], 0, 0, 15, [], [], none, [], none, [], []⟩

/-- The fuses that the manual names (R131, R327, R356, R359, R387, R388, R424): lifecycle, key kill, serial, owner digests,
security versions, image-signing keys, the manufacture repair of tiles, lines, rows and converters, the identity key, CAK
and CKN, the MAC addresses of the logical ports, and the coefficients c0, c1 and c2 of each ring-oscillator sensor. -/
structure Fuses where
  lifecycle : Nat
  keyKill : Bool
  serial : Nat
  ownerDig : Nat
  dbgDig : Nat
  svnResident : Nat
  svnService : Nat
  keysFused : Nat
  keysRevoked : Nat
  keyDigs : Vector Nat 4
  tilesBad : Nat
  linesBad : Nat
  rowsSh : List Nat
  rowsTs : List Nat
  convsBad : Nat
  identityKey : Nat
  cak : Nat
  ckn : Nat
  macs : Vector Nat 8
  coefs : Vector (Vector Int 3) 64
deriving DecidableEq, Repr

/-- The fuses of a device as it ships: PROVISIONED, with key slot 0 fused (R359, R387); every other fuse value is the
model's (log entry 7). -/
def Fuses.reset : Fuses :=
  { lifecycle := 1, keyKill := false, serial := 0, ownerDig := 0, dbgDig := 0, svnResident := 0, svnService := 0,
    keysFused := 1, keysRevoked := 0, keyDigs := Vector.replicate 4 0, tilesBad := 0, linesBad := 0, rowsSh := [],
    rowsTs := [], convsBad := 0, identityKey := 0, cak := 0, ckn := 0, macs := Vector.replicate 8 0,
    coefs := Vector.replicate 64 (Vector.replicate 3 0) }

/-- A session with a context owner (R373, R374): its number, context and state, the last counter, the tenant's ephemeral
key and the device's, S_B, and the 20 bytes of the session key and its salt. -/
structure Session where
  num : Nat
  slot : Nat
  ctx : Nat
  active : Bool
  counter : Nat
  ephemeral : Nat
  own : Nat
  confirm : Nat
  key : Nat
  /-- How many tags have failed (R374). -/
  fails : Nat
deriving DecidableEq, Repr

/-- A signing request in the queue (R371): the mailbox to answer, the nonce, and for a session report its session. -/
structure SignReq where
  mailbox : Nat
  nonce : Nat
  session : Option Nat
  binding : Nat
deriving DecidableEq, Repr

/-- What the security core's firmware and key unit hold beside the registers: open contexts with their tenant key
digests, sessions, the debug nonce and when it was drawn, signing requests, model-signing keys, the slots that still have
to pass a scrub before confidential mode ends and when the mode was entered, the scrub step each slot has reached with
the departing context, the context logs, reports signed, whether the security core's own image is verified (R370), and the
two DDR5 keys, once drawn (R356). -/
structure Sec where
  contexts : List ((Nat × Nat) × Nat)
  sessions : List Session
  nextSession : Nat
  nonce : Option (Nat × Nat)
  signing : List SignReq
  modelKeys : Vector (Option Nat) 8
  /-- The owner's signatures that are kept with them (R356). -/
  keySigs : Vector Nat 8
  confWait : Nat
  confSince : Nat
  scrubStep : Vector Nat 8
  leaving : Vector (Option Nat) 8
  ctxLogs : List ((Nat × Nat) × List EvRec)
  reports : Nat
  verified : Bool
  ddrKeys : Option (Nat × Nat)
deriving DecidableEq, Repr

/-- The security state at reset. -/
def Sec.reset : Sec :=
  ⟨[], [], 0, none, [], Vector.replicate 8 none, Vector.replicate 8 0, 0, 0, Vector.replicate 8 0, Vector.replicate 8 none, [], 0, false, none⟩

/-- A metadata record of a resident-image slot (R394). -/
structure MetaRec where
  slot : Nat
  state : Nat
  attempts : Nat
  flags : Nat
  svn : Nat
  seq : Nat
  size : Nat
  digest : Nat
deriving DecidableEq, Repr

/-- A slot-flash update in progress (R405 to R407): the component's size and digest. -/
structure SlotFlash where
  size : Nat
  digest : Nat
deriving DecidableEq, Repr

/-- An activation that is queued (R400): 1 resident or 2 service, the manager flag, and when it was accepted. -/
structure Activation where
  target : Nat
  manager : Bool
  since : Nat
deriving DecidableEq, Repr

/-- A section of an image as loaded (R386): its region number, its address and size, the mask of its cores, and its
attributes. -/
structure Sect where
  index : Nat
  base : Nat
  size : Nat
  cores : Nat
  attr : Nat
deriving DecidableEq, Repr

/-- An image that the security core has verified: its digest D, svn and version. -/
structure ImageId where
  digest : Nat
  svn : Nat
  version : Nat
deriving DecidableEq, Repr

/-- No image. -/
def ImageId.none : ImageId := ⟨0, 0, 0⟩

/-- What boot and update hold beside the registers: the records of the metadata sector in use, newest first; the resident-image slot
that runs (0 A, 1 B, 2 golden), its identity, sections and vectors; whether a service image runs on cores 1 and 2, and its
identity; the staged service image and its bank; the sections and the vectors of cores 1 and 2 of each bank; the queued
activations; the health window with its end, whether it is a service image's, and whether the manager has to confirm and
has; the bank and image that ran before the activation; the halts of cores 1 and 2 within the window; whether a slot of the
resident flash is being programmed; slot-flash updates; and whether the resident image is a TRIAL. -/
structure Boot where
  records : List MetaRec
  /-- The generation of the metadata sector in use (R394). -/
  metaGen : Nat
  running : Nat
  resident : ImageId
  resSects : List Sect
  resVectors : List Nat
  svcUp : Bool
  service : ImageId
  staged : ImageId
  stagedBank : Nat
  bankSects : Vector (List Sect) 2
  vectors : Vector (Nat × Nat) 2
  queue : List Activation
  windowEnd : Option Nat
  windowSvc : Bool
  needManager : Bool
  managerOk : Bool
  prevBank : Option Nat
  prev : ImageId
  windowHalts : Vector Nat 2
  programming : Bool
  slotFlash : Vector (Option SlotFlash) 8
  trial : Bool
deriving DecidableEq, Repr

/-- Boot at reset: nothing in the metadata sectors, nothing loaded. -/
def Boot.reset : Boot :=
  { records := [], metaGen := 0, running := 0, resident := ImageId.none, resSects := [], resVectors := [], svcUp := false,
    service := ImageId.none, staged := ImageId.none, stagedBank := 0, bankSects := Vector.replicate 2 [],
    vectors := Vector.replicate 2 (0, 0), queue := [], windowEnd := none, windowSvc := false, needManager := false,
    managerOk := false, prevBank := none, prev := ImageId.none, windowHalts := Vector.replicate 2 0, programming := false,
    slotFlash := Vector.replicate 8 none, trial := false }

/-- What the reset block holds beside its registers (R414 to R424): when each core last restarted its watchdog, when
MAIN_EN was driven on, since when the STANDBY conditions of R415 have held, when a lost main supply is retried, whether
main power is shed and since when the logic-die sensors have been cool (R448), the words of each row that have shown
corrected errors (R424), and the words whose last error was uncorrectable. -/
structure Rst where
  wdogAt : Vector Nat 13
  mainEnAt : Nat
  idleSince : Option Nat
  retryAt : Option Nat
  shed : Bool
  coolSince : Option Nat
  rowErrs : List ((Bool × Nat) × List Nat)
  badWords : List Nat
  /-- A RESET message has been answered and its warm reset follows (R434). -/
  warmDue : Bool
  /-- When the main supply was last lost (R443). -/
  lossAt : Option Nat
  /-- After a second loss of the main supply STANDBY is kept until a RESET message or a new tray ON order (R443). -/
  lossHold : Bool
deriving DecidableEq, Repr

/-- The reset block at reset. -/
def Rst.reset : Rst := ⟨Vector.replicate 13 0, 0, none, none, false, none, [], [], false, none, false⟩

/-- An inventory entry (R433): serial, dev_class, last slot, how long its eFuse was on in us, failures, and the
power-cycle count at which it was last seen. -/
structure InvEntry where
  serial : Nat
  cls : Nat
  slot : Nat
  onUs : Nat
  failures : Nat
  lastCycle : Nat
deriving DecidableEq, Repr

/-- The inventory (R432, R433): the entries by index, their copy in flash, the firmware identifier
and the last serial of each slot, the modules' identities, and when each slot's eFuse was turned on. -/
structure Inv where
  entries : List (Nat × InvEntry)
  saved : List (Nat × InvEntry)
  fwIds : Vector Nat 8
  serials : Vector Nat 8
  classes : Vector Nat 8
  modules : List (Nat × Nat × Nat × Nat)
  onAt : Vector (Option Nat) 8
deriving DecidableEq, Repr

/-- An empty inventory. -/
def Inv.reset : Inv :=
  ⟨[], [], Vector.replicate 8 0, Vector.replicate 8 0, Vector.replicate 8 0, [], Vector.replicate 8 none⟩

/-- An entry of the repair record (R433). -/
structure RepairEntry where
  kind : Nat
  state : Nat
  index : Nat
  cycle : Nat
deriving DecidableEq, Repr

/-- The TAP (R378, R460): the instruction last selected (0 IDCODE, 1 BYPASS, 2 EXTEST, 3 SAMPLE), what its data register
captured, and the bytes that EXTEST drives. -/
structure Tap where
  ir : Nat
  dr : List Byte
  drive : Option (List Byte)
deriving DecidableEq, Repr

/-- The TAP at reset: IDCODE selected. -/
def Tap.reset : Tap := ⟨0, [], none⟩

/-- The state of the CT856. -/
structure State where
  /-- Commands waiting, first in, first out. -/
  pending : List Instr
  /-- The always-on supply of the logic die is good; false is the state OFF (R413). -/
  powered : Bool
  /-- The CSR file: every register that differs from its reset value. -/
  csr : List (Nat × W32)
  /-- Memory: every byte that differs from what an unlisted address reads as. -/
  mem : List Host.Cell
  /-- The full/empty tags: the words of shared SRAM that are FULL (R212), by word number. -/
  tags : List (Nat × Bool)
  /-- How many free values have been drawn; the model's own field, not the spec's. -/
  free : Nat
  /-- The next place in the order of waiters (R214). -/
  waitSeq : Nat
  /-- Tense (R52). -/
  tns : Tense
  /-- The K32 cores (R199). -/
  cores : Vector Core 13
  /-- The thread contexts that are not free (R236). -/
  threads : List (Nat × Thread)
  /-- The jobs that are not free, by job number (R250). -/
  jobs : List (Nat × Job)
  /-- The physical tile of each logical tile (R236, R264). -/
  tiles : List Nat
  /-- The next place in the order of acceptance (R251). -/
  jobSeq : Nat
  /-- The event recorder (R429). -/
  evr : Evr
  /-- The object table: the entries in use (R296). -/
  objs : List (Nat × Obj)
  /-- What the barrier lines hold beside AGR_LINE_CFG, AGR_LINE_STAT and AGR_LINE_ROUND (R303, R315). -/
  lines : Vector LineX 32
  /-- The Agreement groups that have been committed (R309). -/
  grps : List (Nat × Grp)
  /-- The Agreement frames handed to the ports, oldest first; the model's record of what left the device. -/
  agrOut : List AgrTx
  /-- The dump window: the bytes of the dump it holds (R323). -/
  dumpWin : List Byte
  /-- The dumps triggered and not yet written into the window, in the order of their triggers (R323). -/
  dumpNext : List DumpReq
  /-- The targets of power orders: slots 0 to 7 and the tray (R74). -/
  targets : Vector Target 9
  /-- The switched domains (R64, R67). -/
  doms : Vector Dom 48
  /-- The sequencer (R61, R62, R76). -/
  seq : Seq
  /-- The cores that halted and when, newest first (R421). -/
  haltTimes : List (Nat × Nat)
  /-- The Comma links (R82 to R91). -/
  links : Vector Link 8
  /-- The role: ROLE[1:0] as sampled at the last cold start, 0 WORKER, 1 MANAGER, 2 TOP (R2 to R4). -/
  role : Nat
  /-- The drives of the slots' resets and muxes (R71, R405); SLOTn_RST_N is low at reset (SLT_STAT.rst). -/
  pins : Vector SlotPins 8
  /-- Floor scaling (R98). -/
  caps : Caps
  /-- The ramp sequencers (R117). -/
  ramps : Vector Ramp 8
  /-- The buffer converter (R121, R125). -/
  conv : Conv
  /-- The temperature sensors that have a result, by index (R130). -/
  sns : List (Nat × Sensor)
  /-- The rest of THM (R141 to R152). -/
  thm : Thm
  /-- Period (R155 to R172). -/
  per : Per
  /-- The leak ropes (R164 to R169). -/
  ropes : Vector Rope 8
  /-- The fraction that Qualifier carries forward per channel, in 1/1024 of a unit (R280). -/
  quaFrac : List (Nat × Int)
  /-- Resets and power states (R414 to R424). -/
  rst : Rst
  /-- The inventory (R432, R433). -/
  inv : Inv
  /-- The field repair record in flash (R424, R433). -/
  repair : List RepairEntry
  /-- Ethernet, RDMA and mailboxes (R326 to R353). -/
  eth : Eth
  /-- The fuses. -/
  fuses : Fuses
  /-- Security (R356 to R380). -/
  sec : Sec
  /-- Boot, images and update (R382 to R409). -/
  boot : Boot
  /-- The resident-image flash, by offset (R382); an unlisted byte reads as erased, 0xFF. -/
  flash : List Host.Cell
  /-- The Itsal die (R174 to R198). -/
  its : Its
  /-- The clause slots (R227). -/
  clauses : Vector ClauseSlot 32
  /-- Learned control (R268 to R294). -/
  learned : Learned
  /-- The TAP (R460). -/
  tap : Tap
deriving DecidableEq, Repr

/-- Reasons for a fault.  There are none: no command of this block stops the machine with a fault. -/
inductive Fault where
deriving DecidableEq, Repr

/-- Reasons for a refusal. -/
inductive Refusal where
  /-- A command that has no meaning yet.  Raised by the arms of exec only; safe, since nothing can be proved of a run
  that goes through it. -/
  | notModelled (mnemonic : String)
deriving DecidableEq, Repr

/-- The state right after reset: the always-on supply has come up, stage 0 has not run.  Every field at the value the
spec states for reset, or at the value a log entry names. -/
def State.reset : State :=
  { pending := [],
    powered := true,
    csr := [],
    mem := [],
    tags := [],
    free := 0,
    waitSeq := 0,
    tns := Tense.reset,
    cores := coresReset,
    threads := [],
    jobs := [],
    tiles := List.range 16,
    jobSeq := 0,
    evr := Evr.reset,
    objs := [],
    lines := Vector.replicate 32 LineX.reset,
    grps := [],
    agrOut := [],
    dumpWin := [],
    dumpNext := [],
    targets := Vector.replicate 9 Target.reset,
    doms := Vector.replicate 48 Dom.reset,
    seq := Seq.reset,
    haltTimes := [],
    links := Vector.replicate 8 Link.reset,
    role := 0,
    pins := Vector.replicate 8 ⟨true, false⟩,
    caps := ⟨false, [], Vector.replicate 8 0, 0, 0, 0, Vector.replicate 8 0, Vector.replicate 8 0, none, 0, 0, Vector.replicate 8 0, none, Vector.replicate 8 (Vector.replicate 8 0), Vector.replicate 8 0, []⟩,
    ramps := Vector.replicate 8 Ramp.reset,
    conv := Conv.reset,
    sns := [],
    thm := Thm.reset,
    per := Per.reset,
    ropes := Vector.replicate 8 Rope.reset,
    quaFrac := [],
    rst := Rst.reset,
    inv := Inv.reset,
    repair := [],
    eth := Eth.reset,
    fuses := Fuses.reset,
    sec := Sec.reset,
    boot := Boot.reset,
    flash := [],
    its := Its.reset,
    clauses := Vector.replicate 32 ClauseSlot.reset,
    learned := Learned.reset,
    tap := Tap.reset }

end Sys2Proof.Machine
end

