-- ==== Sys2Proof/Machine/Ops.lean ====
section
/-!
DEFINITION. The named operations over the state: reading and writing registers, memory and tags, recording an event,
and actions.  An action is a change of the state that keeps the state well formed and leaves the queue of commands
alone; both are proved once, here, for the few operations that every meaning is built from.
-/
namespace Sys2Proof.Machine

/-! ## Well-formed states -/

/-- What an unlisted byte of memory reads as.  DESIGN CHOICE: the manual gives no power-on content of SRAM and DDR5; zero
(log entry 4). -/
def memDefault (_ : Nat) : Byte := 0#8

/-- What the tag of an unlisted word reads as: not FULL, so EMPTY.  DESIGN CHOICE (log entry 4). -/
def tagDefault (_ : Nat) : Bool := false

/-- What an unlisted byte of the resident-image flash reads as: erased (DESIGN CHOICE, log entry 4). -/
def flashDefault (_ : Nat) : Byte := 0xFF#8

/-- The canonical form of memory: addresses strictly rising, no entry equal to what an unlisted address reads as. -/
def Memory.wf (m : List Host.Cell) : Bool := Sparse.wf memDefault m

/-- What every core keeps to (R201, R203, R219): the program counter is 4-byte aligned and 48 bits wide, g0 holds 0,
the handler address is aligned on 256 bytes and 48 bits wide, and cores 0 to 2 are never in mode P nor hold ppm. -/
def coreOk (k : Fin 13) (c : Core) : Prop :=
  c.pc % 4 = 0 ∧ c.pc < 2 ^ 48 ∧ c.gpr[0] = 0#64 ∧ c.vec % 256 = 0 ∧ c.vec < 2 ^ 48 ∧
  (k.val < 3 → c.p = false ∧ c.ppm = false)

/-- What the event recorder keeps to (R429, R431). -/
def evrOk (e : Evr) : Prop :=
  e.tokens ≤ 64 ∧ e.queue.length ≤ 32 ∧ e.ring.length ≤ 131072 ∧ e.nextSeq < 2 ^ 32

/-- A well-formed state: the register file, memory, flash and tags in canonical form, the recorder and the cores within
what the manual gives them. -/
def Wf (s : State) : Prop :=
  Sparse.wf csrReset s.csr = true ∧
  (Sparse.wf memDefault s.mem = true ∧ Sparse.wf flashDefault s.flash = true) ∧ Sparse.wf tagDefault s.tags = true ∧
  evrOk s.evr ∧ ∀ k : Fin 13, coreOk k s.cores[k]

/-! ## Reading -/

/-- The content of the register at a key. -/
def State.reg (s : State) (key : Nat) : W32 := Sparse.get csrReset key s.csr

/-- The value of a field. -/
def State.fld (s : State) (f : Fd) : Nat := fldOf (s.reg f.off) f.hi f.lo

/-- Whether a one-bit field is set. -/
def State.flag (s : State) (f : Fd) : Bool := s.fld f == 1

/-- A byte of memory at a physical address. -/
def State.byte (s : State) (a : Nat) : Byte := Sparse.get memDefault a s.mem

/-- n bytes of memory from a physical address on. -/
def State.bytes (s : State) (a n : Nat) : List Byte := (List.range n).map fun i => s.byte (a + i)

/-- The little-endian number in n bytes of memory. -/
def State.nat (s : State) (a n : Nat) : Nat := leNat (s.bytes a n)

/-- The core k. -/
def State.core (s : State) (k : Fin 13) : Core := s.cores[k]

/-! ## Fuses only burn -/

/-- What a fuse burn can do (R359, R388): the lifecycle only advances, a kill stays, a security version never falls, a
key slot once fused stays fused with its digest and once revoked stays revoked, an owner once fused keeps its digests,
and what manufacture fused never changes. -/
structure Fuses.burnsTo (f g : Fuses) : Prop where
  life : f.lifecycle ≤ g.lifecycle
  kill : f.keyKill = true → g.keyKill = true
  owner : 2 ≤ f.lifecycle → g.ownerDig = f.ownerDig ∧ g.dbgDig = f.dbgDig
  svn : f.svnResident ≤ g.svnResident ∧ f.svnService ≤ g.svnService
  fused : ∀ i, bitOf f.keysFused i = true → bitOf g.keysFused i = true
  revoked : ∀ i, bitOf f.keysRevoked i = true → bitOf g.keysRevoked i = true
  digest : ∀ i : Fin 4, bitOf f.keysFused i = true → g.keyDigs[i] = f.keyDigs[i]
  made : g.serial = f.serial ∧ g.tilesBad = f.tilesBad ∧ g.linesBad = f.linesBad ∧ g.rowsSh = f.rowsSh ∧
    g.rowsTs = f.rowsTs ∧ g.convsBad = f.convsBad
  keys : g.identityKey = f.identityKey ∧ g.cak = f.cak ∧ g.ckn = f.ckn ∧ g.macs = f.macs ∧ g.coefs = f.coefs

theorem Fuses.burnsTo.refl (f : Fuses) : f.burnsTo f :=
  ⟨Nat.le_refl _, id, fun _ => ⟨rfl, rfl⟩, ⟨Nat.le_refl _, Nat.le_refl _⟩, fun _ h => h, fun _ h => h, fun _ _ => rfl,
   ⟨rfl, rfl, rfl, rfl, rfl, rfl⟩, ⟨rfl, rfl, rfl, rfl, rfl⟩⟩

theorem Fuses.burnsTo.trans {f g h : Fuses} (a : f.burnsTo g) (b : g.burnsTo h) : f.burnsTo h where
  life := Nat.le_trans a.life b.life
  kill := fun x => b.kill (a.kill x)
  owner := fun x =>
    ⟨(b.owner (Nat.le_trans x a.life)).1.trans (a.owner x).1, (b.owner (Nat.le_trans x a.life)).2.trans (a.owner x).2⟩
  svn := ⟨Nat.le_trans a.svn.1 b.svn.1, Nat.le_trans a.svn.2 b.svn.2⟩
  fused := fun i x => b.fused i (a.fused i x)
  revoked := fun i x => b.revoked i (a.revoked i x)
  digest := fun i x => (b.digest i (a.fused i x)).trans (a.digest i x)
  made := by
    obtain ⟨p, q, r, t, u, v⟩ := a.made
    obtain ⟨p', q', r', t', u', v'⟩ := b.made
    exact ⟨p'.trans p, q'.trans q, r'.trans r, t'.trans t, u'.trans u, v'.trans v⟩
  keys := by
    obtain ⟨p, q, r, t, u⟩ := a.keys
    obtain ⟨p', q', r', t', u'⟩ := b.keys
    exact ⟨p'.trans p, q'.trans q, r'.trans r, t'.trans t, u'.trans u⟩

/-! ## Actions -/

/-- A change of the state that keeps it well formed, leaves the queue of commands alone, unburns no fuse, and neither turns
a powered logic die off nor changes its role (R3). -/
structure Act where
  run : State → State
  keeps : ∀ s, Wf s → Wf (run s)
  queue : ∀ s, (run s).pending = s.pending
  burns : ∀ s : State, s.fuses.burnsTo (run s).fuses
  holds : ∀ s : State, s.powered = true → (run s).powered = true ∧ (run s).role = s.role

/-- Nothing happens. -/
def Act.skip : Act := ⟨id, fun _ h => h, fun _ => rfl, fun _ => .refl _, fun _ h => ⟨h, rfl⟩⟩

/-- One action after another. -/
def Act.andThen (a b : Act) : Act :=
  ⟨fun s => b.run (a.run s), fun s h => b.keeps _ (a.keeps s h), fun s => (b.queue _).trans (a.queue s),
   fun s => (a.burns s).trans (b.burns _),
   fun s h => ⟨(b.holds _ (a.holds s h).1).1, (b.holds _ (a.holds s h).1).2.trans (a.holds s h).2⟩⟩

/-- The actions of a list, in order. -/
def Act.seq : List Act → Act
  | [] => Act.skip
  | a :: r => a.andThen (Act.seq r)

/-- An action that depends on the present state. -/
def Act.get (f : State → Act) : Act :=
  ⟨fun s => (f s).run s, fun s h => (f s).keeps s h, fun s => (f s).queue s, fun s => (f s).burns s,
   fun s => (f s).holds s⟩

/-- The action, if the condition holds. -/
def Act.when (c : Bool) (a : Act) : Act := if c then a else Act.skip

/-- The action for every element of a list, in order. -/
def Act.each {α : Type} (l : List α) (f : α → Act) : Act := Act.seq (l.map f)

/-- The outcome of an action as a command's whole effect. -/
def Act.go (a : Act) (s : State) : Host.Outcome State Fault Refusal := .next (a.run s)

/-- Draw a free value (log entry 1). -/
def Act.fresh (f : Word → Act) : Act :=
  ⟨fun s => (f (Config.freeWord s.free)).run { s with free := s.free + 1 },
   fun _ h => (f _).keeps _ h, fun _ => (f _).queue _, fun s => (f _).burns { s with free := s.free + 1 },
   fun s => (f _).holds { s with free := s.free + 1 }⟩

/-! ## Registers -/

/-- Give the register at a key a content. -/
def Act.setReg (key : Nat) (v : W32) : Act :=
  ⟨fun s => { s with csr := Sparse.set csrReset key v s.csr },
   fun s h => ⟨Sparse.wf_set csrReset key v s.csr h.1, h.2⟩, fun _ => rfl, fun _ => .refl _, fun _ h => ⟨h, rfl⟩⟩

/-- Give a field a value. -/
def Act.setF (f : Fd) (x : Nat) : Act := Act.get fun s => Act.setReg f.off (fldPut (s.reg f.off) f.hi f.lo x)

/-- Set or clear a one-bit field. -/
def Act.setB (f : Fd) (b : Bool) : Act := Act.setF f (b2n b)

/-- Set or clear bit i of a field. -/
def Act.setFBit (f : Fd) (i : Nat) (b : Bool) : Act := Act.get fun s => Act.setF f (putBit (s.fld f) i b)

/-- Add to a saturating count. -/
def Act.addF (f : Fd) (n : Nat) : Act :=
  Act.get fun s => Act.setF f (min (s.fld f + n) (fldSize f.hi f.lo - 1))

/-- Count one in a saturating count. -/
def Act.bump (f : Fd) : Act := Act.addF f 1

/-- Return to their defaults the registers whose key keep does not hold of. -/
def Act.restrictRegs (keep : Nat → Bool) : Act :=
  ⟨fun s => { s with csr := Sparse.restrict keep s.csr },
   fun s h => ⟨Sparse.wf_restrict csrReset keep s.csr h.1, h.2⟩, fun _ => rfl, fun _ => .refl _, fun _ h => ⟨h, rfl⟩⟩

/-! ## Memory and tags -/

/-- Write one byte of memory. -/
def Act.setByte (a : Nat) (v : Byte) : Act :=
  ⟨fun s => { s with mem := Sparse.set memDefault a v s.mem },
   fun s h => ⟨h.1, ⟨Sparse.wf_set memDefault a v s.mem h.2.1.1, h.2.1.2⟩, h.2.2⟩, fun _ => rfl, fun _ => .refl _, fun _ h => ⟨h, rfl⟩⟩

/-- Write bytes of memory from an address on. -/
def Act.setBytes (a : Nat) : List Byte → Act
  | [] => Act.skip
  | b :: r => (Act.setByte a b).andThen (Act.setBytes (a + 1) r)

/-- Write a little-endian number of n bytes. -/
def Act.setNat (a n v : Nat) : Act := Act.setBytes a (leBytes n v)

/-- Set n bytes from an address on to 0. -/
def Act.zeroBytes (a n : Nat) : Act :=
  ⟨fun s => { s with mem := Sparse.restrict (fun x => !(a ≤ x && x < a + n)) s.mem },
   fun s h => ⟨h.1, ⟨Sparse.wf_restrict memDefault (fun x => !(a ≤ x && x < a + n)) s.mem h.2.1.1, h.2.1.2⟩, h.2.2⟩,
   fun _ => rfl, fun _ => .refl _, fun _ h => ⟨h, rfl⟩⟩

/-- Erase n bytes of the resident-image flash from an offset on. -/
def Act.flashErase (a n : Nat) : Act :=
  ⟨fun s => { s with flash := Sparse.restrict (fun x => !(a ≤ x && x < a + n)) s.flash },
   fun s h => ⟨h.1, ⟨h.2.1.1, Sparse.wf_restrict flashDefault (fun x => !(a ≤ x && x < a + n)) s.flash h.2.1.2⟩, h.2.2⟩,
   fun _ => rfl, fun _ => .refl _, fun _ h => ⟨h, rfl⟩⟩

/-- Program one byte of the resident-image flash. -/
def Act.flashByte (a : Nat) (v : Byte) : Act :=
  ⟨fun s => { s with flash := Sparse.set flashDefault a v s.flash },
   fun s h => ⟨h.1, ⟨h.2.1.1, Sparse.wf_set flashDefault a v s.flash h.2.1.2⟩, h.2.2⟩, fun _ => rfl, fun _ => .refl _, fun _ h => ⟨h, rfl⟩⟩

/-- Program bytes of the resident-image flash from an offset on. -/
def Act.flashBytes (a : Nat) : List Byte → Act
  | [] => Act.skip
  | b :: r => (Act.flashByte a b).andThen (Act.flashBytes (a + 1) r)

/-- The words of shared SRAM (R32): 24 MiB of 8-byte words from 0x1000_0000. -/
def sharedBase : Nat := 0x10000000

/-- The size of shared SRAM. -/
def sharedSize : Nat := 0x1800000

/-- Whether an address lies in shared SRAM. -/
def inShared (a : Nat) : Bool := sharedBase ≤ a && a < sharedBase + sharedSize

/-- The number of the 64-bit word of shared SRAM that holds an address. -/
def wordNo (a : Nat) : Nat := (a - sharedBase) / 8

/-- Whether word w is FULL in its tag. -/
def State.tagFull (s : State) (w : Nat) : Bool := Sparse.get tagDefault w s.tags

/-- Give the tag of word w a state. -/
def Act.setTag (w : Nat) (full : Bool) : Act :=
  ⟨fun s => { s with tags := Sparse.set tagDefault w full s.tags },
   fun s h => ⟨h.1, h.2.1, Sparse.wf_set tagDefault w full s.tags h.2.2.1, h.2.2.2⟩, fun _ => rfl, fun _ => .refl _, fun _ h => ⟨h, rfl⟩⟩

/-- Drop the tags of the words keep does not hold of. -/
def Act.restrictTags (keep : Nat → Bool) : Act :=
  ⟨fun s => { s with tags := Sparse.restrict keep s.tags },
   fun s h => ⟨h.1, h.2.1, Sparse.wf_restrict tagDefault keep s.tags h.2.2.1, h.2.2.2⟩, fun _ => rfl, fun _ => .refl _, fun _ h => ⟨h, rfl⟩⟩

/-! ## Cores -/

/-- Replace core k by a core that keeps to what core k must. -/
def Act.putCore (k : Fin 13) (f : Core → Core) (hf : ∀ c, coreOk k c → coreOk k (f c)) : Act :=
  ⟨fun s => { s with cores := s.cores.set k (f s.cores[k]) },
   fun s h => by
     refine ⟨h.1, h.2.1, h.2.2.1, h.2.2.2.1, fun j => ?_⟩
     have hj := h.2.2.2.2 j
     by_cases hjk : j = k
     · subst hjk
       have := hf s.cores[j] hj
       simpa using this
     · have : (k : Nat) ≠ j := fun e => hjk (Fin.ext e.symm)
       simpa [Vector.getElem_set_ne, this] using hj,
   fun _ => rfl, fun _ => .refl _, fun _ h => ⟨h, rfl⟩⟩

theorem coreOk_congr {k : Fin 13} {c d : Core} (h1 : d.pc = c.pc) (h2 : d.gpr = c.gpr) (h3 : d.vec = c.vec)
    (h4 : d.p = c.p) (h5 : d.ppm = c.ppm) (h : coreOk k c) : coreOk k d := by
  have hg : d.gpr[0] = c.gpr[0] := congrArg (fun v : Vector Word 32 => v[0]) h2
  unfold coreOk at h ⊢
  rw [hg, h1, h3, h4, h5]
  exact h

/-- Change what of a core no invariant speaks about: everything but its program counter, its modes, its handler
address and its general registers. -/
def Act.core (k : Fin 13) (f : Core → Core)
    (hf : ∀ c, (f c).pc = c.pc ∧ (f c).gpr = c.gpr ∧ (f c).vec = c.vec ∧ (f c).p = c.p ∧ (f c).ppm = c.ppm := by
      intro c; exact ⟨rfl, rfl, rfl, rfl, rfl⟩) : Act :=
  Act.putCore k f fun c hc =>
    coreOk_congr (hf c).1 (hf c).2.1 (hf c).2.2.1 (hf c).2.2.2.1 (hf c).2.2.2.2 hc

/-- An address as the program counter holds it: 48 bits, bits [1:0] at 0 (R203). -/
def pcOf (a : Nat) : Nat := a % 2 ^ 48 / 4 * 4

theorem pcOf_ok (a : Nat) : pcOf a % 4 = 0 ∧ pcOf a < 2 ^ 48 := by
  unfold pcOf
  omega

/-- Write general register d of core k; g0 ignores the write (R203). -/
def Act.setGpr (k : Fin 13) (d : Fin 32) (v : Word) : Act :=
  Act.putCore k (fun c => if d = 0 then c else { c with gpr := c.gpr.set d v }) (by
    intro c hc
    split
    · exact hc
    · rename_i hd
      refine ⟨hc.1, hc.2.1, ?_, hc.2.2.2⟩
      have h0 : (d : Nat) ≠ 0 := fun e => hd (Fin.ext e)
      have := hc.2.2.1
      simpa [Vector.getElem_set_ne, h0] using this)

/-- Move the program counter of core k. -/
def Act.setPc (k : Fin 13) (a : Nat) : Act :=
  Act.putCore k (fun c => { c with pc := pcOf a }) (by
    intro c hc
    exact ⟨(pcOf_ok a).1, (pcOf_ok a).2, hc.2.2⟩)

/-- Put the mode bits of core k: mode P, ppm, pie, ie and exl.  On cores 0 to 2, mode P and ppm stay 0 (R201). -/
def Act.setMode (k : Fin 13) (p ppm pie ie exl : Bool) : Act :=
  Act.putCore k (fun c => { c with p := p && 3 ≤ k.val, ppm := ppm && 3 ≤ k.val, pie := pie, ie := ie, exl := exl }) (by
    intro c hc
    refine ⟨hc.1, hc.2.1, hc.2.2.1, hc.2.2.2.1, hc.2.2.2.2.1, fun hk => ?_⟩
    have : ¬ 3 ≤ k.val := by omega
    simp [this])

/-- Put the handler address of core k: bits [47:8] (CR_VEC). -/
def Act.setVec (k : Fin 13) (a : Nat) : Act :=
  Act.putCore k (fun c => { c with vec := a % 2 ^ 48 / 256 * 256 }) (by
    intro c hc
    refine ⟨hc.1, hc.2.1, hc.2.2.1, ?_, ?_, hc.2.2.2.2.2⟩
    · simp
    · show a % 2 ^ 48 / 256 * 256 < 2 ^ 48
      omega)

/-- Reset core k: held, registers zero, the program counter at its boot vector (R203). -/
def Act.resetCore (k : Fin 13) (vec : Nat) : Act :=
  Act.putCore k (fun _ => Core.reset (pcOf vec)) (by
    intro c _
    refine ⟨(pcOf_ok vec).1, (pcOf_ok vec).2, ?_, ?_, ?_, ?_⟩ <;> simp [Core.reset])

/-! ## Events -/

/-- The stamp's cycle count and time at this instant (R53, R429), and the record itself. -/
def evRecord (s : State) (src code sev : Nat) (hw : Bool) (payload : List Nat) (seq : Nat) : EvRec :=
  { cycles := s.tns.cycles % 2 ^ 24, ms := s.tns.opMs % 2 ^ 40, seq := seq, src := src, code := code, sev := sev,
    hw := hw, payload := payload }

/-- Admit a record: it takes one token and the next seq (R429, R431). -/
def Evr.accept (e : Evr) (r : EvRec) : Evr :=
  { e with tokens := e.tokens - 1, ring := ({ r with seq := e.nextSeq } :: e.ring).take 131072,
           nextSeq := (e.nextSeq + 1) % 2 ^ 32 }

/-- Shed a record of a severity: it is counted and line 10 is raised (R431). -/
def Evr.shedOne (e : Evr) (sev : Nat) : Evr :=
  { e with shed := if h : sev < 5 then e.shed.set sev (min (e.shed[sev] + 1) 0xFFFFFFFF) else e.shed, shedIrq := true }

/-- Let a critical record wait, or shed it where the queue is full (R431). -/
def Evr.enqueue (e : Evr) (r : EvRec) : Evr :=
  if e.queue.length < 32 then { e with queue := e.queue ++ [r] } else e.shedOne r.sev

/-- Offer a record to the recorder (R431), with the thresholds min_sev and shed_sev. -/
def Evr.offer (e : Evr) (minSev shedSev : Nat) (r : EvRec) : Evr :=
  if r.sev < minSev then e
  else if r.sev = 4 && !e.queue.isEmpty then e.enqueue r
  else if shedSev ≤ r.sev then
    if 1 ≤ e.tokens then e.accept r else if r.sev = 4 then e.enqueue r else e.shedOne r.sev
  else if 16 ≤ e.tokens then e.accept r
  else if r.sev = 4 && e.tokens = 0 then e.enqueue r
  else e.shedOne r.sev

/-- Admit waiting critical records while tokens last (R431). -/
def Evr.drain : Nat → Evr → Evr
  | 0, e => e
  | n + 1, e =>
    match e.queue with
    | [] => e
    | r :: q => if 1 ≤ e.tokens then Evr.drain n ({ e with queue := q }.accept r) else e

/-- The tokens of one Tense tick, then the waiting records (R431). -/
def Evr.tick (e : Evr) : Evr := Evr.drain 32 { e with tokens := min 64 (e.tokens + 2) }

theorem Evr.accept_ok (e : Evr) (r : EvRec) (h : evrOk e) : evrOk (e.accept r) := by
  obtain ⟨h1, h2, h3, h4⟩ := h
  refine ⟨?_, h2, ?_, ?_⟩
  · show e.tokens - 1 ≤ 64
    omega
  · simp only [Evr.accept, List.length_take]
    omega
  · exact Nat.mod_lt _ (by decide)

theorem Evr.shedOne_ok (e : Evr) (v : Nat) (h : evrOk e) : evrOk (e.shedOne v) := h

theorem Evr.enqueue_ok (e : Evr) (r : EvRec) (h : evrOk e) : evrOk (e.enqueue r) := by
  unfold Evr.enqueue
  split
  · rename_i hq
    refine ⟨h.1, ?_, h.2.2⟩
    simp only [List.length_append, List.length_singleton]
    omega
  · exact Evr.shedOne_ok e _ h

theorem Evr.offer_ok (e : Evr) (a b : Nat) (r : EvRec) (h : evrOk e) : evrOk (e.offer a b r) := by
  unfold Evr.offer
  repeat' split
  all_goals first | exact h | exact Evr.accept_ok e r h | exact Evr.enqueue_ok e r h

theorem Evr.drain_ok (n : Nat) (e : Evr) (h : evrOk e) : evrOk (Evr.drain n e) := by
  induction n generalizing e with
  | zero => exact h
  | succ n ih =>
    unfold Evr.drain
    split
    · exact h
    · rename_i r q hq
      split
      · refine ih _ (Evr.accept_ok _ r ⟨h.1, ?_, h.2.2⟩)
        have := h.2.1
        rw [hq] at this
        simp only [List.length_cons] at this
        show q.length ≤ 32
        omega
      · exact h

theorem Evr.tick_ok (e : Evr) (h : evrOk e) : evrOk e.tick :=
  Evr.drain_ok 32 _ ⟨by show min 64 (e.tokens + 2) ≤ 64; omega, h.2.1, h.2.2⟩

/-- Change the recorder by an operation that keeps its bounds. -/
def Act.evr (f : State → Evr → Evr) (hf : ∀ s e, evrOk e → evrOk (f s e)) : Act :=
  ⟨fun s => { s with evr := f s s.evr },
   fun s h => ⟨h.1, h.2.1, h.2.2.1, hf s _ h.2.2.2.1, h.2.2.2.2⟩, fun _ => rfl, fun _ => .refl _, fun _ h => ⟨h, rfl⟩⟩

/-- Record an event (R429, R431). -/
def Act.emitBy (hw : Bool) (src code sev : Nat) (payload : List Nat) : Act :=
  Act.evr (fun s e => e.offer (s.fld F.EVR_CTL.min_sev) (s.fld F.EVR_CTL.shed_sev)
      (evRecord s src code sev hw payload e.nextSeq))
    (fun _ e h => Evr.offer_ok e _ _ _ h)

/-- An event that firmware records. -/
def Act.emit (src code sev : Nat) (payload : List Nat) : Act := Act.emitBy false src code sev payload

/-- An event that hardware records. -/
def Act.emitHw (src code sev : Nat) (payload : List Nat) : Act := Act.emitBy true src code sev payload

/-- Note that the event of a code and key has been recorded in a window (R465). -/
def Evr.mark (e : Evr) (code key win : Nat) : Evr :=
  let old := e.firsts.filter fun p => !(p.1 == code && p.2.1 == key)
  { e with firsts := (code, key, win) :: old }

/-- Record an event that its table marks as first of each 1 s: at the first occurrence in each window of a million
ticks, at no other (R465).  The key tells apart the occurrences that are counted separately. -/
def Act.emitFirst (key : Nat) (a : Act) (code : Nat) : Act :=
  Act.get fun s =>
    let win := s.tns.tick / 1000000
    if s.evr.firsts.contains (code, key, win) then Act.skip
    else (Act.evr (fun _ e => e.mark code key win) (fun _ _ h => h)).andThen a

end Sys2Proof.Machine
end

