-- ==== Sys2Proof/Machine/Agents.lean ====
section
/-!
DEFINITION. What strikes the agents of the die: the order of waiters, poisoning of objects and barrier lines, the
post-mortem dump, interrupt lines, exceptions, halts and the loss of a core.
-/
namespace Sys2Proof.Machine

/-! ## Who serves what -/

/-- The core that serves slot n, as RST_SLOT_MAP names it (R420). -/
def State.slotCore (s : State) (n : Nat) : Nat := fldOf (s.reg R.RST_SLOT_MAP) (4 * n + 3) (4 * n)

/-- The slot that core k serves, if it serves one. -/
def State.slotOf (s : State) (k : Nat) : Option Nat := (List.range 8).find? fun n => s.slotCore n == k

/-- Whether core k runs or waits, so that its firmware is alive. -/
def State.coreUp (s : State) (k : Fin 13) : Bool :=
  match (s.core k).run with
  | .running => true
  | .waiting => true
  | _ => false

/-- The event source of core k (R199). -/
def coreSource (k : Nat) : Nat := if k < 3 then k + 1 else 0x10 + (k - 3)

/-- The number of a run state in SYS_CORE_STAT. -/
def RunState.code : RunState → Nat
  | .held => 0 | .running => 1 | .waiting => 2 | .halted => 3

/-- The present event-recorder stamp: power-cycle count in [63:40], operating time in ms in [39:0] (R53, R429). -/
def State.stamp (s : State) : Nat := s.tns.cycles % 2 ^ 24 * 2 ^ 40 + s.tns.opMs % 2 ^ 40

/-! ## Objects -/

/-- Whether word w lies in object o. -/
def Obj.holds (o : Obj) (w : Nat) : Bool := o.base ≤ w && w < o.base + o.len

/-- How many words of the object are still POISONED. -/
def Obj.remain (o : Obj) : Nat := if o.poisoned then o.len - o.cleared.length else 0

/-- Whether word w of shared SRAM reads POISONED (R298). -/
def State.isPoisoned (s : State) (w : Nat) : Bool :=
  s.objs.any fun p => p.2.poisoned && p.2.holds w && !p.2.cleared.contains w

/-- The entry of the object that holds word w. -/
def State.objAt (s : State) (w : Nat) : Option (Nat × Obj) := s.objs.find? fun p => p.2.holds w

/-- Change the object table. -/
def Act.modObjs (f : List (Nat × Obj) → List (Nat × Obj)) : Act :=
  ⟨fun s => { s with objs := f s.objs }, fun _ h => h, fun _ => rfl, fun _ => .refl _, fun _ h => ⟨h, rfl⟩⟩

/-- Change entry i of the object table, if it is in use. -/
def Act.modObj (i : Nat) (f : Obj → Obj) : Act :=
  Act.modObjs fun l => l.map fun p => if p.1 = i then (p.1, f p.2) else p

/-! ## Waiters -/

/-- Thread context t. -/
def State.thread (s : State) (t : Nat) : Thread := Sparse.get (fun _ => Thread.reset) t s.threads

/-- Change a thread context. -/
def Act.thread (t : Nat) (f : Thread → Thread) : Act :=
  ⟨fun s => { s with threads := Sparse.set (fun _ => Thread.reset) t (f (s.thread t)) s.threads },
   fun _ h => h, fun _ => rfl, fun _ => .refl _, fun _ h => ⟨h, rfl⟩⟩

/-- Every wait in progress: cores, then threads. -/
def State.waits (s : State) : List (Agent × Wait) :=
  (List.finRange 13).filterMap (fun k => (s.core k).wait.map fun w => (Agent.core k, w)) ++
  s.threads.filterMap fun p =>
    if h : p.1 < 1024 then p.2.wait.map fun w => (Agent.thread ⟨p.1, h⟩, w) else none

/-- The word of shared SRAM a wait is on. -/
def WaitFor.word : WaitFor → Option Nat
  | .load _ a _ => some (wordNo a)
  | .fill a _ => some (wordNo a)
  | _ => none

/-- The waits on word w that nothing has ended yet, in the order in which they began (R214). -/
def State.waitersOn (s : State) (w : Nat) : List (Agent × Wait) :=
  sortBy (fun p => p.2.order) (s.waits.filter fun p => p.2.what.word == some w && p.2.grant.isNone)

/-- End a wait with a status and a value; its instruction completes in a step of its own. -/
def Act.grant (a : Agent) (status : Nat) (v : Word) : Act :=
  match a with
  | .core k => Act.core k fun c => { c with wait := c.wait.map fun w => { w with grant := some (status, v) } }
  | .thread t => Act.thread t fun c => { c with wait := c.wait.map fun w => { w with grant := some (status, v) } }

/-- The 64-bit word of shared SRAM with number w. -/
def State.word64 (s : State) (w : Nat) : Word := BitVec.ofNat 64 (s.nat (sharedBase + 8 * w) 8)

/-- Whether the 64-bit word at an address stands in error: an uncorrectable error showed in it, and no stage 0 came since
(R424, R425). -/
def State.wordBad (s : State) (a : Nat) : Bool := s.rst.badWords.contains (a / 8 * 8)

/-- How a wait ends that would load a word in error: MEMERR, and not a status of CR_TSTAT (R223). -/
def memErrGrant : Nat := 4

/-- Serve the waiters on word w after its tag changed, n times at most (R214): on FULL every LDW completes and the first
LDE takes the word, or each meets the error in which the word stands; on EMPTY the first STF fills it. -/
def Act.serveWord (w : Nat) : Nat → Act
  | 0 => Act.skip
  | n + 1 => Act.get fun s =>
    if s.isPoisoned w then Act.skip
    else
      let ws := s.waitersOn w
      if s.tagFull w then
        let v := s.word64 w
        let reads := ws.filter fun p => match p.2.what with | .load false _ _ => true | _ => false
        let takes := ws.filter fun p => match p.2.what with | .load true _ _ => true | _ => false
        if s.wordBad (sharedBase + 8 * w) then Act.each (reads ++ takes) fun p => Act.grant p.1 memErrGrant v
        else (Act.each reads fun p => Act.grant p.1 0 v).andThen
          (match takes with
           | [] => Act.skip
           | p :: _ => Act.seq [Act.grant p.1 0 v, Act.setTag w false, Act.serveWord w n])
      else
        match ws.filterMap (fun p => match p.2.what with | .fill a v => some (p.1, a, v) | _ => none) with
        | [] => Act.skip
        | (a, addr, v) :: _ =>
          Act.seq [Act.setNat addr 8 v.toNat, Act.setTag w true, Act.grant a 0 0#64, Act.serveWord w n]

/-- Serve the waiters on word w after its tag changed. -/
def Act.serve (w : Nat) : Act := Act.get fun s => Act.serveWord w (s.waitersOn w).length

/-- The tag effect of a store that writes word w: FULL, unless POISONED (R212). -/
def Act.fillTag (w : Nat) : Act :=
  Act.get fun s => if s.isPoisoned w then Act.skip else (Act.setTag w true).andThen (Act.serve w)

/-- A store of bytes to memory at a physical address with its tag effect (R212). -/
def Act.store (a : Nat) (bs : List Byte) : Act :=
  (Act.setBytes a bs).andThen
    (if inShared a && !bs.isEmpty then
      Act.each (List.range (wordNo (a + bs.length - 1) + 1 - wordNo a)) fun i => Act.fillTag (wordNo a + i)
     else Act.skip)

/-! ## The dump -/

/-- The wait code of R323. -/
def WaitFor.code : WaitFor → Nat
  | .load false _ _ => 1 | .load true _ _ => 2 | .fill _ _ => 3 | .barrier _ _ _ => 4 | .event => 5 | .tick _ => 6

/-- The address a wait is on; 0 where it is on none. -/
def WaitFor.addr : WaitFor → Nat
  | .load _ a _ => a | .fill a _ => a | _ => 0

/-- The content of SYS_CORE_STAT(k). -/
def State.coreStat (s : State) (k : Fin 13) : Nat := (s.core k).run.code

/-- Flag bit 0 of an entry, and whether an address is withheld: slot cores in confidential mode (R322). -/
def State.withheld (s : State) (k : Nat) : Bool := 3 ≤ k && s.flag F.SEC_CTL.conf

/-- A debugger entry for core k (R322, R323). -/
def State.entryCore (s : State) (k : Fin 13) : List Byte :=
  let c := s.core k
  let hide := s.withheld k
  let addr := match c.wait with | some w => w.what.addr | none => 0
  let code := match c.wait with | some w => w.what.code | none => 0
  let since := match c.wait with | some w => w.since | none => 0
  leBytes 1 1 ++ leBytes 1 (b2n hide) ++ leBytes 2 k ++ leBytes 4 (s.coreStat k) ++
    leBytes 8 (if hide then 0 else addr) ++ leBytes 1 code ++ leBytes 3 0 ++ leBytes 8 since ++
    leBytes 4 (if hide then 0 else c.epc.toNat)

/-- A debugger entry for object entry i. -/
def State.entryObj (s : State) (i : Nat) (o : Obj) : List Byte :=
  let ws := (List.range o.len).map (o.base + ·)
  let on := s.waits.filter fun p => match p.2.what.word with | some w => o.holds w | none => false
  leBytes 1 2 ++ leBytes 1 0 ++ leBytes 2 i ++ leBytes 4 o.base ++ leBytes 4 o.len ++ leBytes 1 o.owner ++
    leBytes 1 o.kind ++ leBytes 2 o.heirs ++ leBytes 4 (ws.countP fun w => s.tagFull w && !s.isPoisoned w) ++
    leBytes 4 o.remain ++
    leBytes 2 (on.countP fun p => match p.1 with | .core _ => true | _ => false) ++
    leBytes 2 (on.countP fun p => match p.1 with | .thread _ => true | _ => false) ++ leBytes 4 0

/-- A debugger entry for line l. -/
def State.entryLine (s : State) (l : Fin 32) : List Byte :=
  leBytes 1 3 ++ leBytes 1 0 ++ leBytes 2 l ++ leBytes 2 (s.fld (F.AGR_LINE_CFG.members l)) ++
    leBytes 2 (s.fld (F.AGR_LINE_STAT.arrived l)) ++ leBytes 2 (s.fld (F.AGR_LINE_STAT.parked l)) ++
    leBytes 1 (s.fld (F.AGR_LINE_STAT.sense l)) ++ leBytes 1 (s.fld (F.AGR_LINE_STAT.poisoned l)) ++
    leBytes 8 s.lines[l].round ++ leBytes 1 (s.fld (F.AGR_LINE_CFG.group l)) ++
    leBytes 1 (s.fld (F.AGR_LINE_CFG.net l)) ++ leBytes 1 (s.fld (F.AGR_LINE_CFG.owner l)) ++ leBytes 1 0 ++
    leBytes 4 (s.fld (F.AGR_LINE_MIS.count l)) ++ leBytes 4 0

/-- Group g, as committed. -/
def State.grp (s : State) (g : Nat) : Option Grp := s.grps.lookup g

/-- The 64-bit lagging map of group g. -/
def State.lagMap (s : State) (g : Nat) : Nat :=
  (s.reg (R.AGR_GRP_LAG g 0)).toNat + (s.reg (R.AGR_GRP_LAG g 1)).toNat * 2 ^ 32

/-- The 64-bit lost map of group g. -/
def State.lostMap (s : State) (g : Nat) : Nat :=
  (s.reg (R.AGR_GRP_LOST g 0)).toNat + (s.reg (R.AGR_GRP_LOST g 1)).toNat * 2 ^ 32

/-- The applied and the staged epoch as group g shows them; 0 where it is not the cap group. -/
def State.epochs (s : State) (g : Nat) : Nat × Nat :=
  if s.fld F.CAP_CTL.group = g then (s.fld F.CAP_EPOCH_APPLIED.epoch, s.fld F.CAP_EPOCH_STAGED.epoch) else (0, 0)

/-- A debugger entry for group g. -/
def State.entryGrp (s : State) (g : Nat) : List Byte :=
  let x := s.grp g
  leBytes 1 4 ++ leBytes 1 0 ++ leBytes 2 g ++ leBytes 1 (s.fld (F.AGR_GRP_STAT.state g)) ++
    leBytes 1 (s.fld (F.AGR_GRP_CFG.role g)) ++ leBytes 2 (s.fld (F.AGR_GRP_CFG.member g)) ++
    leBytes 4 (s.fld (F.AGR_GRP_GEN.generation g)) ++
    leBytes 8 (match x with | some x => x.lastBoundary | none => 0) ++ leBytes 4 (s.epochs g).1 ++
    leBytes 4 (s.epochs g).2 ++ leBytes 1 (popBits (s.lostMap g) 64) ++
    leBytes 1 (popBits (s.lagMap g) 64) ++ leBytes 2 0

/-- The groups that are not FREE. -/
def State.liveGroups (s : State) : List Nat := s.grps.map Prod.fst

/-- The entries of a dump, in the order of R323, and whether some were omitted. -/
def State.dumpEntries (s : State) : List (List Byte) × Bool :=
  let all := (List.finRange 13).map s.entryCore ++ (List.finRange 32).map s.entryLine ++
    s.liveGroups.map s.entryGrp ++
    (s.objs.filter fun p => p.2.poisoned).map (fun p => s.entryObj p.1 p.2) ++
    (s.objs.filter fun p => !p.2.poisoned).map (fun p => s.entryObj p.1 p.2)
  (all.take 1022, 1022 < all.length)

/-- The dump of this instant (R323). -/
def State.dump (s : State) (trigger core : Nat) : DumpReq :=
  let e := s.dumpEntries
  let hdr := leBytes 4 0x4447414B ++ leBytes 1 0 ++ leBytes 1 1 ++ leBytes 1 trigger ++ leBytes 1 core ++
    leBytes 8 s.stamp ++ leBytes 8 s.tns.tick ++ leBytes 4 (s.evr.nextSeq + 0xFFFFFFFF) ++ leBytes 2 e.1.length ++
    leBytes 1 (b2n e.2) ++ leBytes 33 0
  ⟨trigger, core, e.1.length, hdr ++ e.1.flatten⟩

/-- The enable bit of a trigger in AGR_DUMP_CTL.trig_en: 1 halt, 2 misuse, 3 poison, 5 warm reset; a request has
none. -/
def State.dumpEnabled (s : State) (trigger : Nat) : Bool :=
  let m := s.fld F.AGR_DUMP_CTL.trig_en
  match trigger with
  | 1 => bitOf m 0 | 2 => bitOf m 1 | 3 => bitOf m 2 | 4 => true | 5 => bitOf m 3 | _ => false

/-- Change the dumps that the engine has still to write. -/
def Act.setDumpNext (l : List DumpReq) : Act :=
  ⟨fun s => { s with dumpNext := l }, fun _ h => h, fun _ => rfl, fun _ => .refl _, fun _ h => ⟨h, rfl⟩⟩

/-- A trigger of R323: where it is enabled and freeze is clear, the dump of this instant is handed to the engine, behind
those it has still to write. -/
def Act.dumpTrigger (trigger core : Nat) : Act :=
  Act.get fun s =>
    if s.dumpEnabled trigger && !s.flag F.AGR_DUMP_CTL.freeze then
      Act.setDumpNext (s.dumpNext ++ [s.dump trigger core])
    else Act.skip

/-! ## Poisoning -/

/-- Release every waiter on the object's words with OWNER_LOST (R298). -/
def Act.releaseObj (o : Obj) : Act :=
  Act.get fun s =>
    Act.each (s.waits.filter fun p => p.2.grant.isNone &&
        (match p.2.what.word with | some w => o.holds w | none => false)) fun p =>
      Act.grant p.1 1 0#64

/-- How many waiters the object's words have. -/
def State.waitersOnObj (s : State) (o : Obj) : Nat :=
  s.waits.countP fun p => p.2.grant.isNone && (match p.2.what.word with | some w => o.holds w | none => false)

/-- Poison object entry i, unless it is POISONED already and nothing has claimed it since (R297, R298). -/
def Act.poisonObj (i : Nat) : Act :=
  Act.get fun s =>
    match s.objs.lookup i with
    | none => Act.skip
    | some o =>
      if o.poisoned && o.claimer.isNone then Act.skip
      else Act.seq [
        Act.modObj i fun o => { o with poisoned := true, cleared := [], claimer := none },
        Act.releaseObj o,
        Act.emit 0x25 0x0C01 3 [i, o.owner, s.waitersOnObj o],
        Act.dumpTrigger 3 0xFF]

/-- Poison every object whose owner code strikes. -/
def Act.poisonOwned (strikes : Nat → Bool) : Act :=
  Act.get fun s => Act.each (s.objs.filter fun p => strikes p.2.owner) fun p => Act.poisonObj p.1

/-- The request word of mailbox m (R342). -/
def reqWord (m : Nat) : Nat := 0x11750000 + 8 * m

/-- The object of the sixteen request words, owned by the scheduler core (R342), live. -/
def reqObj : Obj :=
  { base := wordNo (reqWord 0), len := 16, owner := 2, heirs := 0, kind := 0, poisoned := false, cleared := [], claimer := none }

/-- The scheduler core makes the request words ready as it starts (R342, R345): where they are an object already, it claims
and reinitializes a poisoned one; otherwise it registers them. The words are then 0 and EMPTY. The entry, 1023 or the
highest unused one, with no heirs and kind 0 data, is the model's (DESIGN CHOICE, log entry 95). -/
def Act.reqWords : Act :=
  Act.get fun s =>
    let clear := (Act.setBytes (reqWord 0) (leBytes 128 0)).andThen
      (Act.each (List.range 16) fun m => Act.setTag (wordNo (reqWord m)) false)
    match s.objs.find? fun p => p.2.base == reqObj.base && p.2.len == 16 with
    | some (i, o) =>
      Act.when (o.poisoned && (o.owner = 2 || bitOf o.heirs 2)) (Act.seq [
        Act.modObj i fun _ => { o with owner := 2, poisoned := false, cleared := [], claimer := none },
        Act.emit 0x25 0x0C02 1 [i, 2], clear])
    | none =>
      if s.objs.any fun p => p.2.base < reqObj.base + 16 && reqObj.base < p.2.base + p.2.len then Act.skip
      else match (List.range 1024).reverse.find? fun i => (s.objs.lookup i).isNone with
        | some i => (Act.modObjs fun l => Sparse.ins i reqObj l).andThen clear
        | none => Act.skip

/-- Change what line l holds beside its registers. -/
def Act.line (l : Fin 32) (f : LineX → LineX) : Act :=
  ⟨fun s => { s with lines := s.lines.set l (f s.lines[l]) }, fun _ h => h, fun _ => rfl, fun _ => .refl _, fun _ h => ⟨h, rfl⟩⟩

/-- Complete every BWT on line l that keep holds of, with a status and a value. -/
def Act.releaseLine (l : Fin 32) (status : Nat) (v : Word) (keep : Bool → Bool) : Act :=
  Act.get fun s =>
    Act.each (s.waits.filter fun p => p.2.grant.isNone &&
        (match p.2.what with | .barrier m b _ => m == l && keep b | _ => false)) fun p =>
      Act.grant p.1 status v

/-- Whether logical port l is up. -/
def State.portUp (s : State) (l : Nat) : Bool := s.flag (F.ETH_PORT_STAT.link l)

/-- Whether logical port l carries traffic beside EAPOL: it is up, and SECURED where MACsec is required (R331). -/
def State.portOpen (s : State) (l : Nat) : Bool :=
  s.portUp l && (!s.flag (F.ETH_PORT_CFG.macsec_req l) || s.fld (F.ETH_PORT_STAT.macsec l) = 2)

/-- Hand an Agreement frame to the ports. -/
def Act.agrSend (x : AgrTx) : Act :=
  ⟨fun s => { s with agrOut := s.agrOut ++ [x] }, fun _ h => h, fun _ => rfl, fun _ => .refl _, fun _ h => ⟨h, rfl⟩⟩

/-- The 16 bits of an Agreement frame's 802.1Q tag: PCP 7, DEI 0 and the VID (R318). -/
def AgrTx.tci (x : AgrTx) : Nat := 7 * 2 ^ 13 + x.vid

/-- The 64 bytes of an Agreement frame's payload (R319): major version 1, minor 0. -/
def AgrTx.payload (x : AgrTx) : List Byte :=
  leBytes 1 0x10 ++ leBytes 1 x.typ ++ leBytes 2 x.domain ++ leBytes 1 x.group ++ leBytes 1 x.flags ++ leBytes 2 x.sender ++
    leBytes 4 x.generation ++ leBytes 4 0 ++ leBytes 8 x.dtime ++
    (List.range 5).flatMap fun i => leBytes 8 ((x.body[i]?).getD 0)

/-- The flags that every frame of this device carries: bit 3, xtal_lost (R319). -/
def State.frameFlags (s : State) : Nat := if s.flag F.TNS_STATUS.xtal_lost then 8 else 0

/-- The port over which a peer is reached: the lowest-numbered up port in its mask (R328). -/
def State.peerPort (s : State) (p : Peer) : Option Nat := (List.range 8).find? fun l => bitOf p.ports l && s.portOpen l

/-- Send a frame of group g to a peer, while the network engine is enabled and the peer can be reached. -/
def Act.sendTo (g : Nat) (p : Peer) (typ flags : Nat) (body : List Nat) : Act :=
  Act.get fun s =>
    match (if s.flag F.AGR_CTL.net_en && p.valid then s.peerPort p else none) with
    | some l => Act.agrSend
        { port := l, dest := p.mac, src := s.fuses.macs.toList.getD l 0, vid := s.fld F.AGR_NET_VLAN.vid,
          ethertype := s.fld F.AGR_NET_CFG.ethertype, domain := s.fld F.AGR_NET_CFG.domain, group := g, typ := typ, flags := flags + s.frameFlags,
          sender := s.fld (F.AGR_GRP_CFG.member g), generation := s.fld (F.AGR_GRP_GEN.generation g),
          dtime := s.tns.dtime, body := body }
    | none => Act.skip

/-- Send a frame of group g to its parent. -/
def Act.sendUp (g typ flags : Nat) (body : List Nat) : Act :=
  Act.get fun s =>
    match s.grp g with
    | some x => Act.sendTo g x.parent typ flags body
    | none => Act.skip

/-- Send a frame of group g to its children: by the multicast entry where it is valid, otherwise to each (R309). -/
def Act.sendDown (g typ flags : Nat) (body : List Nat) : Act :=
  Act.get fun s =>
    match s.grp g with
    | some x => if x.mcast.valid then Act.sendTo g x.mcast typ flags body
                else Act.each x.kids fun p => Act.sendTo g p typ flags body
    | none => Act.skip

/-- Poison line l on this device (R306), unless it is POISONED already. -/
def Act.poisonHere (l : Fin 32) (cause : Nat) : Act :=
  Act.get fun s =>
    if s.flag (F.AGR_LINE_STAT.poisoned l) then Act.skip
    else Act.seq [
      Act.setB (F.AGR_LINE_STAT.poisoned l) true,
      Act.releaseLine l 1 0#64 (fun _ => true),
      Act.emit 0x25 0x0C03 3 [l, cause],
      Act.dumpTrigger 3 0xFF]

/-- The role of group g: 0 leaf, 1 relay, 2 root. -/
def State.grpRole (s : State) (g : Nat) : Nat := s.fld (F.AGR_GRP_CFG.role g)

/-- Report the poison of network barrier l at once: upward, or by the root with RELEASE (R317). -/
def Act.poisonReport (l : Fin 32) : Act :=
  Act.get fun s =>
    let g := s.fld (F.AGR_LINE_CFG.group l)
    if s.grpRole g = 2 then
      (Act.line l fun x => { x with poisonSent := true }).andThen (Act.sendDown g 5 2 [l, s.lines[l].round, 0, 0, 0])
    else (Act.line l fun x => { x with poisonUp := true, sentAt := s.tns.tick }).andThen
      (Act.sendUp g 4 2 [l, s.lines[l].round, s.lines[l].kids, 0, 0])

/-- Poison line l (R306), unless it is POISONED already; a network barrier is poisoned group-wide (R317).  cause: 0 core
reset, 1 core halted, 2 slot moved, 3 physical line, 4 child lost, 5 orphaned, 6 group left, 7 reported; the model's
numbering (log entry 3). -/
def Act.poisonLine (l : Fin 32) (cause : Nat) : Act :=
  Act.get fun s =>
    if s.flag (F.AGR_LINE_STAT.poisoned l) then Act.skip
    else (Act.poisonHere l cause).andThen (Act.when (s.flag (F.AGR_LINE_CFG.net l)) (Act.poisonReport l))

/-- Poison every line of which core k is a member, and discard its parked arrivals (R306, R321). -/
def Act.poisonLinesOf (k cause : Nat) : Act :=
  Act.get fun s =>
    Act.each ((List.finRange 32).filter fun (l : Fin 32) => bitOf (s.fld (F.AGR_LINE_CFG.members l)) k) fun l =>
      (Act.poisonLine l cause).andThen (Act.setFBit (F.AGR_LINE_STAT.parked l) k false)

/-- Whether an owner code designates slots that core k serves. -/
def State.slotOwner (s : State) (k o : Nat) : Bool := (List.range 8).any fun n => o == 0x10 + n && s.slotCore n == k

/-- What a reset or a halt of core k takes with it: the objects it or a slot it serves owns, and the lines it is a member of
(R297, R306). -/
def Act.coreLost (k : Fin 13) (cause : Nat) : Act :=
  Act.get fun s =>
    (Act.poisonOwned fun o => o == k.val || s.slotOwner k o).andThen (Act.poisonLinesOf k cause)

/-- Slot n moves from core k to another: its objects are poisoned, and the lines of which core k is a member (R297, R306).
-/
def Act.slotMoved (n k : Nat) : Act := (Act.poisonOwned fun o => o == 0x10 + n).andThen (Act.poisonLinesOf k 2)

/-! ## Interrupt lines -/

/-- Raise an interrupt line of core k; it stays pending until the core reads its source (R226, log entry 47). -/
def Act.raiseLine (k : Fin 13) (n : Nat) : Act := Act.core k fun c => { c with raised := setBit c.raised n }

/-- Raise an interrupt line on several cores. -/
def Act.raiseLines (ks : List (Fin 13)) (n : Nat) : Act := Act.each ks fun k => Act.raiseLine k n

/-- The cores of slot cores 0 to 9. -/
def slotCores : List (Fin 13) := (List.finRange 13).filter fun k => 3 ≤ k.val

/-- A zone level changed: line 4 of the power core and the slot cores (R226). -/
def Act.thmLine : Act := Act.raiseLines (1 :: slotCores) 4

/-- A Period cause changed: line 5 of the security core and the power core (R226). -/
def Act.perLine : Act := Act.raiseLines [0, 1] 5

/-- The lines that a level holds pending for core k (R226): EPOCH, CTX, AGR and EVR. -/
def State.levelLines (s : State) (k : Fin 13) : Nat :=
  maskOf ((if k = 1 && (List.range 8).any (fun i => s.reg (R.TNS_EPOCH_PEND i) != 0#32) then [2] else []) ++
    (if 3 ≤ k.val && (List.range 8).any fun n => s.slotCore n == k && s.flag (F.CMA_CTX.changed n) then [3] else []) ++
    (if s.flag F.AGR_STATUS.misuse || s.flag F.AGR_STATUS.grp_event then [7] else []) ++
    (if k = 2 && s.evr.shedIrq then [10] else []))

/-- CR_IPEND of core k: raised lines and levels. -/
def State.ipend (s : State) (k : Fin 13) : Nat := (s.core k).raised ||| s.levelLines k

/-- The enabled pending lines of core k. -/
def State.irqs (s : State) (k : Fin 13) : Nat := s.ipend k &&& (s.core k).ien

/-! ## Exceptions, interrupts and halts -/

/-- Note when core k halted, for the count of R421. -/
def Act.haltMark (k : Fin 13) : Act :=
  ⟨fun s => { s with haltTimes := (k.val, s.tns.tick) :: s.haltTimes }, fun _ h => h, fun _ => rfl, fun _ => .refl _, fun _ h => ⟨h, rfl⟩⟩

/-- Core k halts (R225): it stops, hardware records the halt, and what it owns is poisoned. -/
def Act.halt (k : Fin 13) : Act :=
  Act.get fun s =>
    let c := s.core k
    let cause := (if c.causeIrq then 2 ^ 63 else 0) + c.causeDetail * 256 + c.causeCode
    Act.seq [
      Act.core k fun c => { c with run := .halted, wait := none },
      Act.emitHw (coreSource k) 0x0900 4 [k, cause, c.epc.toNat],
      Act.addF (F.RST_CORE_STAT.halts k) 1,
      Act.haltMark k,
      Act.dumpTrigger 1 k,
      Act.coreLost k 1,
      Act.each ((List.range 8).filter fun n => s.slotCore n == k.val) fun n => Act.setB (F.CMA_PACE_CTL.hold n) true]

/-- Enter the handler of core k (R224): what the status becomes, what is saved, and where the program counter goes. -/
def Act.enter (k : Fin 13) (irq : Bool) (code detail : Nat) (epc bad : Word) : Act :=
  Act.get fun s =>
    let c := s.core k
    Act.seq [
      Act.setMode k false c.p c.ie false true,
      Act.core k fun c => { c with epc := epc, causeIrq := irq, causeDetail := detail % 4096, causeCode := code % 256,
                                   badaddr := bad, wait := none, run := .running },
      Act.setPc k c.vec]

/-- Take a synchronous exception on core k (R223, R224); with exl set the core halts (R225). -/
def Act.takeExc (k : Fin 13) (code detail : Nat) (epc bad : Word) : Act :=
  Act.get fun s => if (s.core k).exl then Act.halt k else Act.enter k false code detail epc bad

/-- Return from an exception on core k (R219): PC = CR_EPC, mode = ppm, ie = pie, exl = 0. -/
def Act.eret (k : Fin 13) : Act :=
  Act.get fun s =>
    let c := s.core k
    Act.seq [Act.setMode k c.ppm c.ppm c.pie c.pie false, Act.setPc k c.epc.toNat]

end Sys2Proof.Machine
end

