-- ==== Sys2Proof/Machine/Parts.lean ====
section
/-!
DEFINITION. Changes of the parts of the state that the well-formedness of a state says nothing about, one for each part; the
phases of a slot; and the repair record (R362, R366, R424, R433).
-/
namespace Sys2Proof.Machine

/-- Change a Comma link. -/
def Act.link (i : Fin 8) (f : Link → Link) : Act :=
  ⟨fun s => { s with links := s.links.set i (f s.links[i]) }, fun _ h => h, fun _ => rfl, fun _ => .refl _, fun _ h => ⟨h, rfl⟩⟩

/-- Change a ramp sequencer. -/
def Act.ramp (i : Fin 8) (f : Ramp → Ramp) : Act :=
  ⟨fun s => { s with ramps := s.ramps.set i (f s.ramps[i]) }, fun _ h => h, fun _ => rfl, fun _ => .refl _, fun _ h => ⟨h, rfl⟩⟩

/-- Change the drives of a slot. -/
def Act.slotPins (i : Fin 8) (f : SlotPins → SlotPins) : Act :=
  ⟨fun s => { s with pins := s.pins.set i (f s.pins[i]) }, fun _ h => h, fun _ => rfl, fun _ => .refl _, fun _ h => ⟨h, rfl⟩⟩

/-- Change a target of power orders. -/
def Act.target (i : Fin 9) (f : Target → Target) : Act :=
  ⟨fun s => { s with targets := s.targets.set i (f s.targets[i]) }, fun _ h => h, fun _ => rfl, fun _ => .refl _, fun _ h => ⟨h, rfl⟩⟩

/-- Change a switched domain. -/
def Act.dom (i : Fin 48) (f : Dom → Dom) : Act :=
  ⟨fun s => { s with doms := s.doms.set i (f s.doms[i]) }, fun _ h => h, fun _ => rfl, fun _ => .refl _, fun _ h => ⟨h, rfl⟩⟩

/-- Change a leak zone. -/
def Act.rope (i : Fin 8) (f : Rope → Rope) : Act :=
  ⟨fun s => { s with ropes := s.ropes.set i (f s.ropes[i]) }, fun _ h => h, fun _ => rfl, fun _ => .refl _, fun _ h => ⟨h, rfl⟩⟩

/-- Change the sequencer. -/
def Act.seqx (f : Seq → Seq) : Act := ⟨fun s => { s with seq := f s.seq }, fun _ h => h, fun _ => rfl, fun _ => .refl _, fun _ h => ⟨h, rfl⟩⟩

/-- Change what the caps hold. -/
def Act.capsx (f : Caps → Caps) : Act := ⟨fun s => { s with caps := f s.caps }, fun _ h => h, fun _ => rfl, fun _ => .refl _, fun _ h => ⟨h, rfl⟩⟩

/-- Change the buffer converter. -/
def Act.convx (f : Conv → Conv) : Act := ⟨fun s => { s with conv := f s.conv }, fun _ h => h, fun _ => rfl, fun _ => .refl _, fun _ h => ⟨h, rfl⟩⟩

/-- Change what THM holds. -/
def Act.thmx (f : Thm → Thm) : Act := ⟨fun s => { s with thm := f s.thm }, fun _ h => h, fun _ => rfl, fun _ => .refl _, fun _ h => ⟨h, rfl⟩⟩

/-- Change what Period holds. -/
def Act.perx (f : Per → Per) : Act := ⟨fun s => { s with per := f s.per }, fun _ h => h, fun _ => rfl, fun _ => .refl _, fun _ h => ⟨h, rfl⟩⟩

/-- Change Tense. -/
def Act.tense (f : Tense → Tense) : Act := ⟨fun s => { s with tns := f s.tns }, fun _ h => h, fun _ => rfl, fun _ => .refl _, fun _ h => ⟨h, rfl⟩⟩

/-- The entry of a sensor. -/
def State.sensor (s : State) (i : Nat) : Sensor := Sparse.get (fun _ => Sensor.reset) i s.sns

/-- Change a sensor. -/
def Act.sensor (i : Nat) (f : Sensor → Sensor) : Act :=
  ⟨fun s => { s with sns := Sparse.set (fun _ => Sensor.reset) i (f (s.sensor i)) s.sns }, fun _ h => h, fun _ => rfl, fun _ => .refl _, fun _ h => ⟨h, rfl⟩⟩

/-- Change the reset block. -/
def Act.rstx (f : Rst → Rst) : Act := ⟨fun s => { s with rst := f s.rst }, fun _ h => h, fun _ => rfl, fun _ => .refl _, fun _ h => ⟨h, rfl⟩⟩

/-! ## The phases of a slot -/

/-- The phase of slot n: 0 NONE, 1 OWNED, 2 SCRUB, 3 WAIT_DEVICE (R362). -/
def State.phase (s : State) (n : Nat) : Nat := s.fld (F.SEC_SLOT.phase n)

/-- Whether slot n is in SCRUB or WAIT_DEVICE, so that values of it read all ones (R366). -/
def State.hidden (s : State) (n : Nat) : Bool := 2 ≤ s.phase n

/-- A value of slot n in the w bytes that a response gives it: all ones while the slot is hidden (R366). -/
def State.veiled (s : State) (n w v : Nat) : List Byte := leBytes w (if s.hidden n then 2 ^ (8 * w) - 1 else v)

/-! ## The repair record (R424, R433) -/

/-- The 16 bytes of an entry: its CRC takes byte 1 as 0xFF; bytes 2 and 3 are 0 (DESIGN CHOICE, log entry 100). -/
def RepairEntry.bytes (e : RepairEntry) : List Byte :=
  let head (state : Nat) : List Byte :=
    leBytes 1 e.kind ++ leBytes 1 state ++ leBytes 2 0 ++ leBytes 4 e.index ++ leBytes 4 e.cycle
  head e.state ++ leBytes 4 (crc32c (head 0xFF))

/-- Write the repair record into its sector, which has room for 4,096 entries. -/
def Act.repairStore : Act :=
  Act.get fun s => Act.each (s.repair.take 4096).zipIdx fun p => Act.flashBytes (0x1900000 + 16 * p.2) p.1.bytes

/-- Change the field repair record, also where it lies in flash. -/
def Act.repairx (f : List RepairEntry → List RepairEntry) : Act :=
  (⟨fun s => { s with repair := f s.repair }, fun _ h => h, fun _ => rfl, fun _ => .refl _, fun _ h => ⟨h, rfl⟩⟩ : Act).andThen
    Act.repairStore

/-- Append to the field repair record. -/
def Act.repairAdd (kind state index : Nat) : Act :=
  Act.get fun s => Act.repairx fun l => l ++ [⟨kind, state, index, s.tns.cycles⟩]

/-- Change the inventory. -/
def Act.invx (f : Inv → Inv) : Act := ⟨fun s => { s with inv := f s.inv }, fun _ h => h, fun _ => rfl, fun _ => .refl _, fun _ h => ⟨h, rfl⟩⟩

/-- Change the Ethernet block. -/
def Act.ethx (f : Eth → Eth) : Act := ⟨fun s => { s with eth := f s.eth }, fun _ h => h, fun _ => rfl, fun _ => .refl _, fun _ h => ⟨h, rfl⟩⟩

/-- The device identity key as the key unit returns it: zeros once the key-kill fuse is blown (R359). -/
def Fuses.identity (f : Fuses) : Nat := if f.keyKill then 0 else f.identityKey

/-- Fuse an owner's digests: PROVISIONED becomes OWNED (R359). -/
def Fuses.own (f : Fuses) (root dbg : Nat) : Fuses :=
  if f.lifecycle = 1 then { f with lifecycle := 2, ownerDig := root, dbgDig := dbg } else f

/-- Blow the key-kill fuse: OWNED becomes DECOMMISSIONED (R359). -/
def Fuses.retire (f : Fuses) : Fuses := if f.lifecycle = 2 then { f with lifecycle := 3, keyKill := true } else f

/-- Raise a security version to v (R388): kind 0 resident, any other service. -/
def Fuses.raise (f : Fuses) (kind v : Nat) : Fuses :=
  if kind = 0 then { f with svnResident := max f.svnResident v } else { f with svnService := max f.svnService v }

/-- Fuse the digest of an image-signing key into a slot that holds none (R387). -/
def Fuses.fuseKey (f : Fuses) (slot : Fin 4) (digest : Nat) : Fuses :=
  if bitOf f.keysFused slot then f
  else { f with keysFused := setBit f.keysFused slot, keyDigs := f.keyDigs.set slot digest }

/-- Revoke an image-signing key (R387). -/
def Fuses.revokeKey (f : Fuses) (slot : Nat) : Fuses := { f with keysRevoked := setBit f.keysRevoked slot }

theorem Fuses.own_below (f : Fuses) (root dbg : Nat) : f.burnsTo (f.own root dbg) := by
  unfold Fuses.own
  split
  · rename_i h
    exact { Fuses.burnsTo.refl f with
      life := by show f.lifecycle ≤ 2; omega
      owner := fun x => by omega }
  · exact .refl f

theorem Fuses.retire_below (f : Fuses) : f.burnsTo f.retire := by
  unfold Fuses.retire
  split
  · rename_i h
    exact { Fuses.burnsTo.refl f with
      life := by show f.lifecycle ≤ 3; omega
      kill := fun _ => rfl }
  · exact .refl f

theorem Fuses.raise_below (f : Fuses) (kind v : Nat) : f.burnsTo (f.raise kind v) := by
  unfold Fuses.raise
  split
  · exact { Fuses.burnsTo.refl f with svn := ⟨Nat.le_max_left _ _, Nat.le_refl _⟩ }
  · exact { Fuses.burnsTo.refl f with svn := ⟨Nat.le_refl _, Nat.le_max_left _ _⟩ }

theorem Fuses.fuseKey_below (f : Fuses) (slot : Fin 4) (digest : Nat) : f.burnsTo (f.fuseKey slot digest) := by
  unfold Fuses.fuseKey
  split
  · exact .refl f
  · rename_i h
    exact { Fuses.burnsTo.refl f with
      fused := fun i hi => bitOf_setBit _ _ _ hi
      digest := fun i hi => by
        have hne : (slot : Nat) ≠ i := fun e => h (e ▸ hi)
        simp [Vector.getElem_set_ne, hne] }

theorem Fuses.revokeKey_below (f : Fuses) (slot : Nat) : f.burnsTo (f.revokeKey slot) :=
  { Fuses.burnsTo.refl f with revoked := fun _ hi => bitOf_setBit _ _ _ hi }

/-- Burn fuses: a change that unburns none. -/
def Act.fusesx (f : Fuses → Fuses) (hf : ∀ x : Fuses, x.burnsTo (f x)) : Act :=
  ⟨fun s => { s with fuses := f s.fuses }, fun _ h => h, fun _ => rfl, fun _ => hf _, fun _ h => ⟨h, rfl⟩⟩

/-- Change the security state. -/
def Act.secx (f : Sec → Sec) : Act := ⟨fun s => { s with sec := f s.sec }, fun _ h => h, fun _ => rfl, fun _ => .refl _, fun _ h => ⟨h, rfl⟩⟩

/-- Change boot and update. -/
def Act.bootx (f : Boot → Boot) : Act := ⟨fun s => { s with boot := f s.boot }, fun _ h => h, fun _ => rfl, fun _ => .refl _, fun _ h => ⟨h, rfl⟩⟩

/-- Change the Itsal die. -/
def Act.itsx (f : Its → Its) : Act := ⟨fun s => { s with its := f s.its }, fun _ h => h, fun _ => rfl, fun _ => .refl _, fun _ h => ⟨h, rfl⟩⟩

/-- Change learned control. -/
def Act.learnedx (f : Learned → Learned) : Act := ⟨fun s => { s with learned := f s.learned }, fun _ h => h, fun _ => rfl, fun _ => .refl _, fun _ h => ⟨h, rfl⟩⟩

/-- Change the TAP. -/
def Act.tapx (f : Tap → Tap) : Act := ⟨fun s => { s with tap := f s.tap }, fun _ h => h, fun _ => rfl, fun _ => .refl _, fun _ h => ⟨h, rfl⟩⟩

/-- Change a clause slot. -/
def Act.clause (i : Fin 32) (f : ClauseSlot → ClauseSlot) : Act :=
  ⟨fun s => { s with clauses := s.clauses.set i (f s.clauses[i]) }, fun _ h => h, fun _ => rfl, fun _ => .refl _, fun _ h => ⟨h, rfl⟩⟩

end Sys2Proof.Machine
end

