-- ==== Sys2Proof/Machine/Csr.lean ====
section
/-!
DEFINITION. A write to a register by its access codes, its locks and its reserved encodings (R14 to R18).
-/
namespace Sys2Proof.Machine

/-- Whether the lock of a field of the register at an offset is set. -/
def State.locked (s : State) (off : Nat) : Lock → Bool
  | .none => false
  | .bit o i => bitOf (s.reg o).toNat i
  | .core =>
    if off < 0x10000 then s.flag (F.SYS_CORE_LOCK.lock ((off - 0x2000) / 0x200))
    else s.flag (F.SYS_CORE_LOCK.lock ((off - 0x20100) / 8))

/-- Whether a value is no reserved encoding of a field (R17). -/
def FieldSpec.admits (f : FieldSpec) (x : Nat) : Bool := f.legal.isEmpty || f.legal.any fun p => p.1 ≤ x && x ≤ p.2

/-- The content v of a register at an offset after core k wrote w to one field of it (R14).  The lock is read as it
stood before the write (log entry 6). -/
def FieldSpec.write (f : FieldSpec) (s : State) (k : Fin 13) (off : Nat) (w v : W32) : W32 :=
  let x := fldOf w f.hi f.lo
  let old := fldOf v f.hi f.lo
  let put (y : Nat) : W32 := fldPut v f.hi f.lo y
  let free := !s.locked off f.lock && f.admits x
  match f.acc with
  | .rw => if free then put x else v
  | .rwl => if free then put x else v
  | .sec => if free && k = 0 then put x else v
  | .secW1s => if k = 0 then put (old ||| x) else v
  | .w1s => put (old ||| x)
  | .w1c => put (old - (old &&& x))
  | .cnt => if x = 0 then v else put 0
  | .ro => v
  | .wo => v
  | .fus => v
  | .w1cCond => v

/-- The key of the register at an offset as core k reaches it: its own copy where there is one per core. -/
def keyFor (r : RegSpec) (k : Fin 13) (off : Nat) : Nat := if r.copy then off + 0x1000000 * (k.val + 1) else off

/-- A write of core k to the register at an offset, by the access codes of its fields. -/
def Act.plainWrite (k : Fin 13) (off : Nat) (w : W32) : Act :=
  Act.get fun s =>
    match findReg off with
    | none => Act.skip
    | some (r, _) =>
      Act.setReg (keyFor r k off) (r.fields.foldl (fun v f => f.write s k off w v) (s.reg (keyFor r k off)))

/-- Whether the values of a write to the register at an offset lie within the ranges of all its fields. -/
def admitsAll (off : Nat) (w : W32) : Bool :=
  match findReg off with
  | none => false
  | some (r, _) => r.fields.all fun f => f.admits (fldOf w f.hi f.lo)

end Sys2Proof.Machine
end

