-- ==== Sys2Proof/Machine/Levels.lean ====
section
/-!
DEFINITION. What the fixed-function hardware decides from the registers at any moment: which sensors are evaluated, the
levels of zones, the overrides of fans and pumps, the standing causes of Period and the emergency duties, and the
applied value of a Qualifier channel.
-/
namespace Sys2Proof.Machine

/-! ## Periodic starts (R48) -/

/-- A start of periodic activity i (0 pace frame, 1 control tick, 2 pace round, 3 thermal predictor, 4 fast round, 5 slow
round, 6 leak sample, 7 rope self-test): while the instance before it still runs the start is skipped and counted. -/
def Act.start (i : Nat) (busy : Bool) (a : Act) : Act := if busy then Act.bump (F.TNS_SKIP.count i) else a

/-! ## Interrupts (R226) -/

/-- The interrupt lines whose source is the block of a register (R226): TICK and MS from TNS, THM, PER, ETH, ITS from
SYS_ITS and SPARE from RST. -/
def sourceLines (off : Nat) : List Nat :=
  match off / 0x10000 with
  | 4 => [0, 1] | 7 => [4] | 5 => [5] | 0x10 => [6] | 3 => [9]
  | 0 => if 0x400 ≤ off && off < 0x500 then [8] else []
  | _ => []

/-- Core k has read a register of a block: the lines that the block raised are no longer pending for it (DESIGN CHOICE, log
entry 47). -/
def Act.lineRead (k : Fin 13) (off : Nat) : Act :=
  Act.when (!(sourceLines off).isEmpty)
    (Act.core k fun c => { c with raised := (sourceLines off).foldl clrBit c.raised })

/-! ## The stages of power -/

/-- Whether the gate request is on. -/
def State.gateOn (s : State) : Bool := s.flag F.SEQ_STATUS.gate_req

/-- Whether SLOTn_EFUSE_EN is driven on. -/
def State.efuseOn (s : State) (n : Nat) : Bool := bitOf (s.fld F.SEQ_EFUSE_STATUS.en) n

/-- Whether DOMd_EN is driven on. -/
def State.domOn (s : State) (d : Nat) : Bool := bitOf (s.fld (F.SEQ_DOM_EN.en (d / 32))) (d % 32)

/-- Whether DOMd_PG is good after its deglitch. -/
def State.domPg (s : State) (d : Nat) : Bool := bitOf (s.fld (F.SEQ_DOM_PG.pg (d / 32))) (d % 32)

/-- The owner of domain d: 0 to 7 a slot, 8 the tray, 15 none (R64). -/
def State.domOwner (s : State) (d : Nat) : Nat := s.fld (F.SEQ_DOM_CFG.owner d)

/-- The leak zone of domain d; 15 is none (R65). -/
def State.domZone (s : State) (d : Nat) : Nat := s.fld (F.SEQ_DOM_CFG.zone d)

/-- The leak zone of slot n's eFuse. -/
def State.efuseZone (s : State) (n : Nat) : Nat := s.fld (F.SEQ_EFUSE_CFG.zone n)

/-! ## Sensors and zones (R135, R140, R145) -/

/-- Whether sensor i takes part: enabled, and for an analog input of a temperature kind (THM_SNS_CFG.en). -/
def State.snsEnabled (s : State) (i : Nat) : Bool :=
  s.flag (F.THM_SNS_CFG.en i) && (128 ≤ i || s.fld (F.PRS_AIN_CFG.kind i) = 2 || s.fld (F.PRS_AIN_CFG.kind i) = 3)

/-- The target of zone z: 0 to 7 a slot, 8 the tray. -/
def State.zoneTarget (s : State) (z : Nat) : Nat := s.fld (F.THM_ZONE_CFG.target z)

/-- Whether sensor i is evaluated (R135). -/
def State.evaluated (s : State) (i : Nat) : Bool :=
  s.snsEnabled i &&
    (if 160 ≤ i && i < 232 then true
     else
      let z := s.fld (F.THM_SNS_CFG.zone i)
      if 16 ≤ z then true
      else if s.zoneTarget z < 8 then s.efuseOn (s.zoneTarget z)
      else s.gateOn)

/-- Whether sensor i is broken (R145). -/
def State.snsBroken (s : State) (i : Nat) : Bool := bitOf (s.reg (R.THM_BROKEN (i / 32))).toNat (i % 32)

/-- The temperature of level l (1 WARN to 4 TRIP) of sensor i, in 1/16 degC. -/
def State.snsThr (s : State) (i l : Nat) : Int := ((s.fld (F.THM_SNS_LVL.levels i) / 256 ^ (l - 1) % 256 * 16 : Nat) : Int)

/-- The value of sensor i in every consumer: its CRIT level while it is broken (R145). -/
def State.snsValue (s : State) (i : Nat) : Int := if s.snsBroken i then s.snsThr i 3 else (s.sensor i).value

/-- The highest level that a value has reached. -/
def State.reached (s : State) (i : Nat) (v : Int) : Nat :=
  if s.snsThr i 4 ≤ v then 4 else if s.snsThr i 3 ≤ v then 3 else if s.snsThr i 2 ≤ v then 2
  else if s.snsThr i 1 ≤ v then 1 else 0

/-- The level of sensor i at value v when it was at level l: it leaves a level when the value falls below that level's
temperature less the hysteresis (R140). -/
def State.levelStep (s : State) (i l : Nat) (v : Int) : Nat :=
  max (s.reached i v) (min l (s.reached i (v + ((s.fld F.THM_CTL.hyst * 16 : Nat) : Int))))

/-- The level of sensor i, 0 where it is not evaluated or has no result. -/
def State.snsLevel (s : State) (i : Nat) : Nat :=
  if !s.evaluated i then 0 else if s.snsBroken i then 3 else if (s.sensor i).has then (s.sensor i).level else 0

/-- The sensors of zone z that are evaluated. -/
def State.zoneSensors (s : State) (z : Nat) : List Nat :=
  (List.range 280).filter fun i => s.fld (F.THM_SNS_CFG.zone i) = z && s.evaluated i

/-- The members of cooling group g that have failed or lost flow hold its zones at THROTTLE (R148, R150).  Only fans
count in AIR. -/
def State.groupHeld (s : State) (g : Nat) : Bool :=
  let liquid := s.fld F.THM_CTL.mode ≠ 0
  let fans := bitsOf (s.fld (F.THM_GROUP.fans g)) 16
  let pumps := if liquid then bitsOf (s.fld (F.THM_GROUP.pumps g)) 4 else []
  (liquid && (pumps.any (fun p => s.flag (F.THM_PUMP_STAT.failed p)) ||
    (List.range 4).any fun f => bitOf (s.fld (F.THM_FLOW_CFG.groups f)) g && s.flag (F.THM_FLOW_STAT.lost f))) ||
  ((!fans.isEmpty || !pumps.isEmpty) && fans.all (fun i => s.flag (F.THM_FAN_STAT.failed i)) &&
    pumps.all fun p => s.flag (F.THM_PUMP_STAT.failed p))

/-- How many evaluated sensors of zone z are broken. -/
def State.zoneBroken (s : State) (z : Nat) : Nat := (s.zoneSensors z).countP s.snsBroken

/-- The level of zone z (R140, R145, R148, R150). -/
def State.zoneLevel (s : State) (z : Nat) : Nat :=
  let l := (s.zoneSensors z).foldl (fun m i => max m (s.snsLevel i)) 0
  let l := if 2 ≤ s.zoneBroken z then 4 else l
  if s.groupHeld (s.fld (F.THM_ZONE_CFG.group z)) then max l 2 else l

/-- The evaluated sensor of zone z that reads highest, the lowest-numbered among equals. -/
def State.zoneHottest (s : State) (z : Nat) : Option Nat :=
  (s.zoneSensors z).foldl (fun m i =>
    if !((s.sensor i).has || s.snsBroken i) then m
    else match m with
      | some j => if s.snsValue j < s.snsValue i then some i else m
      | none => some i) none

/-- The level of slot n or, for 8, of the tray. -/
def State.targetLevel (s : State) (t : Nat) : Nat :=
  ((List.range 16).filter fun z => s.zoneTarget z = t).foldl (fun m z => max m (s.zoneLevel z)) 0

/-! ## Overrides (R146, R151) -/

/-- The groups whose zones are at CRIT or above, or hold a sensor whose rate is above the limit with cause. -/
def State.groupHot (s : State) (g : Nat) : Bool :=
  (List.range 16).any fun z => s.fld (F.THM_ZONE_CFG.group z) = g &&
    (3 ≤ s.zoneLevel z || (s.zoneSensors z).any fun i => (s.sensor i).rateCause)

/-- Whether a pump of group g has failed or its flow is lost, which counts in LIQUID and MIXED only (R148). -/
def State.groupDry (s : State) (g : Nat) : Bool :=
  s.fld F.THM_CTL.mode ≠ 0 &&
    ((bitsOf (s.fld (F.THM_GROUP.pumps g)) 4).any (fun p => s.flag (F.THM_PUMP_STAT.failed p)) ||
     (List.range 4).any fun f => bitOf (s.fld (F.THM_FLOW_CFG.groups f)) g && s.flag (F.THM_FLOW_STAT.lost f))

/-- Whether an override holds fan i at maximum. -/
def State.fanForced (s : State) (i : Nat) : Bool :=
  (List.range 8).any fun g => bitOf (s.fld (F.THM_GROUP.fans g)) i &&
    (s.groupHot g || (bitsOf (s.fld (F.THM_GROUP.fans g)) 16).any (fun j => j ≠ i && s.flag (F.THM_FAN_STAT.failed j)) ||
     (s.fld F.THM_CTL.mode = 2 && s.groupDry g))

/-- Whether an override holds pump p at maximum. -/
def State.pumpForced (s : State) (p : Nat) : Bool :=
  (List.range 8).any fun g => bitOf (s.fld (F.THM_GROUP.pumps g)) p &&
    (s.groupHot g ||
     (s.fld F.THM_CTL.mode ≠ 0 &&
      ((bitsOf (s.fld (F.THM_GROUP.pumps g)) 4).any (fun q => q ≠ p && s.flag (F.THM_PUMP_STAT.failed q)) ||
       (List.range 4).any fun f => bitOf (s.fld (F.THM_FLOW_CFG.groups f)) g && s.flag (F.THM_FLOW_STAT.lost f))))

/-! ## Valves (R149, R169) -/

/-- Whether valve v is driven: by its command, or by Period's force where its leak state is not the state it has undriven.
-/
def State.valveDriven (s : State) (v : Nat) : Bool :=
  if bitOf (s.fld F.THM_VALVE_CTL.forced) v then
    bitOf (s.fld F.LKD_VALVE_LEAK.state) v != s.flag (F.THM_VALVE_CFG.normal v)
  else bitOf (s.fld F.THM_VALVE_CTL.on) v

/-- Run an action that may turn valves on or off: a valve that turns on has full drive for pull_ms (R149). -/
def Act.withValves (a : Act) : Act :=
  Act.get fun s0 => a.andThen (Act.get fun s1 =>
    Act.each (List.finRange 8) fun (v : Fin 8) =>
      if s1.valveDriven v = s0.valveDriven v then Act.skip
      else
        let e := if s1.valveDriven v then some (s1.tns.tick + s1.fld (F.THM_VALVE_CFG.pull_ms v) * 1000) else none
        Act.thmx fun t => { t with pullEnd := t.pullEnd.set v e })

/-- The drive of valve v in %: full drive while it pulls, then hold_pct. -/
def State.valveDrive (s : State) (v : Fin 8) : Nat :=
  if !s.valveDriven v then 0 else if s.thm.pullEnd[v].isSome then 100 else s.fld (F.THM_VALVE_CFG.hold_pct v)

/-! ## Period's causes (R161, R162) -/

/-- Whether Period is armed (R160). -/
def State.armed (s : State) : Bool := s.flag F.PER_CTL.lock

/-- Whether a cause of a TRAY action stands. -/
def State.trayCause (s : State) : Bool :=
  s.flag F.PER_CAUSE.iin_oc || s.flag F.PER_CAUSE.vbus_uv || s.flag F.PER_CAUSE.vbus_ov ||
  s.flag F.PER_CAUSE.thm_trip || s.flag F.PER_CAUSE.self_fault

/-- Whether a cause against the input gate stands. -/
def State.gateCause (s : State) : Bool := s.trayCause || s.flag F.PER_CAUSE.leak_wet

/-- Whether a cause of a SLOT action on slot n stands. -/
def State.slotCause (s : State) (n : Nat) : Bool :=
  s.flag (F.PER_SLOT_CAUSE.thm_trip n) || s.flag (F.PER_SLOT_CAUSE.thermtrip n) ||
  bitOf (s.fld F.SEQ_EFUSE_STATUS.fault) n

/-- Whether leak zone z is confirmed; zone 15 is none. -/
def State.zoneConfirmed (s : State) (z : Nat) : Bool := z < 8 && bitOf (s.fld F.LKD_STATUS.confirmed) z

/-- Whether zone z takes part in leak detection; one that does not is never wet (R164). -/
def State.zoneOn (s : State) (z : Nat) : Bool := bitOf (s.fld F.LKD_CTL.zone_en) z

/-- Whether leak zone z is wet or confirmed, so that a clause may not turn a resource of it on (R71; DEDUCED, log entry
13). -/
def State.zoneWet (s : State) (z : Nat) : Bool :=
  z < 8 && (bitOf (s.fld F.LKD_STATUS.confirmed) z || (s.zoneOn z && bitOf (s.fld F.LKD_STATUS.wet) z))

/-- Whether a cause stands against slot n's eFuse. -/
def State.efuseCause (s : State) (n : Nat) : Bool := s.trayCause || s.slotCause n || s.zoneConfirmed (s.efuseZone n)

/-- Whether a cause stands against domain d. -/
def State.domCause (s : State) (d : Nat) : Bool :=
  s.trayCause || (s.domOwner d < 8 && s.slotCause (s.domOwner d)) || s.zoneConfirmed (s.domZone d)

/-- Whether a PACE cause is present. -/
def State.paceCause (s : State) : Bool := s.flag F.PER_CAUSE.uv_pace || s.flag F.PER_CAUSE.oc_pace

/-- The emergency duties that stand on slot n's link (R104, R141, R161, R172). -/
def State.emergencies (s : State) (n : Nat) : List Nat :=
  (if s.gateCause || s.efuseCause n then [1023] else []) ++
  (if s.paceCause && s.efuseOn n then [s.fld F.PER_DUTY.pace_duty] else []) ++
  (if s.flag F.PER_CAUSE.fallback && s.efuseOn n then [s.fld F.PER_DUTY.fb_duty] else []) ++
  ((List.range 16).filter fun z => (s.zoneTarget z = n || s.zoneTarget z = 8) && 3 ≤ s.zoneLevel z).map fun z =>
    s.fld (F.THM_ZONE_CFG.crit_duty z)

/-! ## Qualifier channels (R279 to R282) -/

/-- The effective maximum of channel c (R280). -/
def State.quaMax (s : State) (c : Nat) : Nat := min (s.fld (F.QUA_ENV.max c)) (s.fld (F.QUA_TIGHT.tmax c))

/-- The effective minimum of channel c; the maximum prevails over it (R280). -/
def State.quaMin (s : State) (c : Nat) : Nat :=
  min (s.quaMax c) (max (s.fld (F.QUA_ENV.min c)) (s.fld (F.QUA_TIGHT.tmin c)))

/-- The output of channel c. -/
def State.quaOut (s : State) (c : Nat) : Nat := s.fld (F.QUA_OUT.out c)

/-- The emergency duty, fallback duty or override on channel c, if one stands. -/
def State.quaForce (s : State) (c : Nat) : Option Nat :=
  if c < 8 then (s.emergencies c).max?
  else if 16 ≤ c && c < 32 then (if s.fanForced (c - 16) then some (s.quaMax c) else none)
  else if 32 ≤ c && c < 36 then (if s.pumpForced (c - 32) then some (s.quaMax c) else none)
  else none

/-- The ramp duty of slot n, bounded by the maximum of its channel (R117). -/
def State.rampDuty (s : State) (n : Nat) : Nat := min (s.fld (F.BUF_RAMP_STAT.duty n)) (s.quaMax n)

/-- The applied value of channel c (R282). -/
def State.applied (s : State) (c : Nat) : Nat :=
  let v := max (s.quaOut c) ((s.quaForce c).getD 0)
  if c < 8 then max v (max (s.fld (F.THM_THR_DUTY.duty c)) (s.rampDuty c)) else v

/-- Load the output of channel c. -/
def Act.quaLoad (c v : Nat) : Act :=
  (Act.setF (F.QUA_OUT.out c) v).andThen ⟨fun s => { s with quaFrac := s.quaFrac.filter fun p => p.1 != c },
    fun _ h => h, fun _ => rfl, fun _ => .refl _, fun _ h => ⟨h, rfl⟩⟩

/-- The channels on which a duty or an override may stand. -/
def forcedChannels : List Nat := List.range 8 ++ (List.range 20).map (· + 16)

/-- An emergency duty stands: every group is told of it in its next upward ROUND, also where it has ended by then (R105). -/
def Act.noteEmergency : Act :=
  ⟨fun s => { s with grps := s.grps.map fun p => (p.1, { p.2 with selfEmerg := true }) },
   fun _ h => h, fun _ => rfl, fun _ => .refl _, fun _ h => ⟨h, rfl⟩⟩

/-- Run an action that may add or remove emergency duties and overrides.  A duty that rises is recorded with the cause
(R104, R109), and a channel whose duty or override falls is loaded with the applied value of that instant (R282). -/
def Act.withForce (cause : Nat) (a : Act) : Act :=
  Act.get fun s0 => a.andThen (Act.get fun s1 =>
    let up := (List.range 8).filter fun n => (s0.quaForce n).getD 0 < (s1.quaForce n).getD 0
    Act.seq [
      Act.each (forcedChannels.filter fun c =>
          (s1.quaForce c).getD 0 < (s0.quaForce c).getD 0 || ((s0.quaForce c).isSome && (s1.quaForce c).isNone))
        fun c => Act.quaLoad c (s0.applied c),
      Act.when ((List.range 8).any fun n => !(s1.emergencies n).isEmpty) Act.noteEmergency,
      Act.when (!up.isEmpty)
        (Act.emit 0x02 0x0402 3 [maskOf up, cause, up.foldl (fun m n => max m ((s1.quaForce n).getD 0)) 0])])

end Sys2Proof.Machine
end

