-- ==== Sys2Proof/Machine/Power.lean ====
section
/-!
DEFINITION. Driving the power of the tray: the input gate, eFuses, domains, resets and module supplies, the default
down-paths, failed slot devices, the actions of Period, and what is due for each target of power orders.
-/
namespace Sys2Proof.Machine

/-! ## Targets -/

/-- The binding state of target t: 0 OFF, 1 SEQUENCING, 2 ON, 3 FAULT (SEQ_CLAUSE_STAT.state). -/
def State.bindState (s : State) (t : Nat) : Nat := s.fld (F.SEQ_CLAUSE_STAT.state t)

/-- Give target t a binding state. -/
def Act.bindState (t v : Nat) : Act := Act.setF (F.SEQ_CLAUSE_STAT.state t) v

/-- The core that runs target t's clauses: the one serving its slot, for the tray the one serving slot 0 (R70). -/
def State.clauseCore (s : State) (t : Nat) : Nat := s.slotCore (if t < 8 then t else 0)

/-- The event source of the core that serves target t. -/
def State.clauseSource (s : State) (t : Nat) : Nat := coreSource (s.clauseCore t)

/-- The target with number t. -/
def State.target (s : State) (t : Fin 9) : Target := s.targets[t]

/-- Whether the effective state of target t is ON (R75). -/
def State.effOn (s : State) (t : Fin 9) : Bool :=
  let x := s.target t
  x.stM ≠ 2 && x.stH ≠ 2 && (x.stM = 1 || x.stH = 1 || s.flag F.SEQ_CTL.auto_on)

/-- The lower of two caps; a source with no cap imposes none (R75). -/
def lowerCap : Option Nat → Option Nat → Option Nat
  | some a, some b => some (min a b)
  | some a, none => some a
  | none, b => b

/-- The effective cap of target t that is in force; none where neither source has one (R75, R95). -/
def State.effCap (s : State) (t : Fin 9) : Option Nat := lowerCap (s.target t).capM (s.target t).capH

/-- The runtime of core k takes control back from a clause that it stops: mode P ends and the core is at its handler
(DESIGN CHOICE, log entry 14). -/
def Act.leaveP (k : Fin 13) : Act :=
  Act.get fun s =>
    let c := s.core k
    if c.p then Act.seq [Act.setMode k false c.ppm c.pie c.ie c.exl,
        Act.core k fun c => { c with wait := none, run := if c.run = .waiting then .running else c.run },
        Act.setPc k c.vec]
    else Act.skip

/-- Whether a wait is on an I3C or PMBus transfer. -/
def ClauseWait.isTransfer : ClauseWait → Bool
  | .pmicOn _ | .pmicOff _ | .pmicVset _ _ _ | .regOn _ | .regOff _ | .regVset _ _ => true
  | _ => false

/-- Whether a clause is inside a bus transfer, which no stop cuts short (R73). -/
def ClauseRun.inTransfer (r : ClauseRun) : Bool := match r.wait with | some w => w.isTransfer | none => false

/-- Target t's clause no longer runs, and the transfer that it was in, if any, is over. -/
def Act.endRun (t : Fin 9) : Act :=
  (Act.target t fun x => { x with run := none }).andThen
    (if h : t.val < 8 then Act.setB (F.SLT_STAT.busy (⟨t, h⟩ : Fin 8)) false else Act.skip)

/-- Stop the clause that runs for target t, if one does. -/
def Act.stopClause (t : Fin 9) : Act :=
  Act.get fun s =>
    match (s.target t).run with
    | some r => (Act.endRun t).andThen (Act.leaveP r.core)
    | none => Act.skip

/-- Say what is due for target t: what becomes due takes the next place in the order of R70. -/
def Act.due (t : Fin 9) (d : Due) : Act :=
  Act.get fun s =>
    if d = .none || (s.target t).due = d then Act.target t fun x => { x with due := d }
    else (Act.target t fun x => { x with due := d, dueNo := s.seq.dueSeq }).andThen
      (Act.seqx fun q => { q with dueSeq := q.dueSeq + 1 })

/-! ## Links -/

/-- Link n goes DOWN (R84). -/
def Act.linkDown (n : Fin 8) : Act :=
  (Act.setF (F.CMA_STATUS.state n) 0).andThen (Act.link n fun l =>
    { l with validRun := 0, missRun := 0, got := false, sent := 0, line := [.idle] })

/-- Link n enters TRAIN: failed lanes are retried, and the context reference is reset (R83, R84, R91). -/
def Act.linkTrain (n : Fin 8) : Act :=
  Act.seq [Act.setF (F.CMA_STATUS.state n) 1, Act.setF (F.CMA_STATUS.lane_fail n) 0,
    Act.link n fun l => { l with validRun := 0, missRun := 0, got := false, refCtx := 16, refValid := false, echo := 0,
                                 rxBad := Vector.replicate 2 0, txBad := Vector.replicate 2 0 }]

/-- Put SLOTn_RST_N where the clause's drive and a slot-flash update have it (R71, R405), and the link with it: DOWN
while it is low, TRAIN when it is released with link_en set (R84). -/
def Act.rstPin (n : Fin 8) : Act :=
  Act.get fun s =>
    let low := s.pins[n].rstLow || s.pins[n].flashHold
    let was := s.flag (F.SLT_STAT.rst n)
    (Act.setB (F.SLT_STAT.rst n) low).andThen
      (if low then Act.linkDown n
       else if was && bitOf (s.fld F.CMA_CTL.link_en) n then Act.linkTrain n
       else Act.skip)

/-- Drive SLOTn_RST_N low or release it. -/
def Act.rstDrive (n : Fin 8) (low : Bool) : Act :=
  (Act.slotPins n fun p => { p with rstLow := low }).andThen (Act.rstPin n)

/-! ## Enables -/

/-- Drive DOMd_EN on. -/
def Act.domOn (d : Fin 48) : Act :=
  (Act.setFBit (F.SEQ_DOM_EN.en (d / 32)) (d % 32) true).andThen (Act.dom d fun x => { x with pgSeen := false })

/-- Drive DOMd_EN off.  Its discharge time begins (R67); its power-good falls with it (DEDUCED, log entry 15). -/
def Act.domOff (d : Fin 48) : Act :=
  Act.get fun s =>
    if s.domOn d then Act.seq [
      Act.setFBit (F.SEQ_DOM_EN.en (d / 32)) (d % 32) false,
      Act.setFBit (F.SEQ_DOM_PG.pg (d / 32)) (d % 32) false,
      Act.dom d fun x => { x with offAt := s.tns.tick, wasOff := true, pgSeen := false }]
    else Act.skip

/-- Add to the time during which slot n's present device had its feed on (R433). -/
def Act.invCount (n : Fin 8) : Act :=
  Act.get fun s =>
    match s.inv.onAt[n] with
    | none => Act.skip
    | some t =>
      Act.invx fun v => { v with
        onAt := v.onAt.set n (some s.tns.tick),
        entries := v.entries.map fun p =>
          if p.1 = s.fld (F.INV_SLOT_STAT.entry n) then (p.1, { p.2 with onUs := p.2.onUs + (s.tns.tick - t) }) else p }

/-- Drive SLOTn_EFUSE_EN on. -/
def Act.efuseOn (n : Fin 8) : Act :=
  Act.get fun s =>
    (Act.setFBit F.SEQ_EFUSE_STATUS.en n true).andThen
      (Act.invx fun v => { v with onAt := v.onAt.set n (some (v.onAt[n].getD s.tns.tick)) })

/-- Drive SLOTn_EFUSE_EN off. The ON minutes are committed (R433). The power-goods of the feed and of the device fall with
it (DEDUCED, log entry 15). -/
def Act.efuseOff (n : Fin 8) : Act :=
  Act.seq [Act.setFBit F.SEQ_EFUSE_STATUS.en n false, Act.setFBit F.SEQ_EFUSE_STATUS.pg n false,
    Act.setB (F.SLT_STAT.pg n) false, Act.invCount n,
    Act.invx fun v => { v with onAt := v.onAt.set n none, saved := v.entries }]

/-- With the gate request off, a ramp duty held since a leak was confirmed ends (R127). -/
def Act.lapsedEnd : Act :=
  Act.each (List.finRange 8) fun n => Act.get fun s =>
    if s.ramps[n].lapsed && !s.gateOn then Act.seq [
      Act.ramp n fun r => { r with lapsed := false },
      Act.setF (F.BUF_RAMP_STAT.duty n) 0, Act.setB (F.BUF_RAMP_STAT.active n) false]
    else Act.skip

/-- Turn the gate request off. -/
def Act.gateOff : Act :=
  Act.seq [
    Act.setB F.SEQ_STATUS.gate_req false,
    Act.seqx fun q => { q with inputGood := false },
    Act.lapsedEnd]

/-- The VOUT_COMMAND that the regulator of domain d holds, in mV. -/
def State.voutOf (s : State) (d : Fin 48) : Nat := s.doms[d].vout.getD (Config.voutDefault d)

/-- Module m, 0 to 23, has its output disabled. -/
def Act.pmicOffNow (m : Nat) : Act := Act.seqx fun q => { q with pmicOn := clrBit q.pmicOn m }

/-- The domains that belong to target t, highest number first. -/
def State.ownedDomains (s : State) (t : Nat) : List (Fin 48) :=
  ((List.finRange 48).filter fun (d : Fin 48) => s.domOwner d = t).reverse

/-- The default down-path of slot n (R72).  It is one step of the model; its sideband transfers are taken as
acknowledged (DEDUCED, log entry 16). -/
def Act.slotDownPath (n : Fin 8) : Act :=
  Act.get fun s => Act.seq [
    Act.rstDrive n true,
    Act.each [2, 1, 0] fun m => Act.pmicOffNow (3 * n + m),
    Act.each (s.ownedDomains n) Act.domOff,
    Act.when (s.efuseOn n) (Act.efuseOff n)]

/-- The default down-path of the tray (R72). -/
def Act.trayDownPath : Act :=
  Act.get fun s => (Act.each (s.ownedDomains 8) Act.domOff).andThen Act.gateOff

/-- The default down-path of target t. -/
def Act.downPath (t : Fin 9) : Act := if h : t.val < 8 then Act.slotDownPath ⟨t, h⟩ else Act.trayDownPath

/-- Target t is FAULT: its clause stops, nothing is due, and its default down-path runs.  The slots of a tray that is FAULT
after the loss of a domain or a failed clause stay as they are (DESIGN CHOICE, log entry 74). -/
def Act.targetFault (t : Fin 9) : Act :=
  Act.seq [Act.stopClause t, Act.target t fun x => { x with due := .none, lift := false }, Act.downPath t,
    Act.bindState t 3]

/-- Target t is FAULT after a failure outside its clauses (R63, R68, R422): its valid down-clause is due and ends in FAULT;
without one its default down-path runs (R72). -/
def Act.targetFails (t : Fin 9) : Act :=
  Act.get fun s =>
    if s.flag (F.SEQ_BIND.down_valid t) then
      Act.seq [Act.stopClause t, Act.target t fun x => { x with lift := false }, Act.due t .downFault, Act.bindState t 3]
    else Act.targetFault t

/-! ## Failed slot devices (R422) -/

/-- Count a failure against the present device of slot n. -/
def Act.invFailure (n : Fin 8) : Act :=
  Act.get fun s => Act.invx fun v => { v with
    entries := v.entries.map fun p =>
      if p.1 = s.fld (F.INV_SLOT_STAT.entry n) then (p.1, { p.2 with failures := min (p.2.failures + 1) 0xFFFF }) else p }

/-- Slot device n fails: it is recorded, its down-path or its down-clause runs and it is FAULT, and the ABORT lines are
driven low unless they are low already. -/
def Act.slotFail (n : Fin 8) (cause : Nat) : Act :=
  Act.get fun s => Act.seq [
    Act.targetFails ⟨n, by omega⟩,
    Act.setFBit F.RST_ABORT.failed n true,
    Act.invFailure n,
    (if s.flag F.RST_ABORT_CFG.all then
      Act.when (s.fld F.RST_ABORT.asserted = 0) (Act.setF F.RST_ABORT.asserted 0xFF)
     else Act.setFBit F.RST_ABORT.asserted n true),
    Act.emitHw 0x02 0x1006 4 [n, cause]]

/-! ## The buffer converter, where Period strikes it (R127) -/

/-- A plan for which the converter is to be placed in READY again. -/
def Plan.unready (p : Plan) : Plan := { p with readied := false }

/-- The converter enters OFF: all switches open. -/
def Act.bufOff : Act :=
  (Act.setF F.BUF_STATUS.mode 0).andThen (Act.convx fun c =>
    { c with power := 0, plans := c.plans.map Plan.unready, zeroFor := 0, elapsed := 0 })

/-- The plan without slot n, whose release is no longer awaited; none once it awaits no slot. -/
def Plan.without (n : Nat) (p : Plan) : Option Plan :=
  if clrBit p.slots n = 0 then none else some { p with slots := clrBit p.slots n }

/-- The release of slot n is no longer awaited. -/
def Act.planDone (n : Fin 8) : Act :=
  (Act.ramp n fun r => { r with awaits := false, zeroAt := none }).andThen
    (Act.convx fun c => { c with plans := c.plans.filterMap (Plan.without n) })

/-- At a leak confirmation every grant lapses, each ramp duty holds until the gate request is off, and charging stops
(R127). -/
def Act.grantsLapse : Act :=
  Act.seq [
    Act.each (List.finRange 8) fun n => Act.get fun s => Act.seq [
      Act.setB (F.CMA_RAMP.valid n) false,
      Act.planDone n,
      Act.when (s.flag (F.BUF_RAMP_STAT.active n))
        (if s.fld (F.BUF_RAMP_STAT.duty n) = 0 then Act.setB (F.BUF_RAMP_STAT.active n) false
         else Act.ramp n fun r => { r with lapsed := true, stair := none })],
    Act.lapsedEnd,
    Act.get fun s => Act.when (s.fld F.BUF_STATUS.mode = 2) ((Act.setF F.BUF_STATUS.mode 1).andThen
      (Act.convx fun c => { c with power := 0 }))]

/-! ## Period's actions (R161, R162) -/

/-- The number of an action in the payload of event 0x0700, the model's own (log entry 3). -/
inductive Cut where
  | tray | gate | slot (n : Fin 8) | zone (z : Fin 8)
deriving DecidableEq, Repr

/-- The action's number and the slot or zone it strikes. -/
def Cut.code : Cut → Nat × Nat
  | .tray => (0, 0) | .gate => (1, 0) | .slot n => (2, n) | .zone z => (3, z)

/-- What TRAY and GATE do to the states: the tray is FAULT, each slot SEQUENCING or ON is OFF, and every default
down-path runs (R162). -/
def Act.trayCutStates : Act :=
  Act.seq [
    Act.each (List.finRange 8) fun n => Act.get fun s =>
      let t : Fin 9 := ⟨n, by omega⟩
      Act.seq [Act.stopClause t, Act.due t .none, Act.slotDownPath n,
        Act.when (s.bindState n ≠ 3) (Act.bindState n 0)],
    Act.targetFault 8]

/-- TRAY: every enable goes off. -/
def Act.cutTray : Act :=
  Act.seq [Act.gateOff, Act.each (List.finRange 8) Act.efuseOff, Act.each (List.finRange 48) Act.domOff,
    Act.bufOff, Act.trayCutStates]

/-- GATE: the gate request goes off. -/
def Act.cutGate : Act := Act.seq [Act.gateOff, Act.bufOff, Act.trayCutStates]

/-- SLOT n: its eFuse and every domain it owns go off; it is a failed slot device. -/
def Act.cutSlot (n : Fin 8) (cause : Nat) : Act :=
  Act.get fun s => Act.seq [Act.efuseOff n, Act.each (s.ownedDomains n) Act.domOff, Act.slotFail n cause]

/-- Whether slot n has its eFuse or a domain in leak zone z. -/
def State.slotInZone (s : State) (n z : Nat) : Bool :=
  s.efuseZone n = z || (List.range 48).any fun d => s.domOwner d = n && s.domZone d = z

/-- Whether a tray domain lies in leak zone z. -/
def State.trayInZone (s : State) (z : Nat) : Bool := (List.range 48).any fun d => s.domOwner d = 8 && s.domZone d = z

/-- ZONE z: every enable in the zone goes off and its valves are forced (R161, R169); each slot with a resource in it
is a failed slot device, and a tray domain in it strikes the tray as TRAY does (R162). -/
def Act.cutZone (z : Fin 8) (cause : Nat) : Act :=
  Act.get fun s => Act.seq [
    Act.each (List.finRange 48) fun (d : Fin 48) => Act.when (s.domZone d = z) (Act.domOff d),
    Act.each (List.finRange 8) fun n => Act.when (s.efuseZone n = z) (Act.efuseOff n),
    Act.withValves (Act.setF F.THM_VALVE_CTL.forced (s.fld F.THM_VALVE_CTL.forced ||| s.fld (F.LKD_ZONE_CFG.valves z))),
    Act.grantsLapse,
    Act.each ((List.finRange 8).filter fun (n : Fin 8) => s.slotInZone n z) fun n => Act.slotFail n cause,
    Act.when (s.trayInZone z) Act.cutTray]

/-- Period acts: the cut, its record written by hardware (R173), and interrupt line 5 (R226).  cause is the number of
the source in the table of R161, the model's own numbering (log entry 3). -/
def Act.period (c : Cut) (cause input : Nat) : Act :=
  Act.seq [
    (match c with
     | .tray => Act.cutTray
     | .gate => Act.cutGate
     | .slot n => Act.cutSlot n cause
     | .zone z => Act.cutZone z cause),
    Act.emitHw 0x20 0x0700 4 [c.code.1, cause, c.code.2, input],
    Act.perLine]

/-- A self-fault (R159): latched to cold start, and the whole tray is cut.  kind: 0 code, 1 wave, 2 tick, 3 proof. -/
def Act.selfFault (kind path : Nat) : Act :=
  Act.get fun s =>
    if s.flag F.PER_CAUSE.self_fault then Act.skip
    else Act.withForce 12 (Act.seq [
      Act.setB F.PER_CAUSE.self_fault true,
      Act.emitHw 0x20 0x0703 4 [kind, path],
      Act.period .tray 12 0])

/-! ## What is due (R70, R72, R73) -/

/-- Start taking target t down because its effective state became OFF: its down-clause is due, or its default down-path
runs and it is OFF (R72). -/
def Act.startDown (t : Fin 9) : Act :=
  Act.get fun s =>
    if s.flag (F.SEQ_BIND.down_valid t) then Act.due t .down
    else Act.seq [Act.due t .none, Act.downPath t, Act.bindState t 0]

/-- Whether nothing runs and nothing is due for target t. -/
def State.quiet (s : State) (t : Fin 9) : Bool := (s.target t).run.isNone && (s.target t).due = .none

/-- Bring target t to where its effective state has it.  A slot is up only while the tray is ON and ordered ON; the tray
goes down when every slot is down; an up-clause inside a bus transfer stops when that instruction has ended (R73). -/
def Act.settleOne (t : Fin 9) : Act :=
  Act.get fun s =>
    let x := s.target t
    let st := s.bindState t
    let want := s.effOn t && (t = 8 || (s.effOn 8 && s.bindState 8 = 2))
    if (match x.run with | some r => r.stop && !r.inTransfer | none => false) then
      (Act.stopClause t).andThen (Act.startDown t)
    else if want then
      if s.quiet t && (st = 0 || (st = 3 && x.lift)) && s.flag (F.SEQ_BIND.up_valid t) && (t ≠ 8 || s.seq.inputGood) then
        Act.seq [Act.target t fun x => { x with lift := false }, Act.due t .up, Act.when (st = 3) (Act.bindState t 0)]
      else Act.skip
    else
      let slotsDown := t ≠ 8 || (List.finRange 8).all fun n =>
        s.quiet ⟨n, by omega⟩ && s.bindState n ≠ 1 && s.bindState n ≠ 2
      match x.run with
      | some r =>
        if r.up && slotsDown then
          if r.inTransfer then Act.target t fun x => { x with run := some { r with stop := true } }
          else (Act.stopClause t).andThen (Act.startDown t)
        else Act.skip
      | none =>
        if x.due = .up then (if st = 1 || st = 2 then Act.startDown t else Act.due t .none)
        else if x.due = .none && (st = 1 || st = 2) && (s.effOn t = false || s.effOn 8 = false) && slotsDown then
          Act.startDown t
        else if t = 8 && x.due = .none && st = 0 && s.gateOn && slotsDown then Act.gateOff
        else if x.due = .none && st = 3 && (s.effOn t = false || s.effOn 8 = false) && slotsDown then Act.downPath t
        else Act.skip

/-- The number, in the table of R161, of the source behind a duty that stands on every link whose eFuse is on. -/
def State.paceSource (s : State) : Nat :=
  if s.flag F.PER_CAUSE.fallback then 11 else if s.flag F.PER_CAUSE.oc_pace then 1 else 4

/-- Run an action that may turn eFuses on or off, with what that does to the emergency duties (R161, R282). -/
def Act.withFeeds (a : Act) : Act := Act.get fun s => Act.withForce s.paceSource a

/-- Bring every target to where the orders have it, slots first (R73). -/
def Act.settle : Act :=
  Act.withFeeds ((Act.each (List.finRange 9) Act.settleOne).andThen (Act.each (List.finRange 9) Act.settleOne))

end Sys2Proof.Machine
end

