-- ==== Sys2Proof/Machine/Mailbox.lean ====
section
/-!
DEFINITION. Mailboxes: where a request and its response lie, who may send which command, and how a request is answered
(R336 to R345, R360).
-/
namespace Sys2Proof.Machine

/-- The request area of mailbox m (R334). -/
def reqArea (m : Nat) : Nat := 0x40000000 + 0x4000 * m

/-- The response area of mailbox m (R334). -/
def respArea (m : Nat) : Nat := 0x40002000 + 0x4000 * m

/-- The source of mailbox m: 0 NONE, 1 MANAGER, 2 HOST (R337). -/
def State.mbxSource (s : State) (m : Nat) : Nat := s.fld (F.MBX_ASSIGN.source m)

/-! ## Frames that leave (R327, R331) -/

/-- The QP that a frame belongs to. -/
def EthTx.qp : EthTx → Option Nat
  | .nak q => some q
  | .readData q _ => some q
  | .write q _ _ _ => some q
  | .cnp q => some q
  | _ => none

/-- The priority of the 802.1Q tag of what is sent: PTP 6, RoCEv2 as ETH_CTL says; a pause is untagged. -/
def State.tagOf (s : State) : EthTx → Option Nat
  | .pause _ _ => none
  | .ptp _ _ => some 6
  | .announce _ _ => some 6
  | _ => some (s.fld F.ETH_CTL.roce_pcp)

/-- The frame of x over port l: with a SecTAG where the port requires MACsec. -/
def State.frame (s : State) (l : Nat) (x : EthTx) : EthFrame := ⟨l, s.tagOf x, s.flag (F.ETH_PORT_CFG.macsec_req l), x⟩

/-- The priorities that a peer has paused at port l. -/
def State.pausedAt (s : State) (l : Nat) : Nat := (s.eth.ports[l]?).elim 0 (·.paused)

/-- Whether a frame waits, its priority being paused. -/
def EthFrame.waits (f : EthFrame) (paused : Nat) : Bool := f.tag.any (bitOf paused)

/-- The Ethernet block after sending x over port l: the frame leaves, or waits for the peer's pause to end. Agreement
frames, which come first, never wait (R327). -/
def State.ethAfter (s : State) (l : Nat) (x : EthTx) : Eth :=
  let f := s.frame l x
  if f.waits (s.pausedAt l) then { s.eth with held := s.eth.held ++ [f] } else { s.eth with out := s.eth.out ++ [f] }

/-- Send x over port l. -/
def Act.ethSend (l : Nat) (x : EthTx) : Act := Act.get fun s => Act.ethx fun _ => s.ethAfter l x

/-- The frames of port l that no longer wait leave, those of priority 6 first and the rest in the order in which they came
(R327). -/
def Act.egress (l : Nat) : Act :=
  Act.get fun s =>
    let free (f : EthFrame) : Bool := f.port == l && !f.waits (s.pausedAt l)
    let go := s.eth.held.filter free
    Act.ethx fun e => { e with
      held := e.held.filter fun f => !free f
      out := e.out ++ (go.filter fun f => f.tag == some 6) ++ go.filter fun f => f.tag != some 6 }

/-! ## Responses -/

/-- The QP bound to mailbox m. -/
def State.boundQp (s : State) (m : Nat) : Option Qp := s.eth.qps.find? fun q => q.mailbox == some m && !q.error

/-- A write of MBX_DONE(m).done: pending clears (R343). -/
def Act.mbxDone (m : Fin 16) : Act := Act.setFBit F.MBX_PENDING.pending m false

/-- A write of MBX_DONE(m).push: the header and payload of the response go to the binding's buffer as one WRITE with
immediate, the immediate being seq (R344).  Ignored unless the binding delivers in PUSH mode. -/
def Act.mbxPush (m : Fin 16) : Act :=
  Act.get fun s =>
    if s.flag (F.MBX_STAT.push m) then
      match s.boundQp m with
      | some q => Act.ethSend q.port (.write q.num q.pushAddr (some (s.nat (respArea m + 4) 4))
          (s.bytes (respArea m) (32 + s.nat (respArea m + 8) 2)))
      | none => Act.skip
    else Act.skip

/-- Whether a source is to be told in its next response that an order or cap of it was cleared (R76, R338). -/
def State.toTell (s : State) (src : Nat) : Bool := (src = 1 && s.seq.toldM) || (src = 2 && s.seq.toldH)

/-- The source has been told. -/
def Act.tellDone (src : Nat) : Act :=
  Act.seqx fun q => if src = 1 then { q with toldM := false } else if src = 2 then { q with toldH := false } else q

/-- The header of a response but for its seq (R338): minor, major, class and command, then from byte 8 on. -/
def respHead (len status flags retry cookie : Nat) : List Byte :=
  leBytes 2 len ++ leBytes 1 status ++ leBytes 1 flags ++ leBytes 2 retry ++ leBytes 2 0 ++ leBytes 8 cookie ++ leBytes 8 0

/-- The kind byte with which the payload of every response of class 0x05 begins: 2 ATTRIBUTED for ATTRIB_QUERY, 1 METERED
for the rest (R195; its place before the rest of the payload, as R278 lays it out, log entry 78). VERSION has none: its
payload is the two bytes of R340, and the class of another major version is not this one (DEDUCED, log entry 78). -/
def kindByte (cls cmd status : Nat) : List Byte := if cls = 5 ∧ status ≠ 10 then (if cmd = 5 then [2#8] else [1#8]) else []

/-- Answer the request of mailbox m (R338, R343): the payload and every header field but seq, then seq, then done, and
where the binding delivers in PUSH mode, push. -/
def Act.respondWith (m : Fin 16) (cls cmd status flags retry : Nat) (payload : List Byte) : Act :=
  Act.get fun s =>
    let src := s.mbxSource m
    let fl := flags + (if s.toTell src then 2 else 0)
    let payload := kindByte cls cmd status ++ payload
    Act.seq [
      Act.setBytes (respArea m) (leBytes 1 0 ++ leBytes 1 1 ++ leBytes 1 cls ++ leBytes 1 cmd),
      Act.setBytes (respArea m + 8)
        (respHead payload.length status fl retry (s.nat (reqArea m + 16) 8) ++ payload),
      Act.setBytes (respArea m + 4) (s.bytes (reqArea m + 4) 4),
      Act.tellDone src, Act.mbxDone m, Act.mbxPush m]

/-- Answer with a status and a payload whose layout the manual gives. -/
def Act.respond (m : Fin 16) (cls cmd status : Nat) (payload : List Byte) : Act :=
  Act.respondWith m cls cmd status 0 0 payload

/-- Answer BUSY with a retry hint. -/
def Act.respondBusy (m : Fin 16) (cls cmd retry : Nat) : Act := Act.respondWith m cls cmd 7 0 retry []

/-- The payload bytes of a response that carries values in no stated layout (log entry 8). -/
def itemBytes (cls cmd : Nat) (items : List Nat) : List Byte :=
  (List.range (min 8160 (Config.respLen cls cmd))).map (Config.respByte cls cmd items)

/-- Answer with values in no stated layout. -/
def Act.respondItems (m : Fin 16) (cls cmd status : Nat) (items : List Nat) : Act :=
  Act.respond m cls cmd status (itemBytes cls cmd items)

/-- Whether a service image runs on cores 1 and 2 (R399). -/
def State.svcRuns (s : State) : Bool := s.boot.svcUp

/-- Whether the running image serves a command (R341). -/
def State.serves (s : State) (cls cmd : Nat) : Bool :=
  s.svcRuns ||
    (if cls = 5 then cmd = 1 || cmd = 2 || cmd = 3
     else if cls = 6 then 1 ≤ cmd && cmd ≤ 5
     else if cls = 8 then cmd = 1 || cmd = 2
     else 1 ≤ cls && cls ≤ 0xB)

/-- Serve a command of mailbox m: the scheduler core runs, the image serves the command, and the security core
authorizes its source (R341, R360).  A mailbox of source NONE has no one to send from it.  body takes the source. -/
def Act.command (m : Fin 16) (cls cmd : Nat) (body : Nat → Act) : Act :=
  Act.get fun s =>
    if !s.powered || !s.coreUp 2 then Act.skip
    else if !s.serves cls cmd then Act.respond m cls cmd 11 []
    else if !s.coreUp 0 then Act.skip
    else if s.mbxSource m = 0 then Act.respond m cls cmd 4 []
    else body (s.mbxSource m)

/-- As command, but only the manager may send it; the tray host is answered DENIED. -/
def Act.managerCommand (m : Fin 16) (cls cmd : Nat) (body : Act) : Act :=
  Act.command m cls cmd fun src => if src = 1 then body else Act.respond m cls cmd 4 []

/-- Whether confidential mode is on (R376). -/
def State.conf (s : State) : Bool := s.flag F.SEC_CTL.conf

/-- A value in W rounded to the nearest multiple of 5 W, halves up (R376). -/
def round5 (w : Nat) : Nat := (2 * w + 5) / 10 * 5

end Sys2Proof.Machine
end

