-- ==== Sys2Proof/Machine/Qualifier.lean ====
section
/-!
DEFINITION. The Qualifier: targets, envelopes and slew limits of its 64 channels (R279 to R284).
-/
namespace Sys2Proof.Machine

/-- Keep v within [lo, hi]; hi prevails. -/
def clampTo (lo hi v : Nat) : Nat := min hi (max lo v)

/-- The target of channel c within its effective envelope. -/
def State.quaGoal (s : State) (c : Nat) : Nat := clampTo (s.quaMin c) (s.quaMax c) (s.fld (F.QUA_TGT.target c))

/-- The position of channel c in 1/1,024 of a unit: its output and the fraction carried forward (R280). -/
def State.quaPos (s : State) (c : Nat) : Int := (s.quaOut c : Int) * 1024 + (s.quaFrac.lookup c).getD 0

/-- Put the position of channel c: the output is its whole part. -/
def Act.quaPut (c : Nat) (pos : Int) : Act :=
  (Act.setF (F.QUA_OUT.out c) (pos / 1024).toNat).andThen
    ⟨fun s => { s with quaFrac :=
        let l := s.quaFrac.filter fun p => p.1 != c
        if pos % 1024 = 0 then l else (c, pos % 1024) :: l }, fun _ h => h, fun _ => rfl, fun _ => .refl _, fun _ h => ⟨h, rfl⟩⟩

/-- How far a slew limit in units per ms lets a position move in one tick, in 1/1,024 of a unit: slew / 1,000 units,
rounded down (R280; DEDUCED, log entry 17). -/
def slewStep (slew : Nat) : Nat := slew * 1024 / 1000

/-- Where one tick takes position p towards goal g, both in 1/1,024 of a unit; a slew of 0 is no limit. -/
def slewTo (p g : Int) (up dn : Nat) : Int :=
  if p < g then (if up = 0 then g else min g (p + slewStep up))
  else if dn = 0 then g else max g (p - slewStep dn)

/-- One tick of channel c (R280, R281). -/
def Act.quaChannel (c : Nat) : Act :=
  Act.get fun s =>
    let lo := s.quaMin c
    let hi := s.quaMax c
    let out := s.quaOut c
    if out < lo then Act.quaPut c ((lo : Int) * 1024)
    else if hi < out then Act.quaPut c ((hi : Int) * 1024)
    else
      let g : Int := (s.quaGoal c : Int) * 1024
      let p := slewTo (s.quaPos c) g (s.fld (F.QUA_SLEW.up c)) (s.fld (F.QUA_SLEW.dn c))
      (Act.quaPut c p).andThen (Act.when (p ≠ g) (Act.bump (F.QUA_CNT.slewed c)))

/-- QUALIFIER_TICK: at each 1 µs Tense tick every output moves towards its target (R280). -/
def Act.qualifierTick : Act :=
  Act.get fun s => Act.when s.powered (Act.each (List.range 64) Act.quaChannel)

def execQualifierTick (s : State) : Host.Outcome State Fault Refusal := Act.qualifierTick.go s

/-- Set the target of channel c, counting a write outside the effective envelope (R280, R281). -/
def Act.quaTarget (c v : Nat) : Act :=
  Act.get fun s =>
    (Act.setF (F.QUA_TGT.target c) v).andThen
      (Act.when (v % 65536 < s.quaMin c || s.quaMax c < v % 65536) (Act.bump (F.QUA_CNT.clamped c)))

/-- A write of QUA_TGT(c) by core k: only the security core and the power core may; any other is ignored and counted,
the first of each 1 s with an event (R283, R285). -/
def Act.quaTgtWrite (k : Fin 13) (c v : Nat) : Act :=
  if k.val < 2 then Act.quaTarget c v
  else (Act.bump F.QUA_REFUSED.count).andThen
    (Act.emitFirst 0 (Act.emit 0x24 0x0B03 2 [k]) 0x0B03)

/-- QUA_TGT_WRITE by core k, while the core runs. -/
def execQuaTgtWrite (k : Fin 13) (c : Fin 64) (v : BitVec 32) (s : State) : Host.Outcome State Fault Refusal :=
  (Act.get fun s => Act.when (s.powered && s.coreUp k) (Act.quaTgtWrite k c v.toNat)).go s

end Sys2Proof.Machine
end

