-- ==== Sys2Proof/Machine/Orders.lean ====
section
/-!
DEFINITION. Power orders: the class 0x02 commands of the two sources (R74 to R78, R422, R434).
-/
namespace Sys2Proof.Machine

/-- Target number t, for a number of 0 to 8. -/
def targetOf (t : Nat) : Option (Fin 9) := if h : t < 9 then some ⟨t, h⟩ else none

/-- A cap as messages carry it: 0xFFFF is no cap (R78). -/
def capCode (c : Option Nat) : Nat := c.getD 0xFFFF

/-- The standing order of a source (1 MANAGER, 2 HOST). -/
def Target.st (x : Target) (src : Nat) : Nat := if src = 1 then x.stM else x.stH

/-- The standing cap of a source as it was last ordered, in force or from the next control tick on (R74, R95). -/
def Target.cap (x : Target) (src : Nat) : Option Nat := if src = 1 then x.newM.getD x.capM else x.newH.getD x.capH

/-- Replace a source's standing order. -/
def Target.setSt (x : Target) (src v : Nat) : Target := if src = 1 then { x with stM := v } else { x with stH := v }

/-- Replace a source's standing cap, from the next control tick on (R95). -/
def Target.setCap (x : Target) (src : Nat) (v : Option Nat) : Target :=
  if src = 1 then { x with newM := some v } else { x with newH := some v }

/-- The target after a source's own order: state 3 keeps the order, cap 0 keeps the cap, cap 0xFFFF withdraws it (R74,
R78). -/
def Target.order (x : Target) (src st capW : Nat) : Target :=
  let y := if st = 3 then x else x.setSt src st
  if capW = 0 then y else y.setCap src (if capW = 0xFFFF then none else some capW)

/-- The other source. -/
def otherSource (src : Nat) : Nat := if src = 1 then 2 else 1

/-- Whether an order of the authority source clears the other source's standing OFF, and whether its cap clears the
other's standing cap (R76). -/
def Target.cleared (x : Target) (auth : Bool) (src st capW : Nat) : Bool × Bool :=
  (auth && st = 1 && x.st (otherSource src) = 2,
   auth && capW ≠ 0 && capW ≠ 0xFFFF && (x.cap (otherSource src)).isSome)

/-- Note that a source is to be told of a cleared order or cap. -/
def Act.tell (src : Nat) : Act :=
  Act.seqx fun q => if src = 1 then { q with toldM := true } else { q with toldH := true }

/-- Clear what precedence clears, with a record of each clearing (R76). -/
def Act.precedence (t : Fin 9) (other : Nat) (c : Bool × Bool) : Act :=
  Act.seq [
    Act.when c.1 (Act.seq [Act.target t fun x => x.setSt other 0, Act.tell other, Act.emit 0x02 0x0102 2 [other, t]]),
    Act.when c.2 (Act.seq [Act.target t fun x => x.setCap other none, Act.tell other,
      Act.emit 0x02 0x0102 2 [other, t]])]

/-- The effective cap of the standing caps as they were last ordered (R75). -/
def Target.effOrd (x : Target) : Option Nat := lowerCap (x.cap 1) (x.cap 2)

/-- The values a response to POWER_ORDER carries: the effective state and the effective cap, of the orders as they stand
(log entry 87). -/
def State.orderItems (s : State) (t : Fin 9) : List Nat := [if s.effOn t then 1 else 2, capCode (s.target t).effOrd]

/-- The values of a response that concern target t, as items of the given widths in bytes: all ones each while the slot is in
SCRUB or WAIT_DEVICE (R366; the widths are log entry 100). -/
def State.shownItems (s : State) (t : Fin 9) (l : List (Nat × Nat)) : List Nat :=
  l.map fun p => if t ≠ 8 && s.hidden t then 2 ^ (8 * p.1) - 1 else p.2

/-- The response items of POWER_ORDER. -/
def State.orderShown (s : State) (t : Fin 9) : List Nat := s.shownItems t ([1, 2].zip (s.orderItems t))

/-- The payload of 0x0100 and 0x0101. -/
def State.orderPayload (s : State) (t : Fin 9) (src st capW : Nat) : List Nat :=
  [src, t, st, capW, (s.target t).stM, (s.target t).stH] ++ s.orderItems t

/-- A power order of a source for target t (R74 to R77; R443 for a tray ON order), and what is answered: whether an ON order is held, and the state
after the order. -/
def Act.powerOrderAs (src : Nat) (t : Fin 9) (st capW : Nat) (answer : Bool → State → Act) : Act :=
  Act.get fun s0 =>
    Act.seq [
      Act.target t fun x => x.order src st capW,
      Act.precedence t (otherSource src)
        ((s0.target t).cleared (s0.fld F.SEQ_PREC.raise_auth = src) src st capW),
      Act.get fun s =>
        let held := st = 1 && !s.effOn t
        Act.seq [
          Act.emit 0x02 0x0100 1 (s.orderPayload t src st capW),
          Act.when held (Act.emit 0x02 0x0101 2 (s.orderPayload t src st capW)),
          Act.when (st = 1 && s.bindState t = 3) (Act.target t fun x => { x with lift := true }),
          Act.when (st = 1 && t = 8) (Act.rstx fun r => { r with lossHold := false }),
          Act.settle,
          answer held s]]

/-- A power order that came in mailbox m: STANDING where an ON order is held, OVERRIDDEN where the source's own order or cap
was cleared. -/
def Act.powerOrderBody (m : Fin 16) (src : Nat) (t : Fin 9) (st capW : Nat) : Act :=
  Act.powerOrderAs src t st capW fun held s =>
    Act.respondItems m 2 1 (if held then 1 else if s.toTell src then 2 else 0) (s.orderShown t)

/-- POWER_ORDER: class 0x02, command 0x01. -/
def Act.powerOrder (m : Fin 16) (target st capW : Nat) : Act :=
  Act.command m 2 1 fun src =>
    match targetOf target with
    | some t => if 3 < st then Act.respond m 2 1 5 [] else Act.powerOrderBody m src t st (capW % 65536)
    | none => Act.respond m 2 1 5 []

def execPowerOrder (m : Fin 16) (target st capW : Nat) (s : State) : Host.Outcome State Fault Refusal :=
  (Act.powerOrder m target st capW).go s

/-- QUERY: both standing orders, the effective state and cap, the binding state and the last clause fault (R78). -/
def Act.query (m : Fin 16) (target : Nat) : Act :=
  Act.command m 2 2 fun _ => Act.get fun s =>
    match targetOf target with
    | some t =>
      let x := s.target t
      Act.respondItems m 2 2 0 (s.shownItems t ([1, 2, 1, 2, 1, 2, 1, 1, 1].zip
        ([x.stM, capCode (x.cap 1), x.stH, capCode (x.cap 2)] ++ s.orderItems t ++
          [s.bindState t, s.fld (F.SEQ_CLAUSE_STAT.reason t), s.fld (F.SEQ_CLAUSE_STAT.index t)])))
    | none => Act.respond m 2 2 5 []

def execQuery (m : Fin 16) (target : Nat) (s : State) : Host.Outcome State Fault Refusal := (Act.query m target).go s

/-- A clear of the latched eFuse fault of slot n (R63, R78): a latched cause (R162), so it clears only while
SLOTn_EFUSE_FLT_N is not asserted, with a record either way (R163; DEDUCED for CLEAR_FAULT, log entry 75). -/
def Act.efuseFaultClear (n : Nat) : Act :=
  Act.get fun s =>
    if !bitOf (s.fld F.SEQ_EFUSE_STATUS.fault) n then Act.skip
    else if bitOf (s.fld F.SEQ_EFUSE_STATUS.flt) n then Act.emitHw 0x20 0x0705 2 [8]
    else Act.withForce 8 (Act.seq [
      Act.setFBit F.SEQ_EFUSE_STATUS.fault n false, Act.emitHw 0x20 0x0704 1 [8], Act.perLine])

/-- CLEAR_FAULT: clears the eFuse fault of a slot, or gate_fail for the tray (R78). -/
def Act.clearFault (m : Fin 16) (target : Nat) : Act :=
  Act.command m 2 3 fun _ =>
    if target < 8 then (Act.efuseFaultClear target).andThen (Act.respond m 2 3 0 [])
    else if target = 8 then (Act.setB F.SEQ_STATUS.gate_fail false).andThen (Act.respond m 2 3 0 [])
    else Act.respond m 2 3 5 []

def execClearFault (m : Fin 16) (target : Nat) (s : State) : Host.Outcome State Fault Refusal :=
  (Act.clearFault m target).go s

/-- The slots whose lines an ABORT_RELEASE with a mask releases: those it names that are not FAULT; mask 0 names every
slot (R422, R434). -/
def State.abortReleases (s : State) (mask : Nat) : List Nat :=
  (bitsOf (if mask % 256 = 0 then 255 else mask) 8).filter fun n =>
    s.bindState n ≠ 3 && bitOf (s.fld F.RST_ABORT.asserted) n

/-- Release the ABORT lines of the listed slots, with a record where there is one. -/
def Act.abortUp (l : List Nat) : Act :=
  (Act.each l fun n => (Act.setFBit F.RST_ABORT.asserted n false).andThen (Act.setFBit F.RST_ABORT.failed n false)).andThen
    (Act.when (!l.isEmpty) (Act.emit 0x02 0x1007 1 [maskOf l]))

/-- ABORT_RELEASE: the lines of the released slots go high; a FAULT slot's line stays low. -/
def Act.abortRelease (m : Fin 16) (mask : Nat) : Act :=
  Act.command m 2 4 fun _ => Act.get fun s =>
    (Act.abortUp (s.abortReleases mask)).andThen (Act.respond m 2 4 0 [])

def execAbortRelease (m : Fin 16) (mask : Nat) (s : State) : Host.Outcome State Fault Refusal :=
  (Act.abortRelease m mask).go s

end Sys2Proof.Machine
end

