-- ==== Sys2Proof/Machine/Views.lean ====
section
/-!
DEFINITION. The regions of the address map that show state held elsewhere: the boot ROMs, the event recorder and the
Itsal mirror (R32, R193, R429).
-/
namespace Sys2Proof.Machine

/-- The 32 bytes of an event record (R429). -/
def EvRec.bytes (r : EvRec) : List Byte :=
  leBytes 8 (r.cycles * 2 ^ 40 + r.ms) ++ leBytes 4 r.seq ++ leBytes 1 r.src ++ leBytes 2 r.code ++
    leBytes 1 (r.sev + 16 * b2n r.hw) ++ (List.range 16).map (Config.evPayloadByte r.payload)

/-- Byte off of the event recorder's ring: record seq lies at 32 × (seq mod 131,072). -/
def State.evByte (s : State) (off : Nat) : Byte :=
  match s.evr.ring.find? fun r => r.seq % 131072 == off / 32 with
  | some r => (r.bytes[off % 32]?).getD 0#8
  | none => 0#8

/-- The first 36 bytes of a metrological record (R192). -/
def ItsRec.head (r : ItsRec) : List Byte :=
  leBytes 4 r.seq ++ leBytes 1 r.typ ++ leBytes 1 r.chan ++ leBytes 1 r.reg ++ leBytes 1 r.flags ++
    leBytes 8 (r.cycles % 2 ^ 24 * 2 ^ 40 + r.ms % 2 ^ 40) ++ leBytes 4 r.interval ++ leBytes 4 r.tick ++
    leBytes 8 r.value ++ leBytes 2 r.aux ++ leBytes 2 0

/-- The 40 bytes of a metrological record (R192). -/
def ItsRec.bytes (r : ItsRec) : List Byte := r.head ++ leBytes 4 (crc32c r.head)

/-- The log record with a sequence number, if the ring still holds it. -/
def State.logRec (s : State) (seq : Nat) : Option ItsRec := s.its.log.find? fun r => r.seq == seq

/-- The bytes of the log record with a sequence number; zeros where there is none. -/
def State.logBytes (s : State) (seq : Nat) : List Byte :=
  match s.logRec seq with
  | some r => r.bytes
  | none => List.replicate 40 0#8

/-- How many units of 1/128 aJ a mJ has. -/
def mjUnits : Nat := 128 * 10 ^ 15

/-- Energy in whole mJ, 64 bits. -/
def mjOf (e : Nat) : Nat := e / mjUnits % 2 ^ 64

/-- The forward energy of a channel's interval so far, in units of 1/128 aJ. -/
def ItsChan.ifwd (c : ItsChan) : Nat := c.regs.foldl (fun n p => n + p.2) 0

/-- The head of the mirror window: its first 128 bytes (R193). -/
def ItsMirror.head (m : ItsMirror) : List Byte :=
  leBytes 4 m.gen ++ leBytes 4 0x10000 ++ leBytes 8 (m.core.cycles % 2 ^ 24 * 2 ^ 40 + m.core.opMs % 2 ^ 40) ++
    leBytes 4 m.status ++ leBytes 4 m.core.seals ++ leBytes 4 m.core.cals ++ leBytes 4 m.core.interval ++
    leBytes 4 m.core.len ++ leBytes 4 m.core.elapsed ++ leBytes 4 m.lastSeq ++ leBytes 4 m.core.discards ++
    leBytes 4 Config.itsRomVersion ++ leBytes 12 0 ++ leBytes 32 Config.itsRomDigest ++
    leBytes 32 (Config.itsConstsDigest (m.core.consts.toList.flatMap Vector.toList))

/-- The block of channel ch (R193): 48 bytes. -/
def ItsMirror.block (m : ItsMirror) (ch : Fin 9) : List Byte :=
  let r := m.reads[ch]
  let c := m.core.chans[ch]
  leBytes 4 r.voltage ++ leBytes 4 (unsignedOf 32 r.current) ++ leBytes 4 (unsignedOf 32 r.power) ++
    leBytes 1 m.selected[ch] ++ leBytes 1 (b2n r.invalid + 2 * b2n r.overload) ++ leBytes 2 0 ++
    leBytes 8 (mjOf c.fwd) ++ leBytes 8 (mjOf c.rev) ++ leBytes 8 (mjOf c.ifwd) ++ leBytes 8 (mjOf c.irev)

/-- The energy of register r of channel ch in the interval so far, in mJ; register 32 of channel 0 reads 0. -/
def ItsMirror.register (m : ItsMirror) (ch : Fin 9) (r : Nat) : Nat :=
  if ch = 0 && r = 32 then 0 else mjOf ((m.core.chans[ch].regs.lookup r).getD 0)

/-- Byte off of the Itsal mirror (R193); offsets outside the table read 0. -/
def State.mirrorByte (s : State) (off : Nat) : Byte :=
  let m := s.its.mirror
  let at_ (l : List Byte) (i : Nat) : Byte := (l[i]?).getD 0#8
  if off < 0x80 then at_ m.head off
  else if h : 0x100 ≤ off ∧ off < 0x340 then at_ (m.block ⟨(off - 0x100) / 0x40, by omega⟩) ((off - 0x100) % 0x40)
  else if h : 0x400 ≤ off ∧ off < 0x1600 then
    let r := (off - 0x400) % 0x200 / 8
    if r ≤ 32 then at_ (leBytes 8 (m.register ⟨(off - 0x400) / 0x200, by omega⟩ r)) (off % 8) else 0#8
  else if 0x1600 ≤ off && off < 0x1620 then
    match m.temps[(off - 0x1600) / 4]? with
    | some t => at_ (leBytes 2 (unsignedOf 16 t.1) ++ leBytes 1 (b2n t.2)) (off % 4)
    | none => 0#8
  else if 0x8000 ≤ off && off < 0xD000 then
    let n := min 512 m.lastSeq
    let i := (off - 0x8000) / 40
    if i < n then at_ (s.logBytes (m.lastSeq + 1 - n + i)) ((off - 0x8000) % 40) else 0#8
  else if 0xD000 ≤ off && off < 0xF800 then
    let seq := m.fetch + (off - 0xD000) / 40
    if m.fetch ≠ 0 && seq ≤ m.lastSeq then at_ (s.logBytes seq) ((off - 0xD000) % 40) else 0#8
  else 0#8

/-- A byte of the regions that a core or a QP reads other than CSR space: what the region shows, or memory. -/
def State.viewByte (s : State) (a : Nat) : Byte :=
  if a < 0x40000 then Config.romByte a
  else if 0x50000000 ≤ a && a < 0x50400000 then s.evByte (a - 0x50000000)
  else if 0x60000000 ≤ a && a < 0x60010000 then s.mirrorByte (a - 0x60000000)
  else s.byte a

/-- n bytes as a reader sees them. -/
def State.viewBytes (s : State) (a n : Nat) : List Byte := (List.range n).map fun i => s.viewByte (a + i)

end Sys2Proof.Machine
end

