-- ==== Sys2Proof/Machine/Net.lean ====
section
/-!
DEFINITION. Ethernet ports and queue pairs: which ports carry traffic, what a port failure does to the QPs on it, and
how a mailbox becomes unbound (R326 to R332, R345, R413).
-/
namespace Sys2Proof.Machine

/-- Whether logical port l exists in the present mode: the odd ports only where their physical port is split (R326). -/
def State.portPresent (s : State) (l : Nat) : Bool :=
  s.flag F.ETH_CTL.en && (l % 2 = 0 || s.flag (F.ETH_PORT_CFG.split (l - 1)))

/-- Whether logical port l has power: in STANDBY only the standby port carries traffic (R413). -/
def State.portPowered (s : State) (l : Nat) : Bool :=
  s.powered && (s.fld F.RST_STATUS.pwr = 3 || s.fld F.RST_PWR_CFG.stby_port = l)

/-- Change logical port l. -/
def Act.port (l : Fin 8) (f : Port → Port) : Act := Act.ethx fun e => { e with ports := e.ports.set l (f e.ports[l]) }

/-- Change the QP with a number. -/
def Act.qp (num : Nat) (f : Qp → Qp) : Act := Act.ethx fun e => { e with qps := e.qps.map fun q => if q.num = num then f q else q }

/-- The QP with a number, while it is connected. -/
def State.qpOf (s : State) (num : Nat) : Option Qp := s.eth.qps.find? fun q => q.num == num && !q.error

/-- What waits at a port that goes down: the frames of a QP that moves go to its alternate path, whose retransmission
recovers them (R328), and the rest are lost. -/
def Act.rehome (l : Nat) (moved : List Qp) : Act :=
  Act.get fun s =>
    (Act.ethx fun e => { e with
      held := e.held.filterMap fun f =>
        if f.port ≠ l then some f
        else (moved.find? fun q => f.body.qp == some q.num).bind fun q => q.alt.map fun a => s.frame a f.body }).andThen
      (Act.each moved fun q => Act.egress (q.alt.getD q.port))

/-- An Ethernet event: interrupt line 6 of the scheduler core (R226). -/
def Act.ethLine : Act := Act.raiseLine 2 6

/-- Mailbox m becomes unbound (R345). -/
def Act.unbind (m q src : Nat) : Act :=
  Act.seq [Act.setB (F.MBX_STAT.bound m) false, Act.setB (F.MBX_STAT.push m) false, Act.setF (F.MBX_STAT.qp m) 0,
    Act.emit 0x30 0x0D12 1 [m, q, src]]

/-- A QP enters the error state; its mailbox becomes unbound (R328, R334, R345). -/
def Act.qpError (num : Nat) : Act :=
  Act.get fun s =>
    match s.qpOf num with
    | none => Act.skip
    | some q => Act.seq [
        Act.qp num fun q => { q with error := true, mailbox := none },
        match q.mailbox with
        | some m => Act.unbind m q.num q.source
        | none => Act.skip]

/-- The connected QPs whose present path uses port l. -/
def State.qpsOn (s : State) (l : Nat) : List Qp := s.eth.qps.filter fun q => q.port = l && !q.error

/-- Whether a QP on a failing port can move to its alternate path (R328, R332). -/
def State.canMigrate (s : State) (q : Qp) : Bool :=
  match q.alt with
  | some a => a ≠ q.port && s.portOpen a && s.portPowered a
  | none => false

/-- Logical port l goes down (R328).  cause: 0 link, 1 MKA, 2 power, 3 retraining, 4 disabled; the model's numbering (log
entry 3). -/
def Act.portDown (l : Fin 8) (cause : Nat) : Act :=
  Act.get fun s =>
    if !s.portUp l then Act.skip
    else
      let qs := s.qpsOn l
      let moved := qs.filter s.canMigrate
      let lost := qs.filter fun q => !s.canMigrate q
      Act.seq [
        Act.setB (F.ETH_PORT_STAT.link l) false,
        Act.setB (F.ETH_PORT_STAT.fec_lock l) false,
        Act.port l fun p => { p with fifo := Vector.replicate 8 0, pausing := 0, paused := 0 },
        Act.each moved fun q => Act.qp q.num fun q => { q with port := q.alt.getD q.port, alt := none },
        Act.rehome l moved,
        Act.each lost fun q => Act.qpError q.num,
        Act.when (!moved.isEmpty) (Act.setB (F.ETH_PORT_STAT.failover l) true),
        Act.emit 0x28 0x0D00 2 [l, cause],
        Act.when (!qs.isEmpty) (Act.emit 0x28 0x0D01 2 [l, moved.length, lost.length]),
        Act.ethLine]

/-- Every port but those that keep holds of goes down. -/
def Act.portsDown (keep : Nat → Bool) (cause : Nat) : Act :=
  Act.each (List.finRange 8) fun (l : Fin 8) => Act.when (!keep l) (Act.portDown l cause)

end Sys2Proof.Machine
end

