-- ==== Sys2Proof/Machine/Standby.lean ====
section
/-!
DEFINITION. The power states of the controller and what a loss of the main supply takes with it (R413 to R415, R443,
R448).
-/
namespace Sys2Proof.Machine

/-- Enter a power state (1 STANDBY, 2 WAKING, 3 ACTIVE), with its record (R413, event 0x1004). -/
def Act.powerState (next : Nat) : Act :=
  Act.get fun s =>
    if s.fld F.RST_STATUS.pwr = next then Act.skip
    else (Act.setF F.RST_STATUS.pwr next).andThen (Act.emit 0x29 0x1004 1 [s.fld F.RST_STATUS.pwr, next])

/-- Stop every job and free every thread context: no completion word is written, and no evaluation waits on one (R265,
R288). -/
def Act.jobsGone : Act :=
  ⟨fun s => { s with jobs := [], threads := [], learned := { s.learned with chain := none, thermal := none, attrib := none } },
   fun _ h => h, fun _ => rfl, fun _ => .refl _, fun _ h => ⟨h, rfl⟩⟩

/-- Tensor SRAM (R32): base and size. -/
def tensorBase : Nat := 0x20000000
def tensorSize : Nat := 0x800000

/-- DDR5 (R32): base and size. -/
def ddrBase : Nat := 0x1000000000
def ddrSize : Nat := 0x400000000

/-- Every model slot returns to EMPTY and every role to its built-in controller (R415); cause names the setting in event
0x1009. -/
def Act.modelsGone : Act :=
  Act.get fun s =>
    let n := s.learned.models.toList.countP fun m => m.state ≠ 0
    Act.seq [
      Act.learnedx fun x => { x with
        models := Vector.replicate 16 Model.reset,
        roles := x.roles.map fun r => { r with holder := none, run := 0 } },
      Act.each (List.range 16) fun m => Act.setB (F.CNJ_PART_CTL.valid m) false,
      Act.when (n ≠ 0) (Act.emit 0x03 0x1009 2 [2, n])]

/-- Put a log in place of a context's log. -/
def Act.setCtxLog (p : Nat × Nat) (l : List EvRec) : Act :=
  Act.secx fun x => { x with ctxLogs := (p, l) :: x.ctxLogs.filter fun q => q.1 != p }

/-- Every context log is lost; each restarts with one gap record, whose code the manual does not give (R428). -/
def Act.ctxLogsGone : Act :=
  Act.get fun s =>
    Act.seq [
      Act.each s.sec.ctxLogs fun p => Act.fresh fun w => Act.get fun t =>
        Act.setCtxLog p.1 [evRecord t 0x01 (w.toNat % 65536) 1 false [p.2.length] ((p.2.headD ⟨0, 0, 0, 0, 0, 0, false, []⟩).seq + 1)],
      Act.when (!s.sec.ctxLogs.isEmpty) (Act.emit 0x03 0x1009 2 [3, s.sec.ctxLogs.length])]

/-- What entry to STANDBY loses (R415): the contents of tensor SRAM and DDR5, models, roles and context logs; the ports
other than the standby port are down (R413). -/
def Act.standbyLosses : Act :=
  Act.get fun s => Act.seq [
    Act.jobsGone,
    Act.zeroBytes tensorBase tensorSize,
    Act.zeroBytes ddrBase ddrSize,
    Act.rstx fun r => { r with badWords := r.badWords.filter fun a => a < ddrBase || ddrBase + ddrSize ≤ a },
    Act.modelsGone,
    Act.ctxLogsGone,
    Act.setF F.DDR_STATUS.state 0,
    Act.portsDown (fun l => s.fld F.RST_PWR_CFG.stby_port = l) 2]

/-- Drive MAIN_EN off and enter STANDBY with its losses. -/
def Act.toStandby : Act :=
  Act.seq [
    Act.setB F.RST_STATUS.main_en false,
    Act.setB F.RST_STATUS.main_pg false,
    Act.standbyLosses,
    Act.rstx fun r => { r with idleSince := none },
    Act.powerState 1]

/-- Whether a logic-die ring oscillator is at TRIP, so that the main load is shed (R448). -/
def State.dieTrip (s : State) : Bool := (List.range 64).any fun i => s.snsLevel (160 + i) = 4

/-- Whether every logic-die sensor is below its CRIT level less the hysteresis. -/
def State.dieCool (s : State) : Bool :=
  (List.range 64).all fun i =>
    !s.evaluated (160 + i) || !(s.sensor (160 + i)).has && !s.snsBroken (160 + i) ||
      s.snsValue (160 + i) + ((s.fld F.THM_CTL.hyst * 16 : Nat) : Int) < s.snsThr (160 + i) 3

/-- Shed the main load at a logic-die TRIP, and note since when the die has been cool (R448). -/
def Act.dieShed : Act :=
  Act.get fun s =>
    if s.dieTrip then Act.seq [
      Act.when (!s.rst.shed) (Act.seq [
        Act.rstx fun r => { r with shed := true, retryAt := none },
        if s.fld F.RST_STATUS.pwr = 1 then Act.emit 0x29 0x1004 1 [1, 1] else Act.toStandby]),
      Act.rstx fun r => { r with coolSince := none }]
    else if s.rst.shed then
      Act.rstx fun r => { r with coolSince := if s.dieCool then some (r.coolSince.getD s.tns.tick) else none }
    else Act.skip

/-- Drive MAIN_EN on and enter WAKING (R413, R414), unless the main load is shed (R448) or STANDBY is kept (R443). -/
def Act.wakeNow : Act :=
  Act.get fun s =>
    if s.fld F.RST_STATUS.pwr = 1 && !s.rst.shed && !s.rst.lossHold then Act.seq [
      Act.setB F.RST_STATUS.main_en true,
      Act.rstx fun r => { r with mainEnAt := s.tns.tick, retryAt := none, idleSince := none },
      Act.powerState 2]
    else Act.skip

/-- Whether the state is ACTIVE. -/
def State.active (s : State) : Bool := s.fld F.RST_STATUS.pwr = 3

end Sys2Proof.Machine
end

