-- ==== Sys2Proof/Machine/Thermal.lean ====
section
/-!
DEFINITION. Temperature sensors, zone levels and their responses, broken sensors, fans, pumps, flow meters and valves
(R130 to R153).
-/
namespace Sys2Proof.Machine

/-! ## Deciding levels (R140, R141) -/

/-- The severity of entering level l. -/
def levelSeverity (l : Nat) : Nat := l

/-- Decide the level of zone z anew: a change is recorded and raises line 4 (R154, R226). -/
def Act.thmZone (z : Fin 16) : Act :=
  Act.get fun s =>
    let old := s.thm.levels[z]
    let new := s.zoneLevel z
    if new = old then Act.skip
    else Act.seq [
      Act.thmx fun t => { t with levels := t.levels.set z new },
      if old < new then
        let i := (s.zoneHottest z).getD 0
        Act.emitHw 0x21 0x0601 (levelSeverity new) [z, i, unsignedOf 16 (s.snsValue i)]
      else Act.emitHw 0x21 0x0602 1 [z, new],
      Act.thmLine]

/-- The value that a trip of zone z is recorded with. -/
def State.tripValue (s : State) (z : Nat) : Nat :=
  match s.zoneHottest z with
  | some i => unsignedOf 16 (s.snsValue i)
  | none => 0

/-- A zone at TRIP signals Period, which cuts its target unless the cause is latched already (R141, R161). -/
def Act.thmTrip (z : Fin 16) : Act :=
  Act.get fun s =>
    if s.zoneLevel z < 4 then Act.skip
    else if h : s.zoneTarget z < 8 then
      let n : Fin 8 := ⟨s.zoneTarget z, h⟩
      if s.flag (F.PER_SLOT_CAUSE.thm_trip n) then Act.skip
      else Act.withForce 6 ((Act.setB (F.PER_SLOT_CAUSE.thm_trip n) true).andThen (Act.period (.slot n) 6 (s.tripValue z)))
    else if s.flag F.PER_CAUSE.thm_trip then Act.skip
    else Act.withForce 5 ((Act.setB F.PER_CAUSE.thm_trip true).andThen (Act.period .tray 5 (s.tripValue z)))

/-- Run an action that may change levels, then decide every zone: emergency duties and overrides follow, then the trips,
then the shedding of the main load (R140, R141, R448).  13 is the cause number of a zone at CRIT. -/
def Act.thmSync (a : Act) : Act :=
  Act.seq [
    Act.withForce 13 (a.andThen (Act.each (List.finRange 16) Act.thmZone)),
    Act.each (List.finRange 16) Act.thmTrip,
    Act.dieShed]

/-! ## Results (R134 to R138) -/

/-- The promotion threshold of sensor i: its THROTTLE level less prom_margin, in 1/16 degC. -/
def State.promAt (s : State) (i : Nat) : Int := s.snsThr i 2 - ((s.fld F.PRS_CTL.prom_margin * 16 : Nat) : Int)

/-- The rate limit in 1/16 degC/s. -/
def State.rateLimit (s : State) : Int := ((s.fld F.THM_CTL.rate_limit * 16 : Nat) : Int)

/-- Whether a value or a rate promotes sensor i (R138). -/
def State.promotes (s : State) (i : Nat) (v rate : Int) : Bool := s.promAt i ≤ v || s.rateLimit < 2 * rate

/-- Whether a value and a rate are quiet, as demotion asks. -/
def State.quietAt (s : State) (i : Nat) (v rate : Int) : Bool := v < s.promAt i - 32 && 4 * rate < s.rateLimit

/-- Results older than the longest stuck time are of no further use. -/
def trimTrail (now : Nat) (l : List (Nat × Int × Int)) : List (Nat × Int × Int) :=
  l.takeWhile fun p => now < p.1 + 256000000

/-- Whether analog input i is of the control set, which is never promoted or demoted (R136). -/
def State.inSet (s : State) (i : Nat) : Bool :=
  (List.range 8).any (fun n => s.flag (F.CAP_SLOT_CFG.en n) && s.fld (F.CAP_SLOT_CFG.ain n) == i) ||
    (s.flag F.PRS_VBUS_CFG.en && s.fld F.PRS_VBUS_CFG.ain == i)

/-- A result of sensor i: its value and its raw reading. -/
def Act.snsResult (i : Nat) (v raw : Int) : Act :=
  Act.get fun s =>
    Act.sensor i fun x => { x with
      value := v, has := true, level := s.levelStep i x.level v,
      promoted := x.promoted || (!s.inSet i && s.promotes i v x.rate),
      quiet := if s.quietAt i v x.rate then x.quiet else 0,
      acc := x.acc + v, cnt := x.cnt + 1, lastAt := s.tns.tick,
      trail := trimTrail s.tns.tick ((s.tns.tick, raw, v) :: x.trail) }

/-- Sensor i is broken by a test (R144): 1 plausible band, 2 stuck, 3 disagreement, 4 rate without cause.  It reads its CRIT
level from then on, which promotes it (DEDUCED from R138 and R145, log entry 35). -/
def Act.breakSensor (i test : Nat) : Act :=
  Act.get fun s =>
    if s.evaluated i && !s.snsBroken i then Act.seq [
      Act.setFBit (F.THM_BROKEN.broken (i / 32)) (i % 32) true,
      Act.sensor i fun x => { x with promoted := x.promoted || !s.inSet i, quiet := 0 },
      Act.emitHw 0x21 0x0603 3 [i, test]]
    else Act.skip

/-- A rounding of the quotient n / d: the manual asks for 1/16 degC and names no rounding, so either neighbour may come
(log entry 18). -/
def eitherWay (n : Int) (d : Nat) (free : Int) : Int := max (n / (d : Int)) (min (-(-n / (d : Int))) free)

/-- The temperature of a ring oscillator in 1/16 degC: c0 + c1 * r + c2 * r^2 (R131), its coefficients in 1/65,536 degC
(log entry 18). -/
def ringTemp (coefs : List Int) (ratio : Nat) : Int :=
  let r : Int := (ratio : Int)
  eitherWay (16 * (coefs.getD 0 0 * 2 ^ 32 + coefs.getD 1 0 * r * 2 ^ 16 + coefs.getD 2 0 * r * r)) (2 ^ 48)
    (Config.ringTemp coefs ratio)

/-- 1 / (1 / 298.15 + l / beta) - 273.15 in 1/16 degC for a logarithm l in 2^-48, as a fraction. -/
def ntcFraction (beta : Nat) (l : Int) : Int × Nat :=
  let b : Int := ((100 * beta * 2 ^ 48 : Nat) : Int)
  let d := (b + 29815 * l).toNat
  (16 * 29815 * b - 16 * 27315 * (d : Int), 100 * d)

/-- The temperature of an NTC in 1/16 degC (R133): its resistance to the pull-up's is code / (65,536 - code), and b gives
R25 to the pull-up's in 1/4,096.  The rounding is open within the bounds of the logarithm, and the value is where the
formula has none: a code or b of 0, beta 0, no positive temperature (log entry 18). -/
def ntcTemp (beta b code : Nat) : Int :=
  let l := lnFix (code * 4096) ((65536 - code) * b)
  let hot := ntcFraction beta (l - 2 ^ 12)
  let cold := ntcFraction beta (l + 2 ^ 12)
  let free := Config.ntcTemp beta b code
  if code = 0 || 65536 ≤ code || b = 0 || beta = 0 || cold.2 = 0 || hot.2 = 0 then free
  else max (cold.1 / (cold.2 : Int)) (min (-(-hot.1 / (hot.2 : Int))) free)

/-- The value of a conversion of sensor i in 1/16 degC, or of a voltage input in mV (R131 to R133). -/
def State.converted (s : State) (x : Sample) : Int :=
  let i := x.index
  if i < 128 then
    let a := s.fld (F.PRS_AIN_CAL.a i)
    let b := s.fld (F.PRS_AIN_CAL.b i)
    if s.fld (F.PRS_AIN_CFG.kind i) = 3 then ntcTemp a b x.code
    else ((x.code * a / 4096 : Nat) : Int) + signed 16 b
  else if i < 160 then
    Config.diodeTemp (s.fld (F.PRS_DIODE_CFG.eta (i - 128))) x.code + signed 8 (s.fld (F.PRS_DIODE_CFG.offset (i - 128)))
  else ringTemp ((s.fuses.coefs.toList.getD (i - 160) (Vector.replicate 3 0)).toList) x.ratio

/-- Whether a conversion passes the plausible-band test (R144). -/
def State.plausible (s : State) (x : Sample) : Bool :=
  let i := x.index
  if i < 128 then s.fld (F.PRS_AIN_CFG.band_lo i) * 256 ≤ x.code && x.code ≤ s.fld (F.PRS_AIN_CFG.band_hi i) * 256
  else if i < 160 then x.plausible && -640 ≤ s.converted x && s.converted x ≤ 2400
  else x.plausible

/-- One conversion of a temperature sensor. -/
def Act.convert (x : Sample) : Act :=
  Act.get fun s =>
    Act.seq [
      Act.when (160 ≤ x.index && x.index < 224) (Act.setF (F.PRS_RO_RAW.r (x.index - 160)) x.ratio),
      if !s.evaluated x.index then Act.skip
      else if s.plausible x then
        Act.snsResult x.index (s.converted x) (if 160 ≤ x.index then (x.ratio : Int) else (x.code : Int))
      else Act.breakSensor x.index 1]

/-! ## Parser rounds (R136, R137) -/

/-- A converter fails (R137): the spare replaces it, or, at a second failure, Parser is degraded. No entry of the repair record
is made, since no rule says who makes one of kind 6 (DEDUCED, log entry 101). -/
def Act.converterFail (c : Nat) : Act :=
  Act.get fun s =>
    if bitOf (s.fld F.PRS_STATUS.conv_fail) c then Act.skip
    else
      let second := s.fld F.PRS_STATUS.conv_fail ≠ 0
      Act.seq [
        Act.setFBit F.PRS_STATUS.conv_fail c true,
        Act.when (c < 4 && !second) (Act.setF F.PRS_STATUS.spare_for c),
        Act.when second (Act.setB F.PRS_STATUS.degraded true),
        Act.emitHw 0x21 0x0600 2 [c, b2n second]]

/-- The promoted channels that take converter time, ascending. -/
def State.promotedChannels (s : State) : List Nat :=
  (List.range 160).filter fun i => s.snsEnabled i && (s.sensor i).promoted && !s.inSet i

/-- The promoted channels that the next fast round converts: all, or every second one when degraded. -/
def State.fastChannels (s : State) : List Nat :=
  let l := s.promotedChannels
  if s.flag F.PRS_STATUS.degraded then
    (l.zipIdx.filter fun p => (p.2 % 2 == 1) == s.thm.half).map Prod.fst
  else l

/-- Whether a fast round takes a sample of sensor i. -/
def State.inFast (s : State) (i : Nat) : Bool :=
  if i < 160 then s.fastChannels.contains i else i < 224 && s.snsEnabled i && (s.sensor i).promoted

/-- FAST_ROUND: converters are checked, and the promoted channels are converted.  The samples are those that working
converters delivered. -/
def Act.fastRound (convBad : Nat) (samples : List Sample) : Act :=
  Act.get fun s =>
    if !s.powered then Act.skip
    else Act.thmSync (Act.seq [
      Act.each (samples.filter fun x => s.inFast x.index) Act.convert,
      Act.thmx fun t => { t with half := !t.half },
      Act.each (bitsOf convBad 5) Act.converterFail])

/-- FAST_ROUND; busy where the round before it still runs (R48). -/
def execFastRound (busy : Bool) (convBad : BitVec 5) (samples : List Sample) (s : State) :
    Host.Outcome State Fault Refusal :=
  (Act.get fun s => Act.when s.powered (Act.start 4 busy (Act.fastRound convBad.toNat samples))).go s

/-- SLOW_ROUND: every other enabled channel is converted; the codes are the means of their samples. -/
def Act.slowRound (samples : List Sample) : Act :=
  Act.get fun s =>
    if !s.powered then Act.skip
    else Act.thmSync (Act.each (samples.filter fun x =>
      x.index < 224 && s.snsEnabled x.index && !(s.sensor x.index).promoted && !s.inSet x.index) Act.convert)

/-- SLOW_ROUND; busy where the round before it still runs (R48). -/
def execSlowRound (busy : Bool) (samples : List Sample) (s : State) : Host.Outcome State Fault Refusal :=
  (Act.get fun s => Act.when s.powered (Act.start 5 busy (Act.slowRound samples))).go s

/-- The tray voltage in mV that a control set delivers, if its input is in the set. -/
def State.setVbus (s : State) (samples : List Sample) : Nat :=
  if s.flag F.PRS_VBUS_CFG.en then
    match samples.find? fun x => x.index == s.fld F.PRS_VBUS_CFG.ain with
    | some x => (s.converted x).toNat
    | none => 0
  else 0

/-- CONTROL_SET_SAMPLE: the current monitors and the tray voltage are converted just before the control tick, and each
slot's fast power follows (R96, R136). A control-set input that is a temperature sensor has its level evaluated too (R140).
-/
def Act.controlSet (samples : List Sample) : Act :=
  Act.get fun s =>
    if !s.powered then Act.skip
    else Act.thmSync (Act.seq [
      Act.each (List.range 8) fun n =>
        if s.flag (F.CAP_SLOT_CFG.en n) then
          match samples.find? fun x => x.index == s.fld (F.CAP_SLOT_CFG.ain n) with
          | some x => Act.setF (F.CAP_SLOT_FAST.watts n)
              (min 65535 (Config.fastWatts (s.converted x).toNat (s.setVbus samples) * s.fld (F.CAP_SLOT_FAST.trim n) / 32768))
          | none => Act.skip
        else Act.skip,
      Act.each (samples.filter fun x => x.index < 128 && s.inSet x.index && s.snsEnabled x.index) Act.convert])

def execControlSetSample (samples : List Sample) (s : State) : Host.Outcome State Fault Refusal :=
  (Act.controlSet samples).go s

/-! ## Rates (R139, R144, R146) -/

/-- Forget a sensor that is not evaluated (R135): it reads nothing, and its rate starts anew. -/
def Act.snsForget (i : Nat) : Act :=
  Act.get fun s => Act.sensor i fun x => { Sensor.reset with promoted := x.promoted, lastAt := s.tns.tick }

/-- The present value of sensor i at a rate instant: for a promoted channel the mean of its results since the last. -/
def Sensor.present (x : Sensor) : Int := if x.promoted && x.cnt ≠ 0 then x.acc / (x.cnt : Int) else x.value

/-- Compute the rate of sensor i (R139): the present value less that of 100 ms earlier, over 0.1 s, and 0 for the first
100 ms. -/
def Act.snsRate (i : Nat) : Act :=
  Act.sensor i fun x =>
    if !x.has then x
    else
      let v := x.present
      let r := match x.hist[9]? with
        | some old => (v - old) * 10
        | none => 0
      { x with rate := r, hist := (v :: x.hist).take 10, acc := 0, cnt := 0 }

/-- Whether sensor j is another working sensor of sensor i's zone. -/
def State.neighbour (s : State) (i j : Nat) : Bool :=
  j ≠ i && s.fld (F.THM_SNS_CFG.zone j) = s.fld (F.THM_SNS_CFG.zone i) && s.evaluated j && !s.snsBroken j

/-- Whether a rate above the limit has a cause (R144): a neighbour rises too, or the zone's prediction of the last 10 ms
does. -/
def State.rateHasCause (s : State) (i : Nat) : Bool :=
  let z := s.fld (F.THM_SNS_CFG.zone i)
  if h : z < 16 then
    (List.range 280).any (fun j => s.neighbour i j && s.rateLimit < 2 * (s.sensor j).rate) ||
      (match s.thm.predAt[z] with
       | some t => s.tns.tick ≤ t + 10000 && s.rateLimit < 2 * signed 16 (s.fld (F.THM_ZONE_PRED.rate z))
       | none => false)
  else false

/-- The tests on the rate of sensor i, promotion and demotion (R138, R144, R146): 100 ms lie between the first of eleven
instants and the last. -/
def Act.rateTests (i : Nat) : Act :=
  Act.get fun s =>
    let x := s.sensor i
    if !x.has || s.snsBroken i then Act.skip
    else Act.seq [
      if s.rateLimit < x.rate then
        if s.rateHasCause i then
          Act.when (!x.rateCause) ((Act.sensor i fun x => { x with rateCause := true }).andThen
            (Act.emitHw 0x21 0x0605 2 [i, unsignedOf 12 (satSigned 12 x.rate)]))
        else Act.breakSensor i 4
      else Act.when (2 * x.rate < s.rateLimit) (Act.sensor i fun x => { x with rateCause := false }),
      Act.sensor i fun y =>
        if s.inSet i then y
        else if s.quietAt i y.value y.rate then
          if y.promoted && 10 ≤ y.quiet && !s.snsBroken i then { y with promoted := false, quiet := 0 }
          else { y with quiet := y.quiet + 1 }
        else { y with quiet := 0, promoted := y.promoted || s.promotes i y.value y.rate }]

/-- RATE_UPDATE: every 10 ms (R139). -/
def Act.rateUpdate : Act :=
  Act.get fun s =>
    if !s.powered then Act.skip
    else Act.thmSync (Act.seq [
      Act.each (List.range 280) fun i => if s.evaluated i then Act.snsRate i else Act.snsForget i,
      Act.each ((List.range 280).filter s.evaluated) Act.rateTests])

def execRateUpdate (s : State) : Host.Outcome State Fault Refusal := Act.rateUpdate.go s

/-! ## Module sensors (R134) -/

/-- MODULE_SENSOR_READ: sensor i (0 to 5) of slot n's modules, by the core that serves the slot. -/
def Act.moduleRead (n : Fin 8) (i : Nat) (ack errFlag : Bool) (value : Int) : Act :=
  Act.get fun s =>
    let k := 232 + 6 * n + i
    if !s.powered || 6 ≤ i then Act.skip
    else if h : s.slotCore n < 13 then
      if !s.coreUp ⟨s.slotCore n, h⟩ || !s.evaluated k then Act.skip
      else Act.thmSync (if ack && !errFlag then Act.snsResult k value value else Act.breakSensor k 1)
    else Act.skip

def execModuleSensorRead (n : Fin 8) (i : Nat) (ack errFlag : Bool) (value : Int) (s : State) :
    Host.Outcome State Fault Refusal := (Act.moduleRead n i ack errFlag value).go s

/-- SENSOR_STALE: a module sensor has had no reading for 100 ms. -/
def Act.sensorStale (i : Nat) : Act :=
  Act.get fun s =>
    if s.powered && 232 ≤ i && i < 280 && (s.sensor i).lastAt + 100000 ≤ s.tns.tick then Act.thmSync (Act.breakSensor i 1)
    else Act.skip

def execSensorStale (i : Nat) (s : State) : Host.Outcome State Fault Refusal := (Act.sensorStale i).go s

/-! ## Broken sensors (R144, R145) -/

/-- The results of sensor i within the stuck time. -/
def State.stuckWindow (s : State) (i : Nat) : List (Nat × Int × Int) :=
  (s.sensor i).trail.filter fun p => s.tns.tick ≤ p.1 + s.fld F.THM_BROKEN_CFG.stuck_s * 1000000

/-- Whether every raw reading of sensor i over the stuck time equals the first, the sensor having had results for as
long. -/
def State.rawStands (s : State) (i : Nat) : Bool :=
  let w := s.stuckWindow i
  (match (s.sensor i).trail.getLast? with
   | some p => p.1 + s.fld F.THM_BROKEN_CFG.stuck_s * 1000000 ≤ s.tns.tick
   | none => false) &&
  (match w with
   | [] => false
   | p :: r => r.all fun q => q.2.1 == p.2.1)

/-- Whether sensor j moved by more than 2 degC over the stuck time. -/
def State.moved (s : State) (j : Nat) : Bool :=
  match (s.stuckWindow j).map fun p => p.2.2 with
  | [] => false
  | v :: r => 32 < r.foldl max v - r.foldl min v

/-- STUCK_SENSOR: the stuck test of R144. -/
def Act.stuckSensor (i : Nat) : Act :=
  Act.get fun s =>
    if s.powered && i < 280 && s.fld (F.THM_SNS_CFG.zone i) < 16 && s.rawStands i &&
        (List.range 280).any (fun j => s.neighbour i j && s.moved j) then
      Act.thmSync (Act.breakSensor i 2)
    else Act.skip

def execStuckSensor (i : Nat) (s : State) : Host.Outcome State Fault Refusal := (Act.stuckSensor i).go s

/-- The sensors of register w that a mask names. -/
def maskSensors (w : Nat) (v : BitVec 32) : List Nat := (bitsOf v.toNat 32).map (32 * w + ·) |>.filter (· < 280)

/-- The estimate of sensor i in 1/16 degC that the thermal role last returned; 0x8000 where it returned none. -/
def State.estimate (s : State) (i : Nat) : Nat := (s.learned.estimates[i]?).getD 0x8000

/-- A write of THM_BROKEN_SET(w): the named sensors are broken for disagreement, which the power core records (R144, R154).
-/
def Act.brokenSet (w : Nat) (v : BitVec 32) : Act :=
  Act.get fun s => Act.seq [
    Act.each ((maskSensors w v).filter fun i => s.evaluated i && !s.snsBroken i) fun i =>
      Act.emit 0x02 0x0608 3 [i, unsignedOf 16 (s.snsValue i), s.estimate i],
    Act.thmSync (Act.each (maskSensors w v) fun i => Act.breakSensor i 3)]

/-- THM_BROKEN_SET by core k. -/
def execThmBrokenSet (k : Fin 13) (w : Fin 9) (v : BitVec 32) (s : State) : Host.Outcome State Fault Refusal :=
  (Act.get fun s => Act.when (s.powered && s.coreUp k) (Act.brokenSet w v)).go s

/-- A write of THM_BROKEN(w): the named sensors are cleared, to be tested again at their next result (R145). -/
def Act.brokenClear (w : Nat) (v : BitVec 32) : Act :=
  Act.get fun s =>
    Act.thmSync (Act.each ((maskSensors w v).filter s.snsBroken) fun i => Act.seq [
      Act.setFBit (F.THM_BROKEN.broken (i / 32)) (i % 32) false,
      Act.emitHw 0x21 0x0604 1 [i]])

/-- THM_BROKEN_CLEAR by core k. -/
def execThmBrokenClear (k : Fin 13) (w : Fin 9) (v : BitVec 32) (s : State) : Host.Outcome State Fault Refusal :=
  (Act.get fun s => Act.when (s.powered && s.coreUp k) (Act.brokenClear w v)).go s

/-! ## Throttle duties (R142) -/

/-- Whether zone z is the better choice than zone y: a higher level, then a higher hottest value. -/
def State.zoneOver (s : State) (z y : Nat) : Bool :=
  s.zoneLevel y < s.zoneLevel z ||
    (s.zoneLevel y = s.zoneLevel z &&
      (match s.zoneHottest z, s.zoneHottest y with
       | some i, some j => s.snsValue j < s.snsValue i
       | some _, none => true
       | _, _ => false))

/-- The zone that governs slot n's throttle duty. -/
def State.throttleZone (s : State) (n : Nat) : Option Nat :=
  ((List.range 16).filter fun z => s.zoneTarget z = n || s.zoneTarget z = 8).foldl
    (fun m z => match m with
      | none => some z
      | some y => if s.zoneOver z y then some z else some y) none

/-- Whether zone z is below THROTTLE less hyst: every evaluated sensor of it is. -/
def State.belowThrottle (s : State) (z : Nat) : Bool :=
  s.zoneLevel z < 2 && (s.zoneSensors z).all fun i =>
    !((s.sensor i).has || s.snsBroken i) || s.snsValue i + ((s.fld F.THM_CTL.hyst * 16 : Nat) : Int) < s.snsThr i 2

/-- The rate of zone z's hottest sensor. -/
def State.hottestRate (s : State) (z : Nat) : Int :=
  match s.zoneHottest z with
  | some i => (s.sensor i).rate
  | none => 0

/-- The throttle duty of slot n after one step. -/
def State.throttleStep (s : State) (n : Nat) : Nat :=
  let d := s.fld (F.THM_THR_DUTY.duty n)
  match s.throttleZone n with
  | none => d
  | some z =>
    let step := s.fld (F.THM_ZONE_CFG.thr_step z)
    if 2 ≤ s.zoneLevel z && 0 ≤ s.hottestRate z then max d (min (d + step) (s.fld (F.THM_ZONE_THR.thr_max z)))
    else if s.belowThrottle z then d - step
    else d

/-- THROTTLE_UPDATE: at each 1 ms tick. -/
def Act.throttleUpdate : Act :=
  Act.get fun s =>
    Act.when s.powered (Act.each (List.range 8) fun n => Act.setF (F.THM_THR_DUTY.duty n) (s.throttleStep n))

def execThrottleUpdate (s : State) : Host.Outcome State Fault Refusal := Act.throttleUpdate.go s

/-! ## Fans, pumps and flow (R147, R148, R150) -/

/-- The speed in rpm that tachometer input i shows for a mean pulse period of its last four pulses in µs: 0 with no pulse
for 1 s, and the fraction dropped (R147; log entry 34). -/
def State.tachRpm (s : State) (i period : Nat) : Nat :=
  if 0xFFFFF ≤ period then 0 else min 65535 (60000000 / (period * (s.fld (F.THM_FAN_CFG.ppr i) + 1)))

/-- The mean pulse period of tachometer input i is measured. -/
def Act.tachIs (i period : Nat) : Act := Act.setF (F.PRS_TACH.period i) (min 0xFFFFF period)

/-- The speed of fan i is measured. -/
def Act.fanSpeed (i period : Nat) : Act :=
  Act.get fun s => (Act.setF (F.THM_FAN_STAT.rpm i) (s.tachRpm i period)).andThen (Act.tachIs i period)

/-- FAN_FAIL: fan i has stayed below min_rpm at an applied duty of 300 or more for ms milliseconds, and fails where that is
its fail time. -/
def Act.fanFail (i : Fin 16) (period ms : Nat) : Act :=
  Act.get fun s =>
    let rpm := s.tachRpm i period
    if s.powered && !s.flag (F.THM_FAN_STAT.failed i) && rpm < s.fld (F.THM_FAN_CFG.min_rpm i) &&
        300 ≤ s.applied (16 + i) && s.fld (F.THM_FAN_CFG.fail_100ms i) * 100 ≤ ms then
      (Act.fanSpeed i period).andThen (Act.thmSync ((Act.setB (F.THM_FAN_STAT.failed i) true).andThen
        (Act.emitHw 0x21 0x0606 3 [i, rpm])))
    else Act.when s.powered (Act.fanSpeed i period)

def execFanFail (i : Fin 16) (period ms : Nat) (s : State) : Host.Outcome State Fault Refusal :=
  (Act.fanFail i period ms).go s

/-- FAN_RECOVER: a failed fan has run at or above min_rpm for 5 s. -/
def Act.fanRecover (i : Fin 16) (period : Nat) : Act :=
  Act.get fun s =>
    let rpm := s.tachRpm i period
    if s.powered && s.flag (F.THM_FAN_STAT.failed i) && s.fld (F.THM_FAN_CFG.min_rpm i) ≤ rpm then
      (Act.fanSpeed i period).andThen (Act.thmSync ((Act.setB (F.THM_FAN_STAT.failed i) false).andThen
        (Act.emitHw 0x21 0x0606 3 [i, rpm])))
    else Act.when s.powered (Act.fanSpeed i period)

def execFanRecover (i : Fin 16) (period : Nat) (s : State) : Host.Outcome State Fault Refusal :=
  (Act.fanRecover i period).go s

/-- Whether PUMPp_EN is driven on (R148). -/
def State.pumpsOn (s : State) : Bool := s.powered && s.effOn 8 && s.fld F.THM_CTL.mode ≠ 0

/-- The speed of pump p, from the tachometer input that it takes its speed from; 0 where it takes none. -/
def State.pumpRpm (s : State) (p period : Nat) : Nat :=
  if s.flag (F.THM_PUMP_CFG.tach_en p) then s.tachRpm (s.fld (F.THM_PUMP_CFG.tach p)) period else 0

/-- The speed of pump p is measured on its tachometer input. -/
def Act.pumpSpeed (p period : Nat) : Act :=
  Act.get fun s => Act.when (s.flag (F.THM_PUMP_CFG.tach_en p))
    ((Act.setF (F.THM_PUMP_STAT.rpm p) (s.pumpRpm p period)).andThen (Act.tachIs (s.fld (F.THM_PUMP_CFG.tach p)) period))

/-- Whether pump p fails by its tachometer, under the rule of R147. -/
def State.pumpSlow (s : State) (p period ms : Nat) : Bool :=
  s.flag (F.THM_PUMP_CFG.tach_en p) && s.pumpRpm p period < s.fld (F.THM_PUMP_CFG.min_rpm p) && 300 ≤ s.applied (32 + p) &&
    s.fld (F.THM_PUMP_CFG.fail_100ms p) * 100 ≤ ms

/-- The flow that an event of pump p carries: that of the lowest-numbered meter of a group that the pump is in (R154; log
entry 3). -/
def State.pumpFlow (s : State) (p : Nat) : Nat :=
  match (List.range 4).find? fun f => (List.range 8).any fun g =>
      bitOf (s.fld (F.THM_GROUP.pumps g)) p && bitOf (s.fld (F.THM_FLOW_CFG.groups f)) g with
  | some f => s.fld (F.THM_FLOW_STAT.flow f)
  | none => 0

/-- PUMP_FAIL: PUMPp_FLT_N has stayed low for ms milliseconds, or the assigned tachometer has read below min_rpm for as
long.  Pump faults are ignored in AIR (R150). -/
def Act.pumpFail (p : Fin 4) (low : Bool) (period ms : Nat) : Act :=
  Act.get fun s =>
    Act.when (s.powered && s.fld F.THM_CTL.mode ≠ 0) (Act.seq [
      Act.pumpSpeed p period,
      Act.setB (F.THM_PUMP_STAT.flt p) low,
      if !s.flag (F.THM_PUMP_STAT.failed p) && ((low && 10 ≤ ms) || s.pumpSlow p period ms) then
        Act.thmSync ((Act.setB (F.THM_PUMP_STAT.failed p) true).andThen (Act.emitHw 0x21 0x0607 3 [p, s.pumpFlow p]))
      else Act.skip])

def execPumpFail (p : Fin 4) (low : Bool) (period ms : Nat) (s : State) : Host.Outcome State Fault Refusal :=
  (Act.pumpFail p low period ms).go s

/-- PUMP_RECOVER: PUMPp_FLT_N is high again, or the tachometer is back at min_rpm. -/
def Act.pumpRecover (p : Fin 4) (period : Nat) : Act :=
  Act.get fun s =>
    if s.powered && s.flag (F.THM_PUMP_STAT.failed p) &&
        (!s.flag (F.THM_PUMP_CFG.tach_en p) || s.fld (F.THM_PUMP_CFG.min_rpm p) ≤ s.pumpRpm p period) then
      (Act.pumpSpeed p period).andThen (Act.thmSync (Act.seq [
        Act.setB (F.THM_PUMP_STAT.failed p) false,
        Act.setB (F.THM_PUMP_STAT.flt p) false,
        Act.emitHw 0x21 0x0607 3 [p, s.pumpFlow p]]))
    else Act.skip

def execPumpRecover (p : Fin 4) (period : Nat) (s : State) : Host.Outcome State Fault Refusal :=
  (Act.pumpRecover p period).go s

/-- The flow of meter f in 0.01 L/min for a pulse rate in 0.01 Hz: 60 * frequency / kfactor, the fraction dropped (R148; log
entry 34). -/
def State.flowOf (s : State) (f rate : Nat) : Nat := min 65535 (60 * rate / s.fld (F.THM_FLOW_CFG.kfactor f))

/-- The pulse rate of meter f is measured. -/
def Act.flowIs (f rate : Nat) : Act :=
  Act.get fun s => (Act.setF (F.THM_FLOW_STAT.flow f) (s.flowOf f rate)).andThen (Act.setF (F.PRS_FLOW.period f) (min 0xFFFFF rate))

/-- Whether a pump of the groups that meter f serves is enabled. -/
def State.flowPumped (s : State) (f : Nat) : Bool :=
  s.pumpsOn && (List.range 8).any fun g =>
    bitOf (s.fld (F.THM_FLOW_CFG.groups f)) g && s.fld (F.THM_GROUP.pumps g) ≠ 0

/-- FLOW_LOST: flow has stayed below min_flow for 1 s while a pump of the groups the meter serves is enabled. -/
def Act.flowLost (f : Fin 4) (rate : Nat) : Act :=
  Act.get fun s =>
    let flow := s.flowOf f rate
    if s.powered && s.fld (F.THM_FLOW_CFG.kfactor f) ≠ 0 && s.flowPumped f && !s.flag (F.THM_FLOW_STAT.lost f) &&
        flow < s.fld (F.THM_FLOW_CFG.min_flow f) * 10 then
      (Act.flowIs f rate).andThen (Act.thmSync ((Act.setB (F.THM_FLOW_STAT.lost f) true).andThen
        (Act.emitHw 0x21 0x0607 3 [f, flow])))
    else Act.when (s.powered && s.fld (F.THM_FLOW_CFG.kfactor f) ≠ 0) (Act.flowIs f rate)

def execFlowLost (f : Fin 4) (rate : Nat) (s : State) : Host.Outcome State Fault Refusal := (Act.flowLost f rate).go s

/-- FLOW_RESTORED: flow has been back for 5 s. -/
def Act.flowRestored (f : Fin 4) (rate : Nat) : Act :=
  Act.get fun s =>
    let flow := s.flowOf f rate
    if s.powered && s.flag (F.THM_FLOW_STAT.lost f) && s.fld (F.THM_FLOW_CFG.min_flow f) * 10 ≤ flow then
      (Act.flowIs f rate).andThen (Act.thmSync ((Act.setB (F.THM_FLOW_STAT.lost f) false).andThen
        (Act.emitHw 0x21 0x0607 3 [f, flow])))
    else Act.when (s.powered && s.fld (F.THM_FLOW_CFG.kfactor f) ≠ 0) (Act.flowIs f rate)

def execFlowRestored (f : Fin 4) (rate : Nat) (s : State) : Host.Outcome State Fault Refusal :=
  (Act.flowRestored f rate).go s

/-! ## Valves (R149) -/

/-- A write of THM_VALVE_CTL. -/
def Act.valveWrite (v : BitVec 32) : Act := Act.withValves (Act.setF F.THM_VALVE_CTL.on v.toNat)

/-- VALVE_COMMAND by core k. -/
def execValveCommand (k : Fin 13) (v : BitVec 32) (s : State) : Host.Outcome State Fault Refusal :=
  (Act.get fun s => Act.when (s.powered && s.coreUp k) (Act.valveWrite v)).go s

/-- VALVE_PULL_END: pull_ms have passed, so the drive drops to hold_pct. -/
def Act.valvePullEnd (v : Fin 8) : Act :=
  Act.get fun s =>
    match s.thm.pullEnd[v] with
    | some t => Act.when (s.powered && t ≤ s.tns.tick) (Act.thmx fun x => { x with pullEnd := x.pullEnd.set v none })
    | none => Act.skip

def execValvePullEnd (v : Fin 8) (s : State) : Host.Outcome State Fault Refusal := (Act.valvePullEnd v).go s

/-! ## Predictions and the fan curve (R152) -/

/-- A write of THM_ZONE_PRED(z) stamps it as fresh. -/
def Act.zonePred (z : Fin 16) (v : BitVec 32) : Act :=
  Act.get fun s =>
    Act.seq [Act.setF (F.THM_ZONE_PRED.temp z) v.toNat, Act.setF (F.THM_ZONE_PRED.rate z) (v.toNat / 65536),
      Act.thmx fun t => { t with predAt := t.predAt.set z (some s.tns.tick) }]

/-- ZONE_PRED_WRITE by core k. -/
def execZonePredWrite (k : Fin 13) (z : Fin 16) (v : BitVec 32) (s : State) : Host.Outcome State Fault Refusal :=
  (Act.get fun s => Act.when (s.powered && s.coreUp k) (Act.zonePred z v)).go s

/-- The least distance to THROTTLE in 1/16 degC over the evaluated sensors of group g's zones. -/
def State.groupMargin (s : State) (g : Nat) : Option Int :=
  ((List.range 16).filter fun z => s.fld (F.THM_ZONE_CFG.group z) = g).foldl (fun m z =>
    (s.zoneSensors z).foldl (fun m i =>
      if (s.sensor i).has || s.snsBroken i then
        let d := s.snsThr i 2 - s.snsValue i
        some (match m with | some e => min e d | none => d)
      else m) m) none

/-- The duty of the fan curve between qmin and qmax for a margin, in whole units, halves up (R152, R466). -/
def curveDuty (qmin qmax span : Nat) (margin : Option Int) : Nat :=
  match margin with
  | none => qmin
  | some m =>
    let d : Int := (span * 16 : Nat)
    let x : Nat := (max 0 (min d (d - m))).toNat
    if span = 0 then qmin else qmin + (2 * ((qmax - qmin) * x) + span * 16) / (2 * (span * 16))

/-- The largest duty that the curves of the listed groups give channel c. -/
def State.curveOf (s : State) (c : Nat) (groups : List Nat) : Option Nat :=
  groups.foldl (fun m g =>
    let d := curveDuty (s.quaMin c) (s.quaMax c) (s.fld F.THM_CURVE.span) (s.groupMargin g)
    some (match m with | some e => max e d | none => d)) none

/-- The fan curve of R152 for every fan and pump that belongs to a group. -/
def Act.fanCurve : Act :=
  Act.get fun s =>
    Act.seq [
      Act.each (List.range 16) fun i =>
        match s.curveOf (16 + i) ((List.range 8).filter fun g => bitOf (s.fld (F.THM_GROUP.fans g)) i) with
        | some d => Act.quaTarget (16 + i) d
        | none => Act.skip,
      Act.each (List.range 4) fun p =>
        match s.curveOf (32 + p) ((List.range 8).filter fun g => bitOf (s.fld (F.THM_GROUP.pumps g)) p) with
        | some d => Act.quaTarget (32 + p) d
        | none => Act.skip]

/-- Whether the thermal role falls back to the fan curve (R152, R287). -/
def State.curveRules (s : State) : Bool :=
  !s.svcRuns || !s.active || (s.learned.roles[3].demoted && s.learned.roles[3].holder.isNone)

/-- FAN_CURVE_UPDATE: every 100 ms, by the power core. -/
def Act.fanCurveUpdate : Act :=
  Act.get fun s => Act.when (s.powered && s.coreUp 1 && s.curveRules) Act.fanCurve

def execFanCurveUpdate (s : State) : Host.Outcome State Fault Refusal := Act.fanCurveUpdate.go s

/-- THERMAL_SHED_EXIT: the logic die has been cool for 10 s, so that wake triggers are honoured again (R448). -/
def Act.thermalShedExit : Act :=
  Act.get fun s =>
    match s.rst.coolSince with
    | some t =>
      if s.powered && s.rst.shed && t + 10000000 ≤ s.tns.tick then
        (Act.rstx fun r => { r with shed := false, coolSince := none }).andThen (Act.emit 0x29 0x1004 1 [1, 1])
      else Act.skip
    | none => Act.skip

def execThermalShedExit (s : State) : Host.Outcome State Fault Refusal := Act.thermalShedExit.go s

end Sys2Proof.Machine
end

