-- ==== Sys2Proof/Machine/Period.lean ====
section
/-!
DEFINITION. The Period protection engine: waves, keep-alives, proof tests, arming, trips, pace causes, clearing, fallback,
and the leak detector (R155 to R172).
-/
namespace Sys2Proof.Machine

/-! ## Waves and self-faults (R156 to R159) -/

/-- The clear side of the overcurrent pace level: 5 % below it (R163). -/
def ocClearSide (level iin : Nat) : Bool := iin * 20 ≤ level * 19

/-- The clear side of an undervoltage level in 0.5 V steps: 1 V above it; voltages in 0.1 V. -/
def uvClearSide (level vbus : Nat) : Bool := level * 5 + 10 ≤ vbus

/-- The clear side of the overvoltage level: 1 V below it. -/
def ovClearSide (level vbus : Nat) : Bool := vbus + 10 ≤ level * 5

/-- What a wave senses: PER_MON, the trip inputs of the slots, and since when the PACE inputs have been on their clear
sides. -/
def Act.waveSense (w : WaveIn) : Act :=
  Act.get fun s => Act.seq [
    Act.setF F.PER_MON.vbus (min w.vbus 65535),
    Act.setF F.PER_MON.iin (min w.iin 65535),
    Act.setF F.SEQ_EFUSE_STATUS.flt w.fltLow.toNat,
    Act.each (List.range 8) fun n => Act.setB (F.SLT_STAT.thermtrip n) (bitOf w.tripLow.toNat n),
    Act.perx fun p => { p with
      waveAt := s.tns.tick,
      ocClear := if ocClearSide (s.fld F.PER_IIN_LVL.oc_pace) w.iin then some (p.ocClear.getD s.tns.tick) else none,
      uvClear := if uvClearSide (s.fld F.PER_VBUS_LVL.uv_pace) w.vbus then some (p.uvClear.getD s.tns.tick) else none }]

/-- PERIOD_WAVE: a wave completes, or finds an invalid code or an overrun, which are self-faults (R156). -/
def Act.periodWave (w : WaveIn) : Act :=
  Act.get fun s =>
    if !s.powered then Act.skip
    else if w.invalidCode then Act.selfFault 0 0
    else if w.overrun then Act.selfFault 1 0
    else Act.waveSense w

def execPeriodWave (w : WaveIn) (s : State) : Host.Outcome State Fault Refusal := (Act.periodWave w).go s

/-- TICK_ABSENT: no Tense tick for 4 µs. -/
def execTickAbsent (s : State) : Host.Outcome State Fault Refusal :=
  (Act.get fun s => Act.when s.powered (Act.selfFault 2 0)).go s

/-- KEEPALIVE_EXPIRY: an output that completed waves have not refreshed for 3 µs goes off (R157). -/
def Act.keepalive (o : GovOut) : Act :=
  Act.get fun s => Act.when s.powered
    (match o with
     | .gate => Act.gateOff
     | .efuse n => Act.efuseOff n
     | .dom d => Act.domOff d)

def execKeepaliveExpiry (o : GovOut) (s : State) : Host.Outcome State Fault Refusal := (Act.keepalive o).go s

/-- PROOF_TEST: path 0 stands for a pass of every path; another number is the path that failed (R158). -/
def Act.proofTest (failPath : Nat) : Act :=
  Act.get fun s =>
    if !s.powered then Act.skip
    else if failPath = 0 then Act.bump F.PER_PROOF.passes
    else (Act.setF F.PER_PROOF.fail_path failPath).andThen (Act.selfFault 3 failPath)

def execProofTest (failPath : Nat) (s : State) : Host.Outcome State Fault Refusal := (Act.proofTest failPath).go s

/-- PERIOD_ARM: a write of PER_CTL by core k; setting lock arms Period (R160). -/
def Act.perCtl (k : Fin 13) (v : BitVec 32) : Act := Act.plainWrite k R.PER_CTL v

def execPeriodArm (k : Fin 13) (v : BitVec 32) (s : State) : Host.Outcome State Fault Refusal :=
  (Act.get fun s => Act.when (s.powered && s.coreUp k) (Act.perCtl k v)).go s

/-! ## Trips (R161) -/

/-- Latch a cause against the tray and cut it, unless it is latched already (R162).  f is the cause's bit. -/
def Act.trayTrip (f : Fd) (cause input : Nat) : Act :=
  Act.get fun s =>
    if s.flag f then Act.skip
    else Act.withForce cause ((Act.setB f true).andThen (Act.period .tray cause input))

/-- INPUT_OVERCURRENT_CUT: the input has been above oc_cut for 2 µs; iin in 0.1 mV. -/
def Act.ocCut (iin : Nat) : Act :=
  Act.get fun s =>
    Act.when (s.powered && s.fld F.PER_IIN_LVL.oc_cut < iin)
      ((Act.setF F.PER_MON.iin (min iin 65535)).andThen (Act.trayTrip F.PER_CAUSE.iin_oc 0 iin))

def execInputOvercurrentCut (iin : Nat) (s : State) : Host.Outcome State Fault Refusal := (Act.ocCut iin).go s

/-- Latch a PACE cause, with its record, while its input is past its level. -/
def Act.paceEnter (f : Fd) (cause input : Nat) : Act :=
  Act.get fun s =>
    if s.flag f then Act.skip
    else Act.withForce cause (Act.seq [Act.setB f true, Act.emitHw 0x20 0x0701 2 [cause, input], Act.perLine])

/-- INPUT_OVERCURRENT_PACE: the input has been above oc_pace for 10 µs; a level of 0 is off. -/
def Act.ocPace (iin : Nat) : Act :=
  Act.get fun s =>
    Act.when (s.powered && s.fld F.PER_IIN_LVL.oc_pace ≠ 0 && s.fld F.PER_IIN_LVL.oc_pace < iin)
      (Act.seq [Act.setF F.PER_MON.iin (min iin 65535), Act.perx fun p => { p with ocClear := none },
        Act.paceEnter F.PER_CAUSE.oc_pace 1 iin])

def execInputOvercurrentPace (iin : Nat) (s : State) : Host.Outcome State Fault Refusal := (Act.ocPace iin).go s

/-- BUS_OVERVOLTAGE: the bus has been above ov for 2 µs; vbus in 0.1 V. -/
def Act.busOv (vbus : Nat) : Act :=
  Act.get fun s =>
    Act.when (s.powered && s.fld F.PER_VBUS_LVL.ov * 5 < vbus)
      ((Act.setF F.PER_MON.vbus (min vbus 65535)).andThen (Act.trayTrip F.PER_CAUSE.vbus_ov 2 vbus))

def execBusOvervoltage (vbus : Nat) (s : State) : Host.Outcome State Fault Refusal := (Act.busOv vbus).go s

/-- BUS_UNDERVOLTAGE_CUT: the bus has been below uv_cut for 100 µs. -/
def Act.busUvCut (vbus : Nat) : Act :=
  Act.get fun s =>
    Act.when (s.powered && vbus < s.fld F.PER_VBUS_LVL.uv_cut * 5)
      ((Act.setF F.PER_MON.vbus vbus).andThen (Act.trayTrip F.PER_CAUSE.vbus_uv 3 vbus))

def execBusUndervoltageCut (vbus : Nat) (s : State) : Host.Outcome State Fault Refusal := (Act.busUvCut vbus).go s

/-- BUS_UNDERVOLTAGE_PACE: the bus has been below uv_pace for 20 µs; a level of 0 is off. -/
def Act.busUvPace (vbus : Nat) : Act :=
  Act.get fun s =>
    Act.when (s.powered && vbus < s.fld F.PER_VBUS_LVL.uv_pace * 5)
      (Act.seq [Act.setF F.PER_MON.vbus vbus, Act.perx fun p => { p with uvClear := none },
        Act.paceEnter F.PER_CAUSE.uv_pace 4 vbus])

def execBusUndervoltagePace (vbus : Nat) (s : State) : Host.Outcome State Fault Refusal := (Act.busUvPace vbus).go s

/-- SLOT_THERMTRIP: SLOTn_THERMTRIP_N has stayed low for 1 µs. -/
def Act.thermtrip (n : Fin 8) : Act :=
  Act.get fun s =>
    if !s.powered then Act.skip
    else (Act.setB (F.SLT_STAT.thermtrip n) true).andThen
      (if s.flag (F.PER_SLOT_CAUSE.thermtrip n) then Act.skip
       else Act.withForce 7 ((Act.setB (F.PER_SLOT_CAUSE.thermtrip n) true).andThen (Act.period (.slot n) 7 0)))

def execSlotThermtrip (n : Fin 8) (s : State) : Host.Outcome State Fault Refusal := (Act.thermtrip n).go s

/-! ## Clearing (R163, R169) -/

/-- A PACE cause ends. -/
def Act.paceLeave (f : Fd) (cause input : Nat) : Act :=
  Act.withForce cause (Act.seq [Act.setB f false, Act.emitHw 0x20 0x0701 2 [cause, input], Act.perLine])

/-- Whether an instant lies at least n ticks back. -/
def State.since (s : State) (t : Option Nat) (n : Nat) : Bool :=
  match t with
  | some t => t + n ≤ s.tns.tick
  | none => false

/-- PACE_CAUSE_CLEAR: the input of a PACE cause has been on its clear side for 1 ms. -/
def Act.paceClear (c : PaceCause) : Act :=
  Act.get fun s =>
    if !s.powered then Act.skip
    else match c with
    | .ocPace iin => Act.when (s.flag F.PER_CAUSE.oc_pace && ocClearSide (s.fld F.PER_IIN_LVL.oc_pace) iin &&
        s.since s.per.ocClear 1000) (Act.paceLeave F.PER_CAUSE.oc_pace 1 iin)
    | .uvPace vbus => Act.when (s.flag F.PER_CAUSE.uv_pace && uvClearSide (s.fld F.PER_VBUS_LVL.uv_pace) vbus &&
        s.since s.per.uvClear 1000) (Act.paceLeave F.PER_CAUSE.uv_pace 4 vbus)

def execPaceCauseClear (c : PaceCause) (s : State) : Host.Outcome State Fault Refusal := (Act.paceClear c).go s

/-- Whether zone z has given dry, clear samples for the last 1 s. -/
def State.zoneDry (s : State) (z : Fin 8) : Bool := s.since s.ropes[z].clearSince 1000000

/-- Whether the conditions of R169 hold for zone z: dry for 1 s, and a self-test passed since its last wet sample. -/
def State.zoneTested (s : State) (z : Fin 8) : Bool := s.zoneDry z && s.ropes[z].passed

/-- A zone at TRIP whose target is t: 0 to 7 a slot, 8 the tray. -/
def State.tripOn (s : State) (t : Nat) : Bool := (List.range 16).any fun z => s.zoneTarget z = t && s.zoneLevel z = 4

/-- Whether the tray cause with a bit of PER_CAUSE is on its clear side at this moment (R163). -/
def State.trayClearSide (s : State) (bit : Nat) : Bool :=
  match bit with
  | 0 => ocClearSide (s.fld F.PER_IIN_LVL.oc_cut) (s.fld F.PER_MON.iin)
  | 1 => uvClearSide (s.fld F.PER_VBUS_LVL.uv_cut) (s.fld F.PER_MON.vbus)
  | 2 => ovClearSide (s.fld F.PER_VBUS_LVL.ov) (s.fld F.PER_MON.vbus)
  | 3 => !s.tripOn 8
  | 4 => !s.flag F.PER_CAUSE.leak_conf && (List.finRange 8).all fun (z : Fin 8) => !s.zoneOn z || s.zoneDry z
  | 5 => (List.finRange 8).all fun (z : Fin 8) => !s.zoneConfirmed z || s.zoneTested z
  | _ => false

/-- The cause number of a bit of PER_CAUSE, as R161 lists the sources (log entry 3). -/
def causeOfBit (bit : Nat) : Nat :=
  match bit with
  | 0 => 0 | 1 => 3 | 2 => 2 | 3 => 5 | 4 => 9 | _ => 10

/-- What clears with leak_conf: the confirmed and test_fail bits and the forced valves (R167, R169). -/
def Act.leakConfCleared : Act :=
  Act.seq [
    Act.setF F.LKD_STATUS.confirmed 0,
    Act.setF F.LKD_STATUS.test_fail 0,
    Act.withValves (Act.setF F.THM_VALVE_CTL.forced 0),
    Act.each (List.finRange 8) fun z => Act.rope z fun r => { r with told := false }]

/-- A write of 1 to a bit of PER_CAUSE: a latched cause clears on its clear side only, with a record either way. -/
def Act.trayClear (bit : Nat) : Act :=
  Act.get fun s =>
    if !bitOf (s.reg R.PER_CAUSE).toNat bit then Act.skip
    else if s.trayClearSide bit then Act.withForce (causeOfBit bit) (Act.seq [
      Act.setF ⟨R.PER_CAUSE, bit, bit⟩ 0,
      Act.when (bit = 5) Act.leakConfCleared,
      Act.emitHw 0x20 0x0704 1 [causeOfBit bit],
      Act.perLine])
    else Act.emitHw 0x20 0x0705 2 [causeOfBit bit]

/-- A write of 1 to a bit of PER_SLOT_CAUSE(n): 0 thermal TRIP, 1 THERMTRIP. -/
def Act.slotClear (n bit : Nat) : Act :=
  Act.get fun s =>
    let cause := if bit = 0 then 6 else 7
    if !bitOf (s.reg (R.PER_SLOT_CAUSE n)).toNat bit then Act.skip
    else if (if bit = 0 then !s.tripOn n else !s.flag (F.SLT_STAT.thermtrip n)) then
      Act.withForce cause (Act.seq [Act.setF ⟨R.PER_SLOT_CAUSE n, bit, bit⟩ 0, Act.emitHw 0x20 0x0704 1 [cause], Act.perLine])
    else Act.emitHw 0x20 0x0705 2 [cause]

/-- A write of a cause register.  leak_conf is judged before leak_wet. -/
def Act.causeWrite (r : CauseReg) (v : BitVec 32) : Act :=
  match r with
  | .tray => Act.each ([0, 1, 2, 3, 5, 4].filter fun b => bitOf v.toNat b) Act.trayClear
  | .slot n => Act.each ([0, 1].filter fun b => bitOf v.toNat b) (Act.slotClear n)

/-- PER_CAUSE_CLEAR by core k. -/
def execPerCauseClear (k : Fin 13) (reg : CauseReg) (v : BitVec 32) (s : State) : Host.Outcome State Fault Refusal :=
  (Act.get fun s => Act.when (s.powered && s.coreUp k) (Act.causeWrite reg v)).go s

/-! ## Level registers (R464) -/

/-- Whether the fields of a written value of a level register agree with each other (R464). -/
def levelsAgree (r : LevelReg) (v : BitVec 32) : Bool :=
  match r with
  | .iin => let cut := fldOf v 31 16; let pace := fldOf v 15 0
            pace = 0 || (100 ≤ pace && pace + 10 ≤ cut)
  | .vbus => let cut := fldOf v 15 8; let pace := fldOf v 7 0
             pace = 0 || (cut + 2 ≤ pace && pace ≤ 92)
  | .zone _ => fldOf v 7 0 < fldOf v 15 8

/-- The offset of a level register. -/
def levelOff (r : LevelReg) : Nat :=
  match r with
  | .iin => R.PER_IIN_LVL
  | .vbus => R.PER_VBUS_LVL
  | .zone z => R.LKD_ZONE_CFG z

/-- A write of a level register: it takes effect only when every field lies within its range (R464). -/
def Act.levelWrite (k : Fin 13) (r : LevelReg) (v : BitVec 32) : Act :=
  Act.when (levelsAgree r v && admitsAll (levelOff r) v) (Act.plainWrite k (levelOff r) v)

/-- LEVEL_REGISTER_WRITE by core k. -/
def execLevelRegisterWrite (k : Fin 13) (reg : LevelReg) (v : BitVec 32) (s : State) : Host.Outcome State Fault Refusal :=
  (Act.get fun s => Act.when (s.powered && s.coreUp k) (Act.levelWrite k reg v)).go s

/-! ## The leak detector (R164 to R169) -/

/-- The first wet sample of a zone sets leak_wet and acts with GATE (R166). -/
def Act.leakWet (input : Nat) : Act :=
  Act.get fun s =>
    if s.flag F.PER_CAUSE.leak_wet then Act.skip
    else Act.withForce 9 ((Act.setB F.PER_CAUSE.leak_wet true).andThen (Act.period .gate 9 input))

/-- A leak is confirmed in zone z: by samples (0) or by the self-test (1). -/
def Act.leakConfirm (z : Fin 8) (by_ : Nat) : Act :=
  Act.get fun s =>
    if s.zoneConfirmed z then Act.skip
    else Act.withForce 10 (Act.seq [
      Act.setFBit F.LKD_STATUS.confirmed z true,
      Act.setB F.PER_CAUSE.leak_conf true,
      Act.rope z fun r => { r with told := false },
      Act.emitHw 0x27 0x0711 4 [z, by_],
      Act.period (.zone z) 10 0])

/-- Record that a confirmed zone is dry and tested, once for each confirmation. -/
def Act.zoneTold (z : Fin 8) : Act :=
  Act.get fun s =>
    if s.zoneConfirmed z && s.zoneTested z && !s.ropes[z].told then
      (Act.rope z fun r => { r with told := true }).andThen (Act.emitHw 0x27 0x0713 1 [z])
    else Act.skip

/-- Whether a measurement of zone z is open: a loop above loop_10ohm × 10 Ω. -/
def State.ropeOpen (s : State) (z : Nat) (m : RopeMeas) : Bool :=
  s.fld (F.LKD_ZONE_CFG.loop_10ohm z) * 10 < max m.loopA m.loopB

/-- Whether a measurement of zone z is wet (R165); impedances in 0.1 kΩ. -/
def State.ropeWet (s : State) (z : Nat) (m : RopeMeas) : Bool :=
  m.zAb < s.fld (F.LKD_ZONE_CFG.wet_kohm z) * 10 || s.ropeOpen z m

/-- One sample of an enabled zone (R165, R166). -/
def Act.zoneSample (z : Fin 8) (m : RopeMeas) : Act :=
  Act.get fun s =>
    let wet := s.ropeWet z m
    let clear := !wet && s.fld (F.LKD_ZONE_CFG.dry_kohm z) * 10 < m.zAb
    let run := s.ropes[z].wetRun
    Act.seq [
      Act.setF (F.LKD_ZONE_MEAS.z_ab z) (min m.zAb 65535),
      Act.setF (F.LKD_ZONE_MEAS.loop z) (min (max m.loopA m.loopB) 65535),
      Act.setFBit F.LKD_STATUS.wet z wet,
      Act.setFBit F.LKD_STATUS.open_ z (s.ropeOpen z m),
      Act.rope z fun r => { r with
        wetRun := if wet then r.wetRun + 1 else 0,
        passed := r.passed && !wet,
        clearSince := if clear then some (r.clearSince.getD s.tns.tick) else none },
      Act.when wet (Act.seq [
        Act.bump (F.LKD_ZONE_WET.count z),
        Act.when (run = 0) (Act.emitHw 0x27 0x0710 4 [z, m.zAb, b2n (s.ropeOpen z m)]),
        Act.leakWet m.zAb,
        Act.when (2 ≤ run) (Act.leakConfirm z 0)]),
      Act.zoneTold z]

/-- LEAK_SAMPLE: every 50 µs, the measurements of zones 0 to 7; the excitation's polarity alternates (R165). -/
def Act.leakSample (meas : List RopeMeas) : Act :=
  Act.get fun s =>
    if !s.powered then Act.skip
    else (Act.each (List.finRange 8) fun (z : Fin 8) =>
      match meas[z.val]? with
      | some m => Act.when (s.zoneOn z) (Act.zoneSample z m)
      | none => Act.skip).andThen (Act.perx fun p => { p with polarity := !p.polarity })

/-- LEAK_SAMPLE; busy where the sample before it still runs (R48). -/
def execLeakSample (busy : Bool) (meas : List RopeMeas) (s : State) : Host.Outcome State Fault Refusal :=
  (Act.get fun s => Act.when s.powered (Act.start 6 busy (Act.leakSample meas))).go s

/-- Whether a rise of conductance in 0.1 µS passes the self-test: 37.5 µS to 62.5 µS (R167). -/
def risePasses (rise : Nat) : Bool := 375 ≤ rise && rise ≤ 625

/-- A self-test of zone z (R167): every failure is recorded, and three in a row make the zone wet and confirmed. -/
def Act.zoneTest (z : Fin 8) (rise : Nat) : Act :=
  Act.get fun s =>
    if risePasses rise then (Act.rope z fun r => { r with failRun := 0, passed := true }).andThen (Act.zoneTold z)
    else
      Act.seq [
        Act.bump (F.LKD_ZONE_TFAIL.count z),
        Act.emitHw 0x27 0x0712 2 [z, rise],
        (if s.ropes[z].failRun < 2 then Act.rope z fun r => { r with failRun := r.failRun + 1 }
         else Act.seq [
          Act.rope z fun r => { r with failRun := 0, passed := false },
          Act.setFBit F.LKD_STATUS.wet z true,
          Act.setFBit F.LKD_STATUS.test_fail z true,
          Act.leakWet 0,
          Act.leakConfirm z 1])]

/-- A write of LKD_CTL: a zone that takes part no more is not wet, and its run of wet samples ends (R164). -/
def Act.lkdCtl (k : Fin 13) (v : BitVec 32) : Act :=
  (Act.plainWrite k R.LKD_CTL v).andThen (Act.get fun s =>
    Act.each (List.finRange 8) fun (z : Fin 8) => Act.when (!s.zoneOn z) (Act.seq [
      Act.setFBit F.LKD_STATUS.wet z false, Act.setFBit F.LKD_STATUS.open_ z false,
      Act.rope z fun r => { r with wetRun := 0, clearSince := none, failRun := 0 }]))

/-- ROPE_SELF_TEST: the zones tested, each with its rise of conductance. -/
def Act.ropeSelfTest (rises : List (Nat × Nat)) : Act :=
  Act.get fun s =>
    Act.when s.powered (Act.each rises fun p =>
      if h : p.1 < 8 then Act.when (s.zoneOn p.1) (Act.zoneTest ⟨p.1, h⟩ p.2) else Act.skip)

/-- ROPE_SELF_TEST; busy where the test before it still runs (R48). -/
def execRopeSelfTest (busy : Bool) (rises : List (Nat × Nat)) (s : State) : Host.Outcome State Fault Refusal :=
  (Act.get fun s => Act.when s.powered (Act.start 7 busy (Act.ropeSelfTest rises))).go s

/-! ## Heartbeat and fallback (R172) -/

/-- A beat: it marks the power core alive and ends fallback.  During a self-fault it has no effect (R171). -/
def Act.heartbeat : Act :=
  Act.get fun s =>
    if s.flag F.PER_CAUSE.self_fault then Act.skip
    else (Act.perx fun p => { p with hbAt := s.tns.tick }).andThen
      (if s.flag F.PER_CAUSE.fallback then Act.withForce 11 (Act.seq [
        Act.setB F.PER_CAUSE.fallback false,
        Act.emitHw 0x20 0x0702 2 [(s.tns.tick - s.per.hbAt) / 1000],
        Act.perLine])
       else Act.skip)

/-- A write of PER_HB. -/
def Act.hbWrite (v : BitVec 32) : Act := Act.when (bitOf v.toNat 0) Act.heartbeat

/-- PER_HB by core k. -/
def execPerHb (k : Fin 13) (v : BitVec 32) (s : State) : Host.Outcome State Fault Refusal :=
  (Act.get fun s => Act.when (s.powered && s.coreUp k) (Act.hbWrite v)).go s

/-- FALLBACK_ENTRY: no write of PER_HB for 5 ms. -/
def Act.fallbackEntry : Act :=
  Act.get fun s =>
    if s.powered && !s.flag F.PER_CAUSE.fallback && s.per.hbAt + 5000 ≤ s.tns.tick then
      Act.withForce 11 (Act.seq [
        Act.setB F.PER_CAUSE.fallback true,
        Act.emitHw 0x20 0x0702 2 [(s.tns.tick - s.per.hbAt) / 1000],
        Act.perLine])
    else Act.skip

def execFallbackEntry (s : State) : Host.Outcome State Fault Refusal := Act.fallbackEntry.go s

end Sys2Proof.Machine
end

