-- ==== Sys2Proof/Machine/Itsal.lean ====
section
/-!
DEFINITION. The Itsal metering die: frames, registers, intervals, the metrological log, invalid channels, power loss, the
seal and calibration, the export window, and the command port (R27 to R30, R174 to R196).
-/
namespace Sys2Proof.Machine

/-! ## The log (R191, R192) -/

/-- The largest sequence number, at which the log saturates. -/
def logMax : Nat := 0xFFFFFFFF

/-- Append a record of a type that belongs to an interval: channel, register, flags, value, aux, and the strobe it names. -/
def Its.logFor (x : Its) (interval typ chan reg flags value aux tick : Nat) : Its :=
  if x.saturated then x
  else { x with
    log := ({ seq := x.nextSeq, typ := typ, chan := chan, reg := reg, flags := flags, cycles := x.cur.cycles,
              ms := x.cur.opMs, interval := interval, tick := tick % 2 ^ 32, value := value % 2 ^ 64,
              aux := aux % 65536 } :: x.log).take 131072,
    nextSeq := x.nextSeq + 1,
    saturated := logMax ≤ x.nextSeq }

/-- Append a record that belongs to the interval in progress. -/
def Its.logAt (x : Its) (typ chan reg flags value aux tick : Nat) : Its :=
  x.logFor x.cur.interval typ chan reg flags value aux tick

/-- Append a record at the present strobe. -/
def Its.put (x : Its) (typ chan reg flags value aux : Nat) : Its := x.logAt typ chan reg flags value aux x.strobe

/-- Append a record of an event that belongs to no channel. -/
def Its.note (x : Its) (typ value aux : Nat) : Its := x.put typ 0xFF 0xFF 0 value aux

/-- Change a channel. -/
def Its.chan (x : Its) (ch : Fin 9) (f : ItsChan → ItsChan) : Its :=
  { x with cur := { x.cur with chans := x.cur.chans.set ch (f x.cur.chans[ch]) } }

/-- Do something for every channel, in channel order. -/
def Its.eachChan (x : Its) (f : Its → Fin 9 → Its) : Its := (List.finRange 9).foldl f x

/-! ## Strobes and frames (R176, R178, R179, R181) -/

/-- Whether a named strobe is ahead of the tick count t (R181). -/
def ahead (v t : Nat) : Bool :=
  let d := (v + 2 ^ 32 - t % 2 ^ 32) % 2 ^ 32
  1 ≤ d && d ≤ 2 ^ 31 - 1

/-- The starting current of a channel in mA (R177). -/
def istOf (ch : Fin 9) : Nat := if ch = 0 then 600 else 80

/-- The largest current of a channel in mA (R177). -/
def imaxOf (ch : Fin 9) : Nat := if ch = 0 then 300000 else 40000

/-- Add energy to the register of a channel; a register that was selected in a frame has an entry, its energy 0 included. -/
def addReg (r e : Nat) : List (Nat × Nat) → List (Nat × Nat)
  | [] => [(r, e)]
  | p :: l => if p.1 = r then (r, p.2 + e) :: l else if r < p.1 then (r, e) :: p :: l else p :: addReg r e l

/-- Whether the die stands outside −10 °C to 115 °C by a working ring oscillator (R186). -/
def Its.outOfRange (x : Its) : Bool := x.temps.any fun t => !t.2 && (t.1 < -160 || 1840 < t.1)

/-- A channel's samples in a frame with its calibration constants applied: current in µA and voltage in µV.  The offset is
added first and the gain in 1/2^24 applied to the sum, rounded down (R189, R190; DESIGN CHOICE, log entry 76). -/
def calibrated (consts : Vector Int 4) (m : ChanMeas) : List (Int × Int) :=
  m.samples.map fun p => ((p.1 + consts[1]) * consts[0] / 16777216, (p.2 + consts[3]) * consts[2] / 16777216)

/-- Whether a current in µA reaches the starting current of a channel. -/
def reachesIst (ch : Fin 9) (i : Int) : Bool := istOf ch * 1000 ≤ i.natAbs

/-- The energy of calibrated samples in one direction, in units of 1/128 aJ: each current sample times the voltage sample
taken with it, over one period of the modulators' 1.024 MS/s (R176, R177); nothing below the starting current. -/
def energyOf (ch : Fin 9) (forward : Bool) (l : List (Int × Int)) : Nat :=
  ((l.filter fun p => reachesIst ch p.1 && (decide (0 < p.1) == forward)).map fun p => 125 * p.1.natAbs * p.2.toNat).sum

/-- Why a channel is invalid in a frame with these calibrated samples; 0 where it is not (R186, R192). -/
def Its.invalidReason (x : Its) (ch : Fin 9) (isOpen : Bool) (l : List (Int × Int)) : Nat :=
  if bitOf x.refFail ch then 1
  else if isOpen then 2
  else if l.any (fun p => imaxOf ch * 1250 < p.1.natAbs) then 3
  else if l.any (fun p => reachesIst ch p.1 && (p.2 < 40000000 || 72000000 < p.2)) then 4
  else if x.outOfRange then 5
  else 0

/-- Mark a channel invalid for a reason, or valid again; the record is written when it becomes invalid. -/
def Its.validity (x : Its) (ch : Fin 9) (reason : Nat) : Its :=
  let was := x.reads[ch].invalid
  let x := { x with reads := x.reads.set ch { x.reads[ch] with invalid := reason ≠ 0 } }
  let x := if reason ≠ 0 && !was then x.put 0x32 ch 0xFF 0 0 reason else x
  if reason ≠ 0 then x.chan ch fun c => { c with void := true } else x

/-- Close the frame of a channel: its energies go where the strobe that opened it had them (R176, R179), and its flags are
set (R184). -/
def Its.frameChan (x : Its) (ch : Fin 9) (m : ChanMeas) : Its :=
  let l := calibrated x.cur.consts[ch] m
  let f := energyOf ch true l
  let r := energyOf ch false l
  let big := l.any fun p => imaxOf ch * 1000 < p.1.natAbs
  let x := x.validity ch (x.invalidReason ch m.open_ l)
  let t := x.sums[ch]
  let x := { x with
    reads := x.reads.set ch { x.reads[ch] with overload := big }
    sums := x.sums.set ch ⟨t.n + l.length, t.v + (l.map Prod.snd).sum, t.i + (l.map Prod.fst).sum,
      t.p + (l.map fun p : Int × Int => p.1 * p.2).sum⟩ }
  x.chan ch fun c => { c with
    fwd := (c.fwd + f) % (2 ^ 64 * mjUnits), rev := (c.rev + r) % (2 ^ 64 * mjUnits), irev := c.irev + r,
    regs := addReg x.selected[ch] f c.regs,
    void := c.void || !x.constsOk || x.saturated, late := c.late || bitOf x.lateNow ch, overload := c.overload || big }

/-- The measurement of a channel that the command does not list: no sample. -/
def noMeas : ChanMeas := ⟨[], false⟩

/-- Whether something that names strobe v applies at the present strobe: v has come, or had passed at receipt (R29, R181).
-/
def Its.dueAt (x : Its) (v : Nat) (passed : Bool) : Bool := passed || !ahead v x.strobe

/-- Apply a switch at the present strobe: late where its strobe had passed (R29, R181). -/
def Its.applySwitch (x : Its) (w : Nat × Nat × Nat × Bool) : Its :=
  if h : w.1 < 9 then
    let late := w.2.2.2 || w.2.1 ≠ x.strobe
    let x := { x with selected := x.selected.set w.1 w.2.2.1 }
    if late then { x.put 0x10 w.1 w.2.2.1 0 w.2.1 0 with lateNow := setBit x.lateNow w.1 } else x
  else x

/-- Whether the instant of the natural boundary has come on Itsal's crystal (R182). -/
def Its.naturalDue (x : Its) : Bool := x.cur.len * 60000 ≤ x.cur.elapsed

/-- Whether the alignment comes at the present strobe. -/
def Its.alignDue (x : Its) : Bool :=
  match x.align with
  | some a => x.dueAt a.1 a.2
  | none => false

/-- Close the interval at the present strobe, the first at or after the instant of its natural boundary or the one of its
alignment, and begin the next, empty; the closed one waits for its drain. One alignment at the strobe of the natural
boundary is one close (R182, R183, R185). -/
def Its.closeInterval (x : Its) : Its :=
  if x.cur.closing.isSome || !(x.naturalDue || x.alignDue) then x
  else
    let al := x.alignDue
    { x with
      cur := { x.cur with
        closing := some ⟨x.cur.chans, x.cur.interval, x.naturalDue, if al then x.align.map Prod.fst else none, x.strobe,
          x.cur.link, x.cur.cal⟩
        chans := x.cur.chans.map fun c => { c with irev := 0, regs := [], void := false, late := false, overload := false }
        interval := (x.cur.interval + 1) % 2 ^ 32
        elapsed := if al then 0 else x.cur.elapsed - x.cur.len * 60000
        len := x.newLen.getD x.cur.len
        link := !x.linkUp
        cal := x.sealOpen }
      align := if al then none else x.align
      newLen := none }

/-- Open a frame at a strobe: the interval may end there, and the switches that it brings apply to the frame that it
opens. -/
def Its.open_ (x : Its) (strobe : Nat) : Its :=
  let x := { x with strobe := strobe % 2 ^ 32, lateNow := 0 }
  let due := x.switches.filter fun w => x.dueAt w.2.1 w.2.2.2
  let x := { x with switches := x.switches.filter fun w => !x.dueAt w.2.1 w.2.2.2 }
  due.foldl Its.applySwitch x.closeInterval

/-- One frame strobe with a tick count, or, with none, one count of Itsal's own while the link is silent (R179, R30). -/
def Its.frame (x : Its) (tick : Option Nat) (meas : List ChanMeas) : Its :=
  if !x.up then x
  else
    let x := x.eachChan fun y ch => y.frameChan ch ((meas[ch.val]?).getD noMeas)
    x.open_ (tick.getD (x.strobe + 1))

/-- FRAME_STROBE: the measurements are those of the frame that the strobe closes.  heard: a strobe of Tense arrived; a
logic die without supply, or a link that Itsal knows to be silent, brings none. -/
def execFrameStrobe (heard : Bool) (meas : List ChanMeas) (s : State) : Host.Outcome State Fault Refusal :=
  (Act.get fun s => Act.itsx fun x =>
    x.frame (if heard && s.powered && x.linkUp then some s.tns.tick else none) meas).go s

/-! ## Intervals (R182 to R187) -/

/-- The flags of the records of a channel in an interval, but for what ended it (R184, R192). -/
def Its.flags (x : Its) (c : ItsChan) (link cal : Bool) : Nat :=
  b2n (c.void || !x.constsOk || x.saturated) + 8 * b2n cal + 16 * b2n link + 32 * b2n c.late + 64 * b2n c.overload

/-- Drain one channel of an interval (R183); the records carry the interval's number and the strobe of its end. -/
def Its.drainChan (k : ItsClosing) (extra : Nat) (x : Its) (ch : Fin 9) : Its :=
  let c := k.chans[ch]
  let fl := x.flags c k.link k.cal ||| extra
  let rec_ (y : Its) (typ reg value aux : Nat) : Its := y.logFor k.number typ ch reg fl value aux k.strobe
  let x := c.regs.foldl (fun y p => rec_ y 0x01 p.1 (mjOf p.2) 0) x
  let x := if c.irev ≠ 0 then rec_ x 0x03 0xFF (mjOf c.irev) 0 else x
  rec_ x 0x02 0xFF (mjOf c.ifwd) c.regs.length

/-- Drain every channel of a closed interval, in channel order. -/
def Its.drain (x : Its) (k : ItsClosing) (extra : Nat) : Its := x.eachChan (Its.drainChan k extra)

/-- A reference check: a failing one makes a channel invalid back to the last passing check, and so in the interval that
the check closes where its drain is still to come (R186). -/
def Its.refCheck (x : Its) (bad : Nat) : Its :=
  let spoil (k : ItsClosing) : ItsClosing :=
    { k with chans := Vector.ofFn fun ch : Fin 9 => if bitOf bad ch then { k.chans[ch] with void := true } else k.chans[ch] }
  let x := { x with cur := { x.cur with closing := x.cur.closing.map spoil } }
  x.eachChan fun y ch =>
    if bitOf bad ch then (y.validity ch 1 |> fun z => { z with refFail := setBit z.refFail ch })
    else { y with refFail := clrBit y.refFail ch }

/-- Drain the closed interval, if there is one: SHORT where an alignment alone ended it, and then the record of the
alignment, late where it was applied at another strobe than the named one (R182 to R185). -/
def Its.drainClosed (x : Its) (extra : Nat) : Its :=
  match x.cur.closing with
  | none => x
  | some k =>
    let x := ({ x with cur := { x.cur with closing := none } } : Its).drain k (extra ||| (if k.natural then 0 else 4))
    match k.align with
    | some v => x.logAt 0x34 0xFF 0xFF 0 v (b2n (v ≠ k.strobe)) k.strobe
    | none => x

/-- The reference check and the drain that follow a boundary strobe (R183, R186). -/
def Its.boundary (x : Its) (refBad : Nat) : Its :=
  if !x.up || x.cur.closing.isNone then x else (x.refCheck refBad).drainClosed 0

/-- The interval in progress, ended where it stands (R187). -/
def Its.unfinished (x : Its) : ItsClosing := ⟨x.cur.chans, x.cur.interval, true, none, x.strobe, x.cur.link, x.cur.cal⟩

/-- End the interval in progress outside a boundary: drain what is still to be drained and then it, with flags, and begin
the next (R187). -/
def Its.endInterval (x : Its) (extra : Nat) : Its :=
  let x := x.drainClosed 0
  let x := x.drain x.unfinished extra
  { x with cur := { x.cur with
      chans := x.cur.chans.map fun c => { c with irev := 0, regs := [], void := false, late := false, overload := false }
      interval := (x.cur.interval + 1) % 2 ^ 32, elapsed := 0, link := !x.linkUp, cal := x.sealOpen } }

/-- INTERVAL_BOUNDARY. -/
def execIntervalBoundary (refBad : BitVec 9) (s : State) : Host.Outcome State Fault Refusal :=
  (Act.itsx fun x => x.boundary refBad.toNat).go s

/-- REFERENCE_CHECK: every 1 s. -/
def execReferenceCheck (refBad : BitVec 9) (s : State) : Host.Outcome State Fault Refusal :=
  (Act.itsx fun x => if x.up then x.refCheck refBad.toNat else x).go s

/-- NV_COMMIT: every 1 s. -/
def execNvCommit (s : State) : Host.Outcome State Fault Refusal :=
  (Act.itsx fun x => if x.up then { x with saved := x.cur } else x).go s

/-- What waits at a power-down is dropped (R187). -/
def Its.dropWaiting (x : Its) : Its :=
  { x with switches := [], align := none, newLen := none, flying := [], lateNow := 0 }

/-- POWER_DOWN: VIN56 has fallen below 36 V (R187). -/
def Its.powerDown (x : Its) : Its :=
  if !x.up then x
  else
    let x := x.endInterval 2
    let x := x.note 0x31 x.cur.cycles 0
    { x.dropWaiting with up := false, saved := x.cur }

def execPowerDown (s : State) : Host.Outcome State Fault Refusal := (Act.itsx Its.powerDown).go s

/-- Whether the last power-down was orderly: a POWER_DOWN record follows the last POWER_UP record, or Itsal has never been
up. -/
def Its.orderly (x : Its) : Bool :=
  match x.log.find? fun r => r.typ = 0x30 || r.typ = 0x31 with
  | some r => r.typ = 0x31
  | none => true

/-- A closed interval with every channel void. -/
def ItsClosing.voided (k : ItsClosing) : ItsClosing := { k with chans := k.chans.map fun c => { c with void := true } }

/-- Make void on every channel the interval in progress and one that is still to be drained. -/
def Its.voidAll (x : Its) : Its :=
  { x with cur := { x.cur with chans := x.cur.chans.map fun c => { c with void := true },
                               closing := x.cur.closing.map ItsClosing.voided } }

/-- POWER_UP (R178, R182, R187, R189).  A power-up of an Itsal that runs is one after a loss that its hold-up did not
outlast: no POWER_DOWN was written, and the unfinished interval is drained from its last commit with VOID. -/
def Its.powerUp (x : Its) (constsOk : Bool) : Its :=
  let orderly := x.orderly
  let x := { x.dropWaiting with
    up := true, cur := { x.saved with cycles := x.saved.cycles + 1 }, selected := itsSelectReset, linkUp := true,
    sealOpen := false, constsOk := constsOk, staged := x.saved.consts, refFail := 0, reply := [],
    reads := Vector.replicate 9 ItsRead.reset, sums := Vector.replicate 9 ⟨0, 0, 0, 0⟩ }
  let y := x.note 0x30 x.cur.cycles 0
  let y := if orderly then y else y.voidAll.endInterval 0
  let y := if constsOk then y else y.note 0x22 0 0x1FF
  let y := { y with cur := { y.cur with elapsed := 0, link := false, cal := false } }
  { y with saved := y.cur }

def execPowerUp (constsOk : Bool) (s : State) : Host.Outcome State Fault Refusal :=
  (Act.itsx fun x => x.powerUp constsOk).go s

/-! ## The command link (R30) -/

/-- COMMAND_LINK_LOST: the link has been silent for more than 10 ms. -/
def Its.linkLost (x : Its) (silentMs : Nat) : Its :=
  if x.up && x.linkUp && 10 < silentMs then
    { x.note 0x13 silentMs 0 with linkUp := false, cur := { x.cur with link := true } }
  else x

def execCommandLinkLost (silentMs : Nat) (s : State) : Host.Outcome State Fault Refusal :=
  (Act.itsx fun x => x.linkLost silentMs).go s

/-- COMMAND_LINK_RESTORED. -/
def Its.linkBack (x : Its) (silentMs : Nat) : Its :=
  if x.up && !x.linkUp then { x.note 0x14 silentMs 0 with linkUp := true } else x

def execCommandLinkRestored (silentMs : Nat) (s : State) : Host.Outcome State Fault Refusal :=
  (Act.itsx fun x => x.linkBack silentMs).go s

/-! ## The seal and the calibration port (R188 to R190) -/

/-- SEAL_OPENED: CAL_EN_N has fallen. -/
def Its.sealBreak (x : Its) : Its :=
  if x.up && !x.sealOpen then
    let x := { x with sealOpen := true, cur := { x.cur with seals := x.cur.seals + 1, cal := true } }
    x.note 0x20 x.cur.seals x.cur.cals
  else x

def execSealOpened (s : State) : Host.Outcome State Fault Refusal := (Act.itsx Its.sealBreak).go s

/-- SEAL_CLOSED: CAL_EN_N has risen. -/
def Its.sealShut (x : Its) : Its :=
  if x.up && x.sealOpen then { x.note 0x21 x.cur.seals x.cur.cals with sealOpen := false } else x

def execSealClosed (s : State) : Host.Outcome State Fault Refusal := (Act.itsx Its.sealShut).go s

/-- The response of the calibration port: status, value and the CRC-16 over both (R190). -/
def calReply (status value : Nat) : List Byte :=
  let b := leBytes 1 status ++ leBytes 4 value
  b ++ leBytes 2 (crc16 b)

/-- The first six bytes of a request: command, channel and value (R190). -/
def calRequest (cmd ch : Nat) (v : BitVec 32) : List Byte := leBytes 1 cmd ++ leBytes 1 ch ++ leBytes 4 v.toNat

/-- The command that the eight bytes of a request spell; mean is what a READ_I or READ_V measures over the next 1 s (R190).
The manual states no answer to another command byte. -/
def calDecode (b : List Byte) (mean : Int) : Option Instr :=
  let ch := leAt b 1 1
  let v := BitVec.ofNat 32 (leAt b 2 4)
  let crc := BitVec.ofNat 16 (leAt b 6 2)
  if b.length ≠ 8 then none
  else match leAt b 0 1 with
    | 1 => some (.readI ch v mean crc)
    | 2 => some (.readV ch v mean crc)
    | 3 => some (.setIGain ch v crc)
    | 4 => some (.setIOfs ch v crc)
    | 5 => some (.setVGain ch v crc)
    | 6 => some (.setVOfs ch v crc)
    | 7 => some (.commit ch v crc)
    | 8 => some (.readConst ch v crc)
    | _ => none

/-- Answer at the calibration port. -/
def Its.answer (x : Its) (status value : Nat) : Its := { x with reply := calReply status value }

/-- A request at the calibration port, answered only while the seal is open: one whose CRC-16 is not that of its six bytes
with status 2, a channel above 8 with status 1 and value 0 (R190; log entry 77). -/
def Its.request (x : Its) (cmd ch : Nat) (v : BitVec 32) (crc : BitVec 16) (f : Fin 9 → Its) : Its :=
  if !x.up || !x.sealOpen then x
  else if crc16 (calRequest cmd ch v) ≠ crc.toNat then x.answer 2 0
  else if h : ch < 9 then f ⟨ch, h⟩
  else x.answer 1 0

/-- READ_I and READ_V answer with the mean that was measured, uncalibrated. -/
def Its.readMean (x : Its) (cmd ch : Nat) (v : BitVec 32) (mean : Int) (crc : BitVec 16) : Its :=
  x.request cmd ch v crc fun _ => x.answer 0 (unsignedOf 32 mean)

def execReadI (ch : Nat) (v : BitVec 32) (mean : Int) (crc : BitVec 16) (s : State) : Host.Outcome State Fault Refusal :=
  (Act.itsx fun x => x.readMean 1 ch v mean crc).go s

def execReadV (ch : Nat) (v : BitVec 32) (mean : Int) (crc : BitVec 16) (s : State) : Host.Outcome State Fault Refusal :=
  (Act.itsx fun x => x.readMean 2 ch v mean crc).go s

/-- A constant's value from the request's: a gain is unsigned, an offset signed. -/
def constOf (i : Fin 4) (v : BitVec 32) : Int := if i.val % 2 = 0 then (v.toNat : Int) else signed 32 v.toNat

/-- Set constant i of a channel for the next COMMIT, by command 3 + i; the answer echoes the value. -/
def Its.setConst (x : Its) (ch : Nat) (i : Fin 4) (v : BitVec 32) (crc : BitVec 16) : Its :=
  x.request (3 + i) ch v crc fun c =>
    ({ x with staged := x.staged.set c (x.staged[c].set i (constOf i v)) } : Its).answer 0 v.toNat

def execSetIGain (ch : Nat) (v : BitVec 32) (crc : BitVec 16) (s : State) : Host.Outcome State Fault Refusal :=
  (Act.itsx fun x => x.setConst ch 0 v crc).go s

def execSetIOfs (ch : Nat) (v : BitVec 32) (crc : BitVec 16) (s : State) : Host.Outcome State Fault Refusal :=
  (Act.itsx fun x => x.setConst ch 1 v crc).go s

def execSetVGain (ch : Nat) (v : BitVec 32) (crc : BitVec 16) (s : State) : Host.Outcome State Fault Refusal :=
  (Act.itsx fun x => x.setConst ch 2 v crc).go s

def execSetVOfs (ch : Nat) (v : BitVec 32) (crc : BitVec 16) (s : State) : Host.Outcome State Fault Refusal :=
  (Act.itsx fun x => x.setConst ch 3 v crc).go s

/-- Whether a gain in 1/2^24 lies within 0.95 to 1.05. -/
def gainOk (g : Int) : Bool := 2 ^ 24 * 95 ≤ g * 100 && g * 100 ≤ 2 ^ 24 * 105

/-- Whether an offset lies within 1 % of a full scale, both in millionths of the unit. -/
def ofsOk (full o : Int) : Bool := o.natAbs * 100 ≤ full.natAbs

/-- Whether COMMIT takes a channel's constants (R189).  Full scale is taken as Imax and as the 80 V that R177 calls
measurable (DEDUCED, log entry 19). -/
def constsLegal (ch : Fin 9) (v : Vector Int 4) : Bool :=
  gainOk v[0] && ofsOk (imaxOf ch * 1000) v[1] && gainOk v[2] && ofsOk 80000000 v[3]

/-- COMMIT: the staged constants of a channel take effect and go to the non-volatile store; a change counts (R189). -/
def Its.commitConsts (x : Its) (ch : Nat) (v : BitVec 32) (crc : BitVec 16) : Its :=
  x.request 7 ch v crc fun c =>
    let new := x.staged[c]
    if !constsLegal c new then x.answer 1 x.cur.cals
    else
      let n := if new = x.cur.consts[c] then x.cur.cals else x.cur.cals + 1
      ({ x with cur := { x.cur with consts := x.cur.consts.set c new, cals := n },
                saved := { x.saved with consts := x.saved.consts.set c new, cals := n }, constsOk := true } : Its).answer 0 n

def execCommit (ch : Nat) (v : BitVec 32) (crc : BitVec 16) (s : State) : Host.Outcome State Fault Refusal :=
  (Act.itsx fun x => x.commitConsts ch v crc).go s

/-- READ_CONST: the constant of a channel whose index the value gives. -/
def Its.readConst (x : Its) (ch : Nat) (v : BitVec 32) (crc : BitVec 16) : Its :=
  x.request 8 ch v crc fun c =>
    if h : v.toNat < 4 then x.answer 0 (unsignedOf 32 (x.cur.consts[c][v.toNat])) else x.answer 1 0

def execReadConst (ch : Nat) (v : BitVec 32) (crc : BitVec 16) (s : State) : Host.Outcome State Fault Refusal :=
  (Act.itsx fun x => x.readConst ch v crc).go s

/-! ## The export window (R193, R30) -/

/-- The status word of the window. -/
def Its.status (x : Its) : Nat :=
  b2n (!x.sealOpen) + 2 * b2n x.linkUp + 4 * b2n x.constsOk + 8 * b2n x.saturated

/-- The window as refreshed now, VIN56 among it. -/
def Its.window (x : Its) (vin56 : Nat) : ItsMirror :=
  { gen := (x.mirror.gen + 2) % 2 ^ 32, core := x.cur, reads := x.reads, selected := x.selected, status := x.status,
    lastSeq := x.nextSeq - 1, temps := x.temps, fetch := x.fetch, vin56 := vin56 }

/-- The mean of a sum of n values. -/
def meanOf (sum : Int) (n : Nat) : Int := Int.tdiv sum (max 1 n)

/-- What a channel reads: the means over its samples since the last refresh, voltage in mV, current in mA and power in mW
(R193; log entry 76). -/
def ItsSum.read (t : ItsSum) (r : ItsRead) : ItsRead :=
  { r with voltage := (Int.tdiv (meanOf t.v t.n) 1000).toNat, current := Int.tdiv (meanOf t.i t.n) 1000,
           power := Int.tdiv (meanOf t.p t.n) (10 ^ 9) }

/-- One millisecond of Itsal's crystal: its time counts, and its readings are renewed. -/
def Its.refresh (x : Its) (temps : List (Int × Bool)) : Its :=
  { x with
    cur := { x.cur with opMs := x.cur.opMs + 1, elapsed := x.cur.elapsed + 1 }
    temps := (List.range 8).map fun i => (temps[i]?).getD (0, true)
    reads := Vector.ofFn fun ch : Fin 9 => x.sums[ch].read x.reads[ch]
    sums := Vector.replicate 9 ⟨0, 0, 0, 0⟩ }

/-- Take the slots' metered powers into their averages over the 1 s window in progress (R194), and the tray's among those of
the last second (R353). -/
def Act.meterWindow : Act :=
  Act.get fun s =>
    let now := s.tns.tick / 1000000
    let p : Vector Nat 8 := Vector.ofFn fun n : Fin 8 =>
      (s.its.mirror.reads[(⟨n.val + 1, by omega⟩ : Fin 9)]).power.toNat
    let tray := (s.tns.tick, s.its.mirror.reads[0].power.toNat)
    Act.capsx fun c =>
      let c := { c with trayPower := tray :: c.trayPower.filter fun q => s.tns.tick < q.1 + 1000000 }
      if c.meterWin = now then
        { c with meterCnt := c.meterCnt + 1, meterSum := Vector.ofFn fun n : Fin 8 => c.meterSum[n] + p[n] }
      else { c with meterWin := now, meterCnt := 1, meterSum := p,
                    meterAvg := some (c.meterWin, c.meterSum.toList.map fun x => x / max 1 c.meterCnt) }

/-- EXPORT_REFRESH: the window is refreshed whenever the logic die can receive it, and THM takes Itsal's ring oscillators
from it (R130, R138, R144). -/
def Act.exportRefresh (vin56 : Nat) (temps : List (Int × Bool)) : Act :=
  Act.get fun s =>
    if !s.its.up then Act.skip
    else (Act.itsx fun x => x.refresh temps).andThen
      (Act.when s.powered (((Act.itsx fun x => { x with mirror := x.window vin56 }).andThen Act.meterWindow).andThen
        (Act.get fun s => Act.thmSync (Act.each (List.range 8) fun i =>
          let t := (s.its.temps[i]?).getD (0, true)
          Act.when (s.evaluated (224 + i))
            (if t.2 then Act.breakSensor (224 + i) 1 else Act.snsResult (224 + i) t.1 t.1)))))

def execExportRefresh (vin56 : Nat) (temps : List (Int × Bool)) (s : State) : Host.Outcome State Fault Refusal :=
  (Act.exportRefresh vin56 temps).go s

/-! ## The command port (R181, R185, R196) -/

/-- The word of SYS_ITS_CMD for an operation. -/
def itsWord (op channel register : Nat) : Nat := op * 2 ^ 12 + channel % 16 * 2 ^ 8 + register % 64

/-- Whether core k may send a command, in mode P or not (R196). -/
def State.itsMay (s : State) (k : Fin 13) (modeP : Bool) (word : Nat) : Bool :=
  let op := word / 2 ^ 12 % 16
  let ch := word / 2 ^ 8 % 16
  if modeP then false
  else if op = 1 then k = 1 || (3 ≤ k.val && 1 ≤ ch && ch ≤ 8 && s.slotCore (ch - 1) = k.val)
  else if op = 2 || op = 3 then k = 2
  else if op = 4 then k = 2 || k = 0
  else false

/-- A write of SYS_ITS_CMD by core k: the command is issued with the port's argument, or refused, or overruns. -/
def Act.itsWrite (k : Fin 13) (modeP : Bool) (word : Nat) : Act :=
  Act.get fun s =>
    if s.flag (F.SYS_ITS_STAT.busy k) then Act.setF (F.SYS_ITS_STAT.status k) 4
    else if !s.itsMay k modeP word then (Act.setF (F.SYS_ITS_STAT.status k) 3).andThen (Act.bump (F.SYS_ITS_STAT.refused k))
    else if !s.its.linkUp || !s.its.up then Act.setF (F.SYS_ITS_STAT.status k) 5
    else Act.seq [
      Act.setF (F.SYS_ITS_STAT.status k) 0,
      Act.setB (F.SYS_ITS_STAT.busy k) true,
      Act.itsx fun x => { x with flying := x.flying ++ [(k.val, word % 65536, s.fld (F.SYS_ITS_ARG.arg k))] }]

/-- Firmware of core k, in mode F, sends what it has waiting for its port, one command after another: while one is in
flight the rest wait (R196). -/
def Act.itsPump (k : Fin 13) : Act :=
  Act.get fun s =>
    Act.each (s.its.queue.filter fun c => c.1 = k.val) fun c => Act.get fun s =>
      Act.when (!s.flag (F.SYS_ITS_STAT.busy k)) (Act.seq [
        Act.itsx fun x => { x with queue := x.queue.erase c },
        Act.setF (F.SYS_ITS_ARG.arg k) c.2.2,
        Act.itsWrite k false c.2.1])

/-- Firmware of core k sends a command with an argument as soon as its port is free. -/
def Act.itsFirm (k : Fin 13) (word arg : Nat) : Act :=
  (Act.itsx fun x => { x with queue := x.queue ++ [(k.val, word % 65536, arg % 2 ^ 32)] }).andThen (Act.itsPump k)

/-- A row's command at the port of core k, while the core runs. -/
def Act.itsPort (k : Fin 13) (word : Nat) : Act :=
  Act.get fun s => Act.when (s.powered && s.coreUp k) (Act.itsWrite k (s.core k).p word)

def execTariff (k : Fin 13) (channel register : Nat) (s : State) : Host.Outcome State Fault Refusal :=
  (Act.itsPort k (itsWord 1 channel register)).go s

def execIntervalLen (k : Fin 13) (s : State) : Host.Outcome State Fault Refusal := (Act.itsPort k (itsWord 2 0 0)).go s

def execIntervalAlign (k : Fin 13) (s : State) : Host.Outcome State Fault Refusal := (Act.itsPort k (itsWord 3 0 0)).go s

def execLogFetch (k : Fin 13) (s : State) : Host.Outcome State Fault Refusal := (Act.itsPort k (itsWord 4 0 0)).go s

/-- Whether Itsal discards a command (R27, R185). -/
def itsDiscards (word arg : Nat) : Bool :=
  let op := word / 2 ^ 12 % 16
  let ch := word / 2 ^ 8 % 16
  let reg := word % 64
  if op = 1 then 8 < ch || 32 < reg || (ch = 0 && reg = 32)
  else if op = 2 then arg = 0 || 60 < arg
  else !(op = 3 || op = 4)

/-- Accept a tariff switch, passed where its strobe is not ahead at its receipt; of two for one channel that name one strobe
the later stands (R181, R185). -/
def Its.switch (x : Its) (ch reg strobe : Nat) (passed : Bool) : Its :=
  let old := x.switches.filter fun w => w.1 = ch && w.2.1 = strobe
  let x := old.foldl (fun y w => y.put 0x11 ch 0xFF 0 strobe w.2.2.1) x
  { x with switches := (x.switches.filter fun w => !(w.1 = ch && w.2.1 = strobe)) ++ [(ch, strobe, reg, passed)] }

/-- Itsal takes a command at tick count t (R27, R181, R182, R191). -/
def Its.take (x : Its) (t word arg : Nat) : Its :=
  let op := word / 2 ^ 12 % 16
  if itsDiscards word arg then
    let x := { x with cur := { x.cur with discards := min (x.cur.discards + 1) 0xFFFFFFFF } }
    x.note 0x12 word (min x.cur.discards 65535)
  else if op = 1 then x.switch (word / 2 ^ 8 % 16) (word % 64) arg (!ahead arg t)
  else if op = 2 then { x.note 0x33 0 arg with newLen := some arg }
  else if op = 3 then { x with align := some (arg, !ahead arg t) }
  else { x with fetch := arg }

/-- The status that the port of a command shows after Itsal took it: 6 discarded, 2 late, 1 acknowledged. -/
def itsStatus (word arg strobe : Nat) : Nat :=
  let op := word / 2 ^ 12 % 16
  if itsDiscards word arg then 6 else if (op = 1 || op = 3) && !ahead arg strobe then 2 else 1

/-- ITS_COMMAND_ACK: Itsal takes the oldest command in flight of core k, busy clears, line 8 is raised, and
firmware sends what waits for the port (R196, R226). -/
def Act.itsAck (k : Fin 13) : Act :=
  Act.get fun s =>
    if !s.powered || !s.its.up || !s.its.linkUp then Act.skip
    else match s.its.flying.find? fun c => c.1 = k.val with
    | none => Act.skip
    | some c => Act.seq [
        Act.itsx fun x => { x.take s.tns.tick c.2.1 c.2.2 with flying := x.flying.erase c },
        Act.setF (F.SYS_ITS_STAT.status k) (itsStatus c.2.1 c.2.2 s.tns.tick),
        Act.setB (F.SYS_ITS_STAT.busy k) false,
        Act.raiseLine k 8,
        Act.itsPump k]

def execItsCommandAck (k : Fin 13) (s : State) : Host.Outcome State Fault Refusal := (Act.itsAck k).go s

end Sys2Proof.Machine
end

