-- ==== Sys2Proof/Machine/Scrub.lean ====
section
/-!
DEFINITION. The phases of a slot between contexts: how a context change starts the scrub, and the context logs (R361 to
R364, R375).
-/
namespace Sys2Proof.Machine

/-- The context that owns slot n; under the resident image no slot has an owner (R361). -/
def State.owner (s : State) (n : Nat) : Option Nat :=
  if s.svcRuns && s.phase n = 1 && s.flag (F.SEC_SLOT.own_valid n) then some (s.fld (F.SEC_SLOT.own_ctx n)) else none

/-- Core k, for a number below 13. -/
def coreNo (k : Nat) : Option (Fin 13) := if h : k < 13 then some ⟨k, h⟩ else none

/-- The core that serves slot n and runs. -/
def State.servingCore (s : State) (n : Nat) : Option (Fin 13) := (coreNo (s.slotCore n)).filter fun k => s.coreUp k

/-- Append a record to the log of a context of a slot: a ring of 256, newest first (R375). -/
def Act.ctxLog (n c code : Nat) (payload : List Nat) : Act :=
  Act.get fun s =>
    if s.sec.contexts.any (fun p => p.1 == (n, c)) then
      Act.secx fun x =>
        let old := (x.ctxLogs.lookup (n, c)).getD []
        let seq := match old with | r :: _ => r.seq + 1 | [] => 0
        let new := (evRecord s (coreSource (s.slotCore n)) code 1 false payload seq :: old).take 256
        { x with ctxLogs := ((n, c), new) :: x.ctxLogs.filter fun p => p.1 != (n, c) }
    else Act.skip

/-- The band that holds at a strobe: the one that BAND_SET named, once its strobe has come (R180). -/
def State.bandAt (s : State) (strobe : Nat) : Nat :=
  match s.its.bandNext with
  | some b => if ahead b.2 strobe then s.its.band else b.1
  | none => s.its.band

/-- The register that channel ch has under a band and an owner (R180). -/
def tariffReg (ch band : Nat) (owner : Option Nat) : Nat :=
  if ch = 0 then band
  else match owner with
    | some c => 16 * band + c
    | none => 32

/-- Core k switches the channel of slot n at the next strobe for an owner, and where a band has been named for a strobe
that is still ahead, at that strobe again for the new owner (R180, R364). -/
def Act.tariffFor (k : Fin 13) (n : Fin 8) (owner : Option Nat) : Act :=
  Act.get fun s =>
    let next := (s.tns.tick + 1) % 2 ^ 32
    (Act.itsFirm k (itsWord 1 (n + 1) (tariffReg (n + 1) (s.bandAt next) owner)) next).andThen
      (match s.its.bandNext with
       | some b => Act.when (ahead b.2 next) (Act.itsFirm k (itsWord 1 (n + 1) (tariffReg (n + 1) b.1 owner)) b.2)
       | none => Act.skip)

/-- The scrub stage of slot n: 0 none, 1 due, 2 due with the tariff switched, 3 to 7 the step that comes next (R364). -/
def Act.scrubAt (n : Fin 8) (i : Nat) : Act := Act.secx fun x => { x with scrubStep := x.scrubStep.set n i }

/-- The slot core switches the tariff of slot n to the scrub register at the next strobe, whether or not the security core
runs (R91, R364); without a core that serves the slot the scrub stays due, and the spare that takes the slot begins it
(R367). -/
def Act.scrubTariff (n : Fin 8) : Act :=
  Act.get fun s =>
    match s.servingCore n with
    | some k => Act.when (s.sec.scrubStep[n] = 1) ((Act.tariffFor k n none).andThen (Act.scrubAt n 2))
    | none => Act.skip

/-- The rest of steps 1 and 2 of the scrub of slot n, once the tariff is switched and while the core that serves the slot
and the security core run. -/
def Act.scrubPhase (n : Fin 8) : Act :=
  Act.get fun s =>
    match s.servingCore n with
    | none => Act.skip
    | some k =>
      if !s.coreUp 0 || s.sec.scrubStep[n] ≠ 2 then Act.skip
      else Act.seq [
        (match s.owner n with
         | some c => (Act.secx fun x => { x with leaving := x.leaving.set n (some c) }).andThen
            (Act.ctxLog n c 0x0E10 [n, 2])
         | none => Act.skip),
        Act.setF (F.SEC_SLOT.phase n) 2,
        Act.setB (F.SEC_SLOT.own_valid n) false,
        Act.emit (coreSource k) 0x0E10 1 [n, 2],
        Act.setB (F.CMA_PACE_CTL.scrub n) true,
        Act.setB (F.CMA_CTX.exp_valid n) false,
        Act.scrubAt n 3]

/-- Steps 1 and 2 of the scrub of slot n, as far as the cores that carry them out run (R364, R367). -/
def Act.scrubBegin (n : Fin 8) : Act := (Act.scrubTariff n).andThen (Act.scrubPhase n)

/-- Whether slot n is under a scrub, or one is due. -/
def State.scrubbing (s : State) (n : Fin 8) : Bool := s.sec.scrubStep[n] ≠ 0

/-- Record that the device of slot n in WAIT_DEVICE reports a context other than the announced one (R363). -/
def Act.ctxMismatch (n : Fin 8) : Act :=
  Act.get fun s =>
    let rep := s.fld (F.CMA_CTX.rep_ctx n)
    let ann := if s.flag (F.SEC_SLOT.ann_valid n) then s.fld (F.SEC_SLOT.ann_ctx n) else 0xFF
    Act.when (s.phase n = 3 && s.flag (F.CMA_CTX.rep_valid n) && rep ≠ ann)
      (Act.emit (coreSource (s.slotCore n)) 0x0E11 2 [n, rep, ann])

/-- A context change of slot n has been detected and signalled (R91, R363): from OWNED, and from NONE when the report is
valid, a scrub starts.  Contexts exist only under the service image (R361). -/
def Act.ctxChange (n : Fin 8) : Act :=
  Act.get fun s =>
    if !s.svcRuns then Act.skip
    else if s.scrubbing n then Act.skip
    else if s.phase n = 1 || (s.phase n = 0 && s.flag (F.CMA_CTX.rep_valid n)) then
      (Act.scrubAt n 1).andThen (Act.scrubBegin n)
    else Act.ctxMismatch n

end Sys2Proof.Machine
end

