-- ==== Sys2Proof/Machine/Comma.lean ====
section
/-!
DEFINITION. The Comma links: pace frames out, activity frames back, lanes and link states, with the part of the ramp
sequencers that runs on frames (R81 to R94, R104, R117, R118, R270).
-/
namespace Sys2Proof.Machine

/-- The state of link n: 0 DOWN, 1 TRAIN, 2 UP, 3 LOST, 4 DEAD (R84). -/
def State.linkState (s : State) (n : Nat) : Nat := s.fld (F.CMA_STATUS.state n)

/-! ## Ramp sequencers on frames (R116 to R118) -/

/-- Remove the ramp duty of slot n: its staircase is over, and a grant that has been given meanwhile stays (R117). -/
def Act.rampEnd (n : Fin 8) : Act :=
  Act.get fun s => Act.seq [
    Act.setF (F.BUF_RAMP_STAT.duty n) 0,
    Act.setB (F.BUF_RAMP_STAT.active n) (s.flag (F.CMA_RAMP.valid n)),
    Act.ramp n fun r => { r with stair := none, frames := 0 }]

/-- Whether the staircase of slot n runs. -/
def State.stairs (s : State) (n : Fin 8) : Bool := s.ramps[n].stair.isSome && s.fld (F.BUF_RAMP_STAT.duty n) ≠ 0

/-- Whether the staircase of slot n has met its end: the duty is at or below the Qualifier output (R117). -/
def State.stairsDone (s : State) (n : Fin 8) : Bool := s.stairs n && s.fld (F.BUF_RAMP_STAT.duty n) ≤ s.quaOut n

/-- End the staircase of slot n where it has met its end. -/
def Act.stairsCheck (n : Fin 8) : Act := Act.get fun s => Act.when (s.stairsDone n) (Act.rampEnd n)

/-- At the frame that carries ramp_start 0 the ramp duty begins at duty_start, and BUF_RAMP_STAT shows the grant. -/
def Act.rampZero (n : Fin 8) : Act :=
  Act.get fun s => Act.seq [
    Act.setF (F.BUF_RAMP_STAT.duty n) (s.fld F.BUF_RAMP_CFG.duty_start),
    Act.setB (F.BUF_RAMP_STAT.released n) false,
    Act.setF (F.BUF_RAMP_STAT.step_frames n) s.ramps[n].next,
    Act.setF (F.BUF_RAMP_STAT.ramp_id n) (s.fld (F.CMA_RAMP.ramp_id n)),
    Act.ramp n fun r => { r with zeroAt := some s.tns.tick, stair := none, frames := 0 }]

/-- What a frame does to the ramp sequencer of slot n before its content is taken.  A staircase that runs goes on while a
new grant counts down, until that grant's own ramp_start-0 frame. -/
def Act.rampFrame (n : Fin 8) : Act :=
  Act.get fun s =>
    let valid := s.flag (F.CMA_RAMP.valid n)
    (Act.when valid (Act.setB (F.BUF_RAMP_STAT.active n) true)).andThen
      (if valid && s.fld (F.CMA_RAMP.ramp_start n) = 0 then Act.rampZero n
       else Act.when (s.stairs n) ((Act.ramp n fun r => { r with frames := r.frames + 1 }).andThen (Act.stairsCheck n)))

/-- What a frame does after it is sent: the grant clears after ramp_start 0, and otherwise counts down. -/
def Act.rampSent (n : Fin 8) : Act :=
  Act.get fun s =>
    if s.flag (F.CMA_RAMP.valid n) then
      (if s.fld (F.CMA_RAMP.ramp_start n) = 0 then Act.setB (F.CMA_RAMP.valid n) false
       else Act.setF (F.CMA_RAMP.ramp_start n) (s.fld (F.CMA_RAMP.ramp_start n) - 1))
    else Act.skip

/-- Whether the RAMP condition of slot n is present: from the first frame of the grant until the staircase ends (R117). -/
def State.rampPresent (s : State) (n : Nat) : Bool := s.flag (F.CMA_RAMP.valid n) || s.flag (F.BUF_RAMP_STAT.active n)

/-- The converter enters DISCHARGE at a detected release, from READY while discharge is permitted (R121); the reference
starts from the present input power (R125).  A plan whose release is still awaited is prepared again afterwards (R120). -/
def Act.releaseDischarge : Act :=
  Act.get fun s =>
    if s.fld F.BUF_STATUS.mode = 3 && s.flag F.BUF_STATUS.dis_ok then
      (Act.setF F.BUF_STATUS.mode 4).andThen (Act.convx fun c =>
        { c with refW := (c.avgs.head?).getD 0, elapsed := 0, zeroFor := 0, limited := false,
                 plans := c.plans.map Plan.unready })
    else Act.skip

/-- Whether a release of slot n may now be detected: its ramp_start-0 frame has been sent or, for a release that is carried
without a grant, its hinted time has come (for the latter R118 names no instant; DESIGN CHOICE, log entry 82). -/
def State.releaseAwaited (s : State) (n : Fin 8) : Bool :=
  let r := s.ramps[n]
  r.awaits && (r.zeroAt.isSome || (!s.flag (F.CMA_RAMP.valid n) && r.releaseAt ≤ s.tns.tick))

/-- The release of slot n is detected at an activity frame whose intent is gone, is another kind, or names another barrier
(R118): a granted one starts the staircase. -/
def Act.releaseCheck (n : Fin 8) (intent : Nat) : Act :=
  Act.get fun s =>
    let gone := !bitOf intent 31 || intent / 2 ^ 28 % 8 ≠ 0 || intent % 256 ≠ s.ramps[n].tag
    if s.releaseAwaited n && gone then Act.seq [
      Act.when s.ramps[n].zeroAt.isSome ((Act.setB (F.BUF_RAMP_STAT.released n) true).andThen
        (Act.ramp n fun r => { r with stair := some (s.fld (F.BUF_RAMP_STAT.step_frames n)), frames := 0 })),
      Act.planDone n,
      Act.releaseDischarge]
    else Act.skip

/-! ## Pace frames (R84, R86, R87, R93) -/

/-- The type of the next pace frame of slot n. -/
def State.paceType (s : State) (n : Nat) : Nat :=
  if s.linkState n = 1 then 0xE
  else if !(s.emergencies n).isEmpty then 3
  else if s.flag (F.CMA_PACE_CTL.scrub n) then 2
  else if s.rampPresent n then 1
  else if s.flag (F.CMA_PACE_CTL.hold n) then 4
  else 0

/-- Bits [111:0] of the pace frame of slot n with a sequence number.  The duty of a slot that no core serves is that of its
hold register, as for any other slot (R38, R86; DESIGN CHOICE, log entry 80). -/
def State.paceBody (s : State) (n seq : Nat) : Nat :=
  s.paceType n + 1 * 2 ^ 4 + seq % 256 * 2 ^ 8 + min (s.applied n) 1023 * 2 ^ 16 +
    b2n (s.flag (F.CMA_PACE_CTL.scrub n)) * 2 ^ 27 + b2n (!(s.emergencies n).isEmpty) * 2 ^ 28 +
    b2n (s.flag (F.CMA_PACE_CTL.hold n)) * 2 ^ 29 +
    (if s.flag (F.CMA_RAMP.valid n) then s.fld (F.CMA_RAMP.ramp_start n) else 0) * 2 ^ 32 +
    s.fld (F.CMA_RAMP.ramp_id n) * 2 ^ 40 + b2n (s.rampPresent n) * 2 ^ 47 +
    s.fld F.CAP_EPOCH_APPLIED.epoch % 65536 * 2 ^ 48 + s.tns.tick % 2 ^ 32 * 2 ^ 64 +
    s.fld (F.CMA_CTX.exp_ctx n) * 2 ^ 96 + b2n (s.flag (F.CMA_CTX.exp_valid n)) * 2 ^ 100

/-- A frame body of k bytes with its CRC behind it (R88). -/
def withCrc (k body : Nat) : Nat := body + crc16 (leBytes k body) * 2 ^ (8 * k)

/-- The pace frame of slot n with a sequence number (R86). -/
def State.paceFrame (s : State) (n seq : Nat) : Nat := withCrc 14 (s.paceBody n seq)

/-- The characters in which a lane carries a frame of k bytes: the start character, the bytes, the end character, and the
idle character until the next frame (R81). -/
def frameChars (k frame : Nat) : List LineChar := .start :: (leBytes k frame).map LineChar.byte ++ [.stop, .idle]

/-- The end of a pace period of link n: a period without a valid activity frame is counted (R89). -/
def Act.periodEnd (n : Fin 8) : Act :=
  Act.get fun s =>
    let l := s.links[n]
    if l.sent = 0 then Act.skip
    else if l.got then Act.link n fun l => { l with got := false, missRun := 0 }
    else (Act.bump (F.CMA_MISS.count n)).andThen
      (Act.link n fun l => { l with missRun := l.missRun + 1, validRun := 0 })

/-- Send the pace frame of one link. -/
def Act.paceOne (n : Fin 8) : Act :=
  Act.get fun s =>
    if s.linkState n = 0 then Act.skip
    else Act.seq [
      Act.periodEnd n,
      Act.rampFrame n,
      Act.get fun s => Act.link n fun l =>
        let f := s.paceFrame n l.seq
        { l with sent := f, line := frameChars 16 f, seq := (l.seq + 1) % 256, periods := l.periods + 1 },
      Act.rampSent n]

/-- PACE_FRAME: at a 1 µs tick, on every link. -/
def Act.paceFrames : Act := Act.each (List.finRange 8) Act.paceOne

/-- PACE_FRAME; busy where the frame before it is still being sent, so that its start is skipped (R48). -/
def execPaceFrame (busy : Bool) (s : State) : Host.Outcome State Fault Refusal :=
  (Act.get fun s => Act.when s.powered (Act.start 0 busy Act.paceFrames)).go s

/-! ## Activity frames (R82, R83, R88 to R91, R270) -/

/-- Bits [hi:lo] of a frame. -/
def frameField (f hi lo : Nat) : Nat := f / 2 ^ lo % 2 ^ (hi + 1 - lo)

/-- Whether an activity frame is valid: its CRC passes and its type is ACTIVITY or TRAIN (R88). -/
def frameValid (f : Nat) : Bool :=
  f / 2 ^ 240 == crc16 (leBytes 30 f) && (frameField f 3 0 = 0 || frameField f 3 0 = 0xE)

/-- Record that a lane of link n has failed (R83): direction 0 transmit, 1 receive; reason 0 invalid frames, 1 character
lock, 2 the slot device's report. -/
def Act.laneFail (n : Fin 8) (dir lane reason : Nat) : Act :=
  Act.get fun s =>
    let i := 2 * dir + lane
    if bitOf (s.fld (F.CMA_STATUS.lane_fail n)) i then Act.skip
    else (Act.setFBit (F.CMA_STATUS.lane_fail n) i true).andThen (Act.emit 0x22 0x0301 2 [n, dir, lane, reason])

/-- Check one receive lane: an invalid frame is counted, and lane_err of them in a row, while the other lane delivers valid
ones, fail the lane.  One that comes while the other lane has no valid frame ends the run (R83; DESIGN CHOICE, log entry
83). -/
def Act.rxLane (n : Fin 8) (lane : Fin 2) (bad good otherGood : Bool) : Act :=
  Act.get fun s =>
    let run := if bad && otherGood then s.links[n].rxBad[lane] + 1 else if good || bad then 0 else s.links[n].rxBad[lane]
    Act.seq [
      Act.when bad (Act.bump (F.CMA_ERR.count n lane)),
      Act.link n fun l => { l with rxBad := l.rxBad.set lane run },
      Act.when (s.fld F.CMA_LINK_CFG.lane_err ≤ run) (Act.laneFail n 1 lane 0)]

/-- Count the bad reports of a transmit lane in consecutive activity frames. -/
def Act.txLane (n : Fin 8) (lane : Fin 2) (ok : Bool) : Act :=
  Act.get fun s =>
    let run := if ok then 0 else s.links[n].txBad[lane] + 1
    (Act.link n fun l => { l with txBad := l.txBad.set lane run }).andThen
      (Act.when (s.fld F.CMA_LINK_CFG.lane_err ≤ run) (Act.laneFail n 0 lane 2))

/-- Add a count to accumulator i of slot n; it saturates and never wraps (R90). -/
def Act.accumulate (n : Fin 8) (i c : Nat) (sat : Bool) : Act :=
  Act.get fun s =>
    let v := s.fld (F.CMA_ACC.count n i) + c
    Act.seq [
      Act.setF (F.CMA_ACC.count n i) (min v 0xFFFFFFFF),
      Act.when (0xFFFFFFFF < v) (Act.setFBit (F.CMA_ACC_FLAGS.overflow n) i true),
      Act.when sat (Act.setFBit (F.CMA_ACC_FLAGS.frame_sat n) i true)]

/-- Whether the context fields of a frame differ from the reference: on entry to TRAIN the reference is ctx_valid 0 with no
ctx_id, coded 16 (R91). -/
def Link.ctxDiffers (l : Link) (ctx : Nat) (valid : Bool) : Bool :=
  valid != l.refValid || (l.refCtx < 16 && ctx ≠ l.refCtx)

/-- Compare the context of a valid frame with the reference, latch a change and signal it (R91). -/
def Act.frameCtx (n : Fin 8) (ctx : Nat) (valid : Bool) : Act :=
  Act.get fun s =>
    let differs := s.links[n].ctxDiffers ctx valid
    Act.seq [
      Act.link n fun l => { l with refCtx := ctx, refValid := valid },
      Act.setF (F.CMA_CTX.rep_ctx n) ctx,
      Act.setB (F.CMA_CTX.rep_valid n) valid,
      Act.when differs (Act.seq [
        Act.setB (F.CMA_CTX.changed n) true,
        Act.setF (F.CMA_CHG_TICK.tick n) (s.tns.tick % 2 ^ 32),
        Act.learnedx fun x => { x with timeline := x.timeline ++ [(s.its.cur.interval, n.val, if valid then ctx else 16, s.tns.tick % 2 ^ 32)] },
        Act.ctxChange n])]

/-- The counts and the intent of an ACTIVITY frame, used in UP and LOST (R84, R90). -/
def Act.frameCounts (n : Fin 8) (f : Nat) : Act :=
  Act.seq [
    Act.each (List.range 4) fun i =>
      Act.accumulate n i (frameField f (79 + 16 * i) (64 + 16 * i)) (bitOf f (128 + i)),
    Act.setF (F.CMA_INTENT.intent n) (frameField f 63 32),
    Act.link n fun l => { l with merged := l.merged + 1, throttled := bitOf f 29 },
    Act.releaseCheck n (frameField f 63 32)]

/-- The address of slot n's declaration record (R270). -/
def declAddr (n : Nat) : Nat := 0x11700000 + 0x40 * n

/-- The units of count i as a declaration record has them, from the declaration word of bits [16i+79:16i+64]: kind, shift
and full_scale, from the top down; a reserved kind is read as 0 (R270). -/
def declUnits (rec_ : Nat) (i : Nat) : Nat × Nat × Nat :=
  let w := rec_ / 2 ^ (64 + 16 * i)
  let kind := w / 2 ^ 12 % 16
  (if 4 < kind then 0 else kind, w / 2 ^ 8 % 16, w % 256)

/-- Link n enters UP: the power core takes the class and the units from the declaration record (R84, R270; log entry 84). -/
def Act.linkUpNow (n : Fin 8) : Act :=
  Act.get fun s => Act.seq [
    Act.setF (F.CMA_STATUS.state n) 2,
    Act.link n fun l => { l with
      units := (List.range 4).map (declUnits (s.nat (declAddr n) 32)), devClass := s.nat (declAddr n + 4) 4 },
    Act.emit 0x22 0x0300 1 [n, 3 - s.fld (F.CMA_STATUS.lane_fail n) / 4 % 4]]

/-- A valid activity frame on link n, by the state of the link: in TRAIN only its declaration, its context and the count of
valid frames matter, and in DEAD nothing does (R84, R91, R270). -/
def Act.validFrame (n : Fin 8) (f : Nat) : Act :=
  Act.get fun s =>
    let st := s.linkState n
    let train := frameField f 3 0 = 0xE
    let ctx := Act.frameCtx n (frameField f 27 24) (bitOf f 28)
    Act.seq [
      Act.link n fun l => { l with got := true, missRun := 0, echo := if st = 4 then l.echo else frameField f 23 16 },
      Act.when (st = 2 || st = 3) ((Act.txLane n 0 (bitOf f 30)).andThen (Act.txLane n 1 (bitOf f 31))),
      if st = 1 then Act.seq [
        Act.when train (Act.store (declAddr n) (leBytes 32 f)),
        ctx,
        Act.link n fun l => { l with validRun := l.validRun + 1 },
        Act.get fun s => Act.when (16 ≤ s.links[n].validRun) (Act.linkUpNow n)]
      else if st = 2 || st = 3 then Act.seq [
        Act.when (st = 3) (Act.linkUpNow n),
        Act.when (!train) (Act.frameCounts n f),
        ctx]
      else Act.skip]

/-- ACTIVITY_FRAME: what the two lanes delivered in this period; the first copy that passes is used, of a lane that has not
failed (R82).  An invalid frame is counted for its lane, failed or not (R88). -/
def Act.activityFrame (n : Fin 8) (rx0 rx1 : Option (BitVec 256)) : Act :=
  Act.get fun s =>
    if !s.powered || s.linkState n = 0 then Act.skip
    else
      let use (i : Nat) (r : Option (BitVec 256)) : Option Nat :=
        if bitOf (s.fld (F.CMA_STATUS.lane_fail n)) (2 + i) then none else r.map BitVec.toNat
      let f0 := use 0 rx0
      let f1 := use 1 rx1
      let ok0 := f0.any frameValid
      let ok1 := f1.any frameValid
      Act.seq [
        Act.rxLane n 0 (f0.isSome && !ok0) ok0 ok1,
        Act.rxLane n 1 (f1.isSome && !ok1) ok1 ok0,
        Act.when (f0.isNone && rx0.any fun f => !frameValid f.toNat) (Act.bump (F.CMA_ERR.count n 0)),
        Act.when (f1.isNone && rx1.any fun f => !frameValid f.toNat) (Act.bump (F.CMA_ERR.count n 1)),
        match f0.filter frameValid, f1.filter frameValid with
        | some f, _ => Act.validFrame n f
        | none, some f => Act.validFrame n f
        | none, none => Act.link n fun l => { l with validRun := 0 }]

def execActivityFrame (n : Fin 8) (rx0 rx1 : Option (BitVec 256)) (s : State) : Host.Outcome State Fault Refusal :=
  (Act.activityFrame n rx0 rx1).go s

/-- CHARACTER_LOCK_LOSS: a receive lane has been without character lock for 1 µs (R83). -/
def execCharacterLockLoss (n : Fin 8) (lane : Fin 2) (s : State) : Host.Outcome State Fault Refusal :=
  (Act.get fun s => Act.when (s.powered && s.linkState n ≠ 0) (Act.laneFail n 1 lane 1)).go s

/-- COMMA_LINK_LOST: loss_frames periods without a valid frame while UP (R84). -/
def Act.linkLost (n : Fin 8) : Act :=
  Act.get fun s =>
    if s.powered && s.linkState n = 2 && s.fld F.CMA_LINK_CFG.loss_frames ≤ s.links[n].missRun then Act.seq [
      Act.setF (F.CMA_STATUS.state n) 3,
      Act.link n fun l => { l with lostAt := s.tns.tick },
      Act.emit 0x22 0x0302 2 [n, s.links[n].echo]]
    else Act.skip

def execCommaLinkLost (n : Fin 8) (s : State) : Host.Outcome State Fault Refusal := (Act.linkLost n).go s

/-- COMMA_LINK_DEAD: LOST for dead_ms; the slot device has failed (R84, R422). -/
def Act.linkDead (n : Fin 8) : Act :=
  Act.get fun s =>
    if s.powered && s.linkState n = 3 && s.links[n].lostAt + 1000 * s.fld F.CMA_LINK_CFG.dead_ms ≤ s.tns.tick then Act.seq [
      Act.setF (F.CMA_STATUS.state n) 4,
      Act.emit 0x22 0x0303 3 [n],
      Act.slotFail n 15,
      Act.settle]
    else Act.skip

def execCommaLinkDead (n : Fin 8) (s : State) : Host.Outcome State Fault Refusal := (Act.linkDead n).go s

end Sys2Proof.Machine
end

