-- ==== Sys2Proof/Machine/Buffer.lean ====
section
/-!
DEFINITION. The buffer converter, its limiter and faults, the ramp sequencers' steps, and the voltage margin (R112, R113,
R117, R118, R120 to R127).
-/
namespace Sys2Proof.Machine

/-! ## Ramp sequencers (R117, R118) -/

/-- RAMP_STEP: step_frames have elapsed; the duty falls by duty_step, and the staircase ends at 0 or at the Qualifier
output. -/
def Act.rampStep (n : Fin 8) : Act :=
  Act.get fun s =>
    if s.powered && s.stairs n && s.ramps[n].stair.any (· ≤ s.ramps[n].frames) then
      let d := s.fld (F.BUF_RAMP_STAT.duty n) - s.fld F.BUF_RAMP_CFG.duty_step
      Act.seq [
        Act.ramp n fun r => { r with frames := 0 },
        if d = 0 || d ≤ s.quaOut n then Act.rampEnd n else Act.setF (F.BUF_RAMP_STAT.duty n) d]
    else Act.skip

def execRampStep (n : Fin 8) (s : State) : Host.Outcome State Fault Refusal := (Act.rampStep n).go s

/-- Whether slot n waits for a release that has not come within hold_max_us of its ramp_start-0 frame. -/
def State.rampOverdue (s : State) (n : Fin 8) : Bool :=
  match s.ramps[n].zeroAt with
  | some t => s.ramps[n].awaits && t + s.fld F.BUF_RAMP_CFG2.hold_max_us ≤ s.tns.tick
  | none => false

/-- RAMP_ABANDON: the ramp duty is removed and the ramp recorded as abandoned; the hint stays planned (R111). -/
def Act.rampAbandon (n : Fin 8) : Act :=
  Act.get fun s =>
    if s.powered && s.rampOverdue n then Act.seq [
      Act.rampEnd n,
      Act.planDone n,
      Act.emit 0x02 0x0502 2 [n, s.fld (F.BUF_RAMP_STAT.ramp_id n)]]
    else Act.skip

def execRampAbandon (n : Fin 8) (s : State) : Host.Outcome State Fault Refusal := (Act.rampAbandon n).go s

/-! ## Permissions (R123, R124) -/

/-- The configured bank sensors, as the index of each source field and the sensor's index; 0xFF is none. -/
def State.bankSources (s : State) : List (Nat × Nat) :=
  ((List.range 4).map fun i => (i, fldOf (s.reg R.BUF_TEMP_SRC) (8 * i + 7) (8 * i))).filter fun p => p.2 < 160

/-- Whether a bank sensor works: it has a result and is not broken. -/
def State.bankWorks (s : State) (i : Nat) : Bool := (s.sensor i).has && !s.snsBroken i

/-- The hottest working bank sensor's value in 1/16 degC. -/
def State.bankHottest (s : State) : Option Int :=
  ((s.bankSources.filter fun p => s.bankWorks p.2).map fun p => (s.sensor p.2).value).max?

/-- The bank voltage limits in 10 mV: vmax and vfloor stand in 0.5 V steps. -/
def State.bankVmax (s : State) : Nat := s.fld F.BUF_BANK_V.vmax * 50
def State.bankVfloor (s : State) : Nat := s.fld F.BUF_BANK_V.vfloor * 50

/-- Why charging is forbidden, as the place of the first condition of R123 that fails, from 1; 0 where it is permitted (the
numbers are the model's, log entry 3). -/
def State.chgReason (s : State) : Nat :=
  let lo := signed 8 (s.fld F.BUF_TEMP_CFG.chg_tmin) * 16
  let hi := signed 8 (s.fld F.BUF_TEMP_CFG.chg_tmax) * 16
  if !s.flag F.BUF_CTL.chg_en then 1
  else if s.bankSources.isEmpty then 2
  else if !s.bankSources.all fun p => s.bankWorks p.2 && lo ≤ (s.sensor p.2).value && (s.sensor p.2).value ≤ hi then 3
  else if s.bankVmax ≤ s.fld F.BUF_BANK_V.vbank then 4
  else if s.fld F.LKD_STATUS.wet ≠ 0 || s.fld F.LKD_STATUS.confirmed ≠ 0 then 5
  else if (List.range 9).any fun t => 3 ≤ s.targetLevel t then 6
  else 0

/-- Whether discharge is permitted (R124). -/
def State.disOk (s : State) : Bool :=
  s.bankVfloor < s.fld F.BUF_BANK_V.vbank && (s.bankHottest.any fun t => t ≤ 70 * 16) && fldOf (s.reg R.BUF_FAULT) 3 0 = 0

/-- Show the permissions and the bank sensors; a change of the charge permission is recorded. -/
def Act.permissions : Act :=
  Act.get fun s =>
    let r := s.chgReason
    let hot := s.bankHottest.map fun t => unsignedOf 8 (t / 16)
    Act.seq [
      Act.setF F.BUF_TEMP_STAT.broken (maskOf ((s.bankSources.filter fun p => s.snsBroken p.2).map Prod.fst)),
      Act.setF F.BUF_TEMP_STAT.hottest (hot.getD 0),
      Act.setB F.BUF_STATUS.dis_ok s.disOk,
      Act.setB F.BUF_STATUS.chg_ok (r = 0),
      Act.when (s.flag F.BUF_STATUS.chg_ok != (r == 0)) (Act.emit 0x26 0x0513 1 [r, hot.getD 0])]

/-! ## Limits (R122, R123, R125, R126) -/

/-- How many phases work. -/
def State.phases (s : State) : Nat := 4 - popBits (s.fld F.BUF_STATUS.phase_fail) 4

/-- The discharge and charge limits of BUF_LIM, scaled by the working phases. -/
def State.disLim (s : State) : Nat := s.fld F.BUF_LIM.dis_w * s.phases / 4
def State.chgLim (s : State) : Nat := s.fld F.BUF_LIM.chg_w * s.phases / 4

/-- The most that the bank gives now: BUF_LIM, the ceiling, 2,000 W while rest is set, and 250 A of bank current, of which
the part eff reaches the bus (R112, R122). -/
def State.disMax (s : State) : Nat :=
  let m := min (min s.disLim (s.quaOut 36)) (s.fld F.BUF_BANK_V.vbank * 250 * s.fld F.BUF_BANK_CFG.eff / 10000)
  if s.flag F.BUF_STATUS.rest then min m 2000 else m

/-- The tray input power in W, averaged over 10 µs. -/
def State.trayFast (s : State) : Nat := (s.conv.avgs.head?).getD 0

/-- The sum of the slots' fast powers. -/
def State.slotsFast (s : State) : Nat := (List.range 8).foldl (fun n i => n + s.fld (F.CAP_SLOT_FAST.watts i)) 0

/-- The measured non-slot load (R96). -/
def State.nonSlot (s : State) : Nat := s.trayFast - s.slotsFast

/-- The effective tray cap in W, with a value no input reaches where there is none. -/
def State.trayCap (s : State) : Nat := (s.effCap 8).getD 0xFFFF

/-- The charge power of R123: the ceiling, BUF_LIM, what the reserve leaves, and what the tray cap leaves. -/
def State.chgMax (s : State) : Nat :=
  let drawn := (-s.conv.power).toNat
  min (min (s.quaOut 37) s.chgLim)
    (min (s.fld F.CAP_TRAY_RSV.watts - (s.nonSlot - drawn)) (s.trayCap - s.trayFast))

/-- The mode to which the converter returns: CHARGE where charging is permitted, otherwise IDLE. -/
def State.restMode (s : State) : Nat := if s.chgReason = 0 then 2 else 1

/-! ## Modes (R121, R127) -/

/-- Whether the converter must be OFF. -/
def State.bufMustOff (s : State) : Bool := !s.flag F.BUF_CTL.en || s.fld F.BUF_BANK_CFG.cap = 0 || s.gateCause

/-- Whether a fault bit is set. -/
def State.bufFaulty (s : State) : Bool := fldOf (s.reg R.BUF_FAULT) 3 0 ≠ 0

/-- Enter a mode with no power flowing. -/
def Act.bufMode (m : Nat) : Act :=
  (Act.setF F.BUF_STATUS.mode m).andThen (Act.convx fun c => { c with power := 0, zeroFor := 0 })

/-- Bring the mode to where the conditions of R121 have it. Where a condition of OFF and a BUF_FAULT bit stand together, it
is OFF (DESIGN CHOICE, log entry 86). -/
def Act.bufSettle : Act :=
  Act.get fun s =>
    let m := s.fld F.BUF_STATUS.mode
    if s.bufMustOff then Act.when (m ≠ 0) Act.bufOff
    else if s.bufFaulty then Act.when (m ≠ 5)
      ((Act.bufMode 5).andThen (Act.emit 0x26 0x0512 3 [fldOf (s.reg R.BUF_FAULT) 3 0]))
    else if m = 0 || m = 5 then Act.bufMode s.restMode
    else if m = 1 && s.chgReason = 0 then Act.bufMode 2
    else if m = 2 && s.chgReason ≠ 0 then Act.bufMode 1
    else Act.skip

/-- A fault of the converter (R126). -/
def Act.bufFault (f : Fd) : Act := (Act.setB f true).andThen Act.bufSettle

/-- Whether READY is due for a plan: its time has come, and its hold has not elapsed. -/
def State.readyDue (s : State) (p : Plan) : Bool := !p.readied && p.readyAt ≤ s.tns.tick && s.tns.tick < p.holdTill

/-- BUF_READY: lead_us before the earliest release of a plan (R120).  A converter that is READY already stays so. -/
def Act.bufReady : Act :=
  Act.get fun s =>
    let m := s.fld F.BUF_STATUS.mode
    if s.powered && s.coreUp 1 && s.conv.plans.any s.readyDue && (m = 1 || m = 2 || m = 3) then
      (Act.when (m ≠ 3) (Act.bufMode 3)).andThen
        (Act.convx fun c => { c with plans := c.plans.map fun p => { p with readied := p.readied || s.readyDue p } })
    else Act.skip

def execBufReady (s : State) : Host.Outcome State Fault Refusal := Act.bufReady.go s

/-- Whether READY is held for a plan: it has been placed for it, and hold_max_us has not elapsed. -/
def State.readyHeld (s : State) (p : Plan) : Bool := p.readied && s.tns.tick < p.holdTill

/-- READY_HOLD_TIMEOUT: READY is held until the release of a plan is detected or hold_max_us elapses (R120); a plan whose
hold has elapsed is over, and a release of it that was carried without a grant is no longer awaited. -/
def Act.readyTimeout : Act :=
  Act.get fun s =>
    let done := s.conv.plans.filter fun p => p.holdTill ≤ s.tns.tick
    if !s.powered then Act.skip
    else Act.seq [
      Act.convx fun c => { c with plans := c.plans.filter fun p => s.tns.tick < p.holdTill },
      Act.each (List.finRange 8) fun n =>
        Act.when (done.any (fun p => bitOf p.slots n) && s.ramps[n].zeroAt.isNone && !s.flag (F.CMA_RAMP.valid n))
          (Act.ramp n fun r => { r with awaits := false }),
      Act.when (s.fld F.BUF_STATUS.mode = 3 && !s.conv.plans.any s.readyHeld) (Act.bufMode s.restMode)]

def execReadyHoldTimeout (s : State) : Host.Outcome State Fault Refusal := Act.readyTimeout.go s

/-! ## The limiter (R125) -/

/-- What the sense inputs deliver in one update: the input power averaged over 10 µs, the last 100 µs of it, and the bank.
Times are in units of 0.625 µs; an average covers 16 of them. -/
def Act.bufSense (iinMv dt vbank : Nat) (ibank : Int) : Act :=
  Act.get fun s =>
    let w := iinMv * s.fld F.BUF_SLOPE_CFG.iin_gain * s.fld F.PER_MON.vbus / 10000
    let n := min dt 161
    let iins := (List.replicate n w ++ s.conv.iins).take 16
    let avg := iins.foldl (· + ·) 0 / max 1 iins.length
    Act.seq [
      Act.setF F.BUF_BANK_V.vbank (min vbank 65535),
      Act.setF F.BUF_BANK_I.ibank (unsignedOf 16 ibank),
      Act.convx fun c => { c with
        now := c.now + dt, iins := iins, avgs := (List.replicate n avg ++ c.avgs).take 161,
        above := c.above.filter fun p => c.now + dt < p.1 + 160000 }]

/-- The energy of one update: the power over its time, in units of 1/8 µJ, carried until it is a whole joule. -/
def Act.bufEnergy (dt : Nat) : Act :=
  Act.get fun s =>
    let p := s.conv.power
    let out := s.conv.outFrac + p.toNat * dt * 5
    let inp := s.conv.inFrac + (-p).toNat * dt * 5
    Act.seq [
      Act.addF F.BUF_ENERGY_OUT.joules (out / 8000000),
      Act.addF F.BUF_ENERGY_IN.joules (inp / 8000000),
      Act.convx fun c => { c with outFrac := out % 8000000, inFrac := inp % 8000000 }]

/-- The average 100 µs ago. -/
def State.avgAgo (s : State) : Nat := (s.conv.avgs[160]?).getD s.trayFast

/-- S in W/ms. -/
def State.slope (s : State) : Nat := s.fld F.BUF_SLOPE_CFG.slope

/-- The charge that holds the input's fall to S: what the input would have fallen beyond it without the charge that flows
already, within the charge power of R123 (R125). -/
def State.fallCharge (s : State) : Nat :=
  let load := s.trayFast - (-s.conv.power).toNat
  min (s.avgAgo - load - s.slope / 10) s.chgMax

/-- Whether fall smoothing is on. -/
def State.smooths (s : State) : Bool := s.flag F.BUF_CTL.fall_en && s.flag F.BUF_STATUS.chg_ok

/-- Set the discharge power in DISCHARGE: the demand is what holds the input at or below the reference.  Each time the power
reaches its limit the event is recorded. -/
def Act.limiterDischarge (dt : Nat) : Act :=
  Act.get fun s =>
    let el := s.conv.elapsed + dt
    let ref := s.conv.refW + s.slope * el / 1600 + 50
    let demand := ((s.trayFast : Int) + s.conv.power - (ref : Int)).toNat
    let p := min demand s.disMax
    let limited := s.disMax < demand
    Act.seq [
      Act.convx fun c => { c with
        elapsed := el, zeroFor := if demand = 0 then c.zeroFor + dt else 0,
        power := if demand = 0 && s.smooths then -((s.fallCharge : Nat) : Int) else (p : Int),
        limited := limited,
        above := if 2000 < p then (c.now, dt) :: c.above else c.above },
      Act.when (limited && !s.conv.limited)
        ((Act.setB F.BUF_STATUS.slope_exceeded true).andThen
          (Act.emit 0x26 0x0510 2 [(s.trayFast - s.avgAgo) * 10]))]

/-- The slope limiter trips outside DISCHARGE. -/
def Act.limiterTrip : Act :=
  Act.get fun s => Act.seq [
    Act.when (s.fld F.BUF_STATUS.mode ≠ 3) (Act.bump F.BUF_REL_UNPLANNED.count),
    Act.setF F.BUF_STATUS.mode 4,
    Act.convx fun c => { c with refW := s.avgAgo, elapsed := 0, zeroFor := 0, power := 0, limited := false,
                                plans := c.plans.map Plan.unready }]

/-- The power of the modes other than DISCHARGE: charging in CHARGE, fall smoothing in READY. -/
def Act.limiterIdle : Act :=
  Act.get fun s =>
    let m := s.fld F.BUF_STATUS.mode
    let trips := s.fld F.BUF_SLOPE_CFG.iin_gain ≠ 0 && (m = 1 || m = 2 || m = 3) && s.disOk &&
      s.slope / 10 + 100 < s.trayFast - s.avgAgo
    if trips then Act.limiterTrip
    else if m = 2 then Act.convx fun c => { c with power := -((s.chgMax : Nat) : Int) }
    else if m = 3 && s.smooths then Act.convx fun c => { c with power := -((s.fallCharge : Nat) : Int) }
    else Act.convx fun c => { c with power := 0 }

/-- Set rest while 100 ms hold 20 ms of discharge above 2,000 W (R122). -/
def Act.restCheck : Act :=
  Act.get fun s =>
    Act.setB F.BUF_STATUS.rest (32000 ≤ s.conv.above.foldl (fun n p => n + p.2) 0)

/-- LIMITER_UPDATE: an update after dt units of 0.625 µs; the sensed input in mV, the bank voltage in 10 mV and its current
in 0.1 A. -/
def Act.limiterUpdate (iinMv dt vbank : Nat) (ibank : Int) : Act :=
  Act.get fun s =>
    if !s.powered then Act.skip
    else Act.seq [
      Act.bufEnergy dt,
      Act.bufSense iinMv dt vbank ibank,
      Act.permissions,
      Act.bufSettle,
      Act.get fun s => if s.fld F.BUF_STATUS.mode = 4 && s.fld F.BUF_SLOPE_CFG.iin_gain ≠ 0 then Act.limiterDischarge dt
        else if s.fld F.BUF_STATUS.mode = 4 then Act.convx fun c => { c with power := 0, zeroFor := c.zeroFor + dt }
        else Act.limiterIdle,
      Act.restCheck]

def execLimiterUpdate (iinMv dt vbank : Nat) (ibank : Int) (s : State) : Host.Outcome State Fault Refusal :=
  (Act.limiterUpdate iinMv dt vbank ibank).go s

/-- DISCHARGE_END: the demand has been 0 for 100 µs, the bank has reached vfloor, or discharge is no longer permitted
(R121). -/
def Act.dischargeEnd : Act :=
  Act.get fun s =>
    if s.powered && s.fld F.BUF_STATUS.mode = 4 &&
        (160 ≤ s.conv.zeroFor || s.fld F.BUF_BANK_V.vbank ≤ s.bankVfloor || !s.disOk) then Act.bufMode s.restMode
    else Act.skip

def execDischargeEnd (s : State) : Host.Outcome State Fault Refusal := Act.dischargeEnd.go s

/-! ## Faults (R126) -/

/-- PHASE_OVERCURRENT: the phase fails; a second failed phase is a fault. -/
def Act.phaseFail (p : Fin 4) : Act :=
  Act.get fun s =>
    if !s.powered || bitOf (s.fld F.BUF_STATUS.phase_fail) p then Act.skip
    else Act.seq [
      Act.setFBit F.BUF_STATUS.phase_fail p true,
      Act.emit 0x26 0x0511 3 [p],
      Act.when (s.fld F.BUF_STATUS.phase_fail ≠ 0) (Act.bufFault F.BUF_FAULT.phase2)]

def execPhaseOvercurrent (p : Fin 4) (s : State) : Host.Outcome State Fault Refusal := (Act.phaseFail p).go s

/-- BANK_FAULT: BUF_BANK_FLT_N has been asserted for 10 µs. -/
def execBankFault (s : State) : Host.Outcome State Fault Refusal :=
  (Act.get fun s => Act.when s.powered (Act.bufFault F.BUF_FAULT.bank_flt)).go s

/-- BANK_OVERVOLTAGE: the bank is above vmax + 1 V; in 10 mV. -/
def Act.bankOver (vbank : Nat) : Act :=
  Act.get fun s =>
    Act.when (s.powered && s.bankVmax + 100 < vbank)
      ((Act.setF F.BUF_BANK_V.vbank (min vbank 65535)).andThen (Act.bufFault F.BUF_FAULT.bank_ov))

def execBankOvervoltage (vbank10mv : Nat) (s : State) : Host.Outcome State Fault Refusal := (Act.bankOver vbank10mv).go s

/-- SENSE_FAULT: a sense input is out of range. -/
def execSenseFault (s : State) : Host.Outcome State Fault Refusal :=
  (Act.get fun s => Act.when s.powered (Act.bufFault F.BUF_FAULT.sense)).go s

/-! ## The margin (R113) -/

/-- Whether the regulator of domain d is margined: mapped, and of kind 1 (R113). -/
def State.mapped (s : State) (d : Nat) : Bool :=
  (if d < 32 then bitOf (s.fld F.BUF_MARGIN_MAP0.map) d else bitOf (s.fld F.BUF_MARGIN_MAP1.map) (d - 32)) &&
    s.fld (F.SEQ_DOM_CFG.kind d) = 1

/-- The base setpoint of domain d: what VOUT_COMMAND held when its up-clause completed, or a later reg_vset (R113). -/
def State.baseOf (s : State) (d : Fin 48) : Nat := s.doms[d].base.getD (s.voutOf d)

/-- The margin that domain d holds over its base, in 0.1 %, rounded down. -/
def State.marginOf (s : State) (d : Fin 48) : Nat := (s.voutOf d - s.baseOf d) * 1000 / max 1 (s.baseOf d)

/-- BUF_MARGIN_CFG.achieved: the smallest margin over the mapped regulators whose domain is on, in 0.1 %; 0 without one
(R113; log entry 85). -/
def State.achieved (s : State) : Nat :=
  min 255 ((((List.finRange 48).filter fun (d : Fin 48) => s.mapped d && s.domOn d).map s.marginOf).min?.getD 0)

/-- MARGIN_WRITE: the controller writes base × (1 + pct / 100), no higher than vset_max. -/
def Act.marginWrite (d : Fin 48) : Act :=
  Act.get fun s =>
    if s.powered && s.mapped d && s.domOn d then
      let want := s.baseOf d * (100 + s.fld F.BUF_MARGIN_CFG.pct) / 100
      let top := s.fld (F.SEQ_DOM_BUS.vset_max d) * 10
      Act.seq [
        Act.dom d fun x => { x with vout := some (min want top), base := some (s.baseOf d) },
        Act.get fun s => Act.when (top < want) (Act.emit 0x02 0x0504 2 [d, s.achieved])]
    else Act.skip

def execMarginWrite (d : Fin 48) (s : State) : Host.Outcome State Fault Refusal := (Act.marginWrite d).go s

end Sys2Proof.Machine
end

