-- ==== Sys2Proof/Machine/Clauses.lean ====
section
/-!
DEFINITION. Clause slots and clause images (R227, R228), and the class 0x06 commands that load and bind them (R230, R231).
-/
namespace Sys2Proof.Machine

/-- The first byte of bank b of clause slot n (R227). -/
def clauseBank (n b : Nat) : Nat := 0x11600000 + 0x8000 * n + 0x4000 * b

/-- A clause slot. -/
def State.clauseSlot (s : State) (n : Fin 32) : ClauseSlot := s.clauses[n]

/-- Clause slot number n. -/
def clauseNo (n : Nat) : Option (Fin 32) := if h : n < 32 then some ⟨n, h⟩ else none

/-- Whether an instance runs from bank b of clause slot n. -/
def State.bankRuns (s : State) (n b : Nat) : Bool :=
  s.targets.toList.any fun t => match t.run with | some r => r.slot == n && r.bank == b | none => false

/-- Whether an instance of clause slot n runs. -/
def State.clauseRuns (s : State) (n : Nat) : Bool := s.bankRuns n 0 || s.bankRuns n 1

/-- The targets to which clause slot n is bound. -/
def State.clauseTargets (s : State) (n : Nat) : List Nat :=
  (List.range 9).filter fun t =>
    (s.flag (F.SEQ_BIND.up_valid t) && s.fld (F.SEQ_BIND.up t) = n) ||
    (s.flag (F.SEQ_BIND.down_valid t) && s.fld (F.SEQ_BIND.down t) = n)

/-- A field of the header of the image at bank address a (R228). -/
def State.hdr (s : State) (a off n : Nat) : Nat := s.nat (a + off) n

/-- The first check of R231 that the image at bank address a fails, from 1 in the order of the rule; 0 where it passes
(the numbers are the model's, log entry 3). -/
def State.clauseCheck (s : State) (a : Nat) : Nat :=
  let code := s.hdr a 8 2
  let data := s.hdr a 10 2
  if s.bytes a 4 ≠ [0x4B#8, 0x43#8, 0x4C#8, 0x41#8] then 1
  else if s.hdr a 5 1 ≠ 1 then 2
  else if 12288 < 64 + code + data || 4096 < data then 3
  else if code ≤ s.hdr a 12 2 then 4
  else if s.hdr a 32 32 ≠ Config.sm3 (s.bytes (a + 64) (code + data)) then 5
  else 0

/-- CLAUSE_WRITE: bytes into the staging bank; the first write into an EMPTY slot makes its source the owner (R230,
R231). -/
def Act.clauseWriteBody (m : Fin 16) (src slot off : Nat) (data : List Byte) : Act :=
  Act.get fun s =>
    match clauseNo slot with
    | none => Act.respond m 6 1 5 []
    | some n =>
      let c := s.clauseSlot n
      if off % 4 ≠ 0 || data.length % 4 ≠ 0 || data.length < 4 || 4096 < data.length || 12288 < off + data.length then
        Act.respond m 6 1 5 []
      else if c.owner ≠ 0 && c.owner ≠ src then Act.respond m 6 1 4 []
      else if s.bankRuns n (1 - c.bank) then Act.respond m 6 1 7 []
      else Act.seq [
        Act.store (clauseBank n (1 - c.bank) + off) data,
        Act.clause n fun c => { c with owner := src },
        Act.respond m 6 1 0 []]

/-- CLAUSE_WRITE: class 0x06, command 0x01. -/
def Act.clauseWrite (m : Fin 16) (slot off : Nat) (data : List Byte) : Act :=
  Act.command m 6 1 fun src => Act.clauseWriteBody m src slot off data

def execClauseWrite (m : Fin 16) (slot off : Nat) (data : List (BitVec 8)) (s : State) :
    Host.Outcome State Fault Refusal := (Act.clauseWrite m slot off data).go s

/-- CLAUSE_COMMIT: the checks of R231, then the banks swap. -/
def Act.clauseCommitBody (m : Fin 16) (src slot : Nat) : Act :=
  Act.get fun s =>
    match clauseNo slot with
    | none => Act.respond m 6 2 5 []
    | some n =>
      let c := s.clauseSlot n
      let a := clauseBank n (1 - c.bank)
      if c.owner ≠ 0 && c.owner ≠ src then Act.respond m 6 2 4 []
      else if s.bankRuns n (1 - c.bank) then Act.respond m 6 2 7 []
      else if s.clauseCheck a ≠ 0 then
        (Act.emit 0x03 0x0902 2 [slot, s.clauseCheck a]).andThen (Act.respond m 6 2 6 [])
      else Act.seq [
        Act.clause n fun c => { c with loaded := true, bank := 1 - c.bank, kind := s.hdr a 6 1, digest := s.hdr a 32 32 },
        Act.emit 0x03 0x0901 1 [slot, src, s.hdr a 32 8],
        Act.respondItems m 6 2 0 [s.hdr a 32 32]]

/-- CLAUSE_COMMIT: class 0x06, command 0x02. -/
def Act.clauseCommit (m : Fin 16) (slot : Nat) : Act := Act.command m 6 2 fun src => Act.clauseCommitBody m src slot

def execClauseCommit (m : Fin 16) (slot : Nat) (s : State) : Host.Outcome State Fault Refusal :=
  (Act.clauseCommit m slot).go s

/-- Whether clause slot number c may be bound to target t by a source: LOADED, of the target's kind, and owned by it. -/
def State.bindable (s : State) (t c : Nat) : Bool :=
  match clauseNo c with
  | some n => (s.clauseSlot n).loaded && (s.clauseSlot n).kind == (if t = 8 then 1 else 0)
  | none => false

/-- Whether clause slot number c belongs to another source. -/
def State.clauseOthers (s : State) (src c : Nat) : Bool :=
  match clauseNo c with
  | some n => (s.clauseSlot n).owner ≠ 0 && (s.clauseSlot n).owner ≠ src
  | none => false

/-- CLAUSE_BIND: SEQ_BIND(target) is written (R230, R231); what is due follows. -/
def Act.clauseBindBody (m : Fin 16) (src target flags up down : Nat) : Act :=
  Act.get fun s =>
    let upV := bitOf flags 0
    let downV := bitOf flags 1
    if 8 < target || (upV && 31 < up) || (downV && 31 < down) then Act.respond m 6 3 5 []
    else if target = 8 && src = 2 then Act.respond m 6 3 4 []
    else if (upV && s.clauseOthers src up) || (downV && s.clauseOthers src down) then Act.respond m 6 3 4 []
    else if (upV && !s.bindable target up) || (downV && !s.bindable target down) then Act.respond m 6 3 6 []
    else Act.seq [
      Act.setF (F.SEQ_BIND.up target) up, Act.setF (F.SEQ_BIND.down target) down,
      Act.setB (F.SEQ_BIND.up_valid target) upV, Act.setB (F.SEQ_BIND.down_valid target) downV,
      Act.settle, Act.respond m 6 3 0 []]

/-- CLAUSE_BIND: class 0x06, command 0x03. -/
def Act.clauseBind (m : Fin 16) (target flags up down : Nat) : Act :=
  Act.command m 6 3 fun src => Act.clauseBindBody m src target flags up down

def execClauseBind (m : Fin 16) (target flags up down : Nat) (s : State) : Host.Outcome State Fault Refusal :=
  (Act.clauseBind m target flags up down).go s

/-- The state that CLAUSE_QUERY shows: 0 EMPTY, 1 LOADED, 2 RUNNING. -/
def State.clauseState (s : State) (n : Fin 32) : Nat :=
  if s.clauseRuns n then 2 else if (s.clauseSlot n).loaded then 1 else 0

/-- CLAUSE_QUERY: class 0x06, command 0x04. -/
def Act.clauseQuery (m : Fin 16) (slot : Nat) : Act :=
  Act.command m 6 4 fun _ => Act.get fun s =>
    match clauseNo slot with
    | none => Act.respond m 6 4 5 []
    | some n =>
      let c := s.clauseSlot n
      Act.respondItems m 6 4 0 ([c.owner, s.clauseState n, c.kind, c.digest] ++ s.clauseTargets n)

def execClauseQuery (m : Fin 16) (slot : Nat) (s : State) : Host.Outcome State Fault Refusal :=
  (Act.clauseQuery m slot).go s

/-- CLAUSE_FREE: DENIED while bound and to a source that is neither the owner nor the manager, BUSY while running (R231). -/
def Act.clauseFreeBody (m : Fin 16) (src slot : Nat) : Act :=
  Act.get fun s =>
    match clauseNo slot with
    | none => Act.respond m 6 5 5 []
    | some n =>
      if src ≠ 1 && s.clauseOthers src slot then Act.respond m 6 5 4 []
      else if !(s.clauseTargets n).isEmpty then Act.respond m 6 5 4 []
      else if s.clauseRuns n then Act.respond m 6 5 7 []
      else (Act.clause n fun c => { ClauseSlot.reset with bank := c.bank }).andThen (Act.respond m 6 5 0 [])

/-- CLAUSE_FREE: class 0x06, command 0x05. -/
def Act.clauseFree (m : Fin 16) (slot : Nat) : Act := Act.command m 6 5 fun src => Act.clauseFreeBody m src slot

def execClauseFree (m : Fin 16) (slot : Nat) (s : State) : Host.Outcome State Fault Refusal :=
  (Act.clauseFree m slot).go s

end Sys2Proof.Machine
end

