-- ==== Sys2Proof/Machine/Seq.lean ====
section
/-!
DEFINITION. The input gate, eFuse faults and power-goods, and the clauses that switch a slot's or the tray's power: their
start, their instructions, their waits and their end (R61 to R73, R229, R232).
-/
namespace Sys2Proof.Machine

/-! ## The input gate and the feeds -/

/-- VIN56 as Itsal last reported it, in mV (R61, R62; where the window carries it: log entry 38). -/
def State.vin56 (s : State) : Nat := s.its.mirror.vin56

/-- Whether every condition of R61 for the gate request holds. -/
def State.gateMay (s : State) : Bool :=
  let v := s.vin56
  s.effOn 8 && !s.gateOn && s.armed && !s.gateCause && (s.bindState 8 ≠ 3 || (s.target 8).lift) &&
    s.fld F.SEQ_INPUT_CFG.vmin * 500 ≤ v && v ≤ s.fld F.SEQ_INPUT_CFG.vmax * 500

/-- GATE_REQUEST_ON (R61). -/
def Act.gateRequestOn : Act :=
  Act.get fun s =>
    if s.powered && s.gateMay then
      (Act.setB F.SEQ_STATUS.gate_req true).andThen (Act.seqx fun q => { q with gateAt := s.tns.tick, inputGood := false })
    else Act.skip

def execGateRequestOn (s : State) : Host.Outcome State Fault Refusal := Act.gateRequestOn.go s

/-- VSNS_IN as the export mirror has it, in mV. -/
def State.vsnsIn (s : State) : Nat := s.its.mirror.reads[0].voltage

/-- Whether VSNS_IN is within 1.0 V of VIN56 (R62). -/
def State.inputNear (s : State) : Bool :=
  let v := s.vin56
  v ≤ s.vsnsIn + 1000 && s.vsnsIn ≤ v + 1000

/-- INPUT_GOOD (R62): the tray's up-clause may start. -/
def Act.inputIsGood : Act :=
  Act.get fun s =>
    if s.powered && s.gateOn && !s.seq.inputGood && s.inputNear then
      (Act.seqx fun q => { q with inputGood := true }).andThen Act.settle
    else Act.skip

def execInputGood (s : State) : Host.Outcome State Fault Refusal := Act.inputIsGood.go s

/-- GATE_TIMEOUT (R62): the request is withdrawn, gate_fail is set and the tray is FAULT; standing orders are kept. -/
def Act.gateTimeout : Act :=
  Act.get fun s =>
    if s.powered && s.gateOn && !s.seq.inputGood &&
        s.seq.gateAt + s.fld F.SEQ_INPUT_CFG.gate_timeout * 10000 ≤ s.tns.tick then
      Act.withFeeds (Act.seq [
        Act.gateOff, Act.setB F.SEQ_STATUS.gate_fail true,
        Act.emit 0x02 0x0103 3 [s.vin56 / 100, s.vsnsIn / 100],
        Act.targetFault 8])
    else Act.skip

def execGateTimeout (s : State) : Host.Outcome State Fault Refusal := Act.gateTimeout.go s

/-- EFUSE_FAULT: the enable goes off and is latched off, and the slot is a failed slot device (R63, R161, R422). -/
def Act.efuseFault (n : Fin 8) : Act :=
  Act.get fun s =>
    if s.powered then
      Act.withForce 8 (Act.seq [
        Act.setFBit F.SEQ_EFUSE_STATUS.flt n true,
        Act.setFBit F.SEQ_EFUSE_STATUS.fault n true,
        Act.period (.slot n) 8 0,
        Act.emit (s.clauseSource n) 0x0204 3 [n]])
    else Act.skip

def execEfuseFault (n : Fin 8) (s : State) : Host.Outcome State Fault Refusal := (Act.efuseFault n).go s

/-! ## How a clause instruction ends -/

/-- The mode P budget of the image at bank address a: 0 means 4,096 (R228). -/
def State.clauseBudget (s : State) (a : Nat) : Nat := if s.hdr a 16 4 = 0 then 4096 else s.hdr a 16 4

/-- Whether core k is in a service: it has taken an SVC and not returned from it. -/
def State.inService (s : State) (k : Fin 13) : Bool :=
  (s.core k).exl && !(s.core k).causeIrq && (s.core k).causeCode == 7

/-- Return from a service to the clause: g10 carries the status and CR_PBUDGET is reloaded (R229, R232).  Where core k has
taken no SVC there is nothing to return to. -/
def Act.svcReturn (r : ClauseRun) (status : Nat) : Act :=
  Act.get fun s =>
    let k := r.core
    let c := s.core k
    if s.inService k then
      Act.seq [
        Act.setGpr k 10 (BitVec.ofNat 64 status),
        Act.core k fun c => { c with pbudget := s.clauseBudget (clauseBank r.slot r.bank) },
        Act.setMode k c.ppm c.ppm c.pie c.pie false,
        Act.setPc k (c.epc.toNat + 4)]
    else Act.skip

/-- Change the running clause of target t. -/
def Act.modRun (t : Fin 9) (f : ClauseRun → ClauseRun) : Act := Act.target t fun x => { x with run := x.run.map f }

/-- The instruction of target t's clause completes. -/
def Act.clauseOk (t : Fin 9) (r : ClauseRun) : Act :=
  (Act.modRun t fun r => { r with wait := none }).andThen (Act.svcReturn r 0)

/-- The instruction of target t's clause fails with a reason (R71): it is recorded, and the clause goes on at its on_fail
block, or it ends with the default down-path and FAULT. A clause that called for a service gets the reason back, and without
an on_fail block its stub calls service 0x01F (R232). -/
def Act.clauseFail (t : Fin 9) (r : ClauseRun) (reason : Nat) : Act :=
  Act.get fun s =>
    let index := ((s.core r.core).gpr[9]).toNat % 4096
    Act.seq [
      Act.setF (F.SEQ_CLAUSE_STAT.reason t) reason,
      Act.setF (F.SEQ_CLAUSE_STAT.index t) index,
      Act.emit (coreSource r.core) 0x0202 3 [t, index, reason],
      (let block := r.onFail || s.hdr (clauseBank r.slot r.bank) 14 2 ≠ 0xFFFF
       if block || s.inService r.core then
        (Act.modRun t fun r => { r with onFail := block, wait := none }).andThen (Act.svcReturn r reason)
       else Act.targetFault t)]

/-- The instruction of target t's clause waits. -/
def Act.clauseWait (t : Fin 9) (w : ClauseWait) : Act :=
  Act.get fun s => Act.modRun t fun r => { r with wait := some w, since := s.tns.tick }

/-- The clause that runs for target t on a core that is alive. -/
def State.clauseLive (s : State) (t : Fin 9) : Option ClauseRun :=
  if s.powered then (s.target t).run.filter fun r => s.coreUp r.core else none

/-- An instruction of target t's clause, which runs and waits for nothing. -/
def Act.clauseStep (t : Fin 9) (body : State → ClauseRun → Act) : Act :=
  Act.get fun s =>
    match s.clauseLive t with
    | some r => if r.wait.isNone then (Act.withFeeds (body s r)).andThen Act.settle else Act.skip
    | none => Act.skip

/-- The end of a wait of target t's clause. -/
def Act.clauseWake (t : Fin 9) (body : State → ClauseRun → ClauseWait → Act) : Act :=
  Act.get fun s =>
    match s.clauseLive t with
    | some r =>
      match r.wait with
      | some w => (Act.withFeeds (body s r w)).andThen Act.settle
      | none => Act.skip
    | none => Act.skip

/-- Domain number d. -/
def domNo (d : Nat) : Option (Fin 48) := if h : d < 48 then some ⟨d, h⟩ else none

/-- An instruction on a domain of the binding; any other is refused with reason 2 (R64). -/
def Act.clauseDom (t : Fin 9) (d : Nat) (body : State → ClauseRun → Fin 48 → Act) : Act :=
  Act.clauseStep t fun s r =>
    match domNo d with
    | some d => if s.domOwner d = t then body s r d else Act.clauseFail t r 2
    | none => Act.clauseFail t r 2

/-- An instruction on the binding's own slot; a tray clause has none and fails with reason 2. -/
def Act.clauseSlotStep (t : Fin 9) (body : State → ClauseRun → Fin 8 → Act) : Act :=
  Act.clauseStep t fun s r => if h : t.val < 8 then body s r ⟨t, h⟩ else Act.clauseFail t r 2

/-! ## Domains -/

/-- Whether domain d may not be turned on: its zone is wet, a Period trip stands, or Period is not armed (R71, R160). -/
def State.domBarred (s : State) (d : Nat) : Bool := s.zoneWet (s.domZone d) || s.domCause d || !s.armed

/-- When the discharge time of domain d has elapsed (R67). -/
def State.dischargeEnd (s : State) (d : Fin 48) : Nat := s.doms[d].offAt + s.fld (F.SEQ_DOM_CFG.discharge d) * 10000

/-- Whether domain d still discharges. -/
def State.discharging (s : State) (d : Fin 48) : Bool := !s.domOn d && s.doms[d].wasOff && s.tns.tick < s.dischargeEnd d

/-- Drive domain d on for target t's clause, now or after its discharge wait (R67). -/
def Act.clauseDomOn (t : Fin 9) (r : ClauseRun) (d : Fin 48) : Act :=
  Act.get fun s =>
    if s.domBarred d then Act.clauseFail t r 5
    else if s.discharging d then Act.clauseWait t (.discharge d)
    else (Act.when (!s.domOn d) (Act.domOn d)).andThen (Act.clauseOk t r)

/-- DOM_ON (R67, R71). -/
def Act.domOnInstr (t : Fin 9) (d : Nat) : Act := Act.clauseDom t d fun _ r d => Act.clauseDomOn t r d

def execDomOn (t : Fin 9) (d : Nat) (s : State) : Host.Outcome State Fault Refusal := (Act.domOnInstr t d).go s

/-- DISCHARGE_WAIT_END: the enable is driven on, and the wait counts against the next wait_pg of the domain (R67). -/
def Act.dischargeWaitEnd (t : Fin 9) : Act :=
  Act.clauseWake t fun s r w =>
    match w with
    | .discharge d =>
      match domNo d with
      | some d =>
        if s.discharging d then Act.skip
        else (Act.modRun t fun r => { r with discharged := (d.val, s.tns.tick - r.since) :: r.discharged, wait := none }).andThen
          (Act.clauseDomOn t r d)
      | none => Act.skip
    | _ => Act.skip

def execDischargeWaitEnd (t : Fin 9) (s : State) : Host.Outcome State Fault Refusal := (Act.dischargeWaitEnd t).go s

/-- DOM_OFF (R71). -/
def Act.domOffInstr (t : Fin 9) (d : Nat) : Act :=
  Act.clauseDom t d fun _ r d => (Act.domOff d).andThen (Act.clauseOk t r)

def execDomOff (t : Fin 9) (d : Nat) (s : State) : Host.Outcome State Fault Refusal := (Act.domOffInstr t d).go s

/-- What of the power-good timeout of domain d, in us, the clause's discharge waits for it have used up (R67). -/
def ClauseRun.used (r : ClauseRun) (d : Nat) : Nat := ((r.discharged.filter fun p => p.1 == d).map (·.2)).sum

/-- The wait_pg of domain d has counted its discharge waits; those of other domains stand (R67). -/
def ClauseRun.counted (r : ClauseRun) (d : Nat) : ClauseRun :=
  { r with discharged := r.discharged.filter fun p => p.1 != d }

/-- The power-good timeout of domain d in us; 0 ms reads as 1. -/
def State.pgTimeout (s : State) (d : Nat) : Nat := max 1 (s.fld (F.SEQ_DOM_CFG.pg_timeout d)) * 1000

/-- The wait for the power-good of domain d times out: the fault bit is set (SEQ_DOM_FAULT). -/
def Act.domTimeout (t : Fin 9) (r : ClauseRun) (d : Nat) : Act :=
  Act.seq [Act.setFBit (F.SEQ_DOM_FAULT.fault (d / 32)) (d % 32) true,
    Act.modRun t fun r => r.counted d, Act.clauseFail t r 1]

/-- WAIT_PG (R67, R71, R73). -/
def Act.waitPg (t : Fin 9) (d : Nat) : Act :=
  Act.clauseDom t d fun s r d =>
    if s.pgTimeout d < r.used d then Act.domTimeout t r d
    else if s.domPg d then (Act.modRun t fun r => r.counted d).andThen (Act.clauseOk t r)
    else if s.domCause d then Act.clauseFail t r 5
    else Act.clauseWait t (.pg d)

def execWaitPg (t : Fin 9) (d : Nat) (s : State) : Host.Outcome State Fault Refusal := (Act.waitPg t d).go s

/-! ## eFuses -/

/-- Whether slot n's eFuse may not be turned on. -/
def State.efuseBarred (s : State) (n : Nat) : Bool := s.zoneWet (s.efuseZone n) || s.efuseCause n || !s.armed

/-- EFUSE_ON (R71). -/
def Act.efuseOnInstr (t : Fin 9) : Act :=
  Act.clauseSlotStep t fun s r n =>
    if s.efuseBarred n then Act.clauseFail t r 5 else (Act.efuseOn n).andThen (Act.clauseOk t r)

def execEfuseOn (t : Fin 9) (s : State) : Host.Outcome State Fault Refusal := (Act.efuseOnInstr t).go s

/-- EFUSE_OFF (R71). -/
def Act.efuseOffInstr (t : Fin 9) : Act :=
  Act.clauseSlotStep t fun s r n => (Act.when (s.efuseOn n) (Act.efuseOff n)).andThen (Act.clauseOk t r)

def execEfuseOff (t : Fin 9) (s : State) : Host.Outcome State Fault Refusal := (Act.efuseOffInstr t).go s

/-- WAIT_EFUSE (R71, R73). -/
def Act.waitEfuse (t : Fin 9) : Act :=
  Act.clauseSlotStep t fun s r n =>
    if bitOf (s.fld F.SEQ_EFUSE_STATUS.pg) n then Act.clauseOk t r
    else if s.efuseCause n then Act.clauseFail t r 5
    else Act.clauseWait t .efuse

def execWaitEfuse (t : Fin 9) (s : State) : Host.Outcome State Fault Refusal := (Act.waitEfuse t).go s

/-! ## Sideband transfers -/

/-- An I3C transfer to module p of the binding's slot begins. -/
def Act.i3c (t : Fin 9) (p : Nat) (w : State → Fin 8 → Option ClauseWait) : Act :=
  Act.clauseSlotStep t fun s r n =>
    if 2 < p then Act.clauseFail t r 2
    else match w s n with
      | some x => (Act.setB (F.SLT_STAT.busy n) true).andThen (Act.clauseWait t x)
      | none => Act.clauseFail t r 3

/-- PMIC_ON (R71). -/
def Act.pmicOnInstr (t : Fin 9) (p : Nat) : Act := Act.i3c t p fun _ n => some (.pmicOn (3 * n + p))

def execPmicOn (t : Fin 9) (p : Nat) (s : State) : Host.Outcome State Fault Refusal := (Act.pmicOnInstr t p).go s

/-- PMIC_OFF (R71). -/
def Act.pmicOffInstr (t : Fin 9) (p : Nat) : Act := Act.i3c t p fun _ n => some (.pmicOff (3 * n + p))

def execPmicOff (t : Fin 9) (p : Nat) (s : State) : Host.Outcome State Fault Refusal := (Act.pmicOffInstr t p).go s

/-- PMIC_VSET: only within SEQ_PMIC_LIM (R69). -/
def Act.pmicVset (t : Fin 9) (p rail mv : Nat) : Act :=
  Act.i3c t p fun s n =>
    if s.fld F.SEQ_PMIC_LIM.vmin ≤ mv && mv ≤ s.fld F.SEQ_PMIC_LIM.vmax then some (.pmicVset (3 * n + p) rail mv) else none

def execPmicVset (t : Fin 9) (p rail mv : Nat) (s : State) : Host.Outcome State Fault Refusal :=
  (Act.pmicVset t p rail mv).go s

/-- A PMBus instruction on a domain of kind 1 of the binding; another kind fails with reason 2. -/
def Act.pmbus (t : Fin 9) (d : Nat) (body : State → ClauseRun → Fin 48 → Act) : Act :=
  Act.clauseDom t d fun s r d => if s.fld (F.SEQ_DOM_CFG.kind d) = 1 then body s r d else Act.clauseFail t r 2

/-- REG_ON (R71, R160). -/
def Act.regOn (t : Fin 9) (d : Nat) : Act :=
  Act.pmbus t d fun s r d => if s.domBarred d then Act.clauseFail t r 5 else Act.clauseWait t (.regOn d)

def execRegOn (t : Fin 9) (d : Nat) (s : State) : Host.Outcome State Fault Refusal := (Act.regOn t d).go s

/-- REG_OFF (R71). -/
def Act.regOff (t : Fin 9) (d : Nat) : Act := Act.pmbus t d fun _ _ d => Act.clauseWait t (.regOff d)

def execRegOff (t : Fin 9) (d : Nat) (s : State) : Host.Outcome State Fault Refusal := (Act.regOff t d).go s

/-- REG_VSET: only within the domain's vset window (R71). -/
def Act.regVset (t : Fin 9) (d mv : Nat) : Act :=
  Act.pmbus t d fun s r d =>
    if s.fld (F.SEQ_DOM_BUS.vset_min d) * 10 ≤ mv && mv ≤ s.fld (F.SEQ_DOM_BUS.vset_max d) * 10 then
      Act.clauseWait t (.regVset d mv)
    else Act.clauseFail t r 3

def execRegVset (t : Fin 9) (d mv : Nat) (s : State) : Host.Outcome State Fault Refusal := (Act.regVset t d mv).go s

/-- A transfer has been acknowledged. -/
def Act.transferOk (t : Fin 9) (r : ClauseRun) (w : ClauseWait) : Act :=
  match w with
  | .pmicOn m => (Act.seqx fun q => { q with pmicOn := setBit q.pmicOn m }).andThen (Act.clauseOk t r)
  | .pmicOff m => (Act.pmicOffNow m).andThen (Act.clauseOk t r)
  | .pmicVset m rail mv =>
    (Act.seqx fun q => { q with pmicSet := (m, rail, mv) :: q.pmicSet.filter fun p => !(p.1 == m && p.2.1 == rail) }).andThen
      (Act.clauseOk t r)
  | .regOn d =>
    (match domNo d with
     | some d => Act.seq [Act.dom d fun x => { x with operation := true }, Act.modRun t fun r => { r with wait := none },
        Act.clauseDomOn t r d]
     | none => Act.skip)
  | .regOff d =>
    (match domNo d with
     | some d => Act.seq [Act.dom d fun x => { x with operation := false }, Act.domOff d, Act.clauseOk t r]
     | none => Act.skip)
  | .regVset d mv =>
    (match domNo d with
     | some d => (Act.dom d fun x => { x with vout := some mv, base := if x.base.isSome then some mv else none }).andThen
        (Act.clauseOk t r)
     | none => Act.skip)
  | _ => Act.skip

/-- SIDEBAND_TRANSFER_DONE: acknowledged, not acknowledged (reason 4), or a setpoint refused by locked registers (reason
3); a locked module can be switched on and off (R69, R71). -/
def Act.sidebandTransferDone (t : Fin 9) (x : XferResult) : Act :=
  Act.clauseWake t fun _ r w =>
    Act.when w.isTransfer (Act.seq [
      (if h : t.val < 8 then Act.setB (F.SLT_STAT.busy (⟨t, h⟩ : Fin 8)) false else Act.skip),
      (match x with
       | .ack => Act.transferOk t r w
       | .nack => Act.clauseFail t r 4
       | .locked =>
         match w with
         | .pmicVset _ _ _ => Act.clauseFail t r 3
         | w => Act.transferOk t r w)])

def execSidebandTransferDone (t : Fin 9) (r : XferResult) (s : State) : Host.Outcome State Fault Refusal :=
  (Act.sidebandTransferDone t r).go s

/-! ## Resets, muxes, time and events -/

/-- RST_ASSERT: SLOTn_RST_N is driven low (R71, R84). -/
def Act.rstAssert (t : Fin 9) : Act :=
  Act.clauseSlotStep t fun _ r n => (Act.rstDrive n true).andThen (Act.clauseOk t r)

def execRstAssert (t : Fin 9) (s : State) : Host.Outcome State Fault Refusal := (Act.rstAssert t).go s

/-- RST_RELEASE: SLOTn_RST_N is released; a slot-flash update keeps it low (R71, R84, R405). -/
def Act.rstRelease (t : Fin 9) : Act :=
  Act.clauseSlotStep t fun _ r n => (Act.rstDrive n false).andThen (Act.clauseOk t r)

def execRstRelease (t : Fin 9) (s : State) : Host.Outcome State Fault Refusal := (Act.rstRelease t).go s

/-- WAIT_SLOT_PG (R71). -/
def Act.waitSlotPg (t : Fin 9) : Act :=
  Act.clauseSlotStep t fun s r n => if s.flag (F.SLT_STAT.pg n) then Act.clauseOk t r else Act.clauseWait t .slotPg

def execWaitSlotPg (t : Fin 9) (s : State) : Host.Outcome State Fault Refusal := (Act.waitSlotPg t).go s

/-- FLASH_MUX: owner 0 is the device, 1 the CT856; what another owner selects is open, a free value (R6, R71, R232). -/
def Act.flashMux (t : Fin 9) (owner : Nat) : Act :=
  Act.clauseSlotStep t fun s r n =>
    if s.pins[n].flashHold then Act.clauseFail t r 6
    else if owner < 2 then (Act.setB (F.SLT_STAT.fl_sel n) (owner == 1)).andThen (Act.clauseOk t r)
    else (Act.fresh fun v => Act.setF (F.SLT_STAT.fl_sel n) v.toNat).andThen (Act.clauseOk t r)

def execFlashMux (t : Fin 9) (owner : Nat) (s : State) : Host.Outcome State Fault Refusal := (Act.flashMux t owner).go s

/-- WAIT_TIME (R71). -/
def Act.waitTime (t : Fin 9) (us : Nat) : Act :=
  Act.clauseStep t fun s _ => Act.clauseWait t (.time (s.tns.tick + us))

def execWaitTime (t : Fin 9) (us : Nat) (s : State) : Host.Outcome State Fault Refusal := (Act.waitTime t us).go s

/-- WAIT_TIME_EXPIRY (R71). -/
def Act.waitTimeExpiry (t : Fin 9) : Act :=
  Act.clauseWake t fun s r w =>
    match w with
    | .time u => if u ≤ s.tns.tick then Act.clauseOk t r else Act.skip
    | _ => Act.skip

def execWaitTimeExpiry (t : Fin 9) (s : State) : Host.Outcome State Fault Refusal := (Act.waitTimeExpiry t).go s

/-- EVENT: an info record with the binding, the clause slot and the instruction index (R71). -/
def Act.clauseEvent (t : Fin 9) (code : BitVec 16) : Act :=
  Act.clauseStep t fun s r =>
    (Act.emit (coreSource r.core) code.toNat 1 [t, r.slot, ((s.core r.core).gpr[9]).toNat % 4096]).andThen
      (Act.clauseOk t r)

def execEvent (t : Fin 9) (code : BitVec 16) (s : State) : Host.Outcome State Fault Refusal := (Act.clauseEvent t code).go s

/-- PG_TIMEOUT: the power-good of a domain, of the eFuse or of the slot does not come in time (R67, R71). -/
def Act.pgTimeout (t : Fin 9) : Act :=
  Act.clauseWake t fun s r w =>
    let past (us : Nat) : Bool := r.since + us ≤ s.tns.tick
    match w with
    | .pg d => Act.when (past (s.pgTimeout d - r.used d)) (Act.domTimeout t r d)
    | .efuse => Act.when (past (s.fld (F.SEQ_EFUSE_CFG.pg_timeout t) * 1000)) (Act.clauseFail t r 1)
    | .slotPg => Act.when (past 1000000) (Act.clauseFail t r 1)
    | _ => Act.skip

def execPgTimeout (t : Fin 9) (s : State) : Host.Outcome State Fault Refusal := (Act.pgTimeout t).go s

/-! ## Power-goods -/

/-- A power-good has turned good: the clause of target t goes on if it waits for it. -/
def Act.pgWake (t : Fin 9) (w : ClauseWait) : Act :=
  Act.clauseWake t fun _ r x =>
    Act.when (x = w) ((Act.modRun t fun r => match w with | .pg d => r.counted d | _ => r).andThen (Act.clauseOk t r))

/-- DOM_PG_GOOD (R66, R71): an input of what is enabled has turned good. -/
def Act.domPgGood (p : PgInput) : Act :=
  Act.get fun s =>
    if !s.powered then Act.skip
    else match p with
    | .dom d => Act.when (s.domOn d) (Act.seq [
        Act.setFBit (F.SEQ_DOM_PG.pg (d / 32)) (d % 32) true,
        Act.dom d fun x => { x with pgSeen := true },
        (match targetOf (s.domOwner d) with
         | some t => Act.pgWake t (.pg d)
         | none => Act.skip)])
    | .efuse n => Act.when (s.efuseOn n)
        ((Act.setFBit F.SEQ_EFUSE_STATUS.pg n true).andThen (Act.pgWake ⟨n, by omega⟩ .efuse))
    | .slot n => (Act.setB (F.SLT_STAT.pg n) true).andThen (Act.pgWake ⟨n, by omega⟩ .slotPg)

def execDomPgGood (p : PgInput) (s : State) : Host.Outcome State Fault Refusal := (Act.domPgGood p).go s

/-- What domain d's fault_action asks for (R68). -/
def Act.domFault (d : Fin 48) : Act :=
  Act.get fun s =>
    match targetOf (s.domOwner d) with
    | none => Act.skip
    | some t =>
      match s.fld (F.SEQ_DOM_CFG.fault_action d) with
      | 0 => Act.skip
      | 1 => Act.domOff d
      | 2 => Act.targetFails t
      | _ => if h : t.val < 8 then Act.slotFail ⟨t, h⟩ 14 else Act.targetFails t

/-- DOM_PG_LOST: an enabled domain that has once been good has lost power-good (R68). -/
def Act.domPgLost (d : Fin 48) : Act :=
  Act.get fun s =>
    if s.powered && s.domOn d && s.doms[d].pgSeen && s.domPg d then
      Act.withFeeds (Act.seq [
        Act.setFBit (F.SEQ_DOM_PG.pg (d / 32)) (d % 32) false,
        Act.setFBit (F.SEQ_DOM_FAULT.fault (d / 32)) (d % 32) true,
        Act.domFault d,
        Act.emit (s.clauseSource (s.domOwner d)) 0x0203 3 [d, s.fld (F.SEQ_DOM_CFG.fault_action d)]])
    else Act.skip

def execDomPgLost (d : Fin 48) (s : State) : Host.Outcome State Fault Refusal := (Act.domPgLost d).go s

/-! ## Start and end -/

/-- Whether core k runs no clause (R70). -/
def State.clauseFree (s : State) (k : Nat) : Bool :=
  s.targets.toList.all fun t => match t.run with | some r => r.core.val != k | none => true

/-- Whether no clause that became due earlier waits for the core of target t's clause (R70). -/
def State.dueFirst (s : State) (t : Fin 9) : Bool :=
  (List.finRange 9).all fun u =>
    u == t || s.clauseCore u != s.clauseCore t || (s.target u).due = .none || (s.target u).run.isSome ||
      (s.target t).dueNo ≤ (s.target u).dueNo

/-- The runtime starts the clause of clause slot n, bank b, on core k (R229). -/
def Act.clauseEnter (k : Fin 13) (n b : Nat) : Act :=
  Act.get fun s =>
    let a := clauseBank n b
    let page := a / 4096
    let data := s.bytes (a + 64 + s.hdr a 8 2) (min (s.hdr a 10 2) 4096)
    let c := s.core k
    Act.seq [
      Act.store (a + 0x3000) (data ++ List.replicate (4096 - data.length) 0#8),
      Act.each (List.finRange 32) fun g => Act.setGpr k g (if g = 2 then BitVec.ofNat 64 (a + 0x4000) else 0#64),
      Act.core k fun c => { c with
        regions := Vector.ofFn fun i : Fin 4 =>
          if i = 0 then ⟨page, page + 2, 11⟩ else if i = 1 then ⟨page + 3, page + 3, 7⟩ else Region.reset,
        pbudget := s.clauseBudget a, wait := none, run := .running },
      Act.setMode k true true c.pie c.ie false,
      Act.setPc k (a + 64 + s.hdr a 12 2)]

/-- CLAUSE_START: the clause that is due for target t starts on its core, when that is free and no other became due before
it (R70, R229). -/
def Act.clauseStart (t : Fin 9) : Act :=
  Act.get fun s =>
    let x := s.target t
    let up := x.due = .up
    let n := if up then s.fld (F.SEQ_BIND.up t) else s.fld (F.SEQ_BIND.down t)
    match coreNo (s.clauseCore t), clauseNo n with
    | some k, some n =>
      if !s.powered || x.due = .none || x.run.isSome || k.val < 3 || !s.coreUp k || !s.clauseFree k ||
          !s.dueFirst t then Act.skip
      else if !up && !s.flag (F.SEQ_BIND.down_valid t) then
        Act.withFeeds (Act.seq [Act.due t .none, Act.downPath t,
          Act.bindState t (if x.due = .downFault then 3 else 0), Act.settle])
      else if !(s.clauseSlot n).loaded then Act.skip
      else
        let b := (s.clauseSlot n).bank
        Act.seq [
          Act.target t fun y => { y with
            due := .none,
            run := some ⟨k, n, b, up, y.due = .downFault, false, s.tns.tick, none, s.tns.tick, [], false⟩ },
          Act.setF (F.SEQ_CLAUSE_STAT.clause t) n,
          Act.when up (Act.seq [
            Act.bindState t 1,
            Act.when (t.val < 8 && bitOf (s.fld F.RST_ABORT.asserted) t && bitOf (s.fld F.RST_ABORT.failed) t)
              (Act.abortUp [t.val])]),
          Act.emit (coreSource k) 0x0200 1 [t, n],
          Act.clauseEnter k n b]
    | _, _ => Act.skip

def execClauseStart (t : Fin 9) (s : State) : Host.Outcome State Fault Refusal := (Act.clauseStart t).go s

/-- END: the clause is complete and the binding's state follows why it ran (R71, R72); at the end of the tray's
down-clause the gate request goes off.  At the end of an up-clause what the regulators of its domains hold becomes the base
of their margins (R113). -/
def Act.clauseEnd (t : Fin 9) : Act :=
  Act.clauseStep t fun s r =>
    Act.seq [
      Act.stopClause t,
      Act.bindState t (if r.onFail || r.toFault then 3 else if r.up then 2 else 0),
      Act.when (t = 8 && !r.up) Act.gateOff,
      Act.when (r.up && !r.onFail && !r.toFault) (Act.each (s.ownedDomains t) fun d =>
        Act.when (s.fld (F.SEQ_DOM_CFG.kind d) = 1) (Act.dom d fun x => { x with base := some (s.voutOf d) })),
      Act.emit (coreSource r.core) 0x0201 1 [t, s.tns.tick - r.started]]

def execClauseEnd (t : Fin 9) (s : State) : Host.Outcome State Fault Refusal := (Act.clauseEnd t).go s

end Sys2Proof.Machine
end

