-- ==== Sys2Proof/Machine/Caps.lean ====
section
/-!
DEFINITION. Caps, floors and the slot budget (R95 to R98), and the rule-based caps (R79, R287).
-/
namespace Sys2Proof.Machine

/-! ## Budget and floors -/

/-- The slots that are ON. -/
def State.slotsOn (s : State) : List (Fin 8) := (List.finRange 8).filter fun (n : Fin 8) => s.bindState n = 2

/-- The slot budget in W; none where the tray has no cap (R96). -/
def State.slotBudget (s : State) : Option Nat :=
  (s.effCap 8).map fun c => c - max (s.fld F.CAP_TRAY_RSV.watts) s.nonSlot

/-- The effective cap of slot n. -/
def State.slotCap (s : State) (n : Fin 8) : Option Nat := s.effCap ⟨n, by omega⟩

/-- A value bounded by a cap, if there is one. -/
def capped (c : Option Nat) (v : Nat) : Nat := match c with | some c => min c v | none => v

/-- The floor of slot n's owner, bounded by the slot's effective cap; 0 without an owner (R98). -/
def State.ownFloor (s : State) (n : Fin 8) : Nat :=
  match s.owner n with
  | some c => capped (s.slotCap n) (s.fld (F.CAP_FLOOR.watts n c))
  | none => 0

/-- The sum of the owners' bounded floors over the slots that are ON. -/
def State.floorSum (s : State) : Nat := s.slotsOn.foldl (fun a n => a + s.ownFloor n) 0

/-- The budget that scales the floors, if the floors do not fit in it. -/
def State.floorScale (s : State) : Option Nat := s.slotBudget.filter fun b => b < s.floorSum

/-- The floor of slot n after scaling, in whole watts (R98); a slot that is not ON is not scaled. -/
def State.scaledFloor (s : State) (n : Fin 8) : Nat :=
  match s.floorScale with
  | some b => if s.bindState n = 2 then s.ownFloor n * b / s.floorSum else s.ownFloor n
  | none => s.ownFloor n

/-- CAP_STATUS.floor_scale: the scale in 1/65,536, rounded down; 0xFFFF is no reduction. -/
def State.scaleCode (s : State) : Nat :=
  match s.floorScale with
  | some b => b * 65536 / s.floorSum
  | none => 0xFFFF

/-- The reduction of the floors in %, rounded up to the next multiple of 10 (R98). -/
def State.reduction (s : State) : Nat :=
  match s.floorScale with
  | some b => ceilDiv ((s.floorSum - b) * 10) s.floorSum * 10
  | none => 0

/-- Tell the contexts, each in its own log, that their floors are reduced or whole again, and record the device's event,
when the scale first drops below 1 and when it returns to 1 (R98). -/
def Act.floorEvents : Act :=
  Act.get fun s =>
    let low := s.floorScale.isSome
    if low == s.caps.scaled then Act.skip
    else
      let hit : List (Nat × Nat) := s.slotsOn.filterMap fun (n : Fin 8) =>
        (s.owner n).bind fun c => if s.scaledFloor n < s.ownFloor n then some (n.val, c) else none
      Act.seq [
        Act.each (if low then hit else s.caps.told) fun p => Act.ctxLog (Fin.ofNat 8 p.1) p.2 0x0403 [s.reduction],
        Act.capsx fun c => { c with scaled := low, told := if low then hit else [] },
        Act.emit 0x02 0x0403 2 [s.scaleCode]]

/-- The caps ordered since the last control tick, or step of R79, are in force from now on (R95). -/
def Act.capsApply : Act :=
  Act.each (List.finRange 9) fun t => Act.target t fun x =>
    { x with capM := x.newM.getD x.capM, capH := x.newH.getD x.capH, newM := none, newH := none }

/-- Show the effective caps, the slot budget and the floors as of a control tick, or of a step of R79 (R95, R96, R98). -/
def Act.capsRefresh : Act :=
  Act.get fun s =>
    Act.seq [
      Act.setF F.CAP_TRAY.eff (capCode (s.effCap 8)),
      Act.setF F.CAP_TRAY.budget (capCode s.slotBudget),
      Act.each (List.finRange 8) fun n => Act.setF (F.CAP_SLOT_ALLOC.eff n) (capCode (s.slotCap n)),
      Act.setF F.CAP_STATUS.floor_scale s.scaleCode,
      Act.each (List.finRange 8) fun n => Act.each (List.range 16) fun c =>
        Act.setF (F.CAP_FLOOR.eff n c) (if s.owner n = some c then s.scaledFloor n else 0),
      Act.floorEvents]

/-! ## Fast power (R96) -/

/-- A slot's mean metered power in mW as the export mirror has it. -/
def State.metered (s : State) (n : Fin 8) : Nat := (s.its.mirror.reads[(⟨n.val + 1, by omega⟩ : Fin 9)]).power.toNat

/-- The trim with which the mean of cnt fast powers of the given sum would have been the metered power, to the nearest
(log entry 20). -/
def trimFor (trim metered sum cnt : Nat) : Nat :=
  if sum = 0 then trim else clip16 (roundUp ((trim * metered * cnt : Nat) : Int) (1000 * sum))

/-- Take the fast powers of this control tick into the mean, and set the trims each millisecond, that is at every 40th
tick. -/
def Act.trimTick : Act :=
  Act.get fun s =>
    let sum : Vector Nat 8 := Vector.ofFn fun n : Fin 8 => s.caps.fastSum[n] + s.fld (F.CAP_SLOT_FAST.watts n)
    let cnt := s.caps.fastCnt + 1
    if cnt < 40 then Act.capsx fun c => { c with fastSum := sum, fastCnt := cnt }
    else Act.seq [
      Act.each (List.finRange 8) fun n => Act.when (s.flag (F.CAP_SLOT_CFG.en n))
        (Act.setF (F.CAP_SLOT_FAST.trim n) (trimFor (s.fld (F.CAP_SLOT_FAST.trim n)) (s.metered n) sum[n] cnt)),
      Act.capsx fun c => { c with fastSum := Vector.replicate 8 0, fastCnt := 0 }]

/-! ## Rule-based caps (R79) -/

/-- How many slots are SEQUENCING or ON, at least 1. -/
def State.sharers (s : State) : Nat :=
  max 1 ((List.range 8).countP fun n => s.bindState n = 1 || s.bindState n = 2)

/-- The tray's share times the number of sharers. -/
def State.shareTotal (s : State) : Nat := capped (s.effCap 8) (s.fld F.SEQ_RBCAP_TRAY.watts)

/-- The rule-based cap of slot n in W, times the number of sharers. -/
def State.ruleCap (s : State) (n : Fin 8) : Nat :=
  min (capped (s.slotCap n) (s.fld F.SEQ_RBCAP_SLOT.watts) * s.sharers) s.shareTotal

/-- The pause duty of slot n one step on: up while the metered power is above the cap, down while it is below 95 % of it. -/
def State.ruleDuty (s : State) (n : Fin 8) : Nat :=
  let d := s.quaGoal n
  let step := s.fld F.SEQ_RBCAP_SLOT.step
  let p := s.metered n * s.sharers
  if s.ruleCap n * 1000 < p then min 1023 (d + step)
  else if p * 100 < s.ruleCap n * 95000 then d - step
  else d

/-- One step of the rule for every slot; each allocation channel receives the slot's cap to the nearest watt (R79, R287,
R466). -/
def Act.ruleCaps : Act :=
  Act.get fun s =>
    Act.each (List.finRange 8) fun n =>
      (Act.when (s.ruleDuty n ≠ s.quaGoal n) (Act.quaTarget n (s.ruleDuty n))).andThen
        (Act.quaTarget (8 + n) (clip16 (roundUp (s.ruleCap n) s.sharers)))

/-- The droop fallback: channels 36 and 37 at their effective maxima (R287). -/
def Act.ceilings : Act :=
  Act.get fun s => (Act.quaTarget 36 (s.quaMax 36)).andThen (Act.quaTarget 37 (s.quaMax 37))

/-- Whether learned control runs: a service image in ACTIVE. -/
def State.learns (s : State) : Bool := s.svcRuns && s.active

/-- Whether a role is on its fallback: no learned control, or its built-in controller is demoted (R287). -/
def State.fallsBack (s : State) (r : Fin 4) : Bool :=
  !s.learns || (s.learned.roles[r].demoted && s.learned.roles[r].holder.isNone)

/-- RB_CAP_STEP: every 1 ms, under the resident image or while the cap-sharing role is demoted (R79, R172, R287). -/
def Act.rbCapStep : Act :=
  Act.get fun s =>
    if s.powered && s.coreUp 1 && s.fallsBack 1 then Act.seq [
      Act.when (!s.learns) Act.heartbeat,
      Act.when (!s.learns) (Act.capsApply.andThen Act.capsRefresh),
      Act.ruleCaps,
      Act.when (s.fallsBack 2) Act.ceilings]
    else Act.skip

def execRbCapStep (s : State) : Host.Outcome State Fault Refusal := Act.rbCapStep.go s

end Sys2Proof.Machine
end

