-- ==== Sys2Proof/Machine/Plan.lean ====
section
/-!
DEFINITION. Release planning: pending releases, whether the tray carries a step without grants, and the start ramps that are
granted (R110 to R115, R119, R120, R128).
-/
namespace Sys2Proof.Machine

/-! ## Hints (R110) -/

/-- The intent field of slot n's newest activity frame. -/
def State.intent (s : State) (n : Nat) : Nat := s.fld (F.CMA_INTENT.intent n)

/-- The barrier_tag, load_hint and intent_us of an intent field (R88). -/
def intentTag (i : Nat) : Nat := i % 256
def intentLoad (i : Nat) : Nat := i / 2 ^ 8 % 256
def intentUs (i : Nat) : Nat := i / 2 ^ 16 % 4096

/-- Whether slot n has a pending release: its link is UP and its hint is valid and names a barrier release. -/
def State.pendingRelease (s : State) (n : Nat) : Bool :=
  s.linkState n = 2 && bitOf (s.intent n) 31 && s.intent n / 2 ^ 28 % 8 = 0

/-- What slot n is expected to draw after its release: the droop predictor's estimate, or the hint; bounded by the
allocation. -/
def State.post (s : State) (n : Fin 8) : Nat :=
  let alloc := s.quaOut (8 + n)
  match s.learned.posts[n] with
  | some p => min p alloc
  | none => if intentLoad (s.intent n) = 0 then alloc else min (intentLoad (s.intent n) * 8) alloc

/-- The predicted step of slot n. -/
def State.step (s : State) (n : Fin 8) : Nat := s.post n - s.fld (F.CAP_SLOT_FAST.watts n)

/-! ## What the tray carries (R112, R114) -/

/-- C_bus in W, times 40; the achieved margin is in 0.1 %. -/
def State.busStep40 (s : State) : Int :=
  let w6 : Int := s.fld F.BUF_BUS_STEP.w6
  w6 * 40 + ((s.fld F.BUF_BUS_STEP.w10 : Int) - w6) * ((s.achieved : Int) - 60)

/-- Whether C_bus has been declared; a declared value of 0 makes every release need grants (R112). -/
def State.busDeclared (s : State) : Bool := s.fld F.BUF_BUS_STEP.w6 ≠ 0 && s.fld F.BUF_BUS_STEP.w10 ≠ 0

/-- What the plans whose release is awaited take of a quantity, so that a later release is planned against the capacity that
remains (R111; DESIGN CHOICE, log entry 81). -/
def State.reserved (s : State) (f : Plan → Nat) : Nat := (s.conv.plans.map f).sum

/-- P_avail in W, times 10,000, less the present discharge power (R128) and what awaited releases take of it. -/
def State.availPower (s : State) : Int :=
  let bank := s.fld F.BUF_BANK_V.vbank * s.fld F.BUF_BANK_CFG.ibank_max * s.fld F.BUF_BANK_CFG.eff
  let m := min (min (s.quaOut 36) s.disLim) (if s.flag F.BUF_STATUS.rest then 2000 else 65535) * 10000
  (min m bank : Nat) - max 0 s.conv.power * 10000 - (s.reserved Plan.power : Int)

/-- E_avail in J, times 2 × 10^9, less what awaited releases take of it. -/
def State.availEnergy (s : State) : Nat :=
  let v := s.fld F.BUF_BANK_V.vbank
  s.fld F.BUF_BANK_CFG.cap * (v * v - s.bankVfloor * s.bankVfloor) * s.fld F.BUF_BANK_CFG.eff - s.reserved Plan.energy

/-- Whether the buffer is usable for a step of dp W; after a failed phase it is not (R112, R126). -/
def State.bufUsable (s : State) (dp : Nat) : Bool :=
  s.disOk && s.fld F.BUF_STATUS.phase_fail = 0 && s.fld F.BUF_STATUS.mode ≠ 0 && s.fld F.BUF_STATUS.mode ≠ 5 && !s.flag F.BUF_STATUS.rest &&
    dp ≤ 20 * s.fld F.BUF_SLOPE_CFG.slope

/-- Whether a step of dp W is carried without grants (R114). -/
def State.carried (s : State) (dp : Nat) : Bool :=
  s.busDeclared && (dp : Int) * 40 + (s.reserved Plan.bus * 40 : Nat) ≤ s.busStep40 && s.bufUsable dp && (dp : Int) * 10000 ≤ s.availPower &&
    dp * dp * 1000000 ≤ s.availEnergy * s.fld F.BUF_SLOPE_CFG.slope

/-- A quotient rounded up, at least 0. -/
def ceilQ (num : Int) (den : Nat) : Nat := if den = 0 then 0 else (-(-num / (den : Int))).toNat

/-- How many steps a staircase has. -/
def State.rampSteps (s : State) : Nat := ceilDiv (s.fld F.BUF_RAMP_CFG.duty_start) (max 1 (s.fld F.BUF_RAMP_CFG.duty_step))

/-- How many us pass between the first and the last of n staggered releases. -/
def State.staggerSpan (s : State) (n : Nat) : Nat := (n - 1) * s.fld F.BUF_RAMP_CFG.stagger_us

/-- The least step period for n slots. -/
def State.framesMin (s : State) (n : Nat) : Nat := max (s.fld F.BUF_RAMP_CFG2.min_frames) (s.staggerSpan n + 1)

/-- T_L for n slots and a step of dp W, in whole us rounded up. -/
def State.loadTime (s : State) (n dp : Nat) : Nat :=
  let slope := s.fld F.BUF_SLOPE_CFG.slope
  let span := s.staggerSpan n + s.rampSteps * s.framesMin n
  if s.bufUsable dp then
    max span (max (ceilQ ((dp : Int) * 10000 - s.availPower) (10 * slope))
      (ceilQ ((dp * dp * 1000000 : Nat) - (s.availEnergy * slope : Nat) : Int) (1000 * dp * slope)))
  else max span (ceilDiv (dp * 1000) slope)

/-- The step period of the plan before it is kept within 1,023 frames. -/
def State.stepFrames (s : State) (n dp : Nat) : Nat :=
  max (s.framesMin n) (ceilDiv (s.loadTime n dp - s.staggerSpan n) (max 1 s.rampSteps))

/-! ## Planning (R111, R114, R115, R120) -/

/-- What CMA_RAMP shows of a release at a tick: the us that remain at the next frame, at most 255 (R115). -/
def rampStart (release now : Nat) : Nat := min 255 (release - (now + 1))

/-- Grant slot n a release (R115). While an earlier staircase of the slot runs, BUF_RAMP_STAT goes on showing that one until
the ramp_start-0 frame. -/
def Act.grantRamp (n : Fin 8) (release frames : Nat) : Act :=
  Act.get fun s =>
    let id := (s.fld (F.CMA_RAMP.ramp_id n) + 1) % 16
    Act.seq [
      Act.setF (F.CMA_RAMP.ramp_id n) id,
      Act.setF (F.CMA_RAMP.ramp_start n) (rampStart release s.tns.tick),
      Act.setB (F.CMA_RAMP.valid n) true,
      Act.setB (F.BUF_RAMP_STAT.active n) true,
      Act.when s.ramps[n].stair.isNone (Act.seq [
        Act.setB (F.BUF_RAMP_STAT.released n) false,
        Act.setF (F.BUF_RAMP_STAT.step_frames n) frames,
        Act.setF (F.BUF_RAMP_STAT.ramp_id n) id]),
      Act.ramp n fun r => { r with next := frames }]

/-- Note that slot n's release has been planned for a tick and is awaited. -/
def Act.markPlanned (n : Fin 8) (tag release : Nat) : Act :=
  Act.ramp n fun r => { r with planned := true, awaits := true, zeroAt := none, tag := tag, releaseAt := release }

/-- The plan of a release of dp W over tl µs (0 without grants) by the slots of a mask, the earliest at a tick: READY is due
lead_us before it, and held until hold_max_us after it (R120).  Without grants it takes the whole step of the bus and of the
buffer; with them the buffer's difference of R114 alone. -/
def State.planOf (s : State) (slots release dp tl : Nat) : Plan :=
  let slope := s.fld F.BUF_SLOPE_CFG.slope
  { slots := slots
    readyAt := max s.tns.tick (release - s.fld F.BUF_RAMP_CFG2.lead_us)
    holdTill := release + s.fld F.BUF_RAMP_CFG2.hold_max_us
    readied := false
    bus := if tl = 0 then dp else 0
    power := if s.bufUsable dp then dp * 10000 - slope * tl * 10 else 0
    energy := if s.bufUsable dp then dp * (ceilDiv (dp * 1000000) slope - tl * 1000) else 0 }

/-- Plan one release: its slots with their hinted times, in order (R111, R114, R115). -/
def Act.planRelease (g : List (Fin 8 × Nat)) : Act :=
  Act.get fun s =>
    match g with
    | [] => Act.skip
    | (_, t0) :: _ =>
      let dp := g.foldl (fun a p => a + s.step p.1) 0
      let free := s.carried dp
      let want := s.stepFrames g.length dp
      let frames := if free then 0 else min 1023 want
      let tl := if free then 0 else s.loadTime g.length dp
      let times := g.zipIdx.map fun p =>
        (p.1.1, if free then p.1.2 else max p.1.2 (t0 + p.2 * s.fld F.BUF_RAMP_CFG.stagger_us))
      Act.seq [
        Act.bump F.BUF_REL_PLANNED.count,
        Act.setF F.BUF_PLAN.dp_w (min dp 65535),
        Act.setF F.BUF_PLAN.tl (min (tl / 10) 65535),
        Act.each times fun p => Act.markPlanned p.1 (intentTag (s.intent p.1)) p.2,
        Act.when (!free) (Act.each times fun p => Act.grantRamp p.1 p.2 frames),
        Act.convx fun c => { c with plans := c.plans ++ [s.planOf (maskOf (g.map fun p => p.1.val)) t0 dp tl] },
        Act.emit 0x02 0x0500 1 [maskOf (g.map fun p => p.1.val), if s.conf then 0 else dp, tl, frames],
        Act.when (!free && 1023 < want) (Act.emit 0x02 0x0501 2 [tl, frames])]

/-- The releases among pending slots in order of time and number: those that share the earliest one's barrier_tag and lie
within the window of it, then the rest (R111). -/
def groupReleases (tag : Fin 8 → Nat) (window : Nat) : Nat → List (Fin 8 × Nat) → List (List (Fin 8 × Nat))
  | 0, _ => []
  | _, [] => []
  | fuel + 1, (n, t) :: l =>
    let mine (p : Fin 8 × Nat) : Bool := tag p.1 == tag n && decide (p.2 ≤ t + window)
    ((n, t) :: l.filter mine) :: groupReleases tag window fuel (l.filter fun p => !mine p)

/-- The slots whose pending release has not been planned, with their hinted times, in order. -/
def State.unplanned (s : State) : List (Fin 8 × Nat) :=
  sortBy Prod.snd
    (((List.finRange 8).filter fun (n : Fin 8) => s.pendingRelease n && !s.ramps[n].planned && !s.ramps[n].lapsed).map
      fun (n : Fin 8) => (n, s.tns.tick + intentUs (s.intent n)))

/-- Whether slot n's hint is no longer the one that was planned; a link that is not UP shows none to compare (R110, R128).
-/
def State.hintGone (s : State) (n : Fin 8) : Bool :=
  s.linkState n = 2 && !(s.pendingRelease n && intentTag (s.intent n) = s.ramps[n].tag)

/-- A hint withdrawn before its ramp_start-0 frame clears the grant, with a record; an earlier staircase of the slot goes on
(R119).  A hint is planned once: only one that has gone makes way for another (R111). -/
def Act.withdrawn (n : Fin 8) : Act :=
  Act.get fun s =>
    let r := s.ramps[n]
    if r.planned && s.hintGone n then Act.seq [
      Act.when (r.awaits && r.zeroAt.isNone) (Act.seq [
        Act.when (s.flag (F.CMA_RAMP.valid n)) (Act.seq [
          Act.setB (F.CMA_RAMP.valid n) false,
          Act.setB (F.BUF_RAMP_STAT.active n) r.stair.isSome,
          Act.emit 0x02 0x0503 2 [n, s.fld (F.CMA_RAMP.ramp_id n)]]),
        Act.planDone n]),
      Act.ramp n fun r => { r with planned := false }]
    else Act.skip

/-- Rewrite a grant that stands, as at each control tick (R115). -/
def Act.rewriteGrant (n : Fin 8) : Act :=
  Act.get fun s =>
    Act.when (s.ramps[n].awaits && s.flag (F.CMA_RAMP.valid n))
      (Act.setF (F.CMA_RAMP.ramp_start n) (rampStart s.ramps[n].releaseAt s.tns.tick))

/-- The planning of one control tick. -/
def Act.planTick : Act :=
  Act.seq [
    Act.each (List.finRange 8) Act.withdrawn,
    Act.each (List.finRange 8) Act.rewriteGrant,
    Act.get fun s => Act.when (s.flag F.BUF_CTL.ramp_en)
      (Act.each (groupReleases (fun n => intentTag (s.intent n)) (s.fld F.BUF_RAMP_CFG.window_us) 8 s.unplanned)
        Act.planRelease)]

end Sys2Proof.Machine
end

