-- ==== Sys2Proof/Machine/Jobs.lean ====
section
/-!
DEFINITION. The Conjugator's jobs, tiles and partitions: launching, starting and ending a job, failed tiles, and zeroing a
partition (R236, R238, R248 to R254, R264 to R267).
-/
namespace Sys2Proof.Machine

/-! ## Jobs, threads and tiles -/

/-- Job j, free where it is not in use. -/
def State.job (s : State) (j : Nat) : Job := Sparse.get (fun _ => Job.reset) j s.jobs

/-- Change job j. -/
def Act.job (j : Nat) (f : Job → Job) : Act :=
  ⟨fun s => { s with jobs := Sparse.set (fun _ => Job.reset) j (f (s.job j)) s.jobs }, fun _ h => h, fun _ => rfl, fun _ => .refl _, fun _ h => ⟨h, rfl⟩⟩

/-- The threads of job j that have a context, by context. -/
def State.jobThreads (s : State) (j : Nat) : List (Nat × Thread) := s.threads.filter fun p => p.2.st ≠ .free && p.2.job == j

/-- Whether context t is free. -/
def State.ctxFree (s : State) (t : Nat) : Bool := (s.thread t).st = .free

/-- The number of active tiles. -/
def State.tileCount (s : State) : Nat := s.tiles.length

/-- The number of contexts in use. -/
def State.ctxUsed (s : State) : Nat := s.threads.countP fun p => p.2.st ≠ .free

/-- The number of contexts in use by jobs of priority 1. -/
def State.ctxUsed1 (s : State) : Nat := s.threads.countP fun p => p.2.st ≠ .free && (s.job p.2.job).prio ≠ 0

/-- The contexts that a priority could ever use (R238). -/
def State.ctxEver (s : State) (prio : Nat) : Nat :=
  if prio = 0 then 64 * s.tileCount else 64 * s.tileCount - 64 * s.fld F.CNJ_CTL.ctl_ctx

/-- The contexts that are free for a priority (R238). -/
def State.ctxAvail (s : State) (prio : Nat) : Nat :=
  let free := 64 * s.tileCount - s.ctxUsed
  if prio = 0 then free else min free (s.ctxEver 1 - s.ctxUsed1)

/-- Physical tile p has failed. -/
def State.tileFailed (s : State) (p : Nat) : Bool := bitOf (s.fld F.CNJ_TILE_FAIL.fail) p

/-- The spare tiles not yet used. -/
def State.tileSpares (s : State) : List Nat := (List.range 18).filter fun p => !s.tileFailed p && !s.tiles.contains p

/-- Replace the tile map. -/
def Act.setTiles (l : List Nat) : Act := ⟨fun s => { s with tiles := l }, fun _ h => h, fun _ => rfl, fun _ => .refl _, fun _ h => ⟨h, rfl⟩⟩

/-! ## Windows of a partition (R248) -/

/-- The tensor SRAM, DDR5 and shared SRAM windows of model slot m: base address and size in bytes. -/
def State.winTs (s : State) (m : Nat) : Nat × Nat :=
  (tensorBase + s.fld (F.CNJ_PART_TS.base m) * 0x10000, s.fld (F.CNJ_PART_TS.size m) * 0x10000)
def State.winDdr (s : State) (m : Nat) : Nat × Nat :=
  (ddrBase + s.fld (F.CNJ_PART_DDR.base m) * 0x1000000, s.fld (F.CNJ_PART_DDR.size m) * 0x1000000)
def State.winSh (s : State) (m : Nat) : Nat × Nat :=
  (sharedBase + s.fld (F.CNJ_PART_SH.base m) * 0x1000, s.fld (F.CNJ_PART_SH.size m) * 0x1000)

/-- Whether n bytes from an address lie in a window. -/
def inWindow (w : Nat × Nat) (a n : Nat) : Bool := w.1 ≤ a && a + n ≤ w.1 + w.2

/-- Whether a job of model slot m is queued, running or ending. -/
def State.slotBusy (s : State) (m : Nat) : Bool := s.jobs.any fun p => p.2.st ≠ .free && p.2.modeP && p.2.slot == m

/-! ## Launch (R249, R250) -/

/-- Whether a job of a mode may begin at an address (R247, R248). -/
def State.entryOk (s : State) (modeP : Bool) (slot a : Nat) : Bool :=
  if modeP then !s.flag (F.CNJ_PART_CTL.valid slot) || inWindow (s.winTs slot) a 4
  else inWindow (sharedBase, sharedSize) a 4 || inWindow (tensorBase, tensorSize) a 4

/-- A free job number. -/
def State.freeJob (s : State) : Option Nat := (List.range 64).find? fun j => (s.job j).st = .free

/-- The job record at an address, as read at the launch (R249). -/
def State.jobRecord (s : State) (k : Fin 13) (a : Nat) : Job :=
  { Job.reset with
    st := .queued, issuer := k, entry := s.nat a 8, arg := s.nat (a + 8) 8, done := s.nat (a + 16) 8,
    threads := s.nat (a + 24) 2, prio := min 1 (s.nat (a + 26) 1), modeP := s.nat (a + 27) 1 ≠ 0,
    slot := s.nat (a + 28) 1, limitUs := s.nat (a + 32) 4, accepted := s.tns.tick, order := s.jobSeq }

/-- The answer to a launch, in the order of the table of R250 (the order is the model's, log entry 21): 1 accepted. -/
def State.launchStatus (s : State) (k : Fin 13) (a : Nat) (r : Job) : Nat :=
  if !inShared a || a % 64 ≠ 0 || !inShared r.done || r.done % 8 ≠ 0 || !s.entryOk r.modeP r.slot r.entry then 2
  else if r.threads = 0 || s.ctxEver r.prio < r.threads then 3
  else if r.modeP && (16 ≤ r.slot || !s.flag (F.CNJ_PART_CTL.valid r.slot) || s.flag (F.CNJ_PART_CTL.zero r.slot)) then 4
  else if s.freeJob.isNone then 5
  else if (r.prio = 0 && k ≠ 1) || (k ≠ 1 && k ≠ 2) then 6
  else if !s.flag F.CNJ_CTL.en || !s.active then 7
  else 1

/-- Accept a job or refuse it, and answer in CNJ_LAUNCH_STAT. -/
def Act.launch (k : Fin 13) (status : Nat) (r : Job) : Act :=
  Act.get fun s =>
    match (if status = 1 then s.freeJob else none) with
    | some j => Act.seq [
        Act.job j fun _ => r,
        ⟨fun s => { s with jobSeq := s.jobSeq + 1 }, fun _ h => h, fun _ => rfl, fun _ => .refl _, fun _ h => ⟨h, rfl⟩⟩,
        Act.setF (F.CNJ_LAUNCH_STAT.job k) j,
        Act.setF (F.CNJ_LAUNCH_STAT.status k) 1]
    | none => (Act.setF (F.CNJ_LAUNCH_STAT.status k) status).andThen (Act.emit 0x23 0x0A05 2 [k, status])

/-- A write of CNJ_LAUNCH by core k. -/
def Act.launchWrite (k : Fin 13) (v : Nat) : Act :=
  Act.get fun s =>
    let a := v % 2 ^ 32 / 64 * 64
    let r := s.jobRecord k a
    Act.launch k (s.launchStatus k a r) r

/-- JOB_LAUNCH by core k, while the core runs. -/
def execJobLaunch (k : Fin 13) (v : BitVec 32) (s : State) : Host.Outcome State Fault Refusal :=
  (Act.get fun s => Act.when (s.powered && s.coreUp k) (Act.launchWrite k v.toNat)).go s

/-! ## Start (R251) -/

/-- The job at the head of a priority's queue. -/
def State.headJob (s : State) (prio : Nat) : Option (Nat × Job) :=
  (sortBy (fun p => p.2.order) (s.jobs.filter fun p => p.2.st = .queued && p.2.prio == prio)).head?

/-- The job that starts next: of priority 0 first, then of priority 1; a head that lacks contexts blocks its priority. -/
def State.nextJob (s : State) : Option (Nat × Job) :=
  match (s.headJob 0).filter fun p => p.2.threads ≤ s.ctxAvail 0 with
  | some p => some p
  | none => (s.headJob 1).filter fun p => p.2.threads ≤ s.ctxAvail 1

/-- The first free context of logical tile l. -/
def State.ctxOn (s : State) (l : Nat) : Option Nat := ((List.range 64).map (64 * l + ·)).find? s.ctxFree

/-- The context for thread i: on logical tile i mod T, or on the next that has one free. -/
def State.placeFor (s : State) (i : Nat) : Option Nat :=
  ((List.range s.tileCount).map fun d => (i + d) % s.tileCount).findSome? s.ctxOn

/-- Thread i of job j as it starts. -/
def Job.thread (r : Job) (j i : Nat) : Thread :=
  { Thread.reset with
    st := .running, job := j, num := i, pc := r.entry,
    gpr := (((Vector.replicate 32 0#64).set 10 (BitVec.ofNat 64 i)).set 11 (BitVec.ofNat 64 r.arg)).set 12
      (BitVec.ofNat 64 r.threads) }

/-- JOB_START: the next job's threads are placed and started. -/
def Act.jobStart : Act :=
  Act.get fun s =>
    match (if s.powered && s.active then s.nextJob else none) with
    | none => Act.skip
    | some (j, r) =>
      (Act.job j fun r => { r with st := .running }).andThen
        (Act.each (List.range r.threads) fun i => Act.get fun s =>
          match s.placeFor i with
          | some t => Act.thread t fun _ => r.thread j i
          | none => Act.skip)

def execJobStart (s : State) : Host.Outcome State Fault Refusal := Act.jobStart.go s

/-! ## End (R253, R254, R267, R297) -/

/-- Stop the threads of job j at their next instruction boundaries; their waits end with no effect. -/
def Act.stopThreads (j : Nat) : Act :=
  Act.get fun s => Act.each (s.jobThreads j) fun p => Act.thread p.1 fun t => { t with st := .ended, wait := none }

/-- Job j ends with a status (0 DONE, 1 FAULT, 2 ABORTED, 3 TIMEOUT) and a cause, unless it is ending already. -/
def Act.jobStops (j status cause : Nat) : Act :=
  Act.get fun s =>
    if (s.job j).st = .queued || (s.job j).st = .running then
      (Act.job j fun r => { r with st := .ending, status := status, cause := cause }).andThen (Act.stopThreads j)
    else Act.skip

/-- Thread context t faults: its job ends FAULT with the cause (R253). -/
def Act.threadFault (t cause : Nat) : Act :=
  Act.get fun s =>
    let j := (s.thread t).job
    if (s.job j).st = .running then
      (Act.job j fun r => { r with faultThread := (s.thread t).num, faultPc := (s.thread t).pc }).andThen
        (Act.jobStops j 1 cause)
    else Act.skip

/-- What thread context t has written becomes visible to every requester (R254, R258). -/
def Act.showWrites (t : Nat) : Act :=
  Act.get fun s =>
    (Act.each (s.thread t).pend fun x => if x.stores then Act.store x.addr x.bytes else Act.setBytes x.addr x.bytes).andThen
      (Act.thread t fun c => { c with pend := [] })

/-- The completion word of job j (R254). -/
def State.doneWord (s : State) (j : Nat) : Nat :=
  let r := s.job j
  let cause := if r.status = 1 then r.cause else 0
  r.status * 2 ^ 56 + cause * 2 ^ 48 + (b2n r.sat + 2 * b2n r.inval + 4 * b2n r.oob) * 2 ^ 45 +
    min (s.tns.tick - r.accepted) 0xFFFFFFFF

/-- The record of a job that ends FAULT or TIMEOUT. -/
def State.jobEvent (s : State) (j : Nat) : Act :=
  let r := s.job j
  if r.status = 1 then Act.emit 0x23 0x0A00 3 [j, r.issuer, r.cause, r.faultThread, (r.faultPc + 2 ^ 64 - r.entry) % 2 ^ 32]
  else if r.status = 3 then Act.emit 0x23 0x0A01 2 [j, r.issuer, r.limitUs]
  else Act.skip

/-- What an ended job does to the objects it owns (R297). -/
def State.jobObjects (s : State) (j : Nat) : Act :=
  let r := s.job j
  if r.status = 0 then
    Act.modObjs fun l => l.map fun p => if p.2.owner = 0x40 + j then (p.1, { p.2 with owner := 0xFF }) else p
  else Act.poisonOwned fun o => o == 0x40 + j || (r.modeP && o == 0x20 + r.slot)

/-- The output block of a model whose job ends DONE is kept (R292, R293). -/
def Act.keepOutput (r : Job) : Act :=
  Act.get fun s =>
    if h : r.slot < 16 then
      Act.when (r.modeP && r.status = 0) (
        let l := s.bytes ((s.winSh r.slot).1 + 0x1000) (4 * s.learned.models[r.slot].nOut)
        Act.learnedx fun x => { x with models := x.models.set r.slot { x.models[r.slot] with out := l } })
    else Act.skip

/-- The job that ends makes every write of its threads visible, writes its completion word, is counted and recorded, and
frees its contexts (R254). -/
def Act.jobEnd (j : Nat) : Act :=
  Act.get fun s =>
    let r := s.job j
    if s.powered && r.st = .ending then Act.seq [
      Act.each (s.jobThreads j) fun p => Act.showWrites p.1,
      Act.store r.done (leBytes 8 (s.doneWord j)),
      Act.when (r.status = 0) (Act.bump F.CNJ_JOBS_DONE.count),
      Act.when (r.status = 1) (Act.bump F.CNJ_JOBS_FAULT.count),
      Act.when (r.status = 3) (Act.bump F.CNJ_JOBS_TIMEOUT.count),
      Act.when r.oob (Act.bump F.CNJ_OOB.count),
      Act.keepOutput r,
      s.jobEvent j,
      s.jobObjects j,
      Act.each (s.jobThreads j) fun p => Act.thread p.1 fun _ => Thread.reset,
      Act.job j fun _ => Job.reset]
    else Act.skip

/-- A job in flight still runs: its number stands for it and not for a later job. -/
def State.jobLives (s : State) (x : JobRef) : Bool := (s.job x.1).st ≠ .free && (s.job x.1).order == x.2

/-- Launch a job that a core's firmware has prepared, and hand the job, or none where the launch is refused, to what
follows. The completion word is emptied first, so that a wait on it is for this job (DEDUCED, log entry 88). -/
def Act.launchFor (k : Fin 13) (r : Job) (next : Option JobRef → Act) : Act :=
  Act.get fun s =>
    let r := { r with st := .queued, issuer := k, accepted := s.tns.tick, order := s.jobSeq }
    let st := s.launchStatus k sharedBase r
    Act.seq [
      Act.when (inShared r.done) (Act.setTag (wordNo r.done) false),
      Act.launch k st r,
      next (if st = 1 then s.freeJob.map fun j => (j, s.jobSeq) else none)]

/-- The words of a block of n values at an address. -/
def State.blockAt (s : State) (a n : Nat) : List (BitVec 32) :=
  (List.range n).map fun i => BitVec.ofNat 32 (s.nat (a + 4 * i) 4)

/-- Write a block of values at an address (R275). -/
def Act.writeBlock (a : Nat) (l : List (BitVec 32)) : Act := Act.store a (l.flatMap fun w => leBytes 4 w.toNat)

/-- JOB_TIMEOUT: limit_us passes. -/
def Act.jobTimeout (j : Nat) : Act :=
  Act.get fun s =>
    let r := s.job j
    Act.when (s.powered && r.limitUs ≠ 0 && r.accepted + r.limitUs ≤ s.tns.tick) (Act.jobStops j 3 0)

def execJobTimeout (j : Fin 64) (s : State) : Host.Outcome State Fault Refusal := (Act.jobTimeout j).go s

/-- A write of CNJ_ABORT by core k: ignored unless it launched the job or is the security core (R253). -/
def Act.abortWrite (k : Fin 13) (v : Nat) : Act :=
  Act.get fun s => Act.when (k = 0 || (s.job (v % 64)).issuer = k.val) (Act.jobStops (v % 64) 2 0)

def execJobAbort (k : Fin 13) (v : BitVec 32) (s : State) : Host.Outcome State Fault Refusal :=
  (Act.get fun s => Act.when (s.powered && s.coreUp k) (Act.abortWrite k v.toNat)).go s

/-! ## Tiles (R264) -/

/-- The jobs that have a thread on logical tile l. -/
def State.jobsOn (s : State) (l : Nat) : List Nat :=
  ((s.threads.filter fun p => p.2.st ≠ .free && p.1 / 64 == l).map fun p => p.2.job).eraseDups

/-- Renumber the contexts above logical tile l, which is gone. -/
def Act.dropTile (l : Nat) : Act :=
  ⟨fun s => { s with threads := (s.threads.filter fun p => p.1 / 64 ≠ l).map fun p =>
      if 64 * (l + 1) ≤ p.1 then (p.1 - 64, p.2) else p }, fun _ h => h, fun _ => rfl, fun _ => .refl _, fun _ h => ⟨h, rfl⟩⟩

/-- TILE_FAIL: physical tile p fails; its jobs end FAULT, and a spare takes its number or the tiles are renumbered. -/
def Act.tileFail (p reason : Nat) : Act :=
  Act.get fun s =>
    if !s.powered || !s.active || s.tileFailed p then Act.skip
    else
      let mark := (Act.setFBit F.CNJ_TILE_FAIL.fail p true).andThen (Act.repairAdd 3 0x3F p)
      match s.tiles.idxOf? p with
      | none => mark.andThen (Act.emit 0x23 0x0A03 3 [p, reason, s.tileSpares.length - 1])
      | some l =>
        Act.seq [
          Act.each (s.jobsOn l) fun j => Act.jobStops j 1 0x11,
          mark,
          (match s.tileSpares with
           | q :: r => Act.seq [
              Act.setTiles (s.tiles.set l q),
              Act.emit 0x23 0x0A03 3 [p, reason, r.length]]
           | [] => Act.seq [
              Act.setTiles (s.tiles.eraseIdx l),
              Act.dropTile l,
              Act.emit 0x23 0x0A03 3 [p, reason, 0],
              Act.emit 0x23 0x0A04 4 [s.tileCount - 1]]),
          Act.get fun t => Act.each (t.jobs.filter fun x => x.2.st = .queued && t.ctxEver x.2.prio < x.2.threads) fun x =>
            Act.jobStops x.1 1 0x11]

def execTileFail (p : Fin 18) (reason : Nat) (s : State) : Host.Outcome State Fault Refusal := (Act.tileFail p reason).go s

/-! ## Partitions (R265, R266) -/

/-- A write to a partition register of model slot m by core k: ignored, with part_busy set, while a job of the slot is
queued or running. -/
def Act.partWrite (k : Fin 13) (m off : Nat) (v : BitVec 32) : Act :=
  Act.get fun s =>
    if s.slotBusy m && k = 0 then Act.setB (F.CNJ_PART_CTL.part_busy m) true else Act.plainWrite k off v

/-- A write to CNJ_PART_CTL(m) by core k: valid and zero are the security core's, part_busy clears at a 1. -/
def Act.partCtl (k : Fin 13) (m : Nat) (v : BitVec 32) : Act :=
  Act.get fun s =>
    Act.seq [
      Act.when (bitOf v.toNat 2) (Act.setB (F.CNJ_PART_CTL.part_busy m) false),
      if k ≠ 0 then Act.skip
      else if s.slotBusy m then Act.setB (F.CNJ_PART_CTL.part_busy m) true
      else (Act.setB (F.CNJ_PART_CTL.valid m) (bitOf v.toNat 0)).andThen
        (Act.when (bitOf v.toNat 1) (Act.setB (F.CNJ_PART_CTL.zero m) true))]

/-- PARTITION_ZERO by core k. -/
def execPartitionZero (k : Fin 13) (p : Fin 16) (v : BitVec 32) (s : State) : Host.Outcome State Fault Refusal :=
  (Act.get fun s => Act.when (s.powered && s.coreUp k) (Act.partCtl k p v)).go s

/-- Zero the tensor SRAM window of model slot m. -/
def Act.zeroTensor (m : Nat) : Act := Act.get fun s => Act.zeroBytes (s.winTs m).1 (s.winTs m).2

/-- ZERO_COMPLETE: every byte of the window is 0 and the field reads 0. -/
def Act.zeroComplete (m : Nat) : Act :=
  Act.get fun s => Act.when (s.powered && s.flag (F.CNJ_PART_CTL.zero m))
    ((Act.zeroTensor m).andThen (Act.setB (F.CNJ_PART_CTL.zero m) false))

def execZeroComplete (p : Fin 16) (s : State) : Host.Outcome State Fault Refusal := (Act.zeroComplete p).go s

end Sys2Proof.Machine
end

