-- ==== Sys2Proof/Machine/Blocks.lean ====
section
/-!
DEFINITION. What the learned controllers are given: normalized counts, the input blocks of the roles, the tray-level block of
an advisory model, and the 1 ms means (R271 to R275, R277, R292).
-/
namespace Sys2Proof.Machine

/-! ## Values of a block (R275) -/

/-- num / den as binary32, to nearest with ties to even (the rounding is R241's; DEDUCED, log entry 88); den is not 0. -/
def f32ratio (num : Int) (den : Nat) : BitVec 32 :=
  let n := num.natAbs * 2 ^ 80
  BitVec.ofNat 32 (Fp.bits fp32 32 (Fp.round fp32 ⟨num < 0, 2 * (n / den) + b2n (n % den ≠ 0), -81⟩).1)

/-- A whole number as binary32. -/
def f32of (n : Nat) : BitVec 32 := f32ratio (n : Int) 1

/-- A value with no meaning: -1. -/
def f32absent : BitVec 32 := f32ratio (-1) 1

/-- A value, if it has a meaning. -/
def f32opt (n : Option Nat) : BitVec 32 := match n with | some n => f32of n | none => f32absent

/-! ## Counts (R271) -/

/-- Normalized count i of slot n: the accumulated count over the pace periods it covers and over full_scale × 256; -1 for a
count of no declared kind or scale, or over no period. -/
def State.normCount (s : State) (n : Fin 8) (i : Nat) : BitVec 32 :=
  let (kind, _, scale) := s.links[n].units.getD i (0, 0, 0)
  if kind = 0 || scale = 0 || s.links[n].periods = 0 then f32absent
  else f32ratio (s.fld (F.CMA_ACC.count n i)) (s.links[n].periods * (scale * 256))

/-- The four normalized counts of slot n as of the last control tick. -/
def State.countsOf (s : State) (n : Nat) : List (BitVec 32) :=
  (List.range 4).map fun i => s.learned.counts.getD (4 * n + i) f32absent

/-! ## Hints -/

/-- intent_us, load_hint in W and barrier_tag of slot n's hint, where it gives them (R88). -/
def State.hintUs (s : State) (n : Nat) : Option Nat := if bitOf (s.intent n) 31 then some (intentUs (s.intent n)) else none
def State.hintLoad (s : State) (n : Nat) : Option Nat :=
  if bitOf (s.intent n) 31 && intentLoad (s.intent n) ≠ 0 then some (8 * intentLoad (s.intent n)) else none
def State.hintTag (s : State) (n : Nat) : Option Nat := if bitOf (s.intent n) 31 then some (intentTag (s.intent n)) else none

/-! ## Input blocks (R275) -/

/-- The class and the confidence of slot n. -/
def State.phaseOf (s : State) (n : Nat) : Nat × BitVec 32 := s.learned.phase.getD n (7, f32of 0)

/-- The part of role 1's input block for slot n. -/
def State.role1Slot (s : State) (n : Fin 8) : List (BitVec 32) :=
  [f32of (b2n (s.bindState n = 2)), f32of (s.phaseOf n).1, (s.phaseOf n).2, f32of (s.fld (F.CAP_SLOT_FAST.watts n)),
    f32of (s.quaOut (8 + n)), f32of ((s.slotCap n).getD 65535), f32of (s.scaledFloor n), f32of (s.quaOut n),
    f32of (s.fld (F.THM_THR_DUTY.duty n))] ++ s.countsOf n ++
    [f32opt (s.hintUs n), f32opt (s.hintLoad n), f32of (b2n s.links[n].throttled)]

/-- The input block of role 1: in[0] to in[131]. -/
def State.role1In (s : State) : List (BitVec 32) :=
  (List.finRange 8).flatMap s.role1Slot ++
    [f32of (s.slotBudget.getD 65535), f32of ((s.effCap 8).getD 65535), f32of s.trayFast, f32ratio s.achieved 10]

/-- The part of role 2's input block for slot n. -/
def State.role2Slot (s : State) (n : Nat) : List (BitVec 32) :=
  [f32of (b2n (s.pendingRelease n)), f32opt (s.hintUs n), f32opt (s.hintLoad n), f32of (s.fld (F.CAP_SLOT_FAST.watts n)),
    f32of (s.quaOut (8 + n)), f32of (s.phaseOf n).1, f32opt (s.hintTag n), f32of 0]

/-- The input block of role 2: in[0] to in[69].  VIN56 is the export mirror's (log entry 88). -/
def State.role2In (s : State) : List (BitVec 32) :=
  (List.range 8).flatMap s.role2Slot ++
    [f32ratio s.its.mirror.vin56 1000, f32ratio (s.fld F.BUF_BANK_V.vbank) 100,
      f32ratio (signed 16 (s.fld F.BUF_BANK_I.ibank)) 10, f32ratio s.achieved 10, f32of s.trayFast,
      f32of (s.fld F.BUF_STATUS.mode)]

/-- Value, rate and state of sensor i in role 3's input block. -/
def State.role3Sns (s : State) (i : Nat) : List (BitVec 32) :=
  if !s.evaluated i then [f32absent, f32absent, f32of 2]
  else if s.snsBroken i then [f32ratio (s.snsValue i) 16, f32ratio (s.sensor i).rate 16, f32of 1]
  else if !(s.sensor i).has then [f32absent, f32absent, f32of 0]
  else [f32ratio (s.snsValue i) 16, f32ratio (s.sensor i).rate 16, f32of 0]

/-- The mean of quantity i over the last 1 ms; -1 before a whole one. -/
def State.msMean (s : State) (i : Nat) : BitVec 32 :=
  if s.learned.msLast.2 = 0 then f32absent else f32ratio (s.learned.msLast.1.getD i 0) s.learned.msLast.2

/-- The input block of role 3: in[0] to in[908]. -/
def State.role3In (s : State) : List (BitVec 32) :=
  (List.range 280).flatMap s.role3Sns ++
    ((List.range 16).map fun i => f32of (s.fld (F.THM_FAN_STAT.rpm i))) ++
    ((List.range 20).map fun i => f32of (s.applied (16 + i))) ++
    ((List.range 4).map fun p => f32of (s.fld (F.THM_PUMP_STAT.rpm p))) ++
    ((List.range 4).map fun f => f32ratio (s.fld (F.THM_FLOW_STAT.flow f)) 100) ++
    ((List.range 8).map s.msMean) ++
    ((List.range 16).map fun z => f32of (s.zoneLevel z)) ++ [f32of (s.fld F.THM_CTL.mode)]

/-- The tray-level block of an advisory model of cadence 1 (R292): the tray input power, the zones' hottest values, the
slots' powers and the fan duties. -/
def State.trayBlock (s : State) (slotPower : Nat → Option Nat) : List (BitVec 32) :=
  [f32of s.trayFast] ++
    ((List.range 16).map fun z => match s.zoneHottest z with
      | some i => f32ratio (s.snsValue i) 16
      | none => f32absent) ++
    ((List.range 8).map fun n => f32opt (slotPower n)) ++ ((List.range 16).map fun i => f32of (s.applied (16 + i)))

/-- A list of w values for each slot, with those of slot n replaced by v. -/
def zeroSpan {α : Type} (n w : Nat) (v : α) (l : List α) : List α :=
  l.mapIdx fun i x => if n * w ≤ i && i < n * w + w then v else x

/-! ## What is gathered (R272, R277) -/

/-- What the phase classifier is given of slot n at this tick: counts, fast power, intent, duty and self_throttle. -/
def State.phaseIn (s : State) (n : Fin 8) : List (BitVec 32) :=
  s.countsOf n ++ [f32of (s.fld (F.CAP_SLOT_FAST.watts n)), f32opt (s.hintUs n), f32of (s.quaOut n),
    f32of (b2n s.links[n].throttled)]

/-- The quantities of the 1 ms means: the slots' fast powers, the non-slot load, the duties of fans and pumps, and the
converter's energy counters. -/
def State.msValues (s : State) : List Nat :=
  ((List.range 8).map fun n => s.fld (F.CAP_SLOT_FAST.watts n)) ++ [s.nonSlot] ++
    ((List.range 20).map fun i => s.applied (16 + i)) ++ [s.fld F.BUF_ENERGY_OUT.joules, s.fld F.BUF_ENERGY_IN.joules]

/-- Take this control tick into the 1 ms means: a millisecond is 40 of them. -/
def Act.msTick : Act :=
  Act.get fun s => Act.learnedx fun x =>
    let sum := if x.msCnt = 0 then s.msValues else x.msSum.zipWith (· + ·) s.msValues
    if x.msCnt + 1 < 40 then { x with msSum := sum, msCnt := x.msCnt + 1 }
    else { x with msSum := [], msCnt := 0, msLast := (sum, 40),
                  means := x.means ++ [(s.its.cur.interval, sum.map fun v => v / 40)] }

/-- Take the normalized counts, before the accumulators are cleared, and then this tick of the classifier's history. -/
def Act.takeCounts : Act :=
  Act.seq [
    Act.get fun s => Act.learnedx fun x =>
      { x with counts := (List.finRange 8).flatMap fun n => (List.range 4).map (s.normCount n) },
    Act.get fun s => Act.learnedx fun x => { x with history := ((List.finRange 8).flatMap s.phaseIn :: x.history).take 16 }]

end Sys2Proof.Machine
end

