-- ==== Sys2Proof/Machine/Control.lean ====
section
/-!
DEFINITION. The control chain: the jobs of the control tick and of the thermal predictor, which evaluations are discarded,
demotion and restoration of roles, the projection of allocations, and what the power core writes (R268, R269, R273, R274,
R276, R285 to R287, R292).
-/
namespace Sys2Proof.Machine

/-! ## Evaluations (R285, R286) -/

/-- Whether an evaluation is accepted: DONE, without inval and oob, in time, and not skipped. -/
def evalOk (r : EvalRes) : Bool := r.status = 0 && !r.inval && !r.oob && !r.late && !r.skipped

/-- Why it is discarded: 7 skipped, the job status, 4 inval, 5 oob, or 6 not in time (the numbers are the model's, log entry
3). -/
def evalCause (r : EvalRes) : Nat :=
  if r.skipped then 7 else if r.status ≠ 0 then r.status else if r.inval then 4 else if r.oob then 5 else 6

/-- An evaluation whose start was skipped (R48). -/
def evalSkipped : EvalRes := ⟨0, false, false, false, false, true, []⟩

/-- An evaluation that is not complete in time, or whose job was never accepted. -/
def evalLate : EvalRes := ⟨0, false, false, false, true, false, []⟩

/-- The result of job r as it ends, with its outputs; late says whether it is too late. -/
def Job.result (r : Job) (late : Bool) (out : List (BitVec 32)) : EvalRes :=
  ⟨r.status, r.sat, r.inval, r.oob, late, false, out⟩

/-- The flags of its completion word: sat, inval, oob. -/
def evalFlags (r : EvalRes) : Nat := b2n r.sat + 2 * b2n r.inval + 4 * b2n r.oob

/-- Output k, if it is a finite number; anything else is discarded alone. -/
def evalValue (r : EvalRes) (k : Nat) : Option (BitVec 32) := (r.out[k]?).filter f32finite

/-- Change a role. -/
def Act.role (r : Fin 4) (f : Role → Role) : Act := Act.learnedx fun x => { x with roles := x.roles.set r (f x.roles[r]) }

/-- Change a model slot. -/
def Act.model (m : Fin 16) (f : Model → Model) : Act :=
  Act.learnedx fun x => { x with models := x.models.set m (f x.models[m]) }

/-- Model slot number m. -/
def modelNo (m : Nat) : Option (Fin 16) := if h : m < 16 then some ⟨m, h⟩ else none

/-- A role is demoted: a host model gives it back to the built-in controller, a built-in controller to the fallback. -/
def Act.demote (r : Fin 4) (run : Nat) : Act :=
  Act.get fun s =>
    match s.learned.roles[r].holder with
    | some m => Act.seq [
        Act.role r fun x => { x with holder := none, run := 0 },
        (match modelNo m with | some m => Act.model m fun x => { x with state := 4 } | none => Act.skip),
        Act.emit 0x02 0x0B01 3 [r, m, run]]
    | none => Act.seq [
        Act.role r fun x => { x with demoted := true, run := 0, probes := 0 },
        Act.emit 0x02 0x0B01 3 [r, 0xFF, run]]

/-- A discarded evaluation of a role: the first of a run is recorded, and the run may demote the role. -/
def Act.discard (r : Fin 4) (e : EvalRes) : Act :=
  Act.get fun s =>
    let x := s.learned.roles[r]
    Act.seq [
      Act.role r fun x => { x with run := x.run + 1, cause := evalCause e, total := x.total + 1 },
      Act.when (x.run = 0) (Act.emit 0x02 0x0B00 2 [r, e.status, (evalFlags e)]),
      Act.when (x.limit ≤ x.run + 1) (Act.demote r (x.run + 1))]

/-- An evaluation of a role that is not on its fallback: applied where it is accepted, discarded otherwise. -/
def Act.evaluate (r : Fin 4) (e : EvalRes) (apply : Act) : Act :=
  Act.get fun s =>
    if s.fallsBack r then Act.skip
    else if (evalOk e) then (Act.role r fun x => { x with run := 0 }).andThen apply
    else Act.discard r e

/-! ## Targets (R274, R466) -/

/-- Write an output value to channel c; without one the channel holds its target. -/
def Act.quaValue (c : Nat) (v : Option (BitVec 32)) : Act :=
  match v with | some w => Act.quaTarget c (f32target w) | none => Act.skip

/-- The allocation of slot n before the projection, in units of 2^-149 W: the output or, without one, the present target; 0
for a slot that is not ON; within the scaled floor and the effective cap.  A slot whose link is LOST holds its allocation
(R84). -/
def State.allocIn (s : State) (e : EvalRes) (n : Fin 8) : Int :=
  if s.bindState n ≠ 2 then 0
  else
    let out := if s.linkState n = 3 then none else evalValue e n
    let a := match out with | some w => f32val w | none => ((s.fld (F.QUA_TGT.target (8 + n)) * f32one : Nat) : Int)
    let a := max a ((s.scaledFloor n * f32one : Nat) : Int)
    match s.slotCap n with | some c => min a ((c * f32one : Nat) : Int) | none => a

/-- The floor that bounds slot n's allocation, in the same units; a LOST link's allocation is held and gives nothing away
(R84). -/
def State.allocFloor (s : State) (e : EvalRes) (n : Fin 8) : Int :=
  if s.bindState n ≠ 2 then 0
  else if s.linkState n = 3 then s.allocIn e n
  else ((s.scaledFloor n * f32one : Nat) : Int)

/-- The projected allocation of slot n in whole watts (R274). -/
def State.allocOut (s : State) (e : EvalRes) (n : Fin 8) : Nat :=
  let a := s.allocIn e n
  let f := s.allocFloor e n
  let sum := (List.finRange 8).foldl (fun x i => x + s.allocIn e i) 0
  let room := (List.finRange 8).foldl (fun x i => x + (s.allocIn e i - s.allocFloor e i)) 0
  match s.slotBudget with
  | some b =>
    let excess := sum - ((b * f32one : Nat) : Int)
    if 0 < excess && 0 < room then clip16 ((a * room - (a - f) * excess) / (room * f32one)) else clip16 (a / f32one)
  | none => clip16 (a / f32one)

/-- The outputs of the cap-sharing role: allocations to channels 8 to 15, pause duties to channels 0 to 7. -/
def Act.capOutputs (e : EvalRes) : Act :=
  Act.get fun s =>
    (Act.each (List.finRange 8) fun n => Act.quaTarget (8 + n) (s.allocOut e n)).andThen
      (Act.each (List.range 8) fun n => Act.quaValue n (evalValue e (8 + n)))

/-- The outputs of the droop role: the draws after release and the two ceilings. -/
def Act.droopOutputs (e : EvalRes) : Act :=
  Act.seq [
    Act.learnedx fun x => { x with posts := Vector.ofFn fun n : Fin 8 =>
      (match evalValue e n with | some w => some (f32target w) | none => x.posts[n]) },
    Act.quaValue 36 (evalValue e 8),
    Act.quaValue 37 (evalValue e 9)]

/-! ## The control tick (R268) -/

/-- Read and clear the accumulators of slot n, with the pace periods that they cover (R90, R271). -/
def Act.readCounts (n : Fin 8) : Act :=
  Act.get fun s =>
    Act.seq [
      Act.when (25 < s.links[n].merged) (Act.addF (F.CMA_COALESCE.count n) (s.links[n].merged - 25)),
      Act.link n fun l => { l with merged := 0, periods := 0 },
      Act.each (List.range 4) fun i => Act.setF (F.CMA_ACC.count n i) 0]

/-- Take the allocations and the fast powers into the averages of the 1 s window in progress; where a new window has begun,
the last one's averages stand (R107, R376). -/
def Act.windowTick : Act :=
  Act.get fun s =>
    let now := s.tns.tick / 1000000
    let alloc : Vector Nat 8 := Vector.ofFn fun n : Fin 8 => s.quaOut (8 + n)
    let power : Vector Nat 8 := Vector.ofFn fun n : Fin 8 => s.fld (F.CAP_SLOT_FAST.watts n)
    let add (a b : Vector Nat 8) : Vector Nat 8 := Vector.ofFn fun n : Fin 8 => a[n] + b[n]
    let avg (c : Caps) (v : Vector Nat 8) : List Nat := v.toList.map fun x => (x / max 1 c.winCnt)
    (Act.capsx fun c => { c with
      strSum := c.strSum.map fun v => add v power, strCnt := c.strCnt.map fun n => n + 1 }).andThen <| Act.capsx fun c =>
      if c.win = now then { c with winCnt := c.winCnt + 1, allocSum := add c.allocSum alloc, powerSum := add c.powerSum power }
      else { c with win := now, winCnt := 1, allocSum := alloc, powerSum := power,
                    winAvg := some (c.win, avg c c.allocSum, avg c c.powerSum) }

/-- A slot-level export in confidential mode, from its averages over the last window: in 5 W steps, and 0xFFFF until a whole
window has begun after entry (R376). -/
def State.coarse (s : State) (n : Nat) (pick : List Nat × List Nat → List Nat) : Nat :=
  match s.caps.winAvg with
  | some (w, l) => if s.sec.confSince ≤ w * 1000000 then round5 (((pick l)[n]?).getD 0) else 0xFFFF
  | none => 0xFFFF

/-- Forget the droop predictor's draws: planning uses the hints (R287). -/
def Act.noPosts : Act := Act.learnedx fun x => { x with posts := Vector.replicate 8 none }

/-- A job of the service image's own, as its record has it: priority 0 for the tick and thermal jobs. -/
def SvcJob.job (x : SvcJob) (prio limit : Nat) : Job :=
  { Job.reset with prio := prio, entry := x.entry, done := x.done, threads := x.threads, limitUs := limit }

/-- The time limit of a host model's job within a bound of its cadence: its own limit where it has one and it is shorter
(R269, R289). -/
def limitWithin (own bound : Nat) : Nat := if own = 0 then bound else min own bound

/-- The job of model slot i: its entry in the tensor SRAM window, the base of its shared SRAM window as argument (R292), and
its completion word in the last 8 bytes of the input page, which no input block reaches (DEDUCED, log entry 22). -/
def State.modelJob (s : State) (i : Fin 16) (prio limit : Nat) : Job :=
  { Job.reset with
    prio := prio, modeP := true, slot := i, entry := (s.winTs i).1 + s.learned.models[i].entry, arg := (s.winSh i).1,
    done := (s.winSh i).1 + 4088, threads := s.learned.models[i].threads, limitUs := limit }

/-- What the phase classifier said of slot n, as two words: a class of 0 to 7 and a confidence of 0 to 1; UNKNOWN with
confidence 0 where the slot is not ON or its link not UP (R273), and UNKNOWN where its four counts are -1 (R271). A word
that says no class is read as UNKNOWN, and a confidence is held to its range (DESIGN CHOICE, log entry 88). -/
def State.phaseFrom (s : State) (out : List (BitVec 32)) (n : Fin 8) : Nat × BitVec 32 :=
  let c := out.getD (2 * n) f32absent
  let p := out.getD (2 * n + 1) f32absent
  let cls := if f32finite c && 0 ≤ f32val c && roundUp (f32val c) f32one ≤ 7 then f32target c else 7
  let conf := if !f32finite p || f32val p ≤ 0 then f32of 0 else if (f32one : Int) < f32val p then f32of 1 else p
  if s.bindState n ≠ 2 || s.linkState n ≠ 2 then (7, f32of 0)
  else if (s.countsOf n).all (· == f32absent) then (7, conf)
  else (cls, conf)

/-- Change the control tick's evaluations. -/
def Act.chain (f : Chain → Chain) : Act := Act.learnedx fun x => { x with chain := x.chain.map f }

/-- A probe of a demoted built-in controller has ended (R286): 40 in a row that would have been valid restore it. -/
def Act.probeEnd (r : Fin 4) (ok : Bool) : Act :=
  Act.get fun s =>
    let x := s.learned.roles[r]
    if !(x.probing && x.demoted) then Act.skip
    else if !ok then Act.role r fun x => { x with probing := false, probes := 0 }
    else if x.probes + 1 < 40 then Act.role r fun x => { x with probing := false, probes := x.probes + 1 }
    else (Act.role r fun x => { x with demoted := false, probing := false, probes := 0, run := 0 }).andThen (Act.emit 0x02 0x0B02 1 [r])

/-- What role r of a control tick was given: a discard of the tick job discards it too, a host model that was launched for
it and still holds it gives its own result, and the built-in controller shares the tick job's completion word (R268, R285).
-/
def Chain.resultOf (c : Chain) (s : State) (r : Fin 4) (cls : EvalRes) : EvalRes :=
  if !evalOk cls then cls
  else match (c.hosts.lookup r.val).filter fun _ => s.learned.roles[r].holder.isSome with
    | some h => h.2.getD evalLate
    | none => { cls with out := (s.learned.svc[(0 : Fin 3)].outs[r.val]?).elim [] fun a => s.blockAt a 16 }

/-- The end of a control tick's evaluations: the outputs of the two roles are applied or discarded, probes are judged, and
the releases are planned (R110, R268, R274, R285 to R287). -/
def Act.tickFinish (c : Chain) (cls : EvalRes) : Act :=
  Act.seq [
    Act.learnedx fun x => { x with chain := none },
    Act.get fun s =>
      let e := c.resultOf s 1 cls
      let d := c.resultOf s 2 cls
      (Act.evaluate 1 e (Act.capOutputs e)).andThen (Act.evaluate 2 d (Act.droopOutputs d)),
    Act.probeEnd 1 (evalOk cls),
    Act.probeEnd 2 (evalOk cls),
    Act.get fun s => Act.when (s.fallsBack 2) (Act.noPosts.andThen Act.ceilings),
    Act.planTick]

/-- Go on with the control tick once every job of it has ended. -/
def Act.tickCheck : Act :=
  Act.get fun s =>
    match s.learned.chain with
    | some c => match c.cls with
      | some cls => Act.when (c.hosts.all fun h => h.2.2.isSome) (Act.tickFinish c cls)
      | none => Act.skip
    | none => Act.skip

/-- Launch the host model that holds role r, if one does, with the role's input block on page 0 of its window (R268, R292);
it ends no later than 20 µs after the tick (R269). -/
def Act.launchHost (c : Chain) (r : Fin 4) (block : State → List (BitVec 32)) : Act :=
  Act.get fun s =>
    match s.learned.roles[r].holder.bind modelNo with
    | none => Act.skip
    | some i =>
      let left := c.began + 20 - s.tns.tick
      if left = 0 then Act.chain fun c => { c with hosts := c.hosts ++ [(r.val, (64, 0), some evalLate)] }
      else (Act.writeBlock (s.winSh i).1 (block s)).andThen
        (Act.launchFor 1 (s.modelJob i 0 (limitWithin s.learned.models[i].limitUs left)) fun ref =>
          Act.chain fun c => { c with hosts := c.hosts ++ [match ref with
            | some x => (r.val, x, none)
            | none => (r.val, (64, 0), some evalLate)] })

/-- The tick job has ended: its phase output stands, and the host models of the two roles are launched; a tick job that is
discarded discards all three (R268, R285). -/
def Act.tickJobEnded (cls : EvalRes) : Act :=
  Act.get fun s =>
    match s.learned.chain with
    | none => Act.skip
    | some c =>
      Act.seq [
        Act.chain fun c => { c with cls := some cls },
        Act.when (evalOk cls) (Act.seq [
          Act.learnedx fun x => { x with phase := (List.finRange 8).map (s.phaseFrom cls.out) },
          Act.launchHost c 1 State.role1In,
          Act.launchHost c 2 State.role2In]),
        Act.tickCheck]

/-- Launch the tick job on the input blocks of the tick roles and the history of the phase classifier (R268, R272). -/
def Act.launchTick : Act :=
  Act.get fun s =>
    let x := s.learned.svc[(0 : Fin 3)]
    Act.seq [
      Act.writeBlock (x.ins.getD 0 0) s.role1In,
      Act.writeBlock (x.ins.getD 1 0) s.role2In,
      Act.writeBlock (x.ins.getD 2 0) s.learned.history.flatten,
      Act.launchFor 1 (x.job 0 20) fun ref =>
        (Act.learnedx fun x => { x with chain := some ⟨s.tns.tick, ref, none, []⟩ }).andThen
          (Act.when ref.isNone (Act.tickJobEnded evalLate))]

/-- Whether a job of the control tick's evaluations still runs. -/
def State.chainRuns (s : State) : Bool :=
  match s.learned.chain with
  | some c => c.job.any s.jobLives || c.hosts.any fun h => s.jobLives h.2.1
  | none => false

/-- A chain whose jobs have ended without the power core is over, and its evaluations are discarded (R285, R288). -/
def Act.chainLost : Act :=
  Act.get fun s => Act.when s.learned.chain.isSome (Act.seq [
    Act.learnedx fun x => { x with chain := none },
    Act.evaluate 1 evalLate Act.skip, Act.evaluate 2 evalLate Act.skip])

/-- The learned part of a control tick. -/
def Act.learnedTick : Act :=
  Act.seq [Act.heartbeat, Act.chainLost, Act.takeCounts, Act.each (List.finRange 8) Act.readCounts, Act.trimTick, Act.windowTick,
    Act.msTick, Act.capsApply, Act.capsRefresh, Act.launchTick]

/-- A control tick whose start is skipped, because a job of the one before still runs: it is counted, and the two tick
roles' evaluations are discarded (R48, R265, R285). -/
def Act.tickSkipped : Act :=
  Act.seq [Act.start 1 true Act.skip, Act.evaluate 1 evalSkipped Act.skip, Act.evaluate 2 evalSkipped Act.skip]

/-- CONTROL_TICK: every 25 µs on the power core.  Without learned control it reads the accumulators and plans releases
(R128). -/
def Act.controlTick : Act :=
  Act.get fun s =>
    if s.powered && s.coreUp 1 then
      (if s.chainRuns then Act.tickSkipped
       else if s.learns then Act.learnedTick
       else Act.seq [Act.each (List.finRange 8) Act.readCounts, Act.trimTick, Act.windowTick, Act.noPosts, Act.planTick])
    else Act.skip

def execControlTick (s : State) : Host.Outcome State Fault Refusal := Act.controlTick.go s

/-- DEMOTED_PROBE: each 1 s, a demoted built-in controller is to be evaluated on live inputs with its outputs discarded: in
the next tick job for the tick roles, which holds it, and in a job of its own for the thermal role (R286; log entry 88). -/
def Act.demotedProbe (r : Fin 4) : Act :=
  Act.get fun s => Act.when (s.powered && s.coreUp 1 && s.learns && r ≠ 0 && s.learned.roles[r].demoted)
    (Act.role r fun x => { x with probing := true })

def execDemotedProbe (role : Fin 4) (s : State) : Host.Outcome State Fault Refusal := (Act.demotedProbe role).go s

/-! ## The thermal predictor (R144, R152, R276) -/

/-- A prediction in 1/16 of a degree as THM_ZONE_PRED holds it: nearest, within 16 bits. -/
def predCode (w : BitVec 32) : Nat := unsignedOf 16 (satSigned 16 (roundUp (f32val w * 16) f32one))

/-- Write the prediction of zone z; a value that is not a number leaves its field as it is. -/
def Act.predict (e : EvalRes) (z : Fin 16) : Act :=
  Act.get fun s =>
    let field (old : Nat) (k : Nat) : Nat := match evalValue e k with | some w => predCode w | none => old
    let temp := field (s.fld (F.THM_ZONE_PRED.temp z)) (20 + z)
    let rate := field (s.fld (F.THM_ZONE_PRED.rate z)) (36 + z)
    Act.when ((evalValue e (20 + z)).isSome || (evalValue e (36 + z)).isSome) (Act.zonePred z (BitVec.ofNat 32 (rate * 65536 + temp)))

/-- Whether sensor i's value differs from its estimate by more than pred_margin; an estimate of -1 is not tested. -/
def State.disagrees (s : State) (i : Nat) (w : BitVec 32) : Bool :=
  let d := f32val w * 16 - s.snsValue i * f32one
  f32val w ≠ -(f32one : Int) && (s.fld F.THM_BROKEN_CFG.pred_margin * 16 * f32one : Nat) < d.natAbs

/-- The disagreement test of sensor i: broken after 1 s without a break. -/
def Act.compareEstimate (e : EvalRes) (i : Nat) : Act :=
  Act.get fun s =>
    match evalValue e (52 + i) with
    | none => Act.skip
    | some w =>
      let forget := Act.learnedx fun x => { x with differs := x.differs.filter fun p => p.1 != i }
      if !s.evaluated i || s.snsBroken i || !(s.sensor i).has || !s.disagrees i w then forget
      else match s.learned.differs.lookup i with
        | none => Act.learnedx fun x => { x with differs := (i, s.tns.tick) :: x.differs }
        | some t =>
          if t + 1000000 ≤ s.tns.tick then forget.andThen (Act.brokenSet (i / 32) (BitVec.ofNat 32 (2 ^ (i % 32))))
          else Act.skip

/-- The outputs of the thermal role. -/
def Act.thermalOutputs (e : EvalRes) : Act :=
  Act.seq [
    Act.each (List.range 20) fun i => Act.quaValue (16 + i) (evalValue e i),
    Act.each (List.finRange 16) (Act.predict e),
    Act.learnedx fun x => { x with estimates := (List.range 280).map fun i => (evalValue e (52 + i)).elim 0x8000 predCode },
    Act.each (List.range 280) (Act.compareEstimate e)]

/-- The thermal job has ended (R276, R285); a probe of the demoted predictor is only judged. -/
def Act.thermalEnded (e : EvalRes) : Act :=
  Act.seq [
    Act.learnedx fun x => { x with thermal := none },
    Act.evaluate 3 e (Act.thermalOutputs e),
    Act.probeEnd 3 (evalOk e)]

/-- Launch the thermal job on its input block, the host model's where one holds the role; it ends no later than 800 µs after
the tick (R269). -/
def Act.launchThermal : Act :=
  Act.get fun s =>
    let note (ref : Option JobRef) : Act :=
      (Act.learnedx fun x => { x with thermal := ref.map fun j => (j, s.tns.tick) }).andThen
        (Act.when ref.isNone (Act.thermalEnded evalLate))
    match s.learned.roles[(3 : Fin 4)].holder.bind modelNo with
    | some i => (Act.writeBlock (s.winSh i).1 s.role3In).andThen
        (Act.launchFor 1 (s.modelJob i 0 (limitWithin s.learned.models[i].limitUs 800)) note)
    | none =>
      let x := s.learned.svc[(1 : Fin 3)]
      (Act.writeBlock (x.ins.getD 0 0) s.role3In).andThen (Act.launchFor 1 (x.job 0 800) note)

/-- What an advisory model is told of slot n's power: in confidential mode the last 1 s average in 5 W steps (R107, R292).
-/
def State.advisedPower (s : State) (n : Nat) : Option Nat :=
  if s.conf then (let w := s.coarse n Prod.snd; if w = 0xFFFF then none else some w)
  else some (s.fld (F.CAP_SLOT_FAST.watts n))

/-- Launch the LOADED advisory models of cadence 1 that do not run already, each on the tray-level block, at priority 1
(R292; log entry 88). -/
def Act.launchAdvisory : Act :=
  Act.each (List.finRange 16) fun i => Act.get fun s =>
    let x := s.learned.models[i]
    Act.when (x.state = 2 && x.role = 0 && x.cadence = 1 && !s.slotBusy i)
      ((Act.writeBlock (s.winSh i).1 (s.trayBlock s.advisedPower)).andThen
        (Act.launchFor 1 (s.modelJob i 1 (limitWithin x.limitUs 800)) fun _ => Act.skip))

/-- THERMAL_PREDICTOR_TICK: every 1 ms. A start that falls due while the job before still runs is skipped (R48), and one
that ended without the power core is discarded. -/
def Act.thermalTick : Act :=
  Act.get fun s =>
    Act.when (s.powered && s.coreUp 1 && s.learns) (Act.seq [
      (match s.learned.thermal with
       | some (j, _) =>
         if s.jobLives j then (Act.start 3 true Act.skip).andThen (Act.evaluate 3 evalSkipped Act.skip)
         else Act.seq [Act.thermalEnded evalLate, Act.launchThermal]
       | none => Act.when (!s.fallsBack 3 || s.learned.roles[(3 : Fin 4)].probing) Act.launchThermal),
      Act.launchAdvisory])

def execThermalPredictorTick (s : State) : Host.Outcome State Fault Refusal := Act.thermalTick.go s

/-! ## The end of a job (R268, R285) -/

/-- The power core, which waits on the completion words, takes the result of a job of the chain or of the thermal job. -/
def Act.chainEnded (ref : JobRef) (r : Job) : Act :=
  Act.get fun s =>
    Act.seq [
      (match s.learned.chain with
       | some c =>
         let late := c.began + 20 < s.tns.tick
         if c.job = some ref && c.cls.isNone then
           Act.tickJobEnded (r.result late (s.blockAt (s.learned.svc[(0 : Fin 3)].outs.getD 0 0) 16))
         else if c.hosts.any fun h => h.2.1 == ref then
           (Act.chain fun c => { c with hosts := c.hosts.map fun h =>
             if h.2.1 = ref then (h.1, ref, some (r.result late (s.blockAt (r.arg + 0x1000) 16))) else h }).andThen Act.tickCheck
         else Act.skip
       | none => Act.skip),
      (match s.learned.thermal with
       | some (j, t) =>
         if j = ref then
           let a := if r.modeP then r.arg + 0x1000 else s.learned.svc[(1 : Fin 3)].outs.getD 0 0
           Act.thermalEnded (r.result (t + 800 < s.tns.tick) (s.blockAt a 332))
         else Act.skip
       | none => Act.skip)]

end Sys2Proof.Machine
end

