-- ==== Sys2Proof/Machine/Learned.lean ====
section
/-!
DEFINITION. Model slots and images: the class 0x06 commands 0x10 to 0x17, the commit, roles, and the attribution of an
interval (R277, R278, R286, R289 to R294).
-/
namespace Sys2Proof.Machine

/-! ## Images (R289 to R291) -/

/-- The staging area of model slot m. -/
def modelStage (m : Nat) : Nat := 0x13C0000000 + 0x4000000 * m

/-- A model slot. -/
def State.model (s : State) (m : Fin 16) : Model := s.learned.models[m]

/-- The roles that model slot m holds. -/
def State.rolesOf (s : State) (m : Nat) : List (Fin 4) :=
  (List.finRange 4).filter fun r => s.learned.roles[r].holder == some m

/-- Code, initial tensor SRAM data and initial DDR5 data of the image at address a. -/
def State.codeSize (s : State) (a : Nat) : Nat := s.hdr a 8 4
def State.tsInit (s : State) (a : Nat) : Nat := s.hdr a 12 4
def State.ddrInit (s : State) (a : Nat) : Nat := s.hdr a 16 4

/-- The size of the image's payload. -/
def State.payloadSize (s : State) (a : Nat) : Nat := s.codeSize a + s.tsInit a + s.ddrInit a

/-- Whether the header's role rules hold (R290). -/
def State.roleRules (s : State) (a : Nat) : Bool :=
  let cad := s.hdr a 21 1
  let n := s.hdr a 32 2
  match s.hdr a 6 1 with
  | 0 => true
  | 1 => cad = 0 && n = 16 && s.hdr a 26 2 ≤ s.fld F.CNJ_CTL.ctl_ctx * 64
  | 2 => cad = 0 && n = 10 && s.hdr a 26 2 ≤ s.fld F.CNJ_CTL.ctl_ctx * 64
  | 3 => cad = 1 && n = 332 && s.hdr a 26 2 ≤ s.fld F.CNJ_CTL.ctl_ctx * 64
  | _ => false

/-- The first check of the header or digest that the image at address a fails, from 1; 0 where it passes (the numbers are
the model's, log entry 3). -/
def State.modelCheck (s : State) (a : Nat) : Nat :=
  let within (lo x hi : Nat) : Bool := lo ≤ x && x ≤ hi
  if s.bytes a 4 ≠ [0x4B#8, 0x4D#8, 0x44#8, 0x4C#8] then 1
  else if s.hdr a 4 2 ≠ 0x100 || s.hdr a 34 2 ≠ 0 || s.hdr a 40 24 ≠ 0 then 2
  else if 3 < s.hdr a 6 1 then 3
  else if 7 < s.hdr a 7 1 then 4
  else if s.codeSize a % 4 ≠ 0 || s.codeSize a ≤ s.hdr a 36 4 || 0x4000000 < 160 + s.payloadSize a then 5
  else if !within 1 (s.hdr a 20 1) 128 || 896 < s.hdr a 22 2 || !within 2 (s.hdr a 24 2) 6144 then 6
  else if !within 1 (s.hdr a 26 2) 1024 || !within 1 (s.hdr a 32 2) 1024 || 2 < s.hdr a 21 1 then 7
  else if !s.roleRules a then 8
  else if s.hdr a 20 1 * 0x10000 < s.codeSize a + s.tsInit a || s.hdr a 22 2 * 0x1000000 < s.ddrInit a then 9
  else if s.hdr a 64 32 ≠ Config.sm3 (s.bytes (a + 160) (s.payloadSize a)) then 10
  else 0

/-- The serial number as a signer's user identifier (R357). -/
def State.uid (s : State) : List Byte := leBytes 16 s.fuses.serial

/-- Whether the image's signature verifies under the key in its key slot. -/
def State.modelSigned (s : State) (a : Nat) : Bool :=
  match (if h : s.hdr a 7 1 < 8 then s.sec.modelKeys[s.hdr a 7 1] else none) with
  | some key => Config.sm2Verify key s.uid (s.bytes a 96) (beNat (s.bytes (a + 96) 64))
  | none => false

/-- The windows of a kind (0 tensor SRAM, 1 DDR5, 2 shared SRAM) that the other valid partitions use, and what of shared
SRAM the images (R383), the clause banks and the declaration records take, in the kind's units: first unit and number. -/
def State.windowsUsed (s : State) (kind m : Nat) : List (Nat × Nat) :=
  let others := (List.range 16).filter fun i => i ≠ m && s.flag (F.CNJ_PART_CTL.valid i)
  (others.map fun i => match kind with
    | 0 => (s.fld (F.CNJ_PART_TS.base i), s.fld (F.CNJ_PART_TS.size i))
    | 1 => (s.fld (F.CNJ_PART_DDR.base i), s.fld (F.CNJ_PART_DDR.size i))
    | _ => (s.fld (F.CNJ_PART_SH.base i), s.fld (F.CNJ_PART_SH.size i))) ++ (if kind = 2 then [(0, 0x1701)] else [])

/-- How many units of a kind may be placed in a window. -/
def windowUnits (kind : Nat) : Nat := if kind = 0 then 128 else if kind = 1 then 896 else 6144

/-- Whether a window is clear of those in use. -/
def windowFree (kind size base : Nat) (used : List (Nat × Nat)) : Bool :=
  base + size ≤ windowUnits kind && used.all fun u => base + size ≤ u.1 || u.1 + u.2 ≤ base

/-- Where a window goes: where the security core places it, if that is free, else at the first place that is. -/
def placeWindow (kind size : Nat) (used : List (Nat × Nat)) : Option Nat :=
  let b := Config.windowBase kind size used
  if windowFree kind size b used then some b
  else (List.range (windowUnits kind + 1)).find? fun x => windowFree kind size x used

/-- The three windows for the image at address a, if they can be allocated. -/
def State.windowsFor (s : State) (a m : Nat) : Option (Nat × Nat × Nat) :=
  match placeWindow 0 (s.hdr a 20 1) (s.windowsUsed 0 m), placeWindow 1 (s.hdr a 22 2) (s.windowsUsed 1 m),
      placeWindow 2 (s.hdr a 24 2) (s.windowsUsed 2 m) with
  | some t, some d, some h => some (t, d, h)
  | _, _, _ => none

/-! ## Roles -/

/-- Give the roles that model slot m holds back to the built-in controllers. -/
def Act.releaseRoles (m : Fin 16) : Act :=
  Act.get fun s => Act.each (s.rolesOf m) fun r =>
    Act.seq [Act.role r fun x => { x with holder := none, run := 0 }, Act.model m fun x => { x with state := 2 },
      Act.emit 0x03 0x0B06 1 [r, 0xFF]]

/-! ## Commands (R293, R294) -/

/-- A command that needs DDR5: while the state is not ACTIVE it is answered BUSY with retry_ms 200 (R414), and in ACTIVE
without DDR5 it is answered NOSPACE (chapter 17, DDR registers). -/
def Act.needDdr (m : Fin 16) (cls cmd : Nat) (a : Act) : Act :=
  Act.get fun s =>
    if !s.active then Act.respondBusy m cls cmd 200
    else if s.fld F.DDR_STATUS.state ≠ 2 then Act.respond m cls cmd 8 []
    else a


/-- Whether model slot m belongs to another source. -/
def State.modelOthers (s : State) (src : Nat) (m : Fin 16) : Bool := (s.model m).owner ≠ 0 && (s.model m).owner ≠ src

/-- A command on a model slot, which must exist. -/
def Act.modelCommand (m : Fin 16) (cmd slot : Nat) (body : State → Nat → Fin 16 → Act) : Act :=
  Act.command m 6 cmd fun src => Act.get fun s =>
    match modelNo slot with
    | none => Act.respond m 6 cmd 5 []
    | some i => body s src i

/-- MODEL_WRITE: bytes into the staging area. -/
def Act.modelWrite (m : Fin 16) (slot off : Nat) (data : List Byte) : Act :=
  Act.modelCommand m 0x10 slot fun s src i =>
    if off % 4 ≠ 0 || data.length % 4 ≠ 0 || data.length < 4 || 4096 < data.length || 0x4000000 < off + data.length then
      Act.respond m 6 0x10 5 []
    else if s.modelOthers src i then Act.respond m 6 0x10 4 []
    else if s.slotBusy i then Act.respond m 6 0x10 7 []
    else Act.needDdr m 6 0x10 (Act.seq [
      Act.store (modelStage i + off) data,
      Act.model i fun x => { x with owner := src, state := if x.state = 0 then 1 else x.state },
      Act.respond m 6 0x10 0 []])

def execModelWrite (m : Fin 16) (slot off : Nat) (data : List (BitVec 8)) (s : State) :
    Host.Outcome State Fault Refusal := (Act.modelWrite m slot off data).go s

/-- Carry out a commit whose checks have passed (R291); bound is the slot and context it is bound to (R365). -/
def Act.modelLoad (i : Fin 16) (win : Nat × Nat × Nat) (bound : Option (Nat × Nat)) : Act :=
  Act.get fun s =>
    let a := modelStage i
    Act.seq [
      Act.releaseRoles i,
      Act.poisonOwned fun o => o == 0x20 + i.val,
      Act.setF (F.CNJ_PART_TS.base i) win.1, Act.setF (F.CNJ_PART_TS.size i) (s.hdr a 20 1),
      Act.setF (F.CNJ_PART_DDR.base i) win.2.1, Act.setF (F.CNJ_PART_DDR.size i) (s.hdr a 22 2),
      Act.setF (F.CNJ_PART_SH.base i) win.2.2, Act.setF (F.CNJ_PART_SH.size i) (s.hdr a 24 2),
      Act.zeroTensor i,
      Act.setBytes (tensorBase + win.1 * 0x10000) (s.bytes (a + 160) (s.codeSize a + s.tsInit a)),
      Act.setBytes (ddrBase + win.2.1 * 0x1000000) (s.bytes (a + 160 + s.codeSize a + s.tsInit a) (s.ddrInit a)),
      Act.setB (F.CNJ_PART_CTL.zero i) false,
      Act.setB (F.CNJ_PART_CTL.valid i) true,
      Act.model i fun x => { x with
        state := 2, role := s.hdr a 6 1, cadence := s.hdr a 21 1, nOut := s.hdr a 32 2, threads := s.hdr a 26 2,
        limitUs := s.hdr a 28 4, codeSize := s.codeSize a, entry := s.hdr a 36 4, digest := s.hdr a 64 32,
        bound := bound, out := [], keySlot := s.hdr a 7 1 }]

/-- A commit of model slot i by a source, bound to a slot and context or to none, answered by reply from its status,
retry_ms and payload (R291, R365, R414). A refused commit is recorded with the check that failed. -/
def Act.commitBy (src : Nat) (bound : Option (Nat × Nat)) (i : Fin 16) (reply : Nat → Nat → List Byte → Act) : Act :=
  Act.get fun s =>
    let a := modelStage i
    let refused (status check : Nat) : Act := (Act.emit 0x03 0x0B05 2 [i, status, check]).andThen (reply status 0 [])
    if s.modelOthers src i || (src = 2 && s.hdr a 6 1 ≠ 0) then refused 4 0
    else if s.slotBusy i then refused 7 0
    else if !s.active then reply 7 200 []
    else if s.fld F.DDR_STATUS.state ≠ 2 then reply 8 0 []
    else if s.modelCheck a ≠ 0 then refused 6 (s.modelCheck a)
    else if !s.modelSigned a then refused 9 0
    else match s.windowsFor a i with
      | none => refused 8 0
      | some win => Act.seq [
          Act.modelLoad i win bound,
          Act.emit 0x03 0x0B04 1 [i, src, s.hdr a 6 1, s.hdr a 64 8],
          reply 0 0 (itemBytes 6 0x11 [s.hdr a 64 32])]

/-- MODEL_COMMIT outside a session: bound to no context (R365). -/
def Act.modelCommit (m : Fin 16) (slot : Nat) : Act :=
  Act.modelCommand m 0x11 slot fun _ src i => Act.commitBy src none i fun st retry p => Act.respondWith m 6 0x11 st 0 retry p

def execModelCommit (m : Fin 16) (slot : Nat) (s : State) : Host.Outcome State Fault Refusal := (Act.modelCommit m slot).go s

/-- Role number r, 1 to 3. -/
def roleNo (r : Nat) : Option (Fin 4) := if h : 1 ≤ r ∧ r < 4 then some ⟨r, h.2⟩ else none

/-- The holder of a role gives it up. -/
def Act.roleBack (r : Fin 4) : Act :=
  Act.get fun s =>
    match s.learned.roles[r].holder.bind modelNo with
    | some i => (Act.role r fun x => { x with holder := none, run := 0 }).andThen (Act.model i fun x => { x with state := 2 })
    | none => Act.skip

/-- MODEL_ASSIGN: the manager gives a role to a LOADED model of that role, or returns it; a demoted model's slot counts as
LOADED (R286). -/
def Act.modelAssign (m : Fin 16) (slot role : Nat) : Act :=
  Act.managerCommand m 6 0x12 (Act.get fun s =>
    match roleNo role with
    | none => Act.respond m 6 0x12 5 []
    | some r =>
      if slot = 0xFF then Act.seq [Act.roleBack r, Act.emit 0x03 0x0B06 1 [r, 0xFF], Act.respond m 6 0x12 0 []]
      else match modelNo slot with
        | none => Act.respond m 6 0x12 5 []
        | some i =>
          if s.modelOthers 1 i then Act.respond m 6 0x12 4 []
          else if ((s.model i).state ≠ 2 && (s.model i).state ≠ 4) || (s.model i).role ≠ role then Act.respond m 6 0x12 6 []
          else Act.seq [
            Act.roleBack r,
            Act.role r fun x => { x with holder := some i.val, run := 0 },
            Act.model i fun x => { x with state := 3 },
            Act.emit 0x03 0x0B06 1 [r, i],
            Act.respond m 6 0x12 0 []])

def execModelAssign (m : Fin 16) (slot role : Nat) (s : State) : Host.Outcome State Fault Refusal :=
  (Act.modelAssign m slot role).go s

/-- The Qualifier channels of a role. -/
def roleChannels (r : Nat) : List Nat :=
  if r = 1 then List.range 16 else if r = 2 then [36, 37] else if r = 3 then (List.range 20).map (· + 16) else []

/-- The discard and clamp counts of a role's channels; those of a slot in SCRUB or WAIT_DEVICE read all ones (R366). -/
def State.roleCounts (s : State) (r : Nat) : List Nat :=
  match roleNo r with
  | some i => s.learned.roles[i].total :: (roleChannels r).map fun c =>
      if c < 16 && s.hidden (c % 8) then 0xFFFF else s.fld (F.QUA_CNT.clamped c)
  | none => []

/-- MODEL_QUERY. -/
def Act.modelQuery (m : Fin 16) (slot : Nat) : Act :=
  Act.command m 6 0x13 fun _ => Act.get fun s =>
    if slot = 0xFF then
      Act.respondItems m 6 0x13 0 ([(1 : Fin 4), 2, 3].flatMap fun r =>
        [(s.learned.roles[r].holder).getD 0xFF, b2n s.learned.roles[r].demoted])
    else match modelNo slot with
      | none => Act.respond m 6 0x13 5 []
      | some i =>
        let x := s.model i
        Act.respondItems m 6 0x13 0 ([x.owner, x.state, x.role, x.digest, (s.reg (R.CNJ_PART_TS i)).toNat,
          (s.reg (R.CNJ_PART_DDR i)).toNat, (s.reg (R.CNJ_PART_SH i)).toNat] ++ s.roleCounts x.role)

def execModelQuery (m : Fin 16) (slot : Nat) (s : State) : Host.Outcome State Fault Refusal := (Act.modelQuery m slot).go s

/-- Return model slot i to EMPTY: roles, partition, window and objects. -/
def Act.modelEmpty (i : Fin 16) : Act :=
  Act.seq [
    Act.releaseRoles i,
    Act.setB (F.CNJ_PART_CTL.valid i) false,
    Act.zeroTensor i,
    Act.poisonOwned fun o => o == 0x20 + i.val,
    Act.model i fun _ => Model.reset]

/-- MODEL_FREE: by the owner, or any slot by the manager. -/
def Act.modelFree (m : Fin 16) (slot : Nat) : Act :=
  Act.modelCommand m 0x14 slot fun s src i =>
    if src ≠ 1 && s.modelOthers src i then Act.respond m 6 0x14 4 []
    else if s.slotBusy i then Act.respond m 6 0x14 7 []
    else (Act.modelEmpty i).andThen (Act.respond m 6 0x14 0 [])

def execModelFree (m : Fin 16) (slot : Nat) (s : State) : Host.Outcome State Fault Refusal := (Act.modelFree m slot).go s

/-- MODEL_RUN: an advisory model of cadence 2, launched by the scheduler core at priority 1; its cadence has no limit. -/
def Act.modelRun (m : Fin 16) (slot : Nat) (data : List Byte) : Act :=
  Act.modelCommand m 0x15 slot fun s src i =>
    let x := s.model i
    if 4088 < data.length then Act.respond m 6 0x15 5 []
    else if s.modelOthers src i then Act.respond m 6 0x15 4 []
    else if x.state ≠ 2 || x.role ≠ 0 || x.cadence ≠ 2 then Act.respond m 6 0x15 6 []
    else
      (Act.store (s.winSh i).1 data).andThen
        (Act.launchFor 2 (s.modelJob i 1 x.limitUs) fun ref => Act.respond m 6 0x15 (if ref.isSome then 0 else 7) [])

def execModelRun (m : Fin 16) (slot : Nat) (data : List (BitVec 8)) (s : State) : Host.Outcome State Fault Refusal :=
  (Act.modelRun m slot data).go s

/-- MODEL_READ: the output block of an advisory model's last DONE; DENIED in confidential mode. -/
def Act.modelRead (m : Fin 16) (slot : Nat) : Act :=
  Act.modelCommand m 0x16 slot fun s src i =>
    if s.conf || s.modelOthers src i then Act.respond m 6 0x16 4 []
    else if (s.model i).state < 2 || (s.model i).role ≠ 0 then Act.respond m 6 0x16 6 []
    else Act.respond m 6 0x16 0 (s.model i).out

def execModelRead (m : Fin 16) (slot : Nat) (s : State) : Host.Outcome State Fault Refusal := (Act.modelRead m slot).go s

/-- MODEL_CFG: the fail limit of a role. -/
def Act.modelCfg (m : Fin 16) (role failLimit : Nat) : Act :=
  Act.managerCommand m 6 0x17
    (match roleNo role with
     | some r =>
       if 1 ≤ failLimit && failLimit ≤ 4000 then
         (Act.role r fun x => { x with limit := failLimit }).andThen (Act.respond m 6 0x17 0 [])
       else Act.respond m 6 0x17 5 []
     | none => Act.respond m 6 0x17 5 [])

def execModelCfg (m : Fin 16) (role failLimit : Nat) (s : State) : Host.Outcome State Fault Refusal :=
  (Act.modelCfg m role failLimit).go s

/-! ## Attribution (R277, R278) -/

/-- The log records of an interval and channel that the scheduler core has handled. -/
def State.intervalRecs (s : State) (interval ch : Nat) : List ItsRec :=
  s.its.log.filter fun r => r.interval == interval && r.chan == ch && r.seq ≤ s.its.handled

/-- The CLOSE record of an interval and channel. -/
def State.closeOf (s : State) (interval ch : Nat) : Option ItsRec :=
  (s.intervalRecs interval ch).find? fun r => r.typ == 2

/-- The latest interval whose CLOSE records have been seen on all nine channels. -/
def State.closedInterval (s : State) : Option Nat :=
  (s.its.log.find? fun r => r.typ == 2 && (List.range 9).all fun c => (s.closeOf r.interval c).isSome).map fun r => r.interval

/-- The channels whose records of an interval carry VOID or CAL. -/
def State.unmetered (s : State) (interval : Nat) : Nat :=
  maskOf ((List.range 9).filter fun c =>
    match s.closeOf interval c with | some r => bitOf r.flags 0 || bitOf r.flags 3 | none => false)

/-- The registers of slot n's channel that were selected in an interval, ascending. -/
def State.intervalRegs (s : State) (interval n : Nat) : List Nat :=
  sortBy id (((s.intervalRecs interval (n + 1)).filter fun r => r.typ == 1).map fun r => r.reg)

/-- The overhead energy of an interval in mJ: channel 0's CLOSE value less those of channels 1 to 8. -/
def State.overhead (s : State) (interval : Nat) : Nat :=
  let v (c : Nat) : Nat := match s.closeOf interval c with | some r => r.value | none => 0
  v 0 - (List.range 8).foldl (fun a i => a + v (i + 1)) 0

/-- The overhead of a register of an attributed slot: its share by the model's weights, rounded down, so that the shares and
the unassigned remainder sum to the overhead energy. -/
def State.attribShare (s : State) (x : Attrib) (reg : Nat) : Nat :=
  let mine := s.learned.attribs.filter fun y => y.interval == x.interval
  let total := mine.foldl (fun a y => y.regs.foldl (fun a r => a + Config.attribWeight y.out y.slot r)
    (a + Config.attribWeight y.out y.slot 33)) 0
  s.overhead x.interval * Config.attribWeight x.out x.slot reg / max 1 total

/-- The overhead of an interval that no register of this tray was given. -/
def State.unassigned (s : State) (interval : Nat) : Nat :=
  (s.learned.attribs.filter fun y => y.interval == interval).foldl
    (fun a y => y.regs.foldl (fun a r => a - s.attribShare y r) a) (s.overhead interval)

/-- Note an open context's attribution in its own log (R375). -/
def Act.attribLogs (x : Attrib) : Act :=
  Act.get fun s => Act.each (x.regs.filter fun r => r < 32) fun r =>
    Act.ctxLog (Fin.ofNat 8 x.slot) (r % 16) 0x0800
      [x.interval, s.attribShare x r, unsignedOf 64 (Config.attribBoundary x.out x.slot r)]

/-- What the attribution model is given of interval i (R277). -/
def State.attribInput (s : State) (i : Nat) : AttribIn :=
  { interval := i
    energies := (List.range 9).flatMap fun c => (s.intervalRecs i c).map fun r => (c, if r.typ = 2 then 33 else r.reg, r.value)
    means := (s.learned.means.filter fun p => p.1 == i).map Prod.snd
    timeline := (s.learned.timeline.filter fun p => p.1 == i).map Prod.snd }

/-- ATTRIBUTION_RUN: the scheduler core launches the attribution model, a priority-1 job, on the interval last closed on all
nine channels (R269, R277); an interval with a VOID or CAL channel gets none and is recorded (R278). What has been gathered
of it and of older intervals is then let go. -/
def Act.attributionRun : Act :=
  Act.get fun s =>
    if !s.powered || !s.coreUp 2 || !s.learns then Act.skip
    else match s.closedInterval with
      | none => Act.skip
      | some i =>
        if s.learned.attribInterval = some i || s.learned.attrib.any (fun a => a.2 == i && s.jobLives a.1) then Act.skip
        else if s.unmetered i ≠ 0 then Act.seq [
          Act.learnedx fun x => { x with attribs := [], attribInterval := some i },
          Act.emit 0x03 0x0B07 2 [i, s.unmetered i]]
        else (Act.learnedx fun x => { x with
            attribIn := some (s.attribInput i)
            means := x.means.filter fun p => i < p.1
            timeline := x.timeline.filter fun p => i < p.1 }).andThen
          (Act.launchFor 2 (s.learned.svc[(2 : Fin 3)].job 1 0) fun ref =>
            Act.learnedx fun x => { x with attrib := ref.map fun j => (j, i) })

def execAttributionRun (s : State) : Host.Outcome State Fault Refusal := Act.attributionRun.go s

/-- The attribution job of interval i has ended: a valid result is the attribution of every slot, and any other is none,
since it is computed once (R278, R287). -/
def Act.attributionEnded (i : Nat) (e : EvalRes) : Act :=
  Act.get fun s =>
    let l := if evalOk e then (List.range 8).map fun n => (⟨i, n, e.out, s.intervalRegs i n⟩ : Attrib) else []
    Act.seq [
      Act.learnedx fun x => { x with attrib := none, attribs := l, attribInterval := some i },
      Act.each l Act.attribLogs]

/-! ## The end of a job (R254, R268, R277) -/

/-- JOB_END: the job ends, and the core that waits on its completion word takes its result. -/
def Act.jobEnded (j : Nat) : Act :=
  Act.get fun s =>
    let r := s.job j
    let ref : JobRef := (j, r.order)
    if s.powered && r.st = .ending then Act.seq [
      Act.jobEnd j,
      Act.when (s.coreUp 1) (Act.chainEnded ref r),
      (match s.learned.attrib with
       | some (x, i) =>
         if x = ref && s.coreUp 2 then
           Act.attributionEnded i (r.result false (s.blockAt (s.learned.svc[(2 : Fin 3)].outs.getD 0 0) Config.attribWords))
         else Act.skip
       | none => Act.skip)]
    else Act.skip

def execJobEnd (j : Fin 64) (s : State) : Host.Outcome State Fault Refusal := (Act.jobEnded j).go s

end Sys2Proof.Machine
end

