-- ==== Sys2Proof/Machine/Tense.lean ====
section
/-!
DEFINITION. Tense: the tick, the counters and their adjustment, the speed of the logic die, the crystal, and the receive
side of the Ethernet ports' FIFOs (R45, R46, R50 to R54, R59, R327).
-/
namespace Sys2Proof.Machine

/-! ## Counters (R52, R53) -/

/-- The 64-bit value of a Tense counter. -/
def State.counter (s : State) : TnsCounter → Nat
  | .tick => s.tns.tick % 2 ^ 64
  | .optime => s.tns.opMs % 2 ^ 40
  | .dtime => s.tns.dtime % 2 ^ 64

/-- A read of the LO register latches the HI register. -/
def Act.latchHi (c : TnsCounter) : Act :=
  Act.get fun s =>
    match c with
    | .tick => Act.setF F.TNS_TICK_HI.hi (s.counter .tick / 2 ^ 32)
    | .optime => Act.setF F.TNS_OPTIME_HI.hi (s.counter .optime / 2 ^ 32)
    | .dtime => Act.setF F.TNS_DTIME_HI.hi (s.counter .dtime / 2 ^ 32)

/-- TNS_COUNTER_LO_READ by core k; it clears what Tense raised for that core, as any read of the block does (log entry 47).
-/
def execTnsCounterLoRead (k : Fin 13) (c : TnsCounter) (s : State) : Host.Outcome State Fault Refusal :=
  (Act.get fun s => Act.when (s.powered && s.coreUp k) ((Act.latchHi c).andThen (Act.lineRead k R.TNS_TICK_LO))).go s

/-- The rate offset of domain time in ppb (R54). -/
def State.rate (s : State) : Int := signed 32 (s.fld F.TNS_ADJ.rate)

/-- One tick of the counters: domain time advances by 1,000 ns at the rate offset, in steps of 2 ns (R52 to R54). -/
def Tense.advance (t : Tense) (rate : Int) : Tense :=
  let frac := t.dfrac + 1000 * (1000000000 + rate)
  { t with
    tick := t.tick + 1,
    opMs := if (t.tick + 1) % 1000 = 0 then t.opMs + 1 else t.opMs,
    dtime := (t.dtime + 2 * (frac / 2000000000).toNat) % 2 ^ 64,
    dfrac := frac % 2000000000 }

/-! ## Speed (R45, R46) -/

/-- Take a reading of the logic die's speed: below the threshold the slow flag is set, with an event unless it is set
already. The event is recorded also while the power core, which R60 names as its source, does not run (DESIGN CHOICE, log
entry 99). -/
def Act.speed (v : Nat) : Act :=
  Act.get fun s =>
    let thr := s.fld F.TNS_CTL.slow_thresh
    Act.seq [
      Act.setF F.TNS_SPEED.speed v,
      Act.tense fun t => { t with goodTicks := if thr < v then t.goodTicks + 1 else 0 },
      Act.when (v < thr && !s.flag F.TNS_STATUS.slow)
        ((Act.setB F.TNS_STATUS.slow true).andThen (Act.emit 0x02 0x0010 2 [v, thr]))]

/-- A STAGED frame of a relay that has waited its 5 µs (R313). -/
def State.stagedWaiting (s : State) (g : Nat) : Bool :=
  match s.grp g with
  | some x => x.stagedDue && x.stagedAt + 5 ≤ s.tns.tick
  | none => false

/-- The interrupt lines of Tense: TICK of the power core every 25 µs, MS of every core every 1 ms (R226). -/
def Act.tickLines : Act :=
  Act.get fun s => Act.seq [
    Act.when (s.tns.tick % 25 = 0) (Act.raiseLine 1 0),
    Act.when (s.tns.tick % 1000 = 0) (Act.raiseLines (List.finRange 13) 1)]

/-- Whether the conditions of R415 hold: the tray is OFF and down, main_hold is 0, no job is queued or running, and no
slot-flash update or commit is in progress. -/
def State.idle (s : State) : Bool :=
  s.active && !s.effOn 8 && s.quiet 8 && s.bindState 8 ≠ 1 && s.bindState 8 ≠ 2 && !s.flag F.RST_CTL.main_hold &&
    (s.jobs.all fun p => p.2.st = .free) && !s.boot.programming &&
    (List.range 8).all fun n => s.fld (F.BOOT_SLOTFL_STAT.state n) = 0 || 4 ≤ s.fld (F.BOOT_SLOTFL_STAT.state n)

/-- Note since when the conditions of R415 have held. -/
def Act.idleTick : Act :=
  Act.get fun s => Act.rstx fun r => { r with idleSince := if s.idle then some (r.idleSince.getD s.tns.tick) else none }

/-- TENSE_TICK: the counters advance, the recorder's tokens are filled, and the speed is taken. -/
def Act.tenseTick (speed : Nat) : Act :=
  Act.get fun s => Act.when s.powered (Act.seq [
    Act.tense fun t => t.advance s.rate,
    Act.evr (fun _ e => e.tick) (fun _ e h => Evr.tick_ok e h),
    Act.speed speed,
    Act.tickLines,
    Act.idleTick])

/-- LOGIC_SLOW_CLEAR: the speed has stayed above the threshold for 10 ms. -/
def Act.slowClear : Act :=
  Act.get fun s => Act.when (s.powered && s.flag F.TNS_STATUS.slow && 10000 ≤ s.tns.goodTicks) (Act.setB F.TNS_STATUS.slow false)

def execLogicSlowClear (s : State) : Host.Outcome State Fault Refusal := Act.slowClear.go s

/-! ## Rate (R54) -/

/-- A write of TNS_ADJ: the rate offset is clamped to ±500,000 ppb. -/
def Act.adjWrite (v : Nat) : Act :=
  let r := signed 32 v
  let c : Int := max (-500000) (min 500000 r)
  (Act.setF F.TNS_ADJ.rate (unsignedOf 32 c)).andThen (Act.when (c ≠ r) (Act.setB F.TNS_STATUS.adj_clamp true))

/-- TNS_ADJ_WRITE by core k. -/
def execTnsAdjWrite (k : Fin 13) (v : BitVec 32) (s : State) : Host.Outcome State Fault Refusal :=
  (Act.get fun s => Act.when (s.powered && s.coreUp k) (Act.adjWrite v.toNat)).go s

/-! ## Crystal (R59) -/

/-- XTAL_LOST: Tense continues from the reference oscillator. The event is recorded whether or not the power core runs
(DESIGN CHOICE, log entry 99). -/
def Act.xtalLost : Act :=
  Act.get fun s => Act.when (s.powered && !s.flag F.TNS_STATUS.xtal_lost) (Act.seq [
    Act.setB F.TNS_STATUS.xtal_lost true,
    Act.setB F.TNS_STATUS.ptp_valid false,
    Act.tense fun t => { t with lostAt := t.tick },
    Act.emit 0x02 0x0013 3 [s.tns.tick]])

def execXtalLost (s : State) : Host.Outcome State Fault Refusal := Act.xtalLost.go s

/-- XTAL_RESTORED: Tense switches back, without a step of domain time. The event is recorded whether or not the power core
runs (DESIGN CHOICE, log entry 99). -/
def Act.xtalRestored : Act :=
  Act.get fun s => Act.when (s.powered && s.flag F.TNS_STATUS.xtal_lost) (Act.seq [
    Act.setB F.TNS_STATUS.xtal_lost false,
    Act.emit 0x02 0x0014 1 [(s.tns.tick - s.tns.lostAt) / 1000]])

def execXtalRestored (s : State) : Host.Outcome State Fault Refusal := Act.xtalRestored.go s

/-! ## Receive FIFOs (R50, R327, R331) -/

/-- How many bytes the FIFO of priority p holds once the controller has taken some from it. -/
def State.fifoLeft (s : State) (l p : Fin 8) (taken : Nat) : Nat := s.eth.ports[l].fifo[p] - taken

/-- The fill of the FIFO of priority p at port l becomes n bytes; past three quarters a pause is sent for priorities 0 to 6.
-/
def Act.fifoFill (l p : Fin 8) (n : Nat) : Act :=
  Act.get fun s =>
    let high := p.val < 7 && Config.fifoBytes * 3 < n * 4
    let was := bitOf s.eth.ports[l].pausing p
    (Act.port l fun x => { x with fifo := x.fifo.set p n, pausing := putBit x.pausing p high }).andThen
      (Act.when (high && !was) (Act.ethSend l (.pause l p)))

/-- The timestamp that port l takes now: domain time as the port's own copy has it, which lies within 4 ns of Tense, in
steps of 2 ns, corrected for the lane and MACsec latency (R58, R331). How far the copy lies off is a free value (log entry
25). -/
def State.portStamp (s : State) (l : Nat) : Nat :=
  unsignedOf 64 (((s.tns.dtime : Int) + max (-4) (min 4 (Config.portSkew l s.tns.tick))) / 2 * 2)

/-- Port l takes the timestamp of a PTP event message; none while the crystal is lost (R58, R333). -/
def Act.takeStamp (l : Fin 8) : Act :=
  Act.get fun s => Act.when (!s.flag F.TNS_STATUS.xtal_lost) (Act.port l fun x => { x with stamp := some (s.portStamp l) })

/-- ETH_FRAME_RECEIVE: a frame of len bytes arrives for priority p at port l, after the controller has taken some bytes from
that FIFO. Where MACsec is required, what does not verify is dropped, EAPOL frames alone excepted. A frame that does not fit
whole into the space left arrives at a full FIFO and is dropped (DESIGN CHOICE, log entry 25). -/
def Act.frameReceive (l p : Fin 8) (len taken : Nat) (macsecOk : Bool) (kind : FrameKind) : Act :=
  Act.get fun s =>
    if !s.powered || !s.portUp l then Act.skip
    else
      let left := s.fifoLeft l p taken
      (Act.when (kind = .ptpEvent) (Act.takeStamp l)).andThen
        (if s.flag (F.ETH_PORT_CFG.macsec_req l) && !macsecOk && kind != .eapol then
          (Act.fifoFill l p left).andThen (Act.bump (F.ETH_MACSEC_DROP.count l))
        else if Config.fifoBytes < left + len then
          (Act.fifoFill l p left).andThen (Act.bump (F.ETH_RX_DROP.count l p))
        else Act.fifoFill l p (left + len))

def execEthFrameReceive (port prio : Fin 8) (len taken : Nat) (macsecOk : Bool) (kind : FrameKind) (s : State) :
    Host.Outcome State Fault Refusal := (Act.frameReceive port prio len taken macsecOk kind).go s

/-- PFC_PAUSE_RECEIVED: the priorities that the peer now pauses, honoured on 0 to 6: their frames wait, and those of a
priority that it no longer pauses leave (R327). -/
def Act.pauseReceived (l : Fin 8) (prios : Nat) : Act :=
  Act.get fun s => Act.when (s.powered && s.portUp l)
    ((Act.port l fun x => { x with paused := clrBit prios 7 }).andThen (Act.egress l))

def execPfcPauseReceived (port : Fin 8) (prios : BitVec 8) (s : State) : Host.Outcome State Fault Refusal :=
  (Act.pauseReceived port prios.toNat).go s

end Sys2Proof.Machine
end

