-- ==== Sys2Proof/Machine/Agree.lean ====
section
/-!
DEFINITION. Agreement on the die: the object table, the barrier lines with their network side, and the debugger dump
(R296 to R307, R315 to R317, R321 to R323).
-/
namespace Sys2Proof.Machine

/-! ## Misuse (R305, R325) -/

/-- A misuse fault is shown, counted and recorded.  kind: 0 third arrival, 1 non-member, 2 TINIT by a non-owner, 3 line
write; the model's numbering (log entry 3). -/
def Act.misuse (kind core what : Nat) : Act :=
  Act.seq [
    Act.setB F.AGR_STATUS.misuse true,
    Act.bump F.AGR_MISUSE_CNT.count,
    Act.emit 0x25 0x0C00 2 [kind, core, what],
    Act.dumpTrigger 2 core]

/-- A misuse fault on line l. -/
def Act.lineMisuse (kind : Nat) (k : Fin 13) (l : Fin 32) : Act :=
  (Act.bump (F.AGR_LINE_MIS.count l)).andThen (Act.misuse kind k l)

/-! ## Objects (R296 to R299, R321) -/

/-- Whether core k is the one that an owner code designates (R297). -/
def State.designates (s : State) (owner k : Nat) : Bool :=
  owner == k || (0x10 ≤ owner && owner < 0x18 && s.slotCore (owner - 0x10) == k)

/-- The answer to an object command: 1 done or 2 refused, with a reason. -/
def Act.objResult (k result reason : Nat) : Act :=
  (Act.setF (F.AGR_OBJ_RES.result k) result).andThen (Act.setF (F.AGR_OBJ_RES.reason k) reason)

/-- A command done. -/
def Act.objDone (k : Nat) (a : Act) : Act := a.andThen (Act.objResult k 1 0)

/-- READ: the entry goes to the registers of core k. -/
def Act.objRead (k : Nat) (o : Obj) : Act :=
  Act.seq [
    Act.setF (F.AGR_OBJ_BASE.word k) o.base,
    Act.setF (F.AGR_OBJ_LEN.words k) o.len,
    Act.setF (F.AGR_OBJ_OWN.heirs k) o.heirs,
    Act.setF (F.AGR_OBJ_OWN.kind k) o.kind,
    Act.setF (F.AGR_OBJ_OWN.owner k) o.owner]

/-- The object that the registers of core k describe. -/
def State.objAsked (s : State) (k : Nat) : Obj :=
  { base := s.fld (F.AGR_OBJ_BASE.word k), len := s.fld (F.AGR_OBJ_LEN.words k),
    owner := s.fld (F.AGR_OBJ_OWN.owner k), heirs := s.fld (F.AGR_OBJ_OWN.heirs k),
    kind := s.fld (F.AGR_OBJ_OWN.kind k), poisoned := false, cleared := [], claimer := none }

/-- Whether two objects share a word. -/
def Obj.overlaps (a b : Obj) : Bool := a.base < b.base + b.len && b.base < a.base + a.len

/-- REGISTER of entry i by core k. -/
def Act.objRegister (k i : Nat) (used : Bool) : Act :=
  Act.get fun s =>
    let o := s.objAsked k
    if used then Act.objResult k 2 5
    else if o.len = 0 || 65536 < o.len || sharedSize / 8 < o.base + o.len then Act.objResult k 2 2
    else if s.objs.any fun p => p.2.overlaps o then Act.objResult k 2 1
    else Act.objDone k (Act.modObjs fun l => Sparse.ins i o l)

/-- UNREGISTER of entry i by core k. -/
def Act.objUnregister (k i : Nat) (o : Obj) : Act :=
  Act.get fun s =>
    if k ≠ 0 && !s.designates o.owner k then Act.objResult k 2 3
    else if o.poisoned || s.waitersOnObj o ≠ 0 then Act.objResult k 2 6
    else Act.objDone k (Act.modObjs fun l => l.filter fun p => p.1 != i)

/-- CLAIM of entry i by core k: a code of a slot stays, any other becomes the core's (R299). -/
def Act.objClaim (k i : Nat) (o : Obj) : Act :=
  Act.get fun s =>
    if !o.poisoned then Act.objResult k 2 4
    else if k ≠ 0 && !bitOf o.heirs k && !s.designates o.owner k then Act.objResult k 2 3
    else
      let owner := if 0x10 ≤ o.owner && o.owner < 0x18 then o.owner else k
      Act.objDone k ((Act.modObj i fun o => { o with owner := owner, claimer := some k }).andThen
        (Act.emit 0x25 0x0C02 1 [i, owner]))

/-- SET_OWNER of entry i by core k: a live object takes OWN. -/
def Act.objSetOwner (k i : Nat) (o : Obj) : Act :=
  Act.get fun s =>
    if k ≠ 0 && !s.designates o.owner k then Act.objResult k 2 3
    else if o.poisoned then Act.objResult k 2 6
    else
      let q := s.objAsked k
      Act.objDone k (Act.modObj i fun o => { o with owner := q.owner, heirs := q.heirs, kind := q.kind })

/-- A command of core k on the entry that AGR_OBJ_IDX names: 1 READ, 2 REGISTER, 3 UNREGISTER, 4 CLAIM, 5 SET_OWNER. -/
def Act.objCmd (k : Fin 13) (cmd : Nat) : Act :=
  Act.get fun s =>
    let i := s.fld (F.AGR_OBJ_IDX.idx k)
    match s.objs.lookup i with
    | none =>
      if cmd = 2 then Act.objRegister k i false
      else if cmd = 0 || 5 < cmd then Act.skip
      else Act.objResult k 2 5
    | some o =>
      if cmd = 1 then Act.objDone k (Act.objRead k o)
      else if cmd = 2 then Act.objRegister k i true
      else if cmd = 3 then Act.objUnregister k i o
      else if cmd = 4 then Act.objClaim k i o
      else if cmd = 5 then Act.objSetOwner k i o
      else Act.skip

/-- A write of AGR_OBJ_CMD by core k, while the core runs. -/
def Act.objRow (k : Fin 13) (cmd : Nat) : Act := Act.get fun s => Act.when (s.powered && s.coreUp k) (Act.objCmd k cmd)

def execRead (k : Fin 13) (s : State) : Host.Outcome State Fault Refusal := (Act.objRow k 1).go s

def execRegister (k : Fin 13) (s : State) : Host.Outcome State Fault Refusal := (Act.objRow k 2).go s

def execUnregister (k : Fin 13) (s : State) : Host.Outcome State Fault Refusal := (Act.objRow k 3).go s

def execClaim (k : Fin 13) (s : State) : Host.Outcome State Fault Refusal := (Act.objRow k 4).go s

def execSetOwner (k : Fin 13) (s : State) : Host.Outcome State Fault Refusal := (Act.objRow k 5).go s

/-! ## Lines (R302 to R307, R315 to R317) -/

/-- The members of line l, and those that have arrived in the open round. -/
def State.members (s : State) (l : Fin 32) : Nat := s.fld (F.AGR_LINE_CFG.members l)
def State.arrived (s : State) (l : Fin 32) : Nat := s.fld (F.AGR_LINE_STAT.arrived l)

/-- Whether every local member of line l has arrived. -/
def State.allArrived (s : State) (l : Fin 32) : Bool := s.members l &&& s.arrived l == s.members l

/-- Whether every child of group g has arrived at line l. -/
def State.kidsArrived (s : State) (g : Nat) (l : Fin 32) : Bool :=
  match s.grp g with
  | some x => (List.range x.kids.length).all fun i =>
      bitOf s.lines[l].kids i || (match x.kids[i]? with | some p => !p.valid | none => true)
  | none => false

/-- The open round of line l completes: the sense inverts, the waiters for the old sense complete, the next round opens and
takes the parked arrivals (R303, R304). -/
def Act.roundDone (l : Fin 32) : Act :=
  Act.get fun s =>
    let old := s.flag (F.AGR_LINE_STAT.sense l)
    Act.seq [
      Act.setB (F.AGR_LINE_STAT.sense l) (!old),
      Act.setF (F.AGR_LINE_ROUND.round l) (s.lines[l].round + 1),
      Act.line l fun x => { x with round := x.round + 1, kids := 0, sentArrive := false },
      Act.setF (F.AGR_LINE_STAT.arrived l) (s.fld (F.AGR_LINE_STAT.parked l)),
      Act.setF (F.AGR_LINE_STAT.parked l) 0,
      Act.setB (F.AGR_LINE_STAT.net_pending l) false,
      Act.releaseLine l 0 (BitVec.ofNat 64 (b2n !old)) (fun b => b == old)]

/-- Send the ARRIVE of line l upward: flag bit 6 once this device has arrived, bit 1 while it reports poison (R315, R317,
R319). -/
def Act.sendArrive (l : Fin 32) (flags : Nat) : Act :=
  Act.get fun s =>
    let x := s.lines[l]
    (Act.line l fun y => { y with sentAt := s.tns.tick }).andThen
      (Act.sendUp (s.fld (F.AGR_LINE_CFG.group l)) 4 (flags + 2 * b2n x.poisonUp + 64 * b2n x.sentArrive)
        [l, x.round, x.kids, 0, 0])

/-- What follows on line l once its arrivals have changed: a local round completes; a network barrier reports upward, or its
root releases it.  At most n rounds complete at once. -/
def Act.lineCheck (l : Fin 32) : Nat → Act
  | 0 => Act.skip
  | n + 1 => Act.get fun s =>
    if s.flag (F.AGR_LINE_STAT.poisoned l) || !s.allArrived l then Act.skip
    else if !s.flag (F.AGR_LINE_CFG.net l) then
      Act.when (s.members l ≠ 0) ((Act.roundDone l).andThen (Act.lineCheck l n))
    else
      let g := s.fld (F.AGR_LINE_CFG.group l)
      if (s.grp g).isNone then Act.skip
      else (Act.setB (F.AGR_LINE_STAT.net_pending l) true).andThen
        (if s.grpRole g ≠ 0 && !s.kidsArrived g l then Act.skip
         else if s.grpRole g = 2 then Act.seq [
          Act.sendDown g 5 0 [l, s.lines[l].round, 0, 0, 0],
          Act.roundDone l,
          Act.lineCheck l n]
         else if s.lines[l].sentArrive then Act.skip
         else (Act.line l fun x => { x with sentArrive := true }).andThen (Act.sendArrive l 0))

/-- An arrival of core k at line l: what ARV leaves in CR_TSTAT (0 OK, 1 OWNER_LOST, 3 MISUSE) and returns (R303 to R306).
-/
def State.arrival (s : State) (k : Fin 13) (l : Fin 32) : Nat × Option Bool :=
  let sense := s.flag (F.AGR_LINE_STAT.sense l)
  if s.flag (F.AGR_LINE_STAT.poisoned l) then (1, none)
  else if !bitOf (s.members l) k then (3, none)
  else if !bitOf (s.arrived l) k then (0, some sense)
  else if !bitOf (s.fld (F.AGR_LINE_STAT.parked l)) k then (0, some (!sense))
  else (3, none)

/-- The effect of an arrival of core k on line l. -/
def Act.arrive (k : Fin 13) (l : Fin 32) : Act :=
  Act.get fun s =>
    if s.flag (F.AGR_LINE_STAT.poisoned l) then Act.skip
    else if !bitOf (s.members l) k then Act.lineMisuse 1 k l
    else if !bitOf (s.arrived l) k then (Act.setFBit (F.AGR_LINE_STAT.arrived l) k true).andThen (Act.lineCheck l 2)
    else if !bitOf (s.fld (F.AGR_LINE_STAT.parked l)) k then Act.setFBit (F.AGR_LINE_STAT.parked l) k true
    else Act.lineMisuse 0 k l

/-- Line l begins anew: sense 0, round 0, no arrival and no poison. -/
def Act.lineInit (l : Fin 32) : Act :=
  Act.seq [
    Act.setReg (R.AGR_LINE_STAT l) 0#32,
    Act.setReg (R.AGR_LINE_ROUND l) 0#32,
    Act.line l fun x => { x with round := 0, kids := 0, sentArrive := false, poisonUp := false, poisonSent := false }]

/-- A write of AGR_LINE_CFG(l) by core k (R302, R307, R317). -/
def Act.lineCfg (k : Fin 13) (l : Fin 32) (v : BitVec 32) : Act :=
  Act.get fun s =>
    let poisoned := s.flag (F.AGR_LINE_STAT.poisoned l)
    let idle := s.arrived l = 0 && s.fld (F.AGR_LINE_STAT.parked l) = 0
    if s.lines[l].dead then Act.skip
    else if (k ≠ 0 && s.fld (F.AGR_LINE_CFG.owner l) ≠ k.val) || !(idle || poisoned) ||
        (poisoned && s.flag (F.AGR_LINE_CFG.net l)) then Act.lineMisuse 3 k l
    else Act.seq [
      Act.plainWrite k (R.AGR_LINE_CFG l) v,
      Act.lineInit l,
      Act.releaseLine l 0 0#64 (fun b => b),
      Act.lineCheck l 2]

/-- LINE_CFG_WRITE by core k, while the core runs. -/
def execLineCfgWrite (k : Fin 13) (l : Fin 32) (v : BitVec 32) (s : State) : Host.Outcome State Fault Refusal :=
  (Act.get fun s => Act.when (s.powered && s.coreUp k) (Act.lineCfg k l v)).go s

/-- Give line l the next spare line. -/
def Act.takeSpare (l : Fin 32) : Act :=
  Act.get fun s =>
    let left := s.fld F.AGR_LINE_MAP.spares_left
    Act.seq [
      (if left = 2 then Act.setF F.AGR_LINE_MAP.spare0_for l
       else (Act.setF F.AGR_LINE_MAP.spare1_for l).andThen
        (Act.when (s.fld F.AGR_LINE_MAP.spare0_for = l.val) (Act.setF F.AGR_LINE_MAP.spare0_for 0x3F))),
      Act.setF F.AGR_LINE_MAP.spares_left (left - 1),
      Act.emit 0x25 0x0C04 2 [l, left - 1]]

/-- LINE_FAIL: the physical line behind line l fails.  It is poisoned, and a spare takes its number; with no spare left it
stays poisoned (R307). -/
def Act.lineFail (l : Fin 32) : Act :=
  Act.get fun s =>
    if !s.powered || s.lines[l].dead then Act.skip
    else Act.seq [
      Act.poisonLine l 3,
      Act.repairAdd 5 (if s.fld F.AGR_LINE_MAP.spares_left = 0 then 0x1F else 0x3F) l,
      if s.fld F.AGR_LINE_MAP.spares_left = 0 then
        (Act.line l fun x => { x with dead := true }).andThen (Act.emit 0x25 0x0C04 2 [l, 0])
      else Act.takeSpare l]

def execLineFail (l : Fin 32) (s : State) : Host.Outcome State Fault Refusal := (Act.lineFail l).go s

/-- ARRIVE_RETRY: retry_us has passed without the RELEASE of the round (R316). -/
def Act.arriveRetry (l : Fin 32) : Act :=
  Act.get fun s =>
    let x := s.lines[l]
    if s.powered && s.flag (F.AGR_LINE_CFG.net l) && s.grpRole (s.fld (F.AGR_LINE_CFG.group l)) ≠ 2 &&
        (x.poisonUp || (x.sentArrive && !s.flag (F.AGR_LINE_STAT.poisoned l))) &&
        x.sentAt + s.fld F.AGR_NET_TIME.retry_us ≤ s.tns.tick then
      (Act.bump F.AGR_RETRY_CNT.count).andThen (Act.sendArrive l 4)
    else Act.skip

def execArriveRetry (l : Fin 32) (s : State) : Host.Outcome State Fault Refusal := (Act.arriveRetry l).go s

/-! ## The dump (R323, R324) -/

/-- The window takes a dump. -/
def Act.dumpPut (r : DumpReq) : Act :=
  Act.seq [
    ⟨fun s => { s with dumpWin := r.bytes }, fun _ h => h, fun _ => rfl, fun _ => .refl _, fun _ h => ⟨h, rfl⟩⟩,
    Act.emit 0x25 0x0C09 1 [r.trigger, r.entries]]

/-- The first dump that the engine has still to write is written, unless freeze is set by now. -/
def Act.dumpFirst : Act :=
  Act.get fun s =>
    match s.dumpNext with
    | r :: l => (Act.setDumpNext l).andThen (Act.when (!s.flag F.AGR_DUMP_CTL.freeze) (Act.dumpPut r))
    | [] => Act.skip

/-- DUMP_WRITE: the dump of a trigger on a core is written, in the order of the triggers. -/
def Act.dumpWrite (trigger core : Nat) : Act :=
  Act.get fun s =>
    Act.when (s.powered && s.dumpNext.head?.any fun r => r.trigger == trigger && r.core == core) Act.dumpFirst

def execDumpWrite (trigger : Fin 6) (core : Nat) (s : State) : Host.Outcome State Fault Refusal :=
  (Act.dumpWrite trigger core).go s

/-- A write of AGR_DUMP_REQ. -/
def Act.dumpReq (v : Nat) : Act := Act.when (bitOf v 0) (Act.dumpTrigger 4 0xFF)

/-- DUMP_REQUEST by core k, while the core runs. -/
def execDumpRequest (k : Fin 13) (v : BitVec 32) (s : State) : Host.Outcome State Fault Refusal :=
  (Act.get fun s => Act.when (s.powered && s.coreUp k) (Act.dumpReq v.toNat)).go s

/-- The entry that OBJ_QUERY returns, where the index is in range (R322, R323). -/
def State.dbgEntry (s : State) (kind index : Nat) : Option (List Byte) :=
  if kind = 1 then (if h : index < 13 then some (s.entryCore ⟨index, h⟩) else none)
  else if kind = 2 then
    (if index < 1024 then
      some (s.entryObj index ((s.objs.lookup index).getD ⟨0, 0, 0xFF, 0, 0, false, [], none⟩))
     else none)
  else if kind = 3 then (if h : index < 32 then some (s.entryLine ⟨index, h⟩) else none)
  else if kind = 4 then (if index < 256 then some (s.entryGrp index) else none)
  else none

/-- OBJ_QUERY. -/
def Act.objQuery (m : Fin 16) (kind index : Nat) : Act :=
  Act.managerCommand m 7 4 (Act.get fun s =>
    match s.dbgEntry kind index with
    | some e => Act.respond m 7 4 0 e
    | none => Act.respond m 7 4 5 [])

def execObjQuery (m : Fin 16) (kind index : Nat) (s : State) : Host.Outcome State Fault Refusal :=
  (Act.objQuery m kind index).go s

/-- Request a dump and write it at once, after those that were to be written before it. -/
def Act.dumpNow : Act :=
  (Act.dumpTrigger 4 0xFF).andThen (Act.get fun s => Act.each s.dumpNext fun _ => Act.dumpFirst)

/-- DUMP_READ: flags bit 0 freeze, bit 1 unfreeze, bit 2 request a dump first. -/
def Act.dumpRead (m : Fin 16) (off len flags : Nat) : Act :=
  Act.managerCommand m 7 5 (Act.get fun s =>
    if off % 4 ≠ 0 || len < 4 || 4096 < len || 0x8000 < off + len then Act.respond m 7 5 5 []
    else if bitOf flags 2 && s.flag F.AGR_DUMP_CTL.freeze then Act.respondBusy m 7 5 0
    else Act.seq [
      Act.when (bitOf flags 2) Act.dumpNow,
      Act.when (bitOf flags 0) (Act.setB F.AGR_DUMP_CTL.freeze true),
      Act.when (bitOf flags 1) (Act.setB F.AGR_DUMP_CTL.freeze false),
      Act.get fun s => Act.respond m 7 5 0 (slice s.dumpWin off len)])

def execDumpRead (m : Fin 16) (off length flags : Nat) (s : State) : Host.Outcome State Fault Refusal :=
  (Act.dumpRead m off length flags).go s

end Sys2Proof.Machine
end

