-- ==== Sys2Proof/Machine/Groups.lean ====
section
/-!
DEFINITION. Agreement groups: forming them, pace rounds, the EPOCH exchange of group caps, network barriers, epoch deadlines
and steps of domain time (R54 to R57, R99 to R103, R108, R308 to R318, R324, R353).
-/
namespace Sys2Proof.Machine

/-! ## Boundaries of a group (R56) -/

/-- Change what group g holds, if it is in use. -/
def Act.grpMod (g : Nat) (f : Grp → Grp) : Act :=
  ⟨fun s => { s with grps := s.grps.map fun p => if p.1 = g then (p.1, f p.2) else p }, fun _ h => h, fun _ => rfl, fun _ => .refl _, fun _ h => ⟨h, rfl⟩⟩

/-- The round period and phase of group g in ns. -/
def State.periodNs (s : State) (g : Nat) : Nat := s.fld (F.AGR_GRP_ROUND.period_us g) * 1000
def State.phaseNs (s : State) (g : Nat) : Nat := s.fld (F.AGR_GRP_ROUND.phase_us g) * 1000

/-- The last boundary of group g at or before a domain time, if there has been one. -/
def State.boundaryAt (s : State) (g d : Nat) : Option Nat :=
  if d < s.phaseNs g then none else some (s.phaseNs g + (d - s.phaseNs g) / s.periodNs g * s.periodNs g)

/-- The first boundary of group g at or after a domain time. -/
def State.boundaryFrom (s : State) (g d : Nat) : Nat := s.phaseNs g + ceilDiv (d - s.phaseNs g) (s.periodNs g) * s.periodNs g

/-- The boundary of group g that domain time has reached and that has not been produced. -/
def State.boundaryDue (s : State) (g : Nat) : Option Nat :=
  match s.grp g with
  | some x => (s.boundaryAt g s.tns.dtime).filter fun b => x.upTo < b
  | none => none

/-! ## Epoch deadlines (R57) -/

/-- Arm the deadline of group g at a domain time of 63 bits. -/
def Act.deadlineArm (g t : Nat) : Act :=
  Act.seq [
    Act.setF (F.TNS_EPOCH_DL_LO.time g) (t % 2 ^ 32),
    Act.setF (F.TNS_EPOCH_DL_HI.time g) (t / 2 ^ 32),
    Act.setB (F.TNS_EPOCH_DL_HI.arm g) true,
    Act.tense fun x => { x with deadlines := Sparse.ins g (t % 2 ^ 63) x.deadlines }]

/-- Disarm the deadline of group g. -/
def Act.deadlineOff (g : Nat) : Act :=
  (Act.setB (F.TNS_EPOCH_DL_HI.arm g) false).andThen
    (Act.tense fun x => { x with deadlines := x.deadlines.filter fun p => p.1 != g })

/-- A write of TNS_EPOCH_DL_HI(g) by core k: arm takes the LO value written before it. -/
def Act.deadlineWrite (k : Fin 13) (g : Nat) (v : BitVec 32) : Act :=
  Act.get fun s =>
    let t := s.fld (F.TNS_EPOCH_DL_LO.time g) + v.toNat / 2 * 2 ^ 32
    let put (l : List (Nat × Nat)) : List (Nat × Nat) :=
      if bitOf v.toNat 0 then Sparse.ins g t l else l.filter fun p => p.1 != g
    (Act.plainWrite k (R.TNS_EPOCH_DL_HI g) v).andThen (Act.tense fun x => { x with deadlines := put x.deadlines })

/-- EPOCH_DEADLINE_ARM by core k. -/
def execEpochDeadlineArm (k : Fin 13) (g : Fin 256) (v : BitVec 32) (s : State) : Host.Outcome State Fault Refusal :=
  (Act.get fun s => Act.when (s.powered && s.coreUp k) (Act.deadlineWrite k g v)).go s

/-! ## Applying a share (R99 to R101) -/

/-- Whether group g is the cap group of this tray (R103). -/
def State.capGroup (s : State) (g : Nat) : Bool := s.flag F.CAP_CTL.group_valid && s.fld F.CAP_CTL.group = g

/-- Whether this tray holds a staged share of an epoch for group g. -/
def State.stagedFor (s : State) (g e : Nat) : Bool :=
  s.capGroup g && s.flag F.CAP_STATUS.staged && s.fld F.CAP_EPOCH_STAGED.epoch = e

/-- The staged share of group g becomes the manager's standing cap, with the boundary's domain time in the record.  A late
one makes the tray a straggler (R101). -/
def Act.applyShare (g b : Nat) (late : Bool) : Act :=
  Act.get fun s =>
    let e := s.fld F.CAP_EPOCH_STAGED.epoch
    let w := s.fld F.CAP_STAGED_W.watts
    Act.seq [
      Act.target 8 fun x => x.setCap 1 (some w),
      Act.setF F.CAP_EPOCH_APPLIED.epoch e,
      Act.setB F.CAP_STATUS.staged false,
      Act.deadlineOff g,
      Act.grpMod g fun x => { x with held := none },
      Act.get fun s => Act.setF F.CAP_TRAY.eff (capCode (s.effCap 8)),
      Act.emit 0x02 0x0400 1 [g, e, w, b],
      Act.when late (Act.seq [
        Act.setB F.CAP_STATUS.lagging true,
        Act.bump F.CAP_STRAG_CNT.count,
        Act.grpMod g fun x => { x with selfLagging := true },
        Act.emit 0x02 0x0401 2 [g, e, (s.tns.deadlines.lookup g).getD 0]])]

/-- At boundary b of group g, a held COMMIT of the staged epoch that names it or an earlier one is applied (R99). -/
def Act.applyHeld (g b : Nat) : Act :=
  Act.get fun s =>
    match (s.grp g).bind (·.held) with
    | some (e, named) => Act.when (named ≤ b && s.stagedFor g e) (Act.applyShare g b false)
    | none => Act.skip

/-- The deadline of group g fires; a tray that still holds the staged share applies it at once (R57, R101). -/
def Act.deadlineFire (g : Nat) (stepped : Bool) : Act :=
  Act.seq [
    Act.setFBit (F.TNS_EPOCH_PEND.pend (g / 32)) (g % 32) true,
    Act.when stepped (Act.setFBit (F.TNS_EPOCH_STEPPED.stepped (g / 32)) (g % 32) true),
    Act.setB (F.TNS_EPOCH_DL_HI.arm g) false]

/-- What the power core does once the deadline of group g has fired. -/
def Act.deadlineAct (g : Nat) : Act :=
  Act.get fun s =>
    Act.when (s.coreUp 1 && s.capGroup g && s.flag F.CAP_STATUS.staged && !s.flag (F.TNS_EPOCH_DL_HI.arm g) &&
        bitOf (s.fld (F.TNS_EPOCH_PEND.pend (g / 32))) (g % 32)) (Act.applyShare g s.tns.dtime true)

/-- The armed deadline of group g, if domain time has reached it. -/
def State.deadlineDue (s : State) (g : Nat) : Bool :=
  match s.tns.deadlines.lookup g with
  | some t => s.flag (F.TNS_EPOCH_DL_HI.arm g) && t ≤ s.tns.dtime
  | none => false

/-- EPOCH_DEADLINE: domain time has reached the armed deadline of group g.  The power core acts on it, after its restart
where it was down. -/
def Act.epochDeadline (g : Nat) : Act :=
  Act.get fun s => Act.when s.powered
    ((Act.when (s.deadlineDue g) (Act.deadlineFire g false)).andThen (Act.deadlineAct g))

def execEpochDeadline (g : Fin 256) (s : State) : Host.Outcome State Fault Refusal := (Act.epochDeadline g).go s

/-! ## ROUND frames (R311) -/

/-- Whether an emergency duty stands on a link of this tray (R105). -/
def State.emergency (s : State) : Bool := (List.range 8).any fun n => !(s.emergencies n).isEmpty

/-- Two 32-bit values in one 8-byte word of a frame. -/
def twoWords (lo hi : Nat) : Nat := lo % 2 ^ 32 + hi % 2 ^ 32 * 2 ^ 32

/-- The upward ROUND of group g; an emergency that stands or has stood since the last one is told (R105). -/
def Act.roundUp (g : Nat) : Act :=
  Act.get fun s =>
    match s.grp g with
    | none => Act.skip
    | some x =>
      (Act.sendUp g 1 (b2n x.stepped + 16 * b2n x.selfLagging + 32 * b2n (x.selfEmerg || s.emergency) +
          64 * b2n (s.capGroup g && s.flag F.CAP_STATUS.staged))
        [x.lastBoundary, twoWords (s.epochs g).1 (s.epochs g).2, s.lagMap g, s.lostMap g, x.emerg]).andThen
        (Act.grpMod g fun x => { x with selfLagging := false, selfEmerg := false })

/-- The beacon of group g: the root's own content, or the content that a relay last heard. -/
def Act.beacon (g : Nat) : Act :=
  Act.get fun s =>
    match s.grp g with
    | none => Act.skip
    | some x =>
      Act.sendDown g 1 (b2n x.stepped)
        [x.lastBoundary, if s.grpRole g = 2 then twoWords (s.epochs g).1 x.committed
          else twoWords x.beaconApplied x.beaconCommitted, 0, 0, 0]

/-- What the boundaries have counted once another has come: of each child, and of the parent (R312). -/
def Grp.atBoundary (x : Grp) (b : Nat) (stepped due : Bool) : Grp :=
  { x with
    upTo := b, lastBoundary := b, stepped := stepped, examDue := due, heard := 0, beaconHeard := false, emerg := 0,
    below := List.replicate 64 (0, 0, 0), ahead := x.ahead.filter fun p => b < p.2.2.headD 0,
    missed := x.missed.mapIdx fun i n => if bitOf x.heard i then 0 else n + 1,
    beaconMissed := if x.beaconHeard then 0 else x.beaconMissed + 1 }

/-- Give group g a lagging map. -/
def Act.setLag (g v : Nat) : Act :=
  (Act.setReg (R.AGR_GRP_LAG g 0) (BitVec.ofNat 32 v)).andThen (Act.setReg (R.AGR_GRP_LAG g 1) (BitVec.ofNat 32 (v / 2 ^ 32)))

/-- Give group g a lost map, and its count. -/
def Act.setLost (g v : Nat) : Act :=
  Act.seq [
    Act.setReg (R.AGR_GRP_LOST g 0) (BitVec.ofNat 32 v),
    Act.setReg (R.AGR_GRP_LOST g 1) (BitVec.ofNat 32 (v / 2 ^ 32)),
    Act.setF (F.AGR_GRP_STAT.lost g) (popBits v 64)]

/-- What the upward ROUND of child c says of the boundary it names: the child has been heard, and its flags and maps are
kept. -/
def Grp.heardFrom (x : Grp) (c flags : Nat) (body : List Nat) : Grp :=
  let w (i : Nat) : Nat := (body[i]?).getD 0
  { x with
    heard := setBit x.heard c, missed := x.missed.set c 0, emerg := putBit x.emerg c (bitOf flags 5),
    below := x.below.set c (w 2, w 3, w 4), kidApplied := x.kidApplied.set c (w 1 % 2 ^ 32) }

/-- The upward ROUND of child c counts for the present boundary of group g. -/
def Act.roundCount (g c flags : Nat) (body : List Nat) : Act :=
  Act.get fun s =>
    (Act.grpMod g fun x => x.heardFrom c flags body).andThen (Act.setLag g (putBit (s.lagMap g) c (bitOf flags 4)))

/-- Boundary b of group g: frames for it that came before count; committed caps apply, then ROUND frames are sent; a relay's
follows at relay_us (R56, R99, R311). -/
def Act.boundary (g b : Nat) (stepped : Bool) : Act :=
  Act.get fun s =>
    Act.seq [
      Act.grpMod g fun x => x.atBoundary b stepped (s.grpRole g ≠ 0),
      Act.setLag g 0,
      Act.each ((s.grp g).elim [] fun x => x.ahead.filter fun p => p.2.2.headD 0 == b) fun p => Act.roundCount g p.1 p.2.1 p.2.2,
      Act.applyHeld g b,
      Act.when (s.grpRole g = 0) (Act.roundUp g),
      Act.when (s.grpRole g ≠ 0) (Act.beacon g)]

/-- PACE_ROUND_BOUNDARY of group g. -/
def Act.paceRound (g : Nat) : Act :=
  Act.get fun s =>
    match (if s.powered then s.boundaryDue g else none) with
    | some b => Act.boundary g b false
    | none => Act.skip

/-- PACE_ROUND_BOUNDARY; busy where the round before it has not been completed, so that its start is skipped (R48). -/
def execPaceRoundBoundary (g : Fin 256) (busy : Bool) (s : State) : Host.Outcome State Fault Refusal :=
  (Act.get fun s => Act.when s.powered (Act.start 2 busy (Act.paceRound g))).go s

/-! ## Steps of domain time (R55 to R57) -/

/-- The groups that are committed, in ascending order. -/
def State.groupsAsc (s : State) : List Nat := sortBy id s.liveGroups

/-- The armed deadlines that domain time has passed, in ascending order of deadline. -/
def State.deadlinesPassed (s : State) : List Nat :=
  (sortBy Prod.snd (s.tns.deadlines.filter fun p => p.2 ≤ s.tns.dtime)).map Prod.fst

/-- What a forward step produces: one stepped boundary for each group that it takes past one, then the deadlines that are
still armed. -/
def Act.stepEffects : Act :=
  (Act.get fun s => Act.each s.groupsAsc fun g => Act.get fun s =>
      match s.boundaryDue g with
      | some b => Act.boundary g b true
      | none => Act.skip).andThen
    (Act.get fun s => Act.each s.deadlinesPassed fun g => Act.get fun s =>
      Act.when (s.deadlineDue g) ((Act.deadlineFire g true).andThen (Act.deadlineAct g)))

/-- The step that TNS_STEP_HI and TNS_STEP_LO hold, in ns. -/
def State.stepNs (s : State) : Int := signed 64 (s.fld F.TNS_STEP_LO.lo + s.fld F.TNS_STEP_HI.hi * 2 ^ 32)

/-- A write of TNS_STEP_CTL. -/
def Act.stepWrite (v : Nat) : Act :=
  Act.get fun s =>
    let d := s.stepNs
    if !bitOf v 0 then Act.skip
    else if !s.flag F.TNS_CTL.step_en || s.fld F.TNS_STEP_LIMIT.limit < d.natAbs then
      (Act.setB F.TNS_STATUS.step_refused true).andThen
        (Act.emit 0x02 0x0012 2 [unsignedOf 64 d, s.fld F.TNS_STEP_LIMIT.limit])
    else Act.seq [
      Act.tense fun t => { t with dtime := unsignedOf 64 ((t.dtime : Int) + d) },
      Act.emit 0x02 0x0011 1 [unsignedOf 64 d],
      Act.when (0 < d) Act.stepEffects]

/-- DOMAIN_TIME_STEP by core k. -/
def execDomainTimeStep (k : Fin 13) (v : BitVec 32) (s : State) : Host.Outcome State Fault Refusal :=
  (Act.get fun s => Act.when (s.powered && s.coreUp k) (Act.stepWrite v.toNat)).go s

/-! ## The EPOCH exchange (R99, R313) -/

/-- The map of group g's children that exist. -/
def Grp.kidMap (x : Grp) : Nat := maskOf ((List.range 64).filter fun i => (x.kids[i]?).any (·.valid))

/-- Send STAGED upward now. -/
def Act.stagedNow (g flags : Nat) : Act :=
  Act.get fun s =>
    match s.grp g with
    | none => Act.skip
    | some x =>
      let own := s.stagedFor g x.ordered
      Act.seq [
        Act.grpMod g fun x => { x with stagedDue := false, stagedOpen := true, stagedAt := s.tns.tick },
        Act.sendUp g 2 (flags + 64 * b2n own)
          [x.ordered + (if own then s.fld F.CAP_STAGED_W.watts else 0) * 2 ^ 32, x.kidStaged, 0, 0, 0]]

/-- A change of the staged state of a leaf or relay goes upward; a relay sends at most once every 5 µs. -/
def Act.stagedUp (g : Nat) : Act :=
  Act.get fun s =>
    match s.grp g with
    | none => Act.skip
    | some x =>
      if s.grpRole g = 2 then Act.skip
      else (Act.grpMod g fun x => { x with stagedTries := 0 }).andThen
        (if s.grpRole g = 1 && x.stagedAt ≠ 0 && s.tns.tick < x.stagedAt + 5 then
          Act.grpMod g fun x => { x with stagedDue := true }
         else Act.stagedNow g 0)

/-- The epoch that group g exchanges becomes e, where e is newer: nothing below has staged it, and as the root its commit
limit runs from now (R99). -/
def Act.epochOrdered (g e : Nat) : Act :=
  Act.get fun s =>
    Act.grpMod g fun x =>
      if x.ordered < e then
        { x with ordered := e, kidStaged := 0, stagedOpen := false,
                 limit := s.tns.dtime + s.fld F.CAP_CTL.deadline_us * 1000 - s.periodNs g - 20000 }
      else x

/-- A COMMIT of epoch e that names a boundary reaches this tray in group g (R99 to R101, R103, R313). -/
def Act.commitHere (g e named : Nat) : Act :=
  Act.get fun s =>
    match s.grp g with
    | none => Act.skip
    | some x =>
      Act.when (s.capGroup g && s.fld F.CAP_EPOCH_STAGED.epoch ≤ e && s.fld F.CAP_EPOCH_APPLIED.epoch < e)
        ((Act.grpMod g fun x => { x with held := some (e, named) }).andThen
          (Act.when (s.stagedFor g e && named ≤ x.upTo) (Act.applyShare g s.tns.dtime true)))

/-- The root of group g sends COMMIT: it names the first boundary 20 µs or more from now, and the children behind which
something is not staged. -/
def Act.commitSend (g : Nat) : Act :=
  Act.get fun s =>
    match s.grp g with
    | none => Act.skip
    | some x =>
      let b := s.boundaryFrom g (s.tns.dtime + 20000)
      let behind := x.kidMap - (x.kidMap &&& x.kidStaged)
      Act.seq [
        Act.grpMod g fun x => { x with committed := x.ordered, named := b, notStaged := behind },
        Act.sendDown g 3 0 [x.ordered, b, behind, 0, 0],
        Act.commitHere g x.ordered b]

/-- Whether the root of group g and everything below it has staged the epoch in exchange. -/
def State.allStaged (s : State) (g : Nat) (x : Grp) : Bool :=
  x.kidMap &&& x.kidStaged == x.kidMap && (!s.capGroup g || s.stagedFor g x.ordered)

/-- The root of group g sends COMMIT once every member has staged. -/
def Act.commitCheck (g : Nat) : Act :=
  Act.get fun s =>
    match s.grp g with
    | none => Act.skip
    | some x => Act.when (s.grpRole g = 2 && x.committed < x.ordered && s.allStaged g x) (Act.commitSend g)

/-- COMMIT_LIMIT: the commit limit of group g's epoch has come. -/
def Act.commitLimit (g : Nat) : Act :=
  Act.get fun s =>
    match s.grp g with
    | none => Act.skip
    | some x =>
      Act.when (s.powered && s.grpRole g = 2 && x.committed < x.ordered && x.limit ≤ s.tns.dtime) (Act.commitSend g)

def execCommitLimit (g : Fin 256) (s : State) : Host.Outcome State Fault Refusal := (Act.commitLimit g).go s

/-- Stage this tray's share of an epoch (R99, R100). -/
def Act.stageShare (g w e : Nat) : Act :=
  Act.get fun s =>
    Act.seq [
      Act.setF F.CAP_STAGED_W.watts w,
      Act.setF F.CAP_EPOCH_STAGED.epoch e,
      Act.setB F.CAP_STATUS.staged true,
      Act.deadlineArm g (s.tns.dtime + s.fld F.CAP_CTL.deadline_us * 1000),
      Act.epochOrdered g e,
      Act.stagedUp g,
      Act.get fun s =>
        match (s.grp g).bind fun x => (x.held).map fun h => (x.upTo, h) with
        | some (upTo, e', named) => Act.when (e' = e && named ≤ upTo) (Act.applyShare g s.tns.dtime true)
        | none => Act.skip,
      Act.commitCheck g]

/-- STAGED_RETRY of group g: retry_us has passed without COMMIT (R313). -/
def Act.stagedRetry (g : Nat) : Act :=
  Act.get fun s =>
    match s.grp g with
    | none => Act.skip
    | some x =>
      if s.powered && x.stagedOpen && x.stagedTries < 8 && x.stagedAt + s.fld F.AGR_NET_TIME.retry_us ≤ s.tns.tick then
        Act.seq [
          Act.grpMod g fun x => { x with stagedTries := x.stagedTries + 1 },
          Act.bump F.AGR_RETRY_CNT.count,
          Act.stagedNow g 4]
      else Act.skip

def execStagedRetry (g : Fin 256) (s : State) : Host.Outcome State Fault Refusal := (Act.stagedRetry g).go s

/-- TENSE_TICK, with the STAGED frames of relays that have waited their 5 µs (R313). -/
def execTenseTick (speed : BitVec 16) (s : State) : Host.Outcome State Fault Refusal :=
  ((Act.tenseTick speed.toNat).andThen (Act.get fun s =>
    Act.when s.powered (Act.each (s.liveGroups.filter s.stagedWaiting) fun g => Act.stagedNow g 0))).go s

/-! ## Frames received (R318) -/

/-- Who sent a frame that came in at a port: none the parent, or some child; nothing where it is no peer. -/
def Grp.sender (x : Grp) (port src : Nat) : Option (Option Nat) :=
  let is (p : Peer) : Bool := p.valid && p.mac == src && bitOf p.ports port
  if is x.parent then some none else ((List.range 64).find? fun i => (x.kids[i]?).any is).map some

/-- Receive a frame of a group as one of a type: accepted under R318, or dropped and counted; the row names the type that
the frame should have, and any other stands for a type that is not defined (log entry 93). -/
def Act.agrReceive (port : Fin 8) (typ : Nat) (f : AgrFrame) (body : Grp → Option Nat → Act) : Act :=
  Act.get fun s =>
    if !s.powered || !s.flag F.AGR_CTL.net_en || !s.portOpen port || f.ethertype ≠ s.fld F.AGR_NET_CFG.ethertype then Act.skip
    else
      match s.grp f.group with
      | none => Act.bump F.AGR_RX_DROP.count
      | some x =>
        match (if f.version / 16 = 1 && f.typ = typ && f.domain = s.fld F.AGR_NET_CFG.domain &&
            f.generation = s.fld (F.AGR_GRP_GEN.generation f.group) then x.sender port f.src else none) with
        | some who => body x who
        | none => Act.bump F.AGR_RX_DROP.count

/-- Word i of a frame's body. -/
def AgrFrameWord (f : AgrFrame) (i : Nat) : Nat := (f.body[i]?).getD 0

/-- The member identifier of child c of group g (R308). -/
def State.childId (s : State) (g c : Nat) : Nat :=
  if s.grpRole g = 2 then (c + 1) * 256 else s.fld (F.AGR_GRP_CFG.member g) / 256 * 256 + (c + 1)

/-- Note a change of a group's state. -/
def Act.grpEvent (code : Nat) (payload : List Nat) : Act :=
  (Act.setB F.AGR_STATUS.grp_event true).andThen (Act.emit 0x25 code 3 payload)

/-- The group becomes ORPHANED or ACTIVE again (R312). -/
def Act.setOrphan (g : Nat) (on : Bool) : Act :=
  Act.get fun s =>
    (Act.setF (F.AGR_GRP_STAT.state g) (if on then 2 else 1)).andThen
      (Act.grpEvent 0x0C06 [g, s.fld (F.AGR_GRP_GEN.generation g)])

/-- A beacon from the parent: an orphan returns, and a relay forwards the content to its children. -/
def Act.beaconIn (g : Nat) (f : AgrFrame) : Act :=
  Act.get fun s =>
    let w := AgrFrameWord f 1
    Act.seq [
      Act.grpMod g fun x => { x with beaconHeard := true, beaconMissed := 0,
                                     beaconApplied := w % 2 ^ 32, beaconCommitted := w / 2 ^ 32 % 2 ^ 32 },
      Act.when (s.fld (F.AGR_GRP_STAT.state g) = 2) (Act.setOrphan g false),
      Act.when (s.grpRole g = 1) (Act.sendDown g 1 (f.flags % 2) [AgrFrameWord f 0, w, 0, 0, 0])]

/-- The upward ROUND of child c: it counts for the boundary that it names (R311), at once or when this device comes to that
boundary, and not where the boundary is past; a child that was lost returns. -/
def Act.roundIn (g c : Nat) (f : AgrFrame) : Act :=
  Act.get fun s =>
    let b := AgrFrameWord f 0
    let last := (s.grp g).elim 0 (·.lastBoundary)
    Act.seq [
      (if b = last then Act.roundCount g c f.flags f.body
       else Act.when (last < b)
        (Act.grpMod g fun x => { x with ahead := x.ahead.filter (fun p => p.1 != c) ++ [(c, f.flags, f.body)] })),
      Act.when (bitOf (s.lostMap g) c)
        ((Act.setLost g (clrBit (s.lostMap g) c)).andThen (Act.grpEvent 0x0C05 [g, s.childId g c]))]

/-- ROUND. -/
def Act.round (port : Fin 8) (f : AgrFrame) : Act :=
  Act.agrReceive port 1 f fun _ who =>
    match who with
    | none => Act.beaconIn f.group f
    | some c => Act.roundIn f.group c f

def execRound (port : Fin 8) (f : AgrFrame) (s : State) : Host.Outcome State Fault Refusal := (Act.round port f).go s

/-- Whether a STAGED of child c covers the child and everything below it. -/
def stagedWhole (g c : Nat) (f : AgrFrame) : Bool :=
  let below := 2 ^ min 64 (Config.childKids g c) - 1
  bitOf f.flags 6 && AgrFrameWord f 1 &&& below == below

/-- STAGED from a child: the staged map takes it, a relay reports the change, and the root commits once all have staged. -/
def Act.stagedIn (g c : Nat) (f : AgrFrame) : Act :=
  let e := AgrFrameWord f 0 % 2 ^ 32
  Act.seq [
    Act.epochOrdered g e,
    Act.get fun s =>
      match s.grp g with
      | none => Act.skip
      | some x =>
        let m := putBit x.kidStaged c (stagedWhole g c f)
        Act.when (x.ordered = e && m ≠ x.kidStaged) (Act.seq [
          Act.grpMod g fun x => { x with kidStaged := m },
          Act.when (s.grpRole g = 1) (Act.stagedUp g),
          Act.commitCheck g])]

def Act.staged (port : Fin 8) (f : AgrFrame) : Act :=
  Act.agrReceive port 2 f fun _ who =>
    match who with
    | none => Act.skip
    | some c => Act.stagedIn f.group c f

/-- STAGED. -/
def execStaged (port : Fin 8) (f : AgrFrame) (s : State) : Host.Outcome State Fault Refusal := (Act.staged port f).go s

/-- COMMIT from the parent: it is held for its boundary, and a relay forwards it with the map of its own children.  One
below the staged epoch is ignored. -/
def Act.commitIn (g : Nat) (f : AgrFrame) : Act :=
  Act.get fun s =>
    let e := AgrFrameWord f 0 % 2 ^ 32
    let named := AgrFrameWord f 1
    if s.capGroup g && e < s.fld F.CAP_EPOCH_STAGED.epoch then Act.skip
    else Act.seq [
      Act.grpMod g fun x => { x with
        stagedOpen := x.stagedOpen && e < x.ordered, stagedDue := x.stagedDue && e < x.ordered,
        committed := e, named := named, notStaged := x.kidMap - (x.kidMap &&& x.kidStaged) },
      Act.commitHere g e named,
      Act.get fun s =>
        match s.grp g with
        | some x => Act.when (s.grpRole g = 1) (Act.sendDown g 3 (f.flags / 4 % 2 * 4) [e, named, x.notStaged, 0, 0])
        | none => Act.skip]

def Act.agrCommit (port : Fin 8) (f : AgrFrame) : Act :=
  Act.agrReceive port 3 f fun _ who =>
    match who with
    | none => Act.commitIn f.group f
    | some _ => Act.skip

/-- AGR_COMMIT. -/
def execAgrCommit (port : Fin 8) (f : AgrFrame) (s : State) : Host.Outcome State Fault Refusal := (Act.agrCommit port f).go s

/-- Whether a frame of group g names a network barrier of the group. -/
def State.netLine (s : State) (g : Nat) (f : AgrFrame) : Option (Fin 32) :=
  let l := AgrFrameWord f 0 % 256
  if h : l < 32 then
    (if s.flag (F.AGR_LINE_CFG.net l) && s.fld (F.AGR_LINE_CFG.group l) = g then some ⟨l, h⟩ else none)
  else none

/-- ARRIVE from child c: reported poison poisons the line, of whichever round it comes (R317); one for the open round is
counted once, and one for a released round is answered with that RELEASE again, also with a RELEASE that poisoned it (R315,
R316). -/
def Act.arriveIn (g c : Nat) (f : AgrFrame) : Act :=
  Act.get fun s =>
    match s.netLine g f, (s.grp g).bind (·.kids[c]?) with
    | some l, some p =>
      let r := AgrFrameWord f 1
      let open_ := s.lines[l].round
      if open_ < r then Act.bump F.AGR_RX_DROP.count
      else if bitOf f.flags 1 && !s.flag (F.AGR_LINE_STAT.poisoned l) then Act.poisonLine l 7
      else if r < open_ then Act.sendTo g p 5 4 [l, r, 0, 0, 0]
      else if s.flag (F.AGR_LINE_STAT.poisoned l) then
        Act.when (s.lines[l].poisonSent) (Act.sendTo g p 5 6 [l, r, 0, 0, 0])
      else (Act.line l fun x => { x with kids := setBit x.kids c }).andThen (Act.lineCheck l 2)
    | _, _ => Act.bump F.AGR_RX_DROP.count

def Act.arriveFrame (port : Fin 8) (f : AgrFrame) : Act :=
  Act.agrReceive port 4 f fun _ who =>
    match who with
    | some c => Act.arriveIn f.group c f
    | none => Act.bump F.AGR_RX_DROP.count

/-- ARRIVE. -/
def execArrive (port : Fin 8) (f : AgrFrame) (s : State) : Host.Outcome State Fault Refusal := (Act.arriveFrame port f).go s

/-- RELEASE from the parent for the open round: the round completes, or the line is poisoned; a relay forwards it. One for
another round is dropped and counted; a poisoned line stays so, tells its poison once more and ends its retransmissions
(R315 to R317, R321). -/
def Act.releaseIn (g : Nat) (f : AgrFrame) : Act :=
  Act.get fun s =>
    match s.netLine g f with
    | none => Act.bump F.AGR_RX_DROP.count
    | some l =>
      let bad := bitOf f.flags 1
      let poisoned := s.flag (F.AGR_LINE_STAT.poisoned l)
      if AgrFrameWord f 1 ≠ s.lines[l].round then Act.bump F.AGR_RX_DROP.count
      else Act.seq [
        Act.when (s.grpRole g = 1) (Act.sendDown g 5 (f.flags / 2 % 4 * 2) [l, s.lines[l].round, 0, 0, 0]),
        if bad then (Act.poisonHere l 7).andThen (Act.line l fun x => { x with poisonUp := false, poisonSent := true })
        else if poisoned then Act.when (s.lines[l].poisonUp)
          ((Act.sendArrive l 0).andThen (Act.line l fun x => { x with poisonUp := false }))
        else (Act.roundDone l).andThen (Act.lineCheck l 2)]

def Act.releaseFrame (port : Fin 8) (f : AgrFrame) : Act :=
  Act.agrReceive port 5 f fun _ who =>
    match who with
    | none => Act.releaseIn f.group f
    | some _ => Act.bump F.AGR_RX_DROP.count

/-- RELEASE. -/
def execRelease (port : Fin 8) (f : AgrFrame) (s : State) : Host.Outcome State Fault Refusal := (Act.releaseFrame port f).go s

/-! ## Timed duties (R311, R312, R314) -/

/-- Resend COMMIT to every child whose upward ROUND showed an applied epoch below the committed one, at boundaries from the
named one on (R314). -/
def Act.commitResend (g : Nat) (x : Grp) : Act :=
  Act.when (x.committed ≠ 0 && x.named ≤ x.lastBoundary)
    (Act.each ((List.range 64).filter fun i => bitOf x.heard i && (x.kidApplied[i]?).any (· < x.committed)) fun i =>
      match x.kids[i]? with
      | some p => (Act.bump F.AGR_RETRY_CNT.count).andThen (Act.sendTo g p 3 4 [x.committed, x.named, x.notStaged, 0, 0])
      | none => Act.skip)

/-- RELAY_ROUND: at boundary + relay_us a relay sends its upward ROUND with its children's maps. -/
def Act.relayRound (g : Nat) : Act :=
  Act.get fun s =>
    match s.grp g with
    | none => Act.skip
    | some x =>
      if s.powered && s.grpRole g = 1 && x.examDue &&
          x.lastBoundary + s.fld F.AGR_NET_TIME.relay_us * 1000 ≤ s.tns.dtime then
        Act.seq [Act.grpMod g fun x => { x with examDue := false }, Act.roundUp g, Act.commitResend g x]
      else Act.skip

def execRelayRound (g : Fin 256) (s : State) : Host.Outcome State Fault Refusal := (Act.relayRound g).go s

/-- The lagging members that the root of group g has heard of: epoch and member identifier. -/
def State.laggards (s : State) (g : Nat) (x : Grp) : List (Nat × Nat) :=
  (List.range 64).flatMap fun i =>
    let e := (x.kidApplied[i]?).getD 0
    let below := ((x.below[i]?).getD (0, 0, 0)).1
    (if bitOf (s.lagMap g) i then [(e, (i + 1) * 256)] else []) ++
      ((List.range 64).filter fun j => bitOf below j).map fun j => (e, (i + 1) * 256 + (j + 1))

/-- ROUND_EXAMINE: at boundary + collect_us the root records the lagging members and resends COMMIT to those behind. -/
def Act.roundExamine (g : Nat) : Act :=
  Act.get fun s =>
    match s.grp g with
    | none => Act.skip
    | some x =>
      if s.powered && s.grpRole g = 2 && x.examDue &&
          x.lastBoundary + s.fld F.AGR_NET_TIME.collect_us * 1000 ≤ s.tns.dtime then
        Act.seq [
          Act.grpMod g fun x => { x with examDue := false },
          Act.each (s.laggards g x) fun p => Act.emit 0x25 0x0C08 2 [g, p.1, p.2],
          Act.commitResend g x]
      else Act.skip

def execRoundExamine (g : Fin 256) (s : State) : Host.Outcome State Fault Refusal := (Act.roundExamine g).go s

/-- The network barriers of group g. -/
def State.netLines (s : State) (g : Nat) : List (Fin 32) :=
  (List.finRange 32).filter fun (l : Fin 32) => s.flag (F.AGR_LINE_CFG.net l) && s.fld (F.AGR_LINE_CFG.group l) = g

/-- CHILD_LOST: child c of group g has been silent for lost_rounds boundaries. -/
def Act.childLost (g c : Nat) : Act :=
  Act.get fun s =>
    match s.grp g with
    | none => Act.skip
    | some x =>
      if s.powered && (x.kids[c]?).any (·.valid) && !bitOf (s.lostMap g) c &&
          (x.missed[c]?).any (s.fld F.AGR_NET_TIME.lost_rounds ≤ ·) then
        Act.seq [
          Act.setLost g (setBit (s.lostMap g) c),
          Act.grpEvent 0x0C05 [g, s.childId g c],
          Act.each (s.netLines g) fun l => Act.poisonLine l 4]
      else Act.skip

def execChildLost (g : Fin 256) (c : Fin 64) (s : State) : Host.Outcome State Fault Refusal := (Act.childLost g c).go s

/-- ORPHANED: no beacon has come for lost_rounds boundaries. -/
def Act.orphaned (g : Nat) : Act :=
  Act.get fun s =>
    match s.grp g with
    | none => Act.skip
    | some x =>
      if s.powered && s.grpRole g ≠ 2 && s.fld (F.AGR_GRP_STAT.state g) = 1 &&
          s.fld F.AGR_NET_TIME.lost_rounds ≤ x.beaconMissed then
        (Act.setOrphan g true).andThen (Act.each (s.netLines g) fun l => Act.poisonLine l 5)
      else Act.skip

def execOrphaned (g : Fin 256) (s : State) : Host.Outcome State Fault Refusal := (Act.orphaned g).go s

/-! ## Forming groups (R309, R310, R324) -/

/-- Where the peer table of group g lies in shared SRAM. -/
def peerTable (g : Nat) : Nat := 0x11710000 + 0x400 * g

/-- Entry i of the peer table of group g. -/
def State.peerAt (s : State) (g i : Nat) : Peer :=
  let a := peerTable g + 8 * i
  ⟨s.nat a 6, s.nat (a + 6) 1, bitOf (s.nat (a + 7) 1) 0⟩

/-- A peer entry's bytes. -/
def peerBytes (p : Peer) : List Byte := leBytes 6 p.mac ++ leBytes 1 p.ports ++ leBytes 1 (b2n p.valid)

/-- Group g becomes FREE; its network barriers are poisoned. -/
def Act.groupFree (g : Nat) : Act :=
  Act.get fun s =>
    Act.seq [
      Act.setF (F.AGR_GRP_GEN.generation g) 0,
      Act.when (s.grp g).isSome (Act.seq [
        Act.each (s.netLines g) fun l => Act.poisonHere l 6,
        Act.setF (F.AGR_GRP_STAT.state g) 0,
        Act.setLag g 0,
        Act.setLost g 0,
        ⟨fun s => { s with grps := s.grps.filter fun p => p.1 != g }, fun _ h => h, fun _ => rfl, fun _ => .refl _, fun _ h => ⟨h, rfl⟩⟩,
        Act.emit 0x25 0x0C07 1 [g, s.grpRole g, s.fld (F.AGR_GRP_GEN.generation g)]])]

/-- A network barrier begins anew with a new generation; its waiters complete OWNER_LOST (R310, R321). -/
def Act.netReset (l : Fin 32) : Act :=
  Act.get fun s =>
    if s.lines[l].dead then Act.skip
    else Act.seq [Act.releaseLine l 1 0#64 (fun _ => true), Act.lineInit l, Act.lineCheck l 2]

/-- Group g is committed with a generation; 0 makes it FREE. -/
def Act.groupCommit (g gen : Nat) : Act :=
  Act.get fun s =>
    if gen % 2 ^ 32 = 0 then Act.groupFree g
    else
      let kids := (List.range (min 64 (s.fld (F.AGR_GRP_CFG.children g)))).map fun i => s.peerAt g (i + 1)
      let x := Grp.fresh (s.peerAt g 0) kids (s.peerAt g 65) s.tns.dtime
      let x := if s.capGroup g then { x with ordered := s.fld F.CAP_EPOCH_STAGED.epoch,
                                             committed := s.fld F.CAP_EPOCH_APPLIED.epoch } else x
      Act.seq [
        Act.setF (F.AGR_GRP_GEN.generation g) gen,
        Act.setF (F.AGR_GRP_STAT.state g) 1,
        Act.setLag g 0,
        Act.setLost g 0,
        ⟨fun s => { s with grps := Sparse.ins g x s.grps }, fun _ h => h, fun _ => rfl, fun _ => .refl _, fun _ h => ⟨h, rfl⟩⟩,
        Act.each (s.netLines g) Act.netReset,
        Act.emit 0x25 0x0C07 1 [g, s.grpRole g, gen]]

/-- GROUP_COMMIT by core k. -/
def execGroupCommit (k : Fin 13) (g : Fin 256) (v : BitVec 32) (s : State) : Host.Outcome State Fault Refusal :=
  (Act.get fun s => Act.when (s.powered && s.coreUp k) (Act.groupCommit g v.toNat)).go s

/-- Whether the strap permits a role in a group (R308). -/
def State.rolePermitted (s : State) (role : Nat) : Bool :=
  role = 0 || (role = 1 && s.role = 1) || (role = 2 && (s.role = 1 || s.role = 2))

/-- Write the peer table of group g: the parent and children, then the multicast entry. -/
def Act.peersPut (g children : Nat) (peers : List Peer) : Act :=
  let entry (i : Nat) : Peer := if i ≤ children then (peers[i]?).getD ⟨0, 0, false⟩
    else if i = 65 then (peers[children + 1]?).getD ⟨0, 0, false⟩ else ⟨0, 0, false⟩
  Act.store (peerTable g) ((List.range 66).flatMap fun i => peerBytes (entry i))

/-- GROUP_JOIN. -/
def Act.groupJoin (m : Fin 16) (g role member gen period phase children : Nat) (peers : List Peer) : Act :=
  Act.managerCommand m 7 1 (Act.get fun s =>
    if !s.rolePermitted role || gen % 2 ^ 32 = 0 then Act.respond m 7 1 6 []
    else if 255 < g || period < 100 || 10000 < period || period ≤ phase ||
        (if role = 0 then children ≠ 0 else children = 0 || 64 < children) then Act.respond m 7 1 5 []
    else if gen % 2 ^ 32 ≤ s.fld (F.AGR_GRP_GEN.generation g) then Act.respond m 7 1 3 []
    else Act.seq [
      Act.peersPut g children peers,
      Act.setF (F.AGR_GRP_CFG.role g) role,
      Act.setF (F.AGR_GRP_CFG.children g) children,
      Act.setF (F.AGR_GRP_CFG.member g) member,
      Act.setF (F.AGR_GRP_ROUND.period_us g) period,
      Act.setF (F.AGR_GRP_ROUND.phase_us g) phase,
      Act.groupCommit g gen,
      Act.respond m 7 1 0 []])

def execGroupJoin (m : Fin 16) (group role member generation periodUs phaseUs children : Nat) (peers : List Peer)
    (s : State) : Host.Outcome State Fault Refusal :=
  (Act.groupJoin m group role member generation periodUs phaseUs children peers).go s

/-- GROUP_LEAVE. -/
def Act.groupLeave (m : Fin 16) (g gen : Nat) : Act :=
  Act.managerCommand m 7 2 (Act.get fun s =>
    if 255 < g then Act.respond m 7 2 5 []
    else if (s.grp g).isNone || gen ≠ s.fld (F.AGR_GRP_GEN.generation g) then Act.respond m 7 2 3 []
    else (Act.groupFree g).andThen (Act.respond m 7 2 0 []))

def execGroupLeave (m : Fin 16) (group generation : Nat) (s : State) : Host.Outcome State Fault Refusal :=
  (Act.groupLeave m group generation).go s

/-- GROUP_QUERY: the group's entry and its lagging, lost and emergency maps. -/
def Act.groupQuery (m : Fin 16) (g : Nat) : Act :=
  Act.managerCommand m 7 3 (Act.get fun s =>
    if 255 < g then Act.respond m 7 3 5 []
    else Act.respond m 7 3 0 (s.entryGrp g ++ leBytes 8 (s.lagMap g) ++ leBytes 8 (s.lostMap g) ++
      leBytes 8 ((s.grp g).elim 0 (·.emerg))))

def execGroupQuery (m : Fin 16) (group : Nat) (s : State) : Host.Outcome State Fault Refusal := (Act.groupQuery m group).go s

/-! ## Class 0x03 (R99, R102, R103, R108, R353) -/

/-- The answer to a share for group g at epoch e: 0, or why not (R102, R103, R108).  Where a share is out of range and its
epoch is stale too, the range is reported: the manual gives the checks no order (DESIGN CHOICE, log entry 94). -/
def State.stageStatus (s : State) (g w e : Nat) : Nat :=
  if !s.capGroup g then 4
  else if w = 0 || 65534 < w then 5
  else if e ≤ max (s.fld F.CAP_EPOCH_STAGED.epoch) (s.fld F.CAP_EPOCH_APPLIED.epoch) then 3
  else 0

/-- Take a share for group g at epoch e with the status it is to be answered: a good one is staged, a stale one recorded. -/
def Act.capTake (g w e st : Nat) : Act :=
  (Act.when (st = 0) (Act.stageShare g w e)).andThen (Act.when (st = 3) (Act.emit 0x02 0x0404 1 [g, e]))

/-- CAP_STAGE. -/
def Act.capStage (m : Fin 16) (g w e : Nat) : Act :=
  Act.managerCommand m 3 1 (Act.get fun s =>
    let st := s.stageStatus g w e
    (Act.capTake g w e st).andThen (Act.respond m 3 1 st []))

def execCapStage (m : Fin 16) (group capW epoch : Nat) (s : State) : Host.Outcome State Fault Refusal :=
  (Act.capStage m group capW (epoch % 2 ^ 32)).go s

/-- Whether FLOOR_SET names a slot, a context and a floor. -/
def floorOk (slot ctx watts : Nat) : Bool := slot ≤ 7 && ctx ≤ 15 && watts ≤ 65535

/-- FLOOR_SET. -/
def Act.floorSet (m : Fin 16) (slot ctx watts : Nat) : Act :=
  Act.managerCommand m 3 2
    (if !floorOk slot ctx watts then Act.respond m 3 2 5 []
     else (Act.setF (F.CAP_FLOOR.watts slot ctx) watts).andThen (Act.respond m 3 2 0 []))

def execFloorSet (m : Fin 16) (slot ctx watts : Nat) (s : State) : Host.Outcome State Fault Refusal :=
  (Act.floorSet m slot ctx watts).go s

/-- The allocation of slot n as a response may carry it (R107, R366). -/
def State.allocShown (s : State) (n : Nat) : Nat :=
  if s.hidden n then 0xFFFF else if s.conf then s.coarse n Prod.fst else s.quaOut (8 + n)

/-- CAP_QUERY. -/
def Act.capQuery (m : Fin 16) : Act :=
  Act.command m 3 3 fun _ => Act.get fun s =>
    let x := s.target 8
    Act.respondItems m 3 3 0 ([capCode (x.cap 1), capCode (x.cap 2), s.fld F.CAP_TRAY.eff, s.fld F.CAP_TRAY.budget,
      s.fld F.CAP_EPOCH_STAGED.epoch, s.fld F.CAP_EPOCH_APPLIED.epoch, (s.reg R.CAP_STATUS).toNat] ++
      (List.range 8).map s.allocShown)

def execCapQuery (m : Fin 16) (s : State) : Host.Outcome State Fault Refusal := (Act.capQuery m).go s

/-- The staged share of the cap group is discarded, with the deadline (R103). CAP_EPOCH_STAGED keeps the epoch, so that it
is stale afterwards: the manual does not say (DESIGN CHOICE, log entry 94). -/
def Act.shareDiscard (g : Nat) : Act :=
  Act.get fun s =>
    Act.when (s.flag F.CAP_STATUS.staged) (Act.seq [
      Act.setB F.CAP_STATUS.staged false,
      Act.setF F.CAP_STAGED_W.watts 0,
      Act.deadlineOff g,
      Act.grpMod g fun x => { x with held := none, stagedOpen := false, stagedDue := false }])

/-- Run an action on CAP_CTL; group_valid that it clears discards the staged share (R103). -/
def Act.withGroupValid (a : Act) : Act :=
  Act.get fun s0 => a.andThen (Act.get fun s1 =>
    Act.when (s0.flag F.CAP_CTL.group_valid && !s1.flag F.CAP_CTL.group_valid) (Act.shareDiscard (s0.fld F.CAP_CTL.group)))

/-- Whether CAP_CFG names a group and a deadline of 100 us to 5 ms. -/
def capCfgOk (g flags deadline : Nat) : Bool := g ≤ 255 && flags ≤ 1 && 100 ≤ deadline && deadline ≤ 5000

/-- Set the cap group and its deadline. -/
def Act.capCfgSet (g flags deadline : Nat) : Act :=
  Act.withGroupValid (Act.seq [
    Act.setF F.CAP_CTL.deadline_us deadline,
    Act.setF F.CAP_CTL.group_valid flags,
    Act.setF F.CAP_CTL.group g])

/-- CAP_CFG. -/
def Act.capCfg (m : Fin 16) (g flags deadline : Nat) : Act :=
  Act.managerCommand m 3 4
    (if !capCfgOk g flags deadline then Act.respond m 3 4 5 []
     else (Act.capCfgSet g flags deadline).andThen (Act.respond m 3 4 0 []))

def execCapCfg (m : Fin 16) (group flags deadlineUs : Nat) (s : State) : Host.Outcome State Fault Refusal :=
  (Act.capCfg m group flags deadlineUs).go s

/-- The power in W over the last second that counts for member i of a group: 0 this tray, the mean of its metered powers of
that second, then child i - 1, the mean of its summaries of it; where none has come, a free value (R353, log entry 1). -/
def State.memberPower (s : State) (draw : Word) (i : Nat) : Nat :=
  if i = 0 then
    match s.caps.trayPower.filter fun p => s.tns.tick < p.1 + 1000000 with
    | [] => s.its.mirror.reads[0].power.toNat / 1000
    | l => l.foldl (fun a p => a + p.2) 0 / (1000 * l.length)
  else
    match s.eth.kidPower.filter fun p => p.1 == i - 1 && s.tns.tick < p.2.1 + 1000000 with
    | [] => Config.childWatts draw.toNat (i - 1)
    | l => 10 * l.foldl (fun a p => a + p.2.2) 0 / l.length

/-- The shares of mode 0: in proportion to max(P, total / (2 × (n + 1))), rounded down, the remainder to the lowest index.
-/
def State.shareOut (s : State) (draw : Word) (n total : Nat) : List Nat :=
  let w := (List.range (n + 1)).map fun i => max (2 * (n + 1) * s.memberPower draw i) total
  let sum := w.foldl (· + ·) 0
  let l := w.map fun x => if sum = 0 then 0 else total * x / sum
  match l with
  | a :: r => (a + (total - l.foldl (· + ·) 0)) :: r
  | [] => []

/-- Send a request to the mailbox of child i of group g (R335): over the port by which Agreement reaches it, since the
manual does not say over which (DESIGN CHOICE, log entry 25); where none does, nothing is sent. -/
def Act.childSend (g i cls cmd : Nat) (data : List Byte) : Act :=
  Act.get fun s =>
    match ((s.grp g).bind fun x => x.kids[i]?).bind s.peerPort with
    | some l => Act.ethSend l (.request i cls cmd data)
    | none => Act.skip

/-- Send child i of group g its share: GROUP_CAP to a relay, CAP_STAGE to a leaf. -/
def Act.shareSend (g i w e : Nat) : Act :=
  if Config.childKids g i = 0 then Act.childSend g i 3 1 (leBytes 1 g ++ leBytes 1 0 ++ leBytes 2 w ++ leBytes 4 e)
  else Act.childSend g i 3 5 (leBytes 1 g ++ leBytes 3 0 ++ leBytes 4 e ++ leBytes 4 w)

/-- GROUP_CAP: mode 0 proportional, 1 explicit. -/
def Act.groupCap (m : Fin 16) (g mode e total : Nat) (given : List Nat) : Act :=
  Act.managerCommand m 3 5 (Act.fresh fun draw => Act.get fun s =>
    let n := min 64 (s.fld (F.AGR_GRP_CFG.children g))
    let l := if mode = 0 then s.shareOut draw n total else given
    let leaf (i : Nat) : Bool := i = 0 || Config.childKids g (i - 1) = 0
    if (s.grp g).isNone || s.fld (F.AGR_GRP_STAT.state g) ≠ 1 || s.grpRole g = 0 || !s.capGroup g then
      Act.respond m 3 5 4 []
    else if e ≤ max (s.fld F.CAP_EPOCH_STAGED.epoch) (s.fld F.CAP_EPOCH_APPLIED.epoch) then Act.respond m 3 5 3 []
    else if 1 < mode || l.length ≠ n + 1 || l.foldl (· + ·) 0 ≠ total ||
        (l.zipIdx.any fun p => leaf p.2 && (p.1 = 0 || 65534 < p.1)) then Act.respond m 3 5 5 []
    else Act.seq [
      Act.each ((l.drop 1).zipIdx) fun p => Act.shareSend g p.2 p.1 e,
      Act.stageShare g ((l[0]?).getD 0) e,
      Act.respond m 3 5 0 []])

def execGroupCap (m : Fin 16) (group mode epoch total : Nat) (shares : List Nat) (s : State) :
    Host.Outcome State Fault Refusal := (Act.groupCap m group mode (epoch % 2 ^ 32) total shares).go s

end Sys2Proof.Machine
end

