-- ==== Sys2Proof/Machine/Metering.lean ====
section
/-!
DEFINITION. Metering services: the class 0x05 commands and the events of the metrological log (R180, R194, R195, R197,
R198, R278, R366, R377).
-/
namespace Sys2Proof.Machine

/-! ## Channel blocks (R193, R194, R366) -/

/-- The 48 bytes of a channel block with other measured values: voltage, current, power, and the four energies. -/
def ItsMirror.blockWith (m : ItsMirror) (ch : Fin 9) (v : List Nat) : List Byte :=
  let x (i : Nat) : Nat := (v[i]?).getD 0
  leBytes 4 (x 0) ++ leBytes 4 (x 1) ++ leBytes 4 (x 2) ++ slice (m.block ch) 12 4 ++
    leBytes 8 (x 3) ++ leBytes 8 (x 4) ++ leBytes 8 (x 5) ++ leBytes 8 (x 6)

/-- The measured values of a channel block. -/
def ItsMirror.blockValues (m : ItsMirror) (ch : Fin 9) : List Nat :=
  let b := m.block ch
  [leAt b 0 4, leAt b 4 4, leAt b 8 4, leAt b 16 8, leAt b 24 8, leAt b 32 8, leAt b 40 8]

/-- All ones in n bytes. -/
def ones (n : Nat) : Nat := 2 ^ (8 * n) - 1

/-- The metered power of slot n in mW as confidential mode shows it: the average over the last whole 1 s window in 5 W
steps, all ones until one has begun after entry (R194, R376). -/
def State.coarseMeter (s : State) (n : Nat) : Nat :=
  match s.caps.meterAvg with
  | some (w, l) => if s.sec.confSince ≤ w * 1000000 then (2 * (l[n]?).getD 0 + 5000) / 10000 * 5000 else ones 4
  | none => ones 4

/-- The channel block that leaves the device: all measured values of a slot in SCRUB or WAIT_DEVICE read all ones, and in
confidential mode a slot's power is coarse and its interval-so-far values are withheld (log entry 27). -/
def State.blockShown (s : State) (ch : Fin 9) : List Byte :=
  let m := s.its.mirror
  if ch = 0 then m.block ch
  else if s.hidden (ch - 1) then m.blockWith ch [ones 4, ones 4, ones 4, ones 8, ones 8, ones 8, ones 8]
  else if s.conf then
    let v := m.blockValues ch
    m.blockWith ch [(v[0]?).getD 0, (v[1]?).getD 0, s.coarseMeter (ch - 1), (v[3]?).getD 0, (v[4]?).getD 0, ones 8, ones 8]
  else m.block ch

/-- METER_QUERY. -/
def Act.meterQuery (m : Fin 16) (channel : Nat) : Act :=
  Act.command m 5 1 fun _ => Act.get fun s =>
    if h : channel < 9 then Act.respond m 5 1 0 (s.blockShown ⟨channel, h⟩)
    else Act.respond m 5 1 5 []

def execMeterQuery (m : Fin 16) (channel : Nat) (s : State) : Host.Outcome State Fault Refusal :=
  (Act.meterQuery m channel).go s

/-! ## Log reads (R197) -/

/-- The log records of count sequence numbers from one on that pass. -/
def State.logPick (s : State) (fromSeq count : Nat) (pass : ItsRec → Bool) : List ItsRec :=
  ((List.range count).filterMap fun i => s.logRec (fromSeq + i)).filter pass

/-- Whether a record is an ENERGY record of a context on a slot's channel. -/
def ItsRec.ofContext (r : ItsRec) (slot ctx : Nat) : Bool :=
  r.typ == 1 && r.chan == slot + 1 && r.reg < 32 && r.reg % 16 == ctx

/-- Whether the tray host holds an ACTIVE session for the context of a record. -/
def State.hostMayRead (s : State) (r : ItsRec) : Bool := s.sec.sessions.any fun x => x.active && r.ofContext x.slot x.ctx

/-- The records of a LOG_READ as its response carries them: unchanged, and as many whole ones as the payload of 8,160 bytes
has room for beside the kind byte (R197, R338; DESIGN CHOICE, log entry 78). -/
def recordBytes (l : List ItsRec) : List Byte := (l.take 203).flatMap ItsRec.bytes

/-- LOG_READ outside a session. -/
def Act.logRead (m : Fin 16) (fromSeq count : Nat) : Act :=
  Act.command m 5 2 fun src => Act.get fun s =>
    if count = 0 || 256 < count then Act.respond m 5 2 5 []
    else if src = 1 then
      Act.respond m 5 2 0 (recordBytes (s.logPick fromSeq count fun _ => true))
    else if s.conf then Act.respond m 5 2 4 []
    else Act.respond m 5 2 0 (recordBytes (s.logPick fromSeq count s.hostMayRead))

def execLogRead (m : Fin 16) (fromSeq count : Nat) (s : State) : Host.Outcome State Fault Refusal :=
  (Act.logRead m fromSeq count).go s

/-! ## Interval and band (R180, R182) -/

/-- INTERVAL_SET: the scheduler core sends the length, then the alignment. -/
def Act.intervalSet (m : Fin 16) (len align tick : Nat) : Act :=
  Act.managerCommand m 5 3
    (if 60 < len || 1 < align then Act.respond m 5 3 5 []
     else Act.seq [
      Act.when (len ≠ 0) (Act.itsFirm 2 (itsWord 2 0 0) len),
      Act.when (align = 1) (Act.itsFirm 2 (itsWord 3 0 0) tick),
      Act.respond m 5 3 0 []])

def execIntervalSet (m : Fin 16) (lengthMin align tickAt : Nat) (s : State) : Host.Outcome State Fault Refusal :=
  (Act.intervalSet m lengthMin align tickAt).go s

/-- BAND_SET: the power core switches every channel at the strobe; a change of owner before it is switched there too
(tariffFor). -/
def Act.bandSet (m : Fin 16) (band tick : Nat) : Act :=
  Act.managerCommand m 5 4 (Act.get fun s =>
    if 1 < band then Act.respond m 5 4 5 []
    else Act.seq [
      Act.itsx fun x => { x with band := s.bandAt (s.tns.tick % 2 ^ 32), bandNext := some (band, tick) },
      Act.each (List.range 9) fun ch => Act.itsFirm 1 (itsWord 1 ch (tariffReg ch band (s.owner (ch - 1)))) tick,
      Act.respond m 5 4 0 []])

def execBandSet (m : Fin 16) (band tickAt : Nat) (s : State) : Host.Outcome State Fault Refusal :=
  (Act.bandSet m band tickAt).go s

/-! ## Attribution (R278, R374, R377) -/

/-- A record of an attribution response; a hidden slot's values read all ones (R366). -/
def State.attribRecord (s : State) (x : Attrib) (reg : Nat) : List Byte :=
  s.veiled x.slot 1 (if reg = 32 then 0xFF else reg % 16) ++ s.veiled x.slot 1 (if reg = 32 then 0 else reg / 16) ++ leBytes 6 0 ++
    s.veiled x.slot 8 (s.attribShare x reg) ++ s.veiled x.slot 8 (unsignedOf 64 (Config.attribBoundary x.out x.slot reg))

/-- The response for a slot after its kind byte: the records of the registers that pass, for the last closed interval.  An
interval that has no metered value has no records and no unassigned energy (R195, R278; log entry 78). -/
def State.attribPayload (s : State) (slot : Nat) (pass : Nat → Bool) : List Byte :=
  let i := s.closedInterval.getD 0
  let recs : List (List Byte) := match s.learned.attribs.find? fun x => x.interval == i && x.slot == slot with
    | some x => (x.regs.filter pass).map (s.attribRecord x)
    | none => []
  leBytes 1 slot ++ leBytes 1 recs.length ++ leBytes 1 0 ++ leBytes 4 i ++
    leBytes 8 (if s.unmetered i = 0 then s.unassigned i else 0) ++ recs.flatten

/-- ATTRIB_QUERY outside a session; in confidential mode attributed energy leaves only inside one. -/
def Act.attribQuery (m : Fin 16) (slot : Nat) : Act :=
  Act.command m 5 5 fun _ => Act.get fun s =>
    if s.conf then Act.respond m 5 5 4 []
    else if 7 < slot then Act.respond m 5 5 5 []
    else Act.respond m 5 5 0 (s.attribPayload slot fun _ => true)

def execAttribQuery (m : Fin 16) (slot : Nat) (s : State) : Host.Outcome State Fault Refusal := (Act.attribQuery m slot).go s

/-! ## Events of the log (R198) -/

/-- Record the event of a log record that the scheduler core handles. -/
def Act.logEvent (r : ItsRec) : Act :=
  Act.get fun s =>
    if r.typ = 2 then
      Act.when (r.chan = 8) (Act.emit 0x2A 0x0800 1 [r.interval, maskOf ((List.range 9).filter fun c =>
        match s.closeOf r.interval c with | some x => bitOf x.flags 0 | none => false)])
    else if r.typ = 0x32 then Act.emit 0x2A 0x0801 2 [r.chan, r.aux]
    else if r.typ = 0x20 then Act.emit 0x2A 0x0802 4 [r.value]
    else if r.typ = 0x21 then Act.emit 0x2A 0x0803 1 [r.aux]
    else if r.typ = 0x13 || r.typ = 0x14 then Act.emit 0x2A 0x0804 2 [r.value]
    else if r.typ = 0x10 then Act.emit 0x2A 0x0805 2 [r.chan, r.value]
    else if r.typ = 0x22 then Act.emit 0x2A 0x0806 3 [r.aux]
    else Act.skip

/-- Handle the log record with a sequence number; one that has been overwritten gives no event. -/
def Act.logHandle (seq : Nat) : Act :=
  Act.get fun s =>
    (Act.itsx fun x => { x with handled := seq }).andThen
      (match s.logRec seq with
       | some r => Act.logEvent r
       | none => Act.skip)

/-- LOG_EVENT_RECORD: the scheduler core handles, in order, the records that the window shows, or fetches those that are no
longer among the newest 512. -/
def Act.logEventRecord : Act :=
  Act.get fun s =>
    let next := s.its.handled + 1
    let last := s.its.mirror.lastSeq
    let fetch := s.its.mirror.fetch
    if !s.powered || !s.coreUp 2 || last < next then Act.skip
    else if last < next + 512 then Act.each (List.range (last + 1 - next)) fun i => Act.logHandle (next + i)
    else if fetch ≠ 0 && fetch ≤ next && next < fetch + 256 then
      Act.each (List.range (min (last + 1) (fetch + 256) - next)) fun i => Act.logHandle (next + i)
    else if s.flag (F.SYS_ITS_STAT.busy 2) then Act.skip
    else Act.itsFirm 2 (itsWord 4 0 0) next

def execLogEventRecord (s : State) : Host.Outcome State Fault Refusal := Act.logEventRecord.go s

end Sys2Proof.Machine
end

