-- ==== Sys2Proof/Machine/Alu.lean ====
section
/-!
DEFINITION. The arithmetic of K32 on 64-bit words, and the encodings of the instruction formats (R204 to R208, R210).
-/
namespace Sys2Proof.Machine

/-! ## Register arithmetic (R207) -/

/-- A 32-bit result, sign-extended. -/
def wordForm (v : BitVec 32) : Word := v.signExtend 64

/-- Bits [31:0]. -/
def lowWord (a : Word) : BitVec 32 := a.truncate 32

def aluSll (a b : Word) : Word := a <<< (b.toNat % 64)
def aluSrl (a b : Word) : Word := a >>> (b.toNat % 64)
def aluSra (a b : Word) : Word := a.sshiftRight (b.toNat % 64)
def aluSlt (a b : Word) : Word := if a.slt b then 1#64 else 0#64
def aluSltu (a b : Word) : Word := if a.ult b then 1#64 else 0#64
def aluMin (a b : Word) : Word := if a.slt b then a else b
def aluMax (a b : Word) : Word := if a.slt b then b else a
def aluMinu (a b : Word) : Word := if a.ult b then a else b
def aluMaxu (a b : Word) : Word := if a.ult b then b else a
def aluAddw (a b : Word) : Word := wordForm (lowWord a + lowWord b)
def aluSubw (a b : Word) : Word := wordForm (lowWord a - lowWord b)
def aluSllw (a b : Word) : Word := wordForm (lowWord a <<< (b.toNat % 32))
def aluSrlw (a b : Word) : Word := wordForm (lowWord a >>> (b.toNat % 32))
def aluSraw (a b : Word) : Word := wordForm ((lowWord a).sshiftRight (b.toNat % 32))

/-- Leading zeros; 64 for 0. -/
def aluClz (a : Word) : Word :=
  BitVec.ofNat 64 (((List.range 64).find? fun i => bitOf a.toNat (63 - i)).getD 64)

/-- Trailing zeros; 64 for 0. -/
def aluCtz (a : Word) : Word := BitVec.ofNat 64 (((List.range 64).find? (bitOf a.toNat)).getD 64)

/-- The number of ones. -/
def aluPopc (a : Word) : Word := BitVec.ofNat 64 (popBits a.toNat 64)

def aluSadd (a b : Word) : Word := BitVec.ofInt 64 (satSigned 64 (a.toInt + b.toInt))
def aluSsub (a b : Word) : Word := BitVec.ofInt 64 (satSigned 64 (a.toInt - b.toInt))

/-! ## Shift by immediate (R208) -/

/-- Whether the immediate of SHI is one that R208 defines. -/
def shiOk (imm : BitVec 17) : Bool :=
  imm.toNat / 512 == 0 && !(bitOf imm.toNat 8 && bitOf imm.toNat 5)

/-- A shift of a value of any width by a count below it: kind 0 SLL, 1 SRL, 2 SRA, 3 ROR. -/
def shiftBy {w : Nat} (kind n : Nat) (a : BitVec w) : BitVec w :=
  match kind with
  | 0 => a <<< n | 1 => a >>> n | 2 => a.sshiftRight n | _ => a.rotateRight n

def aluShi (a : Word) (imm : BitVec 17) : Word :=
  let n := imm.toNat % 64
  let kind := imm.toNat / 64 % 4
  if bitOf imm.toNat 8 then wordForm (shiftBy kind n (lowWord a)) else shiftBy kind n a

/-! ## Multiply and divide (R210) -/

def mdMulh (a b : Word) : Word := BitVec.ofInt 64 (a.toInt * b.toInt / (2 ^ 64 : Nat))
def mdMulhu (a b : Word) : Word := BitVec.ofNat 64 (a.toNat * b.toNat / 2 ^ 64)
def mdDiv (a b : Word) : Word := if b = 0#64 then BitVec.allOnes 64 else a.sdiv b
def mdDivu (a b : Word) : Word := if b = 0#64 then BitVec.allOnes 64 else a.udiv b
def mdRem (a b : Word) : Word := if b = 0#64 then a else a.srem b
def mdRemu (a b : Word) : Word := if b = 0#64 then a else a.umod b

/-! ## Branch conditions (R210) -/

/-- Whether a branch condition holds; none where it is not defined. -/
def brCond (c : Nat) (a b : Word) : Option Bool :=
  match c with
  | 0 => some (a == b) | 1 => some (a != b) | 2 => some (a.slt b) | 3 => some (!a.slt b)
  | 4 => some (a.ult b) | 5 => some (!a.ult b) | _ => none

/-! ## The count of CADD (R216) -/

/-- The word that CADD stores for a word and a signed addend: the count in [61:0] saturates at both ends, bit 62 is the
underflow flag and bit 63 the overflow flag. -/
def caddWord (prev b : Word) : Word :=
  let flags := prev.toNat / 2 ^ 62
  let sum := (prev.toNat % 2 ^ 62 : Nat) + b.toInt
  if sum < 0 then BitVec.ofNat 64 (setBit flags 0 * 2 ^ 62)
  else if ((2 ^ 62 - 1 : Nat) : Int) < sum then BitVec.ofNat 64 (setBit flags 1 * 2 ^ 62 + (2 ^ 62 - 1))
  else BitVec.ofNat 64 (flags * 2 ^ 62 + sum.toNat)

/-! ## Instruction words (R204, R205) -/

/-- A word of formats A and S: major, d, a, the 5-bit field b or sub, and the 12-bit field fn or imm12. -/
def encA (major d a b fn : Nat) : Word := BitVec.ofNat 64 (major * 2 ^ 27 + d * 2 ^ 22 + a * 2 ^ 17 + b * 2 ^ 12 + fn)

/-- A word of format I. -/
def encI (major d a imm : Nat) : Word := BitVec.ofNat 64 (major * 2 ^ 27 + d * 2 ^ 22 + a * 2 ^ 17 + imm)

/-- A word of formats M and B: two 5-bit fields, a 3-bit field and a 14-bit offset. -/
def encM (major d a width off : Nat) : Word :=
  BitVec.ofNat 64 (major * 2 ^ 27 + d * 2 ^ 22 + a * 2 ^ 17 + width * 2 ^ 14 + off)

/-- The core registers that exist. -/
def crKnown (n : Nat) : Bool :=
  n ≤ 6 || n == 8 || n == 9 || (0x10 ≤ n && n ≤ 0x14) || (0x100 ≤ n && n < 0x140 && n % 4 != 3)

end Sys2Proof.Machine
end

