-- ==== Sys2Proof/Machine/Words.lean ====
section
/-!
DEFINITION. Which instruction a 32-bit word is: the formats of K32 and KT, and the major, fn and sub fields that select the
instruction (R204 to R210, R213, R217 to R219, R245, R246, R255, R256).
-/
namespace Sys2Proof.Machine

/-! ## Fields (R204, R255) -/

/-- The major field. -/
def majorOf (v : Nat) : Nat := fldOf (BitVec.ofNat 32 v) 31 27

/-- A register field whose lowest bit is bit lo. -/
def regAt (v lo : Nat) : Reg := ⟨v / 2 ^ lo % 32, Nat.mod_lt _ (by decide)⟩

/-- A descriptor field whose lowest bit is bit lo. -/
def tdAt (v lo : Nat) : Fin 8 := ⟨v / 2 ^ lo % 8, Nat.mod_lt _ (by decide)⟩

/-- Field d of formats A, I, M, J, U, S and TG, and field a of format B. -/
def wordD (v : Nat) : Reg := regAt v 22

/-- Field a of formats A, I, M, S and TG, and field b of format B. -/
def wordA (v : Nat) : Reg := regAt v 17

/-- Field b of format A, and the number of sub of format S. -/
def wordB (v : Nat) : Reg := regAt v 12

/-- Field fn of format A, imm12 of formats S and T. -/
def wordFn (v : Nat) : Nat := v % 2 ^ 12

/-! ## K32 -/

/-- An OP instruction of three registers by its fn (R207). -/
def decodeOp3 (w : Agent) (d a b : Reg) : Nat → Option Instr
  | 0x000 => some (.add w d a b) | 0x001 => some (.sub w d a b) | 0x002 => some (.and w d a b)
  | 0x003 => some (.or w d a b) | 0x004 => some (.xor w d a b) | 0x005 => some (.andn w d a b)
  | 0x006 => some (.sll w d a b) | 0x007 => some (.srl w d a b) | 0x008 => some (.sra w d a b)
  | 0x009 => some (.slt w d a b) | 0x00A => some (.sltu w d a b) | 0x00B => some (.min w d a b)
  | 0x00C => some (.max w d a b) | 0x00D => some (.minu w d a b) | 0x00E => some (.maxu w d a b)
  | 0x010 => some (.addw w d a b) | 0x011 => some (.subw w d a b) | 0x012 => some (.sllw w d a b)
  | 0x013 => some (.srlw w d a b) | 0x014 => some (.sraw w d a b)
  | 0x020 => some (.sadd w d a b) | 0x021 => some (.ssub w d a b)
  | _ => none

/-- An OP instruction: CLZ, CTZ and POPC have b 0 (R207). -/
def decodeOp (w : Agent) (d a b : Reg) (fn : Nat) : Option Instr :=
  match fn with
  | 0x018 => if b = 0 then some (.clz w d a) else none
  | 0x019 => if b = 0 then some (.ctz w d a) else none
  | 0x01A => if b = 0 then some (.popc w d a) else none
  | fn => decodeOp3 w d a b fn

/-- An MD instruction (R210). -/
def decodeMd (w : Agent) (d a b : Reg) : Nat → Option Instr
  | 0x000 => some (.mul w d a b) | 0x001 => some (.mulh w d a b) | 0x002 => some (.mulhu w d a b)
  | 0x004 => some (.div w d a b) | 0x005 => some (.divu w d a b) | 0x006 => some (.rem w d a b)
  | 0x007 => some (.remu w d a b)
  | _ => none

/-- A TAG instruction (R213). -/
def decodeTag (w : Agent) (d a b : Reg) : Nat → Option Instr
  | 0x000 => some (.ldw w d a) | 0x001 => some (.lde w d a) | 0x002 => some (.stf w a b) | 0x003 => some (.tclr w a)
  | 0x004 => some (.tget w d a) | 0x005 => some (.cadd w d a b) | 0x006 => some (.tinite w a b)
  | 0x007 => some (.tinitf w a b)
  | _ => none

/-- A SYNC instruction (R211, R217, R218); ARV, BWT and WFE are not a thread's (R246). -/
def decodeSync (w : Agent) (d a b : Reg) (fn : Nat) : Option Instr :=
  let onCore (i : Instr) : Option Instr := match w with | .core _ => some i | .thread _ => none
  if fn < 0x010 then some (.fence w (BitVec.ofNat 4 fn))
  else match fn with
  | 0x010 => some (.ifence w)
  | 0x020 => onCore (.arv w d a)
  | 0x021 => onCore (.bwt w d a b)
  | 0x030 => onCore (.wfe w)
  | 0x031 => some (.wtick w a)
  | _ => none

/-- A SYS instruction by its sub field (R219); a core register that does not exist makes it illegal, and a thread has SVC,
BRK and CRD of CR_TSTAT and CR_TICK alone (R246). -/
def decodeSys (w : Agent) (d a : Reg) (sub imm : Nat) : Option Instr :=
  let cr := BitVec.ofNat 12 imm
  let onCore (i : Instr) : Option Instr := match w with | .core _ => some i | .thread _ => none
  let known (i : Instr) : Option Instr := if crKnown imm then onCore i else none
  match sub with
  | 0 => some (.svc w cr)
  | 1 => some (.brk w cr)
  | 2 => onCore (.eret w)
  | 3 => if imm = 0x10 || imm = 0x11 then some (.crd w d cr) else known (.crd w d cr)
  | 4 => known (.cwr w cr a)
  | 5 => known (.cset w d a cr)
  | 6 => known (.cclr w d a cr)
  | _ => none

/-- The instruction of a K32 word, by its major (R205). -/
def decodeK32 (w : Agent) (v : Nat) : Option Instr :=
  let d := wordD v
  let a := wordA v
  let imm17 := BitVec.ofNat 17 v
  let imm22 := BitVec.ofNat 22 v
  let w3 := BitVec.ofNat 3 (v / 2 ^ 14)
  let off14 := BitVec.ofNat 14 v
  match majorOf v with
  | 0x01 => decodeOp w d a (wordB v) (wordFn v)
  | 0x02 => some (.addi w d a imm17)
  | 0x03 => some (.andi w d a imm17)
  | 0x04 => some (.ori w d a imm17)
  | 0x05 => some (.xori w d a imm17)
  | 0x06 => if shiOk imm17 then some (.shi w d a imm17) else none
  | 0x07 => some (.slti w d a imm17)
  | 0x08 => some (.lup w d imm22)
  | 0x09 => some (.aup w d imm22)
  | 0x0A => if w3 = 7 then none else some (.load w d a w3 off14)
  | 0x0B => if 4 ≤ w3.toNat then none else some (.store w d a w3 off14)
  | 0x0C => if 6 ≤ w3.toNat then none else some (.br w d a w3 off14)
  | 0x0D => some (.jal w d imm22)
  | 0x0E => some (.jalr w d a imm17)
  | 0x0F => decodeMd w d a (wordB v) (wordFn v)
  | 0x10 => decodeTag w d a (wordB v) (wordFn v)
  | 0x11 => decodeSync w d a (wordB v) (wordFn v)
  | 0x12 => decodeSys w d a (wordB v).val (wordFn v)
  | _ => none

/-! ## KT (R245, R255, R256) -/

/-- A KT instruction with its fields, as R256 lists them. -/
inductive KtOp where
  | tdld (td : Fin 8) (a : Reg) (imm : BitVec 8)
  | tdst (td : Fin 8) (a : Reg) (imm : BitVec 8)
  | tdrd (d : Reg) (td : Fin 8) (imm : BitVec 8)
  | tdwr (td : Fin 8) (imm : BitVec 8) (a : Reg)
  | tdadd (td : Fin 8) (imm : BitVec 8) (a : Reg)
  | tmma (c a b : Fin 8)
  | tmm (c a b : Fin 8)
  | tewAdd (c a b : Fin 8)
  | tewSub (c a b : Fin 8)
  | tewMul (c a b : Fin 8)
  | tewMax (c a b : Fin 8)
  | tewMin (c a b : Fin 8)
  | scale (c a : Fin 8) (g : Reg)
  | relu (c a : Fin 8)
  | clamp (c a : Fin 8) (g : Reg)
  | sigm (c a : Fin 8)
  | tanh (c a : Fin 8)
  | exp (c a : Fin 8)
  | recip (c a : Fin 8)
  | rsqrt (c a : Fin 8)
  | gelu (c a : Fin 8)
  | softplus (c a : Fin 8)
  | log (c a : Fin 8)
  | rsum (c a : Fin 8)
  | rmax (c a : Fin 8)
  | rmin (c a : Fin 8)
  | tacc (c a : Fin 8)
  | tamax (c a : Fin 8)
  | tcpy (c a : Fin 8)
  | tzero (c : Fin 8)
  | ttrn (c a : Fin 8)
  | twait
  | tend
  | tflags (d : Reg)
deriving DecidableEq, Repr

/-- The KT instruction that a command is, with its thread. -/
def ktOf : Instr → Option (Fin 1024 × KtOp)
  | .tdld t td a imm => some (t, .tdld td a imm)
  | .tdst t td a imm => some (t, .tdst td a imm)
  | .tdrd t d td imm => some (t, .tdrd d td imm)
  | .tdwr t td imm a => some (t, .tdwr td imm a)
  | .tdadd t td imm a => some (t, .tdadd td imm a)
  | .tmma t c a b => some (t, .tmma c a b)
  | .tmm t c a b => some (t, .tmm c a b)
  | .tewAdd t c a b => some (t, .tewAdd c a b)
  | .tewSub t c a b => some (t, .tewSub c a b)
  | .tewMul t c a b => some (t, .tewMul c a b)
  | .tewMax t c a b => some (t, .tewMax c a b)
  | .tewMin t c a b => some (t, .tewMin c a b)
  | .scale t c a g => some (t, .scale c a g)
  | .relu t c a => some (t, .relu c a)
  | .clamp t c a g => some (t, .clamp c a g)
  | .sigm t c a => some (t, .sigm c a)
  | .tanh t c a => some (t, .tanh c a)
  | .exp t c a => some (t, .exp c a)
  | .recip t c a => some (t, .recip c a)
  | .rsqrt t c a => some (t, .rsqrt c a)
  | .gelu t c a => some (t, .gelu c a)
  | .softplus t c a => some (t, .softplus c a)
  | .log t c a => some (t, .log c a)
  | .rsum t c a => some (t, .rsum c a)
  | .rmax t c a => some (t, .rmax c a)
  | .rmin t c a => some (t, .rmin c a)
  | .tacc t c a => some (t, .tacc c a)
  | .tamax t c a => some (t, .tamax c a)
  | .tcpy t c a => some (t, .tcpy c a)
  | .tzero t c => some (t, .tzero c)
  | .ttrn t c a => some (t, .ttrn c a)
  | .twait t => some (t, .twait)
  | .tend t => some (t, .tend)
  | .tflags t d => some (t, .tflags d)
  | _ => none

/-- An instruction, if the fields that it does not use are 0. -/
def ifZero (unused : Nat) (i : KtOp) : Option KtOp := if unused = 0 then some i else none

/-- A KT word of format TG: fields d, a, td, fn and imm8. -/
def decodeTg (major d a td fn imm : Nat) : Option KtOp :=
  let rd := regAt d 0
  let ra := regAt a 0
  let x := tdAt td 0
  let i8 := BitVec.ofNat 8 imm
  let field (unused : Nat) (i : KtOp) : Option KtOp := if imm < 14 then ifZero unused i else none
  match major, fn with
  | 0x18, 0x00 => ifZero d (.tdld x ra i8)
  | 0x18, 0x01 => ifZero d (.tdst x ra i8)
  | 0x18, 0x02 => field a (.tdrd rd x i8)
  | 0x18, 0x03 => field d (.tdwr x i8 ra)
  | 0x18, 0x04 => field d (.tdadd x i8 ra)
  | 0x1E, 0x00 => ifZero (d + a + td + imm) (.twait)
  | 0x1E, 0x01 => ifZero (d + a + td + imm) (.tend)
  | 0x1E, 0x02 => ifZero (a + td + imm) (.tflags rd)
  | _, _ => none

/-- A KT word of format T: fields tdd (C), tda (A), tdb (B), fn and imm12. -/
def decodeT (major : Nat) (c a b : Fin 8) (fn imm : Nat) : Option KtOp :=
  let g := regAt imm 0
  let all (i : KtOp) : Option KtOp := ifZero imm i
  let two (i : KtOp) : Option KtOp := ifZero (b.val + imm) i
  let scalar (i : KtOp) : Option KtOp := ifZero (b.val + imm / 32) i
  match major, fn with
  | 0x19, 0x00 => all (.tmma c a b) | 0x19, 0x01 => all (.tmm c a b)
  | 0x1A, 0x00 => all (.tewAdd c a b) | 0x1A, 0x01 => all (.tewSub c a b) | 0x1A, 0x02 => all (.tewMul c a b)
  | 0x1A, 0x03 => all (.tewMax c a b) | 0x1A, 0x04 => all (.tewMin c a b)
  | 0x1A, 0x05 => scalar (.scale c a g) | 0x1A, 0x06 => two (.relu c a) | 0x1A, 0x07 => scalar (.clamp c a g)
  | 0x1B, 0x00 => two (.sigm c a) | 0x1B, 0x01 => two (.tanh c a) | 0x1B, 0x02 => two (.exp c a)
  | 0x1B, 0x03 => two (.recip c a) | 0x1B, 0x04 => two (.rsqrt c a) | 0x1B, 0x05 => two (.gelu c a)
  | 0x1B, 0x06 => two (.softplus c a) | 0x1B, 0x07 => two (.log c a)
  | 0x1C, 0x00 => two (.rsum c a) | 0x1C, 0x01 => two (.rmax c a) | 0x1C, 0x02 => two (.rmin c a)
  | 0x1C, 0x08 => two (.tacc c a) | 0x1C, 0x09 => two (.tamax c a)
  | 0x1D, 0x00 => two (.tcpy c a) | 0x1D, 0x01 => ifZero (a.val + b.val + imm) (.tzero c)
  | 0x1D, 0x02 => two (.ttrn c a)
  | _, _ => none

/-- The instruction of a KT word, by its major. -/
def decodeKt (v : Nat) : Option KtOp :=
  let major := majorOf v
  if major = 0x18 || major = 0x1E then
    decodeTg major (v / 2 ^ 22 % 32) (v / 2 ^ 17 % 32) (v / 2 ^ 14 % 8) (v / 2 ^ 8 % 64) (v % 2 ^ 8)
  else decodeT major (tdAt v 24) (tdAt v 21) (tdAt v 18) (v / 2 ^ 12 % 64) (v % 2 ^ 12)

/-- What a word is: a K32 instruction, or a KT instruction of a thread. -/
inductive Decoded where
  | k32 (i : Instr)
  | kt (t : Fin 1024) (op : KtOp)
deriving DecidableEq, Repr

/-- Whether a word is the instruction that a command names. -/
def Decoded.is (x : Decoded) (i : Instr) : Bool :=
  match x with
  | .k32 j => i == j
  | .kt t op => ktOf i == some (t, op)

/-- The instruction that a word is for an agent; none is an ILLEGAL instruction (R206).  KT is a thread's alone (R205). -/
def decodeWord (w : Agent) (word : BitVec 32) : Option Decoded :=
  let v := word.toNat
  if 0x18 ≤ majorOf v && majorOf v ≤ 0x1E then
    match w with
    | .core _ => none
    | .thread t => (decodeKt v).map (.kt t)
  else (decodeK32 w v).map .k32

end Sys2Proof.Machine
end

