-- ==== Sys2Proof/Machine/Exec.lean ====
section
/-!
DEFINITION. The K32 instruction set on the cores and in the Conjugator's threads, but for LOAD and STORE: what every
instruction goes through, register arithmetic, jumps, tags, barriers, waits, services and core registers (R199 to R226,
R246 to R248).
-/
namespace Sys2Proof.Machine

/-! ## The agent that executes -/

/-- Whether the agent executes: it is neither held, waiting, halted nor ended. Which ready thread of a tile issues is the
tile's choice by R237; whether a thread is ready depends on the timing of the instructions before, so that a command names
the thread that the tile has chosen (DESIGN CHOICE, log entry 90). -/
def State.runs (s : State) (w : Agent) : Bool :=
  s.powered && (match w with
    | .core k => (s.core k).run == .running
    | .thread t => (s.thread t).st == .running && (s.job (s.thread t).job).st == .running)

/-- The agent's program counter. -/
def State.pcOf (s : State) : Agent → Nat
  | .core k => (s.core k).pc
  | .thread t => (s.thread t).pc

/-- The agent's general register; g0 reads 0 (R203). -/
def State.gprOf (s : State) (w : Agent) (r : Reg) : Word :=
  match w with
  | .core k => (s.core k).gpr[r]
  | .thread t => if r = 0 then 0#64 else (s.thread t).gpr[r]

/-- Write the agent's general register; g0 ignores it (R203). -/
def Act.setR (w : Agent) (d : Reg) (v : Word) : Act :=
  match w with
  | .core k => Act.setGpr k d v
  | .thread t => Act.when (d ≠ 0) (Act.thread t fun c => { c with gpr := c.gpr.set d v })

/-- Write the agent's CR_TSTAT (R214). -/
def Act.setTstat (w : Agent) (v : Nat) : Act :=
  match w with
  | .core k => Act.core k fun c => { c with tstat := v }
  | .thread t => Act.thread t fun c => { c with tstat := v }

/-- The model slot that confines a thread of a mode P job (R248). -/
def State.confine (s : State) : Agent → Option Nat
  | .core _ => none
  | .thread t =>
    let r := s.job (s.thread t).job
    if r.modeP then some r.slot else none

/-! ## Protection (R202, R220 to R222, R247, R248) -/

/-- Whether an enabled region covers a page and grants the kinds of need: bit 1 read, 2 write, 3 exec, 4 tag. -/
def regionGrants (base limit attr page need : Nat) : Bool :=
  bitOf attr 0 && base ≤ page && page ≤ limit && attr &&& need == need

/-- Region r of core k, r = 0 to 11: base, limit and attributes as the security core wrote them (R221). -/
def State.fRegion (s : State) (k : Fin 13) (r : Nat) : Nat × Nat × Nat :=
  (s.fld (F.SYS_CORE_MPU_BASE.page k r), s.fld (F.SYS_CORE_MPU_LIMIT.page k r), s.fld (F.SYS_CORE_MPU_ATTR.attr k r))

/-- Whether mode F accesses of core k are not checked by regions: none is enabled and the lock is clear (R221). -/
def State.fUnchecked (s : State) (k : Fin 13) : Bool :=
  !s.flag (F.SYS_CORE_LOCK.lock k) && (List.range 12).all fun r => !bitOf (s.fRegion k r).2.2 0

/-- Whether the regions of the present mode of core k permit an access of the kinds of need. -/
def State.regionOk (s : State) (k : Fin 13) (a need : Nat) : Bool :=
  let c := s.core k
  if c.p then c.regions.toList.any fun r => regionGrants r.base r.limit r.attr (a / 4096) need
  else s.fUnchecked k || (List.range 12).any fun r =>
    regionGrants (s.fRegion k r).1 (s.fRegion k r).2.1 (s.fRegion k r).2.2 (a / 4096) need

/-- Whether an address lies in tensor SRAM. -/
def inTensor (a : Nat) : Bool := tensorBase ≤ a && a < tensorBase + tensorSize

/-- Whether an address lies in DDR5. -/
def inDdr (a : Nat) : Bool := ddrBase ≤ a && a < ddrBase + ddrSize

/-- Whether n bytes from an address lie in one of the three windows of model slot m (R248). -/
def State.inPart (s : State) (m a n : Nat) : Bool :=
  inWindow (s.winTs m) a n || inWindow (s.winDdr m) a n || inWindow (s.winSh m) a n

/-- The detail of the fetch fault at the agent's program counter, if there is one: 0 not fetchable, 1 region (R24, R202,
R222, R247, R248). -/
def State.fetchFault (s : State) (w : Agent) : Option Nat :=
  let a := s.pcOf w
  match w with
  | .core k =>
    if !(inShared a || inTensor a || (!(s.core k).p && a < 0x40000)) then some 0
    else if s.regionOk k a 8 then none else some 1
  | .thread _ =>
    match s.confine w with
    | some m => if inWindow (s.winTs m) a 4 then none else some 0
    | none => if inShared a || inTensor a then none else some 0

/-! ## What an instruction comes to -/

/-- What an instruction comes to: an effect and the next program counter, an exception, a wait, or an effect after which
the agent does not go on. -/
inductive K32Res where
  | done (a : Act) (pc : Nat)
  | exc (code detail : Nat) (bad : Word)
  | wait (what : WaitFor)
  | gone (a : Act)

/-- The clause that runs on core k, by its target. -/
def State.clauseOn (s : State) (k : Fin 13) : Option (Fin 9 × ClauseRun) :=
  (List.finRange 9).findSome? fun (t : Fin 9) =>
    ((s.target t).run.filter fun r => r.core == k).map fun r => (t, r)

/-- Any exception in mode P but SVC stops the clause (R233): the binding is FAULT, its default down-path runs, and the
exception is recorded.  SEQ_CLAUSE_STAT keeps its reason and index. -/
def Act.clauseStopped (k : Fin 13) (code detail : Nat) (epc : Nat) : Act :=
  Act.get fun s =>
    match s.clauseOn k with
    | some (t, r) => (Act.withFeeds (Act.seq [
        Act.emit (coreSource k) 0x0903 3 [t, detail * 256 + code, (epc + 2 ^ 64 - clauseBank r.slot r.bank) % 2 ^ 32],
        Act.targetFault t])).andThen Act.settle
    | none => Act.skip

/-- A synchronous exception of core k. -/
def Act.coreExc (k : Fin 13) (code detail epc : Nat) (bad : Word) : Act :=
  Act.get fun s =>
    (Act.takeExc k code detail (BitVec.ofNat 64 epc) bad).andThen
      (Act.when ((s.core k).p && code ≠ 7) (Act.clauseStopped k code detail epc))

/-- An exception of the agent at its present instruction: a thread faults with the code (R246, R253). -/
def Act.agentExc (w : Agent) (code detail : Nat) (bad : Word) : Act :=
  match w with
  | .core k => Act.get fun s => Act.coreExc k code detail (s.core k).pc bad
  | .thread t => Act.threadFault t code

/-- An instruction is complete: it is counted, and in mode P it takes one from CR_PBUDGET, whose step from 1 to 0 raises
BUDGET at the next instruction (R223).  Where the effect stopped the agent nothing more happens. -/
def Act.retire (w : Agent) (pc : Nat) (wasP : Bool) : Act :=
  match w with
  | .core k => Act.get fun s =>
    if s.coreUp k then Act.seq [
      Act.core k fun c => { c with run := .running, wait := none, retired := min (c.retired + 1) 0xFFFFFFFFFFFFFFFF },
      Act.setPc k pc,
      Act.when wasP (Act.get fun s =>
        let left := (s.core k).pbudget
        (Act.core k fun c => { c with pbudget := left - 1 }).andThen
          (Act.when (left = 1) (Act.coreExc k 9 0 (s.core k).pc 0#64)))]
    else Act.skip
  | .thread t => Act.get fun s =>
    Act.when ((s.thread t).st = .running || (s.thread t).st = .waiting)
      (Act.thread t fun c => { c with st := .running, wait := none, pc := pcOf pc,
                                      retired := min (c.retired + 1) 0xFFFFFFFFFFFFFFFF })

/-- Whether the agent is a core in mode P. -/
def State.coreP (s : State) : Agent → Bool
  | .core k => (s.core k).p
  | .thread _ => false

/-- The agent begins to wait (R214). -/
def Act.beginWait (w : Agent) (what : WaitFor) : Act :=
  Act.get fun s =>
    let x : Wait := ⟨what, s.tns.tick, s.waitSeq, none⟩
    Act.seq [
      (match w with
       | .core k => Act.core k fun c => { c with run := .waiting, wait := some x }
       | .thread t => Act.thread t fun c => { c with st := .waiting, wait := some x }),
      ⟨fun s => { s with waitSeq := s.waitSeq + 1 }, fun _ h => h, fun _ => rfl, fun _ => .refl _, fun _ h => ⟨h, rfl⟩⟩]

/-- One instruction of an agent that executes: its fetch is checked, a fetch of a word in error is MEMERR (R223), then it
takes its effect, raises its exception or begins its wait (R200, R222, R223). -/
def Act.k32 (w : Agent) (body : State → K32Res) : Act :=
  Act.get fun s =>
    if s.runs w then
      match s.fetchFault w with
      | some detail => Act.agentExc w 3 detail (BitVec.ofNat 64 (s.pcOf w))
      | none =>
        if s.wordBad (s.pcOf w) then Act.agentExc w 0x0A 0 (BitVec.ofNat 64 (s.pcOf w))
        else match body s with
        | .done a pc => a.andThen (Act.retire w pc (s.coreP w))
        | .exc code detail bad => Act.agentExc w code detail bad
        | .wait what => Act.beginWait w what
        | .gone a => a
    else Act.skip

/-- The address of the next instruction. -/
def State.next (s : State) (w : Agent) : Nat := s.pcOf w + 4

/-- An instruction that only has an effect and goes on. -/
def Act.k32do (w : Agent) (body : State → Act) : Act := Act.k32 w fun s => .done (body s) (s.next w)

/-! ## Register arithmetic (R205, R207, R208, R210) -/

/-- An instruction that computes d from a and b. -/
def Act.op3 (w : Agent) (d a b : Reg) (f : Word → Word → Word) : Act :=
  Act.k32do w fun s => Act.setR w d (f (s.gprOf w a) (s.gprOf w b))

/-- An instruction that computes d from a. -/
def Act.op2 (w : Agent) (d a : Reg) (f : Word → Word) : Act := Act.k32do w fun s => Act.setR w d (f (s.gprOf w a))

/-- An immediate, sign-extended (R204). -/
def sx {n : Nat} (v : BitVec n) : Word := v.signExtend 64

def execAdd (w : Agent) (d a b : Reg) (s : State) : Host.Outcome State Fault Refusal := (Act.op3 w d a b (· + ·)).go s

def execSub (w : Agent) (d a b : Reg) (s : State) : Host.Outcome State Fault Refusal := (Act.op3 w d a b (· - ·)).go s

def execAnd (w : Agent) (d a b : Reg) (s : State) : Host.Outcome State Fault Refusal := (Act.op3 w d a b (· &&& ·)).go s

def execOr (w : Agent) (d a b : Reg) (s : State) : Host.Outcome State Fault Refusal := (Act.op3 w d a b (· ||| ·)).go s

def execXor (w : Agent) (d a b : Reg) (s : State) : Host.Outcome State Fault Refusal := (Act.op3 w d a b (· ^^^ ·)).go s

def execAndn (w : Agent) (d a b : Reg) (s : State) : Host.Outcome State Fault Refusal :=
  (Act.op3 w d a b (fun x y => x &&& ~~~y)).go s

def execSll (w : Agent) (d a b : Reg) (s : State) : Host.Outcome State Fault Refusal := (Act.op3 w d a b aluSll).go s

def execSrl (w : Agent) (d a b : Reg) (s : State) : Host.Outcome State Fault Refusal := (Act.op3 w d a b aluSrl).go s

def execSra (w : Agent) (d a b : Reg) (s : State) : Host.Outcome State Fault Refusal := (Act.op3 w d a b aluSra).go s

def execSlt (w : Agent) (d a b : Reg) (s : State) : Host.Outcome State Fault Refusal := (Act.op3 w d a b aluSlt).go s

def execSltu (w : Agent) (d a b : Reg) (s : State) : Host.Outcome State Fault Refusal := (Act.op3 w d a b aluSltu).go s

def execMin (w : Agent) (d a b : Reg) (s : State) : Host.Outcome State Fault Refusal := (Act.op3 w d a b aluMin).go s

def execMax (w : Agent) (d a b : Reg) (s : State) : Host.Outcome State Fault Refusal := (Act.op3 w d a b aluMax).go s

def execMinu (w : Agent) (d a b : Reg) (s : State) : Host.Outcome State Fault Refusal := (Act.op3 w d a b aluMinu).go s

def execMaxu (w : Agent) (d a b : Reg) (s : State) : Host.Outcome State Fault Refusal := (Act.op3 w d a b aluMaxu).go s

def execAddw (w : Agent) (d a b : Reg) (s : State) : Host.Outcome State Fault Refusal := (Act.op3 w d a b aluAddw).go s

def execSubw (w : Agent) (d a b : Reg) (s : State) : Host.Outcome State Fault Refusal := (Act.op3 w d a b aluSubw).go s

def execSllw (w : Agent) (d a b : Reg) (s : State) : Host.Outcome State Fault Refusal := (Act.op3 w d a b aluSllw).go s

def execSrlw (w : Agent) (d a b : Reg) (s : State) : Host.Outcome State Fault Refusal := (Act.op3 w d a b aluSrlw).go s

def execSraw (w : Agent) (d a b : Reg) (s : State) : Host.Outcome State Fault Refusal := (Act.op3 w d a b aluSraw).go s

def execClz (w : Agent) (d a : Reg) (s : State) : Host.Outcome State Fault Refusal := (Act.op2 w d a aluClz).go s

def execCtz (w : Agent) (d a : Reg) (s : State) : Host.Outcome State Fault Refusal := (Act.op2 w d a aluCtz).go s

def execPopc (w : Agent) (d a : Reg) (s : State) : Host.Outcome State Fault Refusal := (Act.op2 w d a aluPopc).go s

def execSadd (w : Agent) (d a b : Reg) (s : State) : Host.Outcome State Fault Refusal := (Act.op3 w d a b aluSadd).go s

def execSsub (w : Agent) (d a b : Reg) (s : State) : Host.Outcome State Fault Refusal := (Act.op3 w d a b aluSsub).go s

def execAddi (w : Agent) (d a : Reg) (imm : BitVec 17) (s : State) : Host.Outcome State Fault Refusal :=
  (Act.op2 w d a (fun x => x + sx imm)).go s

def execAndi (w : Agent) (d a : Reg) (imm : BitVec 17) (s : State) : Host.Outcome State Fault Refusal :=
  (Act.op2 w d a (fun x => x &&& sx imm)).go s

def execOri (w : Agent) (d a : Reg) (imm : BitVec 17) (s : State) : Host.Outcome State Fault Refusal :=
  (Act.op2 w d a (fun x => x ||| sx imm)).go s

def execXori (w : Agent) (d a : Reg) (imm : BitVec 17) (s : State) : Host.Outcome State Fault Refusal :=
  (Act.op2 w d a (fun x => x ^^^ sx imm)).go s

def execSlti (w : Agent) (d a : Reg) (imm : BitVec 17) (s : State) : Host.Outcome State Fault Refusal :=
  (Act.op2 w d a (fun x => aluSlt x (sx imm))).go s

def execMul (w : Agent) (d a b : Reg) (s : State) : Host.Outcome State Fault Refusal := (Act.op3 w d a b (· * ·)).go s

def execMulh (w : Agent) (d a b : Reg) (s : State) : Host.Outcome State Fault Refusal := (Act.op3 w d a b mdMulh).go s

def execMulhu (w : Agent) (d a b : Reg) (s : State) : Host.Outcome State Fault Refusal := (Act.op3 w d a b mdMulhu).go s

def execDiv (w : Agent) (d a b : Reg) (s : State) : Host.Outcome State Fault Refusal := (Act.op3 w d a b mdDiv).go s

def execDivu (w : Agent) (d a b : Reg) (s : State) : Host.Outcome State Fault Refusal := (Act.op3 w d a b mdDivu).go s

def execRem (w : Agent) (d a b : Reg) (s : State) : Host.Outcome State Fault Refusal := (Act.op3 w d a b mdRem).go s

def execRemu (w : Agent) (d a b : Reg) (s : State) : Host.Outcome State Fault Refusal := (Act.op3 w d a b mdRemu).go s

/-- SHI (R208). -/
def Act.shi (w : Agent) (d a : Reg) (imm : BitVec 17) : Act :=
  Act.k32 w fun s =>
    if shiOk imm then .done (Act.setR w d (aluShi (s.gprOf w a) imm)) (s.next w)
    else .exc 1 0 (encI 0x06 d a imm.toNat)

def execShi (w : Agent) (d a : Reg) (imm : BitVec 17) (s : State) : Host.Outcome State Fault Refusal :=
  (Act.shi w d a imm).go s

/-- imm22 × 2^17. -/
def upper (imm : BitVec 22) : Word := sx imm <<< 17

def execLup (w : Agent) (d : Reg) (imm : BitVec 22) (s : State) : Host.Outcome State Fault Refusal :=
  (Act.k32do w fun _ => Act.setR w d (upper imm)).go s

def execAup (w : Agent) (d : Reg) (imm : BitVec 22) (s : State) : Host.Outcome State Fault Refusal :=
  (Act.k32do w fun s => Act.setR w d (BitVec.ofNat 64 (s.pcOf w) + upper imm)).go s

/-! ## Branches and jumps (R205, R210) -/

/-- The target that lies off instruction words from the instruction itself. -/
def State.target4 (s : State) (w : Agent) (off : Word) : Nat := (BitVec.ofNat 64 (s.pcOf w) + 4#64 * off).toNat

/-- BR. -/
def Act.br (w : Agent) (a b : Reg) (cond : BitVec 3) (off : BitVec 14) : Act :=
  Act.k32 w fun s =>
    match brCond cond.toNat (s.gprOf w a) (s.gprOf w b) with
    | some true => .done Act.skip (s.target4 w (sx off))
    | some false => .done Act.skip (s.next w)
    | none => .exc 1 0 (encM 0x0C a b cond.toNat off.toNat)

def execBr (w : Agent) (a b : Reg) (cond : BitVec 3) (off : BitVec 14) (s : State) : Host.Outcome State Fault Refusal :=
  (Act.br w a b cond off).go s

/-- The link: PC + 4. -/
def State.link (s : State) (w : Agent) : Word := BitVec.ofNat 64 (s.next w)

def execJal (w : Agent) (d : Reg) (off : BitVec 22) (s : State) : Host.Outcome State Fault Refusal :=
  (Act.k32 w fun s => .done (Act.setR w d (s.link w)) (s.target4 w (sx off))).go s

/-- JALR: a target with bits [1:0] not 0 raises MISALIGN before d is written. -/
def Act.jalr (w : Agent) (d a : Reg) (imm : BitVec 17) : Act :=
  Act.k32 w fun s =>
    let t := s.gprOf w a + sx imm
    if t.toNat % 4 = 0 then .done (Act.setR w d (s.link w)) t.toNat else .exc 4 0 t

def execJalr (w : Agent) (d a : Reg) (imm : BitVec 17) (s : State) : Host.Outcome State Fault Refusal :=
  (Act.jalr w d a imm).go s

/-! ## Tags (R212 to R216, R298, R299) -/

/-- A TAG instruction that addresses outside a confined thread's windows (R248): a tag wait completes at once with
MISUSE, a read yields 0, a write is dropped; what CR_TSTAT then holds where nothing waits is not stated and is a free
value (log entry 1). -/
def Act.oob (t : Fin 1024) : Act :=
  Act.get fun s =>
    let j := (s.thread t).job
    let r := s.job j
    Act.seq [
      Act.thread t fun c => { c with oob := true },
      Act.job j fun r => { r with oob := true, recorded := setBit r.recorded 2 },
      Act.when (!bitOf r.recorded 2) (Act.emit 0x23 0x0A02 2 [j, r.slot])]

/-- How a TAG instruction's address stands: usable, an exception, or outside a confined thread's windows. -/
inductive TagAddr where
  | ok (word : Nat)
  | exc (code : Nat)
  | out (t : Fin 1024)

/-- The check of a TAG instruction's address (R212, R222): alignment, then shared SRAM, then the regions, which must grant
tag and the kinds of need. -/
def State.tagAddr (s : State) (w : Agent) (a need : Nat) : TagAddr :=
  if a % 8 ≠ 0 then .exc 4
  else match w with
  | .core k => if inShared a && s.regionOk k a (16 + need) then .ok (wordNo a) else .exc 5
  | .thread t =>
    match s.confine w with
    | some m =>
      if !s.inPart m a 8 then .out t else if inShared a then .ok (wordNo a) else .exc 5
    | none => if inShared a then .ok (wordNo a) else .exc 5

/-- A TAG instruction on the word at address a.  The kinds of access: 2 read, 4 write, 6 both.  waits: whether it is a tag
wait; d: the register that a refused read clears. -/
def Act.tag (w : Agent) (a : Reg) (need : Nat) (waits : Bool) (d : Option Reg) (body : State → Nat → K32Res) : Act :=
  Act.k32 w fun s =>
    let addr := s.gprOf w a
    match s.tagAddr w addr.toNat need with
    | .exc code => .exc code 0 addr
    | .ok word => body s word
    | .out t =>
      .done (Act.seq [
        Act.oob t,
        (if waits then Act.setTstat w 3
         else Act.fresh fun v => (Act.setTstat w (v.toNat % 4)).andThen
          (match d with | some d => Act.setR w d 0#64 | none => Act.skip))]) (s.next w)

/-- A TAG instruction completes with a status and nothing else. -/
def State.tagEnds (s : State) (w : Agent) (status : Nat) : K32Res := .done (Act.setTstat w status) (s.next w)

/-- The address of word n of shared SRAM. -/
def wordAddr (n : Nat) : Nat := sharedBase + 8 * n

/-- LDW and LDE. -/
def Act.loadTag (w : Agent) (d a : Reg) (take : Bool) : Act :=
  Act.tag w a (if take then 6 else 2) true (some d) fun s n =>
    if s.isPoisoned n then s.tagEnds w 1
    else if s.tagFull n then
      if s.wordBad (wordAddr n) then .exc 0x0A 0 (BitVec.ofNat 64 (wordAddr n)) else
      .done (Act.seq [
        Act.setR w d (s.word64 n), Act.setTstat w 0,
        Act.when take ((Act.setTag n false).andThen (Act.serve n))]) (s.next w)
    else .wait (.load take (wordAddr n) d)

def execLdw (w : Agent) (d a : Reg) (s : State) : Host.Outcome State Fault Refusal := (Act.loadTag w d a false).go s
def execLde (w : Agent) (d a : Reg) (s : State) : Host.Outcome State Fault Refusal := (Act.loadTag w d a true).go s

/-- STF. -/
def Act.stf (w : Agent) (a b : Reg) : Act :=
  Act.tag w a 4 true none fun s n =>
    let v := s.gprOf w b
    if s.isPoisoned n then s.tagEnds w 1
    else if s.tagFull n then .wait (.fill (wordAddr n) v)
    else .done (Act.seq [Act.setNat (wordAddr n) 8 v.toNat, Act.setTag n true, Act.setTstat w 0, Act.serve n]) (s.next w)

def execStf (w : Agent) (a b : Reg) (s : State) : Host.Outcome State Fault Refusal := (Act.stf w a b).go s

/-- TCLR.  A POISONED word stays as it is (DEDUCED from R298). -/
def Act.tclr (w : Agent) (a : Reg) : Act :=
  Act.tag w a 4 false none fun s n =>
    if s.isPoisoned n then s.tagEnds w 1
    else .done (Act.seq [Act.setTag n false, Act.setTstat w 0, Act.serve n]) (s.next w)

def execTclr (w : Agent) (a : Reg) (s : State) : Host.Outcome State Fault Refusal := (Act.tclr w a).go s

/-- What TGET returns of word n: 0 EMPTY, 1 FULL, 2 POISONED. -/
def State.tagState (s : State) (n : Nat) : Nat := if s.isPoisoned n then 2 else b2n (s.tagFull n)

/-- TGET. -/
def Act.tget (w : Agent) (d a : Reg) : Act :=
  Act.tag w a 2 false (some d) fun s n =>
    .done ((Act.setR w d (BitVec.ofNat 64 (s.tagState n))).andThen (Act.setTstat w 0)) (s.next w)

def execTget (w : Agent) (d a : Reg) (s : State) : Host.Outcome State Fault Refusal := (Act.tget w d a).go s

/-- CADD (R216). -/
def Act.cadd (w : Agent) (d a b : Reg) : Act :=
  Act.tag w a 6 false (some d) fun s n =>
    if s.isPoisoned n then s.tagEnds w 1
    else if s.wordBad (wordAddr n) then .exc 0x0A 0 (BitVec.ofNat 64 (wordAddr n))
    else
      let prev := s.word64 n
      .done (Act.seq [
        Act.setNat (wordAddr n) 8 (caddWord prev (s.gprOf w b)).toNat,
        Act.setR w d prev, Act.setTstat w 0]) (s.next w)

def execCadd (w : Agent) (d a b : Reg) (s : State) : Host.Outcome State Fault Refusal := (Act.cadd w d a b).go s

/-- Clear the poison of word n; the object whose last POISONED word it was is live again (R299). -/
def Act.clearPoison (i : Nat) (o : Obj) (n : Nat) : Act :=
  let last := o.remain ≤ 1
  (Act.modObj i fun o =>
    if last then { o with poisoned := false, cleared := [], claimer := none } else { o with cleared := n :: o.cleared }).andThen
    (Act.when last (Act.emit 0x25 0x0C02 1 [i, o.owner]))

/-- TINITE and TINITF: a POISONED word is written, and its poison cleared, only by the core that has claimed its object;
any other agent leaves it unchanged with MISUSE (R213, R299). -/
def Act.tinit (w : Agent) (a b : Reg) (full : Bool) : Act :=
  Act.tag w a 4 false none fun s n =>
    let write := Act.seq [Act.setNat (wordAddr n) 8 (s.gprOf w b).toNat, Act.setTag n full, Act.setTstat w 0, Act.serve n]
    match (if s.isPoisoned n then s.objAt n else none) with
    | none => .done write (s.next w)
    | some (i, o) =>
      match w with
      | .core k =>
        if o.claimer = some k.val then .done ((Act.clearPoison i o n).andThen write) (s.next w)
        else .done ((Act.misuse 2 k i).andThen (Act.setTstat w 3)) (s.next w)
      | .thread _ => .done ((Act.misuse 2 0xFF i).andThen (Act.setTstat w 3)) (s.next w)

def execTinite (w : Agent) (a b : Reg) (s : State) : Host.Outcome State Fault Refusal := (Act.tinit w a b false).go s
def execTinitf (w : Agent) (a b : Reg) (s : State) : Host.Outcome State Fault Refusal := (Act.tinit w a b true).go s

/-! ## Waits (R214, R217, R218) -/

/-- The wait of an agent that waits. -/
def State.waitOf (s : State) (w : Agent) : Option Wait :=
  if !s.powered then none
  else match w with
  | .core k => if (s.core k).run = .waiting then (s.core k).wait else none
  | .thread t => if (s.thread t).st = .waiting then (s.thread t).wait else none

/-- A wait completes: CR_TSTAT takes the status, and d is written only where it is OK. -/
def Act.waitEnds (w : Agent) (status : Nat) (d : Option Reg) (v : Word) : Act :=
  Act.get fun s =>
    Act.seq [
      Act.setTstat w status,
      (match d with | some d => Act.when (status = 0) (Act.setR w d v) | none => Act.skip),
      Act.retire w (s.next w) (s.coreP w)]

/-- TAG_WAIT_COMPLETE: the wait's condition has held or it has met a POISONED word; a load that was given a word in error is
MEMERR at the waiting instruction (R223). -/
def Act.tagWaitComplete (w : Agent) : Act :=
  Act.get fun s =>
    match s.waitOf w with
    | some x =>
      match x.what, x.grant with
      | .load _ a d, some (st, v) =>
        if st = memErrGrant then Act.agentExc w 0x0A 0 (BitVec.ofNat 64 a) else Act.waitEnds w st (some d) v
      | .fill _ _, some (st, v) => Act.waitEnds w st none v
      | _, _ => Act.skip
    | none => Act.skip

def execTagWaitComplete (w : Agent) (s : State) : Host.Outcome State Fault Refusal := (Act.tagWaitComplete w).go s

/-- BARRIER_WAIT_COMPLETE: the round has completed or the line has been poisoned. -/
def Act.barrierWaitComplete (k : Fin 13) : Act :=
  Act.get fun s =>
    match s.waitOf (.core k) with
    | some x =>
      match x.what, x.grant with
      | .barrier _ _ d, some (st, v) => Act.waitEnds (.core k) st (some d) v
      | _, _ => Act.skip
    | none => Act.skip

def execBarrierWaitComplete (k : Fin 13) (s : State) : Host.Outcome State Fault Refusal := (Act.barrierWaitComplete k).go s

/-- Whether CR_WAITLIM bounds a wait: every one but WTICK's. -/
def WaitFor.limited : WaitFor → Bool
  | .tick _ => false
  | _ => true

/-- WAIT_TIMEOUT: CR_WAITLIM µs have passed, and the wait completes with TIMEOUT. -/
def Act.waitTimeout (k : Fin 13) : Act :=
  Act.get fun s =>
    match s.waitOf (.core k) with
    | some x =>
      let lim := (s.core k).waitlim
      Act.when (x.what.limited && x.grant.isNone && lim ≠ 0 && x.since + lim ≤ s.tns.tick)
        (Act.waitEnds (.core k) 2 none 0#64)
    | none => Act.skip

def execWaitTimeout (k : Fin 13) (s : State) : Host.Outcome State Fault Refusal := (Act.waitTimeout k).go s

/-- The line that a register names: bits [4:0]. -/
def lineNo (v : Word) : Fin 32 := ⟨v.toNat % 32, Nat.mod_lt _ (by decide)⟩

/-- A SYNC instruction that a thread may not execute (R246). -/
def Act.coreOnly (w : Agent) (body : Fin 13 → State → K32Res) : Act :=
  Act.k32 w fun s =>
    match w with
    | .core k => body k s
    | .thread _ => .exc 1 0 0#64

/-- ARV (R217, R303 to R306): d is the sense of the round arrived in. -/
def Act.arv (w : Agent) (d a : Reg) : Act :=
  Act.coreOnly w fun k s =>
    let l := lineNo (s.gprOf w a)
    let r := s.arrival k l
    .done (Act.seq [
      Act.arrive k l, Act.setTstat w r.1,
      (match r.2 with | some b => Act.setR w d (BitVec.ofNat 64 (b2n b)) | none => Act.skip)]) (s.next w)

def execArv (w : Agent) (d a : Reg) (s : State) : Host.Outcome State Fault Refusal := (Act.arv w d a).go s

/-- BWT (R217, R306). -/
def Act.bwt (w : Agent) (d a b : Reg) : Act :=
  Act.coreOnly w fun _ s =>
    let l := lineNo (s.gprOf w a)
    let old := bitOf (s.gprOf w b).toNat 0
    let sense := s.flag (F.AGR_LINE_STAT.sense l)
    if s.flag (F.AGR_LINE_STAT.poisoned l) then .done (Act.setTstat w 1) (s.next w)
    else if sense != old then
      .done ((Act.setTstat w 0).andThen (Act.setR w d (BitVec.ofNat 64 (b2n sense)))) (s.next w)
    else .wait (.barrier l old d)

def execBwt (w : Agent) (d a b : Reg) (s : State) : Host.Outcome State Fault Refusal := (Act.bwt w d a b).go s

/-- The word of a SYNC instruction. -/
def encSync (d a b fn : Nat) : Word := encA 0x11 d a b fn

/-- WFE (R218); PRIV in mode P (R202). -/
def Act.wfe (w : Agent) : Act :=
  Act.coreOnly w fun k s =>
    if (s.core k).p then .exc 2 0 (encSync 0 0 0 0x030)
    else if s.irqs k ≠ 0 then .done (Act.setTstat w 0) (s.next w)
    else .wait .event

def execWfe (w : Agent) (s : State) : Host.Outcome State Fault Refusal := (Act.wfe w).go s

/-- WFE_WAKE: an enabled interrupt is pending. -/
def Act.wfeWake (k : Fin 13) : Act :=
  Act.get fun s =>
    match s.waitOf (.core k) with
    | some x => Act.when (x.what = .event && s.irqs k ≠ 0) (Act.waitEnds (.core k) 0 none 0#64)
    | none => Act.skip

def execWfeWake (k : Fin 13) (s : State) : Host.Outcome State Fault Refusal := (Act.wfeWake k).go s

/-- WTICK: waits until the tick count is at least a. -/
def Act.wtick (w : Agent) (a : Reg) : Act :=
  Act.k32 w fun s =>
    let t := (s.gprOf w a).toNat
    if t ≤ s.tns.tick then .done Act.skip (s.next w) else .wait (.tick t)

def execWtick (w : Agent) (a : Reg) (s : State) : Host.Outcome State Fault Refusal := (Act.wtick w a).go s

/-- WTICK_EXPIRY: the tick count has reached the value. -/
def Act.wtickExpiry (w : Agent) : Act :=
  Act.get fun s =>
    match s.waitOf w with
    | some x =>
      match x.what with
      | .tick t => Act.when (t ≤ s.tns.tick) (Act.retire w (s.next w) (s.coreP w))
      | _ => Act.skip
    | none => Act.skip

def execWtickExpiry (w : Agent) (s : State) : Host.Outcome State Fault Refusal := (Act.wtickExpiry w).go s

/-- FENCE (R211).  Every store of the model is complete and visible when its instruction is, so that FENCE only goes on;
likewise IFENCE, since instructions come as commands. -/
def execFence (w : Agent) (mask : BitVec 4) (s : State) : Host.Outcome State Fault Refusal :=
  (Act.k32do w fun _ => let _ := mask; Act.skip).go s

/-- IFENCE (R211). -/
def execIfence (w : Agent) (s : State) : Host.Outcome State Fault Refusal := (Act.k32do w fun _ => Act.skip).go s

/-! ## Services, returns and core registers (R219) -/

/-- The word of a SYS instruction. -/
def encSys (d a sub imm : Nat) : Word := encA 0x12 d a sub imm

/-- The runtime performs service n for target t's clause on core k, with its operands in g11 to g13 (R232); 0x01F runs the
default down-path and sets FAULT. A number that names no service is refused as a bad operand (DESIGN CHOICE, log entry 91).
-/
def Act.service (k : Fin 13) (t : Fin 9) (n : Nat) : Act :=
  Act.get fun s =>
    let x := ((s.core k).gpr[11]).toNat
    let y := ((s.core k).gpr[12]).toNat
    let z := ((s.core k).gpr[13]).toNat
    match n with
    | 0x000 => Act.clauseEnd t
    | 0x001 => Act.domOnInstr t x
    | 0x002 => Act.domOffInstr t x
    | 0x003 => Act.waitPg t x
    | 0x004 => Act.efuseOnInstr t
    | 0x005 => Act.efuseOffInstr t
    | 0x006 => Act.waitEfuse t
    | 0x007 => Act.pmicOnInstr t x
    | 0x008 => Act.pmicOffInstr t x
    | 0x009 => Act.pmicVset t x y z
    | 0x00A => Act.regOn t x
    | 0x00B => Act.regOff t x
    | 0x00C => Act.regVset t x y
    | 0x00D => Act.rstAssert t
    | 0x00E => Act.rstRelease t
    | 0x00F => Act.waitSlotPg t
    | 0x010 => Act.flashMux t x
    | 0x011 => Act.waitTime t x
    | 0x012 => Act.clauseEvent t (BitVec.ofNat 16 x)
    | 0x01F => Act.clauseStep t fun _ _ => Act.targetFault t
    | _ => Act.clauseStep t fun _ r => Act.clauseFail t r 2

/-- SVC raises SVC with imm12 in CR_CAUSE.detail; from a running clause it is a call of the runtime, which performs the
service (R219, R232). -/
def Act.svc (w : Agent) (imm : BitVec 12) : Act :=
  Act.k32 w fun s =>
    match w with
    | .core k =>
      (match (if (s.core k).p then s.clauseOn k else none) with
       | some (t, _) => .gone ((Act.agentExc w 7 imm.toNat 0#64).andThen (Act.service k t imm.toNat))
       | none => .exc 7 imm.toNat 0#64)
    | .thread _ => .exc 7 imm.toNat 0#64

def execSvc (w : Agent) (imm : BitVec 12) (s : State) : Host.Outcome State Fault Refusal := (Act.svc w imm).go s

/-- BRK raises BRK with imm12 in CR_CAUSE.detail. -/
def execBrk (w : Agent) (imm : BitVec 12) (s : State) : Host.Outcome State Fault Refusal :=
  (Act.k32 w fun _ => .exc 8 imm.toNat 0#64).go s

/-- ERET; PRIV in mode P. -/
def Act.eretInstr (w : Agent) : Act :=
  Act.coreOnly w fun k s =>
    if (s.core k).p then .exc 2 0 (encSys 0 0 2 0) else .done (Act.eret k) (s.core k).epc.toNat

def execEret (w : Agent) (s : State) : Host.Outcome State Fault Refusal := (Act.eretInstr w).go s

/-- The kind of core k in CR_ID. -/
def coreKind (k : Fin 13) : Nat := min k.val 3

/-- CR_MODE of a core. -/
def Core.modeWord (c : Core) : Nat := b2n c.ie + 2 * b2n c.pie + 4 * b2n c.ppm + 8 * b2n c.exl

/-- CR_CAUSE of a core. -/
def Core.causeWord (c : Core) : Nat := (if c.causeIrq then 2 ^ 63 else 0) + c.causeDetail * 256 + c.causeCode

/-- A protection register of core k: r by region, i 0 BASE, 1 LIMIT, 2 ATTR. -/
def State.mpuReg (s : State) (k : Fin 13) (r i : Nat) : Nat :=
  let x := if h : 12 ≤ r ∧ r < 16 then
      let g := (s.core k).regions[r - 12]'(by omega)
      (g.base, g.limit, g.attr)
    else s.fRegion k r
  match i with | 0 => x.1 | 1 => x.2.1 | _ => x.2.2

/-- The core register n of core k. -/
def State.readCr (s : State) (k : Fin 13) (n : Nat) : Word :=
  let c := s.core k
  if 0x100 ≤ n then BitVec.ofNat 64 (s.mpuReg k ((n - 0x100) / 4) (n % 4))
  else match n with
  | 0 => BitVec.ofNat 64 (coreKind k * 256 + k)
  | 1 => BitVec.ofNat 64 c.modeWord
  | 2 => BitVec.ofNat 64 c.vec
  | 3 => c.epc
  | 4 => BitVec.ofNat 64 c.causeWord
  | 5 => c.badaddr
  | 6 => c.scratch
  | 8 => BitVec.ofNat 64 c.ien
  | 9 => BitVec.ofNat 64 (s.ipend k)
  | 0x10 => BitVec.ofNat 64 c.tstat
  | 0x11 => BitVec.ofNat 64 s.tns.tick
  | 0x12 => BitVec.ofNat 64 c.waitlim
  | 0x13 => BitVec.ofNat 64 c.retired
  | 0x14 => BitVec.ofNat 64 c.pbudget
  | _ => 0#64

/-- Write region r of mode P, r = 12 to 15 (R221); the views of regions 0 to 11 ignore writes. -/
def Act.writeRegion (k : Fin 13) (r i v : Nat) : Act :=
  if h : 12 ≤ r ∧ r < 16 then
    Act.core k fun c =>
      let g := c.regions[r - 12]'(by omega)
      let g := match i with
        | 0 => { g with base := v % 2 ^ 32 } | 1 => { g with limit := v % 2 ^ 32 } | _ => { g with attr := v % 32 }
      { c with regions := c.regions.set (r - 12) g (by omega) }
  else Act.skip

/-- Write core register n of core k; fields that are RO ignore it. -/
def Act.writeCr (k : Fin 13) (n : Nat) (v : Word) : Act :=
  let x := v.toNat
  if 0x100 ≤ n then Act.writeRegion k ((n - 0x100) / 4) (n % 4) x
  else match n with
  | 1 => Act.get fun s => Act.setMode k (s.core k).p (bitOf x 2) (bitOf x 1) (bitOf x 0) (bitOf x 3)
  | 2 => Act.setVec k x
  | 3 => Act.core k fun c => { c with epc := v }
  | 6 => Act.core k fun c => { c with scratch := v }
  | 8 => Act.core k fun c => { c with ien := x % 2 ^ 16 }
  | 0x12 => Act.core k fun c => { c with waitlim := x % 2 ^ 32 }
  | 0x14 => Act.core k fun c => { c with pbudget := x % 2 ^ 32 }
  | _ => Act.skip

/-- The core registers that mode P and threads may read (R202, R246). -/
def crOpen (n : Nat) : Bool := n == 0x10 || n == 0x11

/-- CRD. -/
def Act.crd (w : Agent) (d : Reg) (cr : BitVec 12) : Act :=
  let n := cr.toNat
  Act.k32 w fun s =>
    match w with
    | .core k =>
      if !crKnown n then .exc 1 0 (encSys d 0 3 n)
      else if (s.core k).p && !crOpen n then .exc 2 0 (encSys d 0 3 n)
      else .done (Act.setR w d (s.readCr k n)) (s.next w)
    | .thread t =>
      if crOpen n then
        .done (Act.setR w d (BitVec.ofNat 64 (if n = 0x10 then (s.thread t).tstat else s.tns.tick))) (s.next w)
      else .exc 1 0 0#64

def execCrd (w : Agent) (d : Reg) (cr : BitVec 12) (s : State) : Host.Outcome State Fault Refusal := (Act.crd w d cr).go s

/-- CWR, CSET and CCLR of a register that exists, in mode F. -/
def Act.crWrite (w : Agent) (d a : Reg) (sub : Nat) (cr : BitVec 12) (body : Fin 13 → State → Act) : Act :=
  let n := cr.toNat
  Act.coreOnly w fun k s =>
    if !crKnown n then .exc 1 0 (encSys d a sub n)
    else if (s.core k).p then .exc 2 0 (encSys d a sub n)
    else .done (body k s) (s.next w)

def execCwr (w : Agent) (cr : BitVec 12) (a : Reg) (s : State) : Host.Outcome State Fault Refusal :=
  (Act.crWrite w 0 a 4 cr fun k s => Act.writeCr k cr.toNat (s.gprOf w a)).go s

/-- CSET: d = the register; then the bits set in a are set. -/
def execCset (w : Agent) (d a : Reg) (cr : BitVec 12) (s : State) : Host.Outcome State Fault Refusal :=
  (Act.crWrite w d a 5 cr fun k s =>
    let old := s.readCr k cr.toNat
    (Act.writeCr k cr.toNat (old ||| s.gprOf w a)).andThen (Act.setR w d old)).go s

/-- CCLR: d = the register; then the bits set in a are cleared. -/
def execCclr (w : Agent) (d a : Reg) (cr : BitVec 12) (s : State) : Host.Outcome State Fault Refusal :=
  (Act.crWrite w d a 6 cr fun k s =>
    let old := s.readCr k cr.toNat
    (Act.writeCr k cr.toNat (old &&& ~~~(s.gprOf w a))).andThen (Act.setR w d old)).go s

/-- ILLEGAL (R206): a word that is no instruction of the agent. -/
def Act.illegal (w : Agent) (word : BitVec 32) : Act :=
  Act.when (decodeWord w word).isNone (Act.k32 w fun _ => .exc 1 0 (BitVec.ofNat 64 word.toNat))

def execIllegal (w : Agent) (word : BitVec 32) (s : State) : Host.Outcome State Fault Refusal := (Act.illegal w word).go s

/-! ## Interrupts (R226) -/

/-- INTERRUPT: the lowest pending and enabled line is taken between instructions, or out of a wait, which then has had no
effect.  The line stays pending until it is cleared at its source.  CR_BADADDR takes a free value (log entry 1). -/
def Act.interrupt (k : Fin 13) : Act :=
  Act.get fun s =>
    let c := s.core k
    let open_ := c.run = .running || (c.run = .waiting && (match c.wait with | some x => x.grant.isNone | none => true))
    if s.powered && open_ && c.ie then
      match lowestBit (s.irqs k) 16 with
      | some n => Act.fresh fun bad => Act.enter k true 0 n (BitVec.ofNat 64 c.pc) bad
      | none => Act.skip
    else Act.skip

def execInterrupt (k : Fin 13) (s : State) : Host.Outcome State Fault Refusal := (Act.interrupt k).go s

end Sys2Proof.Machine
end

