-- ==== Sys2Proof/Machine/Kt.lean ====
section
/-!
DEFINITION. The KT tensor extension in the Conjugator's threads: descriptors, operands and the instructions on tensors
(R239 to R248, R252, R255 to R260).
-/
namespace Sys2Proof.Machine

/-! ## Descriptors (R243 to R245) -/

/-- Dimension i; 1 at or above the rank. -/
def TDesc.dim (d : TDesc) (i : Fin 4) : Nat := if i.val < d.rank then d.dims[i] else 1

/-- Whether the format is a block format. -/
def TDesc.kb (d : TDesc) : Bool := d.format ≤ 1

/-- Whether the format is binary16 or binary32. -/
def TDesc.fp (d : TDesc) : Bool := d.format == 2 || d.format == 3

/-- The bytes of n contiguous elements. -/
def TDesc.run (d : TDesc) (n : Nat) : Nat :=
  match d.format with | 0 => n / 2 | 1 => n | 2 => 2 * n | _ => 4 * n

/-- The offset of a row in the mantissa or element plane. -/
def TDesc.rowOff (d : TDesc) (i1 i2 i3 : Nat) : Nat := i1 * d.strides[0] + i2 * d.strides[1] + i3 * d.strides[2]

/-- The offset of a row's exponents. -/
def TDesc.expOff (d : TDesc) (i1 i2 i3 : Nat) : Nat := i1 * d.estrides[0] + i2 * d.estrides[1] + i3 * d.estrides[2]

/-- The bytes from the base on that the elements of a tensor span. -/
def TDesc.span (d : TDesc) : Nat := d.rowOff (d.dim 1 - 1) (d.dim 2 - 1) (d.dim 3 - 1) + d.run (d.dim 0)

/-- The bytes from ebase on that the exponents of a tensor span. -/
def TDesc.espan (d : TDesc) : Nat := d.expOff (d.dim 1 - 1) (d.dim 2 - 1) (d.dim 3 - 1) + d.dim 0 / 32

/-- Whether a tensor lies in a region of memory, both its planes. -/
def TDesc.lies (d : TDesc) (w : Nat × Nat) : Bool :=
  inWindow w d.base d.span && (!d.kb || inWindow w d.ebase d.espan)

/-- Whether a descriptor may be used (R244): its format and rank, its dimensions, its base and strides, and blocks. -/
def TDesc.usable (d : TDesc) : Bool :=
  d.format ≤ 3 && 1 ≤ d.rank && d.rank ≤ 4 && (List.finRange 4).all (fun i => d.dim i != 0) &&
    d.base % 16 == 0 && d.strides.toList.all (· % 16 == 0) && (!d.kb || d.dims[0] % 32 == 0)

def TDesc.inTs (d : TDesc) : Bool := d.lies (tensorBase, tensorSize)
def TDesc.inDdr5 (d : TDesc) : Bool := d.lies (ddrBase, ddrSize)
def TDesc.inSh (d : TDesc) : Bool := d.lies (sharedBase, sharedSize)

/-- A descriptor from the 64 bytes of its record. -/
def TDesc.ofRecord (l : List Byte) : TDesc :=
  { base := leAt l 0 8, ebase := leAt l 8 8, format := leAt l 16 1, rank := leAt l 17 1,
    dims := Vector.ofFn fun i => leAt l (20 + 4 * i) 4,
    strides := Vector.ofFn fun i => leAt l (36 + 4 * i) 4,
    estrides := Vector.ofFn fun i => leAt l (48 + 4 * i) 4 }

/-- The record of a descriptor. -/
def TDesc.record (d : TDesc) : List Byte :=
  leBytes 8 d.base ++ leBytes 8 d.ebase ++ leBytes 1 d.format ++ leBytes 1 d.rank ++ leBytes 2 0 ++
    (d.dims.toList.map (leBytes 4)).flatten ++ (d.strides.toList.map (leBytes 4)).flatten ++
    (d.estrides.toList.map (leBytes 4)).flatten ++ leBytes 4 0

/-- Field n of a descriptor as R245 numbers them. -/
def TDesc.field (d : TDesc) (n : Nat) : Nat :=
  match n with
  | 0 => d.base | 1 => d.ebase | 2 => d.format | 3 => d.rank
  | _ => (d.dims.toList ++ d.strides.toList ++ d.estrides.toList).getD (n - 4) 0

/-- Give field n of a descriptor a value, as wide as the field. -/
def TDesc.setField (d : TDesc) (n v : Nat) : TDesc :=
  match n with
  | 0 => { d with base := v % 2 ^ 64 }
  | 1 => { d with ebase := v % 2 ^ 64 }
  | 2 => { d with format := v % 2 ^ 8 }
  | 3 => { d with rank := v % 2 ^ 8 }
  | _ =>
    let x := v % 2 ^ 32
    if h : 4 ≤ n ∧ n < 8 then { d with dims := d.dims.set (n - 4) x (by omega) }
    else if h : 8 ≤ n ∧ n < 11 then { d with strides := d.strides.set (n - 8) x (by omega) }
    else if h : 11 ≤ n ∧ n < 14 then { d with estrides := d.estrides.set (n - 11) x (by omega) }
    else d

/-- Descriptor td of a thread. -/
def State.td (s : State) (t : Fin 1024) (i : Fin 8) : TDesc := (s.thread t).tds[i]

/-- Change descriptor td of a thread. -/
def Act.setTd (t : Fin 1024) (i : Fin 8) (d : TDesc) : Act := Act.thread t fun c => { c with tds := c.tds.set i d }

/-! ## Access (R247, R248) -/

/-- Whether a thread's data access of n bytes is within its windows; in mode F nothing confines it. -/
def State.reach (s : State) (t : Fin 1024) (a n : Nat) : Bool :=
  match s.confine (.thread t) with | some m => s.inPart m a n | none => true

/-- Set the flags of a thread, and of its job (R254). -/
def Act.ktFlags (t : Fin 1024) (sat inval oob : Bool) : Act :=
  Act.get fun s => Act.seq [
    Act.thread t fun c => { c with sat := c.sat || sat, inval := c.inval || inval },
    Act.when ((s.thread t).st ≠ .free)
      (Act.job (s.thread t).job fun r => { r with sat := r.sat || sat, inval := r.inval || inval }),
    Act.when oob (Act.oob t)]

/-- Whether an access of a thread at an address takes its place after a KT write of its own there that it has not waited
for: in tensor SRAM always, elsewhere the two are not ordered (R258, log entry 89). -/
def State.ktOrdered (s : State) (t : Fin 1024) (a : Nat) : Bool := inTensor a || Config.ktFirst t a (s.thread t).retired

/-- The machine as thread t sees it: with what its own KT instructions have written (R258). -/
def State.seenBy (s : State) (t : Fin 1024) : State :=
  (Act.each ((s.thread t).pend.filter fun x => s.ktOrdered t x.addr) fun x => Act.setBytes x.addr x.bytes).run s

/-- The bytes a thread reads; outside its windows 0, with the oob flag. -/
def State.ktBytes (s : State) (t : Fin 1024) (a n : Nat) : Nat × Bool := if s.reach t a n then (s.nat a n, false) else (0, true)

/-- Element (i0, i1, i2, i3) of a tensor as a thread reads it. -/
def State.elem (s : State) (t : Fin 1024) (d : TDesc) (i0 i1 i2 i3 : Nat) : KtV :=
  let row := d.base + d.rowOff i1 i2 i3
  match d.format with
  | 3 => let r := s.ktBytes t (row + 4 * i0) 4; ⟨fpRead32 r.1, false, false, r.2⟩
  | 2 => let r := s.ktBytes t (row + 2 * i0) 2; let f := fpRead16 r.1; ⟨f.1, false, f.2, r.2⟩
  | f =>
    let b := s.ktBytes t (if f = 0 then row + i0 / 2 else row + i0) 1
    let x := s.ktBytes t (d.ebase + d.expOff i1 i2 i3 + i0 / 32) 1
    let m := if f = 0 then signed 4 (b.1 / 16 ^ (i0 % 2) % 16) else signed 8 b.1
    if x.1 = 255 then ⟨Fp.zero, false, true, b.2 || x.2⟩
    else ⟨Fp.ofInt m ((x.1 : Int) - 127), false, false, b.2 || x.2⟩

/-! ## Results -/

/-- What an instruction writes, as address and bytes, and the flags it sets. -/
structure KtOut where
  writes : List (Nat × List Byte)
  sat : Bool
  inval : Bool
  oob : Bool

/-- Nothing. -/
def KtOut.empty : KtOut := ⟨[], false, false, false⟩

/-- Both. -/
def KtOut.join (x y : KtOut) : KtOut := ⟨x.writes ++ y.writes, x.sat || y.sat, x.inval || y.inval, x.oob || y.oob⟩

/-- The rows of a tensor: every (i1, i2, i3). -/
def TDesc.rows (d : TDesc) : List (Nat × Nat × Nat) :=
  (List.range (d.dim 3)).flatMap fun i3 => (List.range (d.dim 2)).flatMap fun i2 =>
    (List.range (d.dim 1)).map fun i1 => (i1, i2, i3)

/-- Write one value to an element of a binary16 or binary32 tensor. -/
def TDesc.putElem (d : TDesc) (i0 i1 i2 i3 : Nat) (x : KtV) : KtOut :=
  let row := d.base + d.rowOff i1 i2 i3
  let x := x.r32
  if d.format = 2 then
    let r := x.v.round fp16
    ⟨[(row + 2 * i0, leBytes 2 (r.1.bits fp16 16))], x.sat || r.2, x.inval, x.oob⟩
  else ⟨[(row + 4 * i0, leBytes 4 (x.v.bits fp32 32))], x.sat, x.inval, x.oob⟩

/-- Write 32 values to block b of a row of a KB tensor, byte by byte (R240, R242). -/
def TDesc.putBlock (d : TDesc) (b i1 i2 i3 : Nat) (l : List KtV) : KtOut :=
  let l := l.map KtV.r32
  let row := d.base + d.rowOff i1 i2 i3
  let k := kbBlock (if d.format = 0 then 8 else 128) (l.map KtV.v)
  let bytes := if d.format = 0 then
      (List.range 16).map fun i => unsignedOf 4 (k.2.1.getD (2 * i) 0) + 16 * unsignedOf 4 (k.2.1.getD (2 * i + 1) 0)
    else k.2.1.map (unsignedOf 8)
  let at_ := row + (if d.format = 0 then 16 else 32) * b
  ⟨(bytes.zipIdx.map fun p => (at_ + p.2, leBytes 1 p.1)) ++ [(d.ebase + d.expOff i1 i2 i3 + b, leBytes 1 k.1)],
    k.2.2 || l.any (·.sat), l.any (·.inval), l.any (·.oob)⟩

/-- Write a tensor element by element. -/
def TDesc.fill (d : TDesc) (f : Nat → Nat → Nat → Nat → KtV) : KtOut :=
  (d.rows.map fun p =>
    if d.kb then
      ((List.range (d.dim 0 / 32)).map fun b =>
        d.putBlock b p.1 p.2.1 p.2.2 ((List.range 32).map fun i => f (32 * b + i) p.1 p.2.1 p.2.2)).foldl KtOut.join KtOut.empty
    else
      ((List.range (d.dim 0)).map fun i0 =>
        d.putElem i0 p.1 p.2.1 p.2.2 (f i0 p.1 p.2.1 p.2.2)).foldl KtOut.join KtOut.empty).foldl KtOut.join KtOut.empty

/-- One write of a KT instruction, which others see at TWAIT or TEND (R258); outside the thread's windows it is dropped,
with the oob flag. -/
def Act.ktWrite (t : Fin 1024) (a : Nat) (l : List Byte) (stores : Bool := false) : Act :=
  Act.get fun s =>
    if s.reach t a l.length then Act.thread t fun c => { c with pend := c.pend ++ [⟨a, l, stores⟩] } else Act.oob t

/-- A write without n bytes from an address on. -/
def KtWrite.without (a n : Nat) (x : KtWrite) : List KtWrite :=
  if x.addr + x.bytes.length ≤ a || a + n ≤ x.addr then [x]
  else (x.bytes.zipIdx.filter fun p => x.addr + p.2 < a || a + n ≤ x.addr + p.2).map fun p => ⟨x.addr + p.2, [p.1], false⟩

/-- A K32 store of a thread: it takes its place after the KT writes of the thread in tensor SRAM (R258). -/
def Act.threadStore (t : Fin 1024) (a : Nat) (l : List Byte) : Act :=
  Act.get fun s =>
    (Act.when (s.ktOrdered t a) (Act.thread t fun c => { c with pend := c.pend.flatMap (KtWrite.without a l.length) })).andThen
      (Act.store a l)

/-- Take an instruction's writes and flags. -/
def Act.ktTake (t : Fin 1024) (o : KtOut) : Act :=
  (Act.each o.writes fun p => Act.ktWrite t p.1 p.2).andThen (Act.ktFlags t o.sat o.inval o.oob)

/-- The cells a tensor occupies: address and bytes. -/
def TDesc.cells (d : TDesc) : List (Nat × Nat) := (d.fill fun _ _ _ _ => KtV.pure Fp.zero).writes.map fun p => (p.1, p.2.length)

/-- The result of an instruction whose operands disagree in shape or format is UNPREDICTABLE (R244): the tensor it writes
and its flags are free values (log entry 1). -/
def Act.ktFree (t : Fin 1024) (c : TDesc) : Act :=
  (Act.each c.cells fun p => Act.fresh fun v => Act.ktWrite t p.1 (leBytes p.2 v.toNat)).andThen
    (Act.fresh fun v => Act.ktFlags t (bitOf v.toNat 0) (bitOf v.toNat 1) false)

/-- One KT instruction on tensors: every operand it uses is checked when it issues (R244), and then it has its effect; where
the operands agree in shape and format, what R256 says of them as the thread sees them. -/
def Act.ktRun (t : Fin 1024) (c : TDesc) (ok agree : Bool) (out : State → KtOut) (shows : Bool := false) : Act :=
  Act.k32 (.thread t) fun s =>
    if !ok then .exc 0x10 0 0#64
    else .done ((if agree then Act.ktTake t (out (s.seenBy t)) else Act.ktFree t c).andThen
      (Act.when shows (Act.showWrites t))) (s.next (.thread t))

/-! ## Descriptor instructions -/

/-- Whether a thread of mode F may read or write at an address; else the exception (R247): a place the map does not name
is a bus error, any other an access refused. -/
def State.threadDataExc (_s : State) (a : Nat) : Option Nat :=
  if inShared a || inTensor a || inDdr a then none
  else if a < 0x40000 || (0x30000000 ≤ a && a < 0x30170000) || (0x40000000 ≤ a && a < 0x40040000) ||
      (0x50000000 ≤ a && a < 0x50400000) || (0x60000000 ≤ a && a < 0x60010000) then some 5
  else some 6

/-- The address of a record. -/
def State.recordAt (s : State) (t : Fin 1024) (a : Reg) (imm : BitVec 8) : Word :=
  s.gprOf (.thread t) a + 64#64 * sx imm

/-- TDLD and TDST: an access of 64 bytes, aligned on 64. -/
def Act.record (t : Fin 1024) (a : Reg) (imm : BitVec 8) (inside outside : State → Nat → Act) : Act :=
  Act.k32 (.thread t) fun s =>
    let w := s.recordAt t a imm
    let x := w.toNat
    if x % 64 ≠ 0 then .exc 4 0 w
    else if !s.reach t x 64 then .done ((outside s x).andThen (Act.oob t)) (s.next (.thread t))
    else match s.threadDataExc x with
      | some c => .exc c 0 w
      | none => .done (inside s x) (s.next (.thread t))

def execTdld (t : Fin 1024) (td : Fin 8) (a : Reg) (imm : BitVec 8) (s : State) : Host.Outcome State Fault Refusal :=
  (Act.record t a imm (fun s x => Act.setTd t td (TDesc.ofRecord ((s.seenBy t).bytes x 64))) (fun _ _ => Act.setTd t td TDesc.reset)).go s

/-- TDST: a store of the record, which fills the words of shared SRAM. -/
def execTdst (t : Fin 1024) (td : Fin 8) (a : Reg) (imm : BitVec 8) (s : State) : Host.Outcome State Fault Refusal :=
  (Act.record t a imm (fun s x => Act.ktWrite t x (s.td t td).record true) (fun _ _ => Act.skip)).go s

/-- An instruction on field imm8 of td; a number that names no field is ILLEGAL. -/
def Act.field (t : Fin 1024) (imm : BitVec 8) (body : State → Act) : Act :=
  Act.k32 (.thread t) fun s => if 14 ≤ imm.toNat then .exc 1 0 0#64 else .done (body s) (s.next (.thread t))

def execTdrd (t : Fin 1024) (d : Reg) (td : Fin 8) (imm : BitVec 8) (s : State) : Host.Outcome State Fault Refusal :=
  (Act.field t imm fun s => Act.setR (.thread t) d (BitVec.ofNat 64 ((s.td t td).field imm.toNat))).go s

def execTdwr (t : Fin 1024) (td : Fin 8) (imm : BitVec 8) (a : Reg) (s : State) : Host.Outcome State Fault Refusal :=
  (Act.field t imm fun s => Act.setTd t td ((s.td t td).setField imm.toNat (s.gprOf (.thread t) a).toNat)).go s

def execTdadd (t : Fin 1024) (td : Fin 8) (imm : BitVec 8) (a : Reg) (s : State) : Host.Outcome State Fault Refusal :=
  (Act.field t imm fun s =>
    let d := s.td t td
    Act.setTd t td (d.setField imm.toNat (d.field imm.toNat + (s.gprOf (.thread t) a).toNat))).go s

/-! ## Matrix products (R241, R257) -/

/-- The terms of one output, in ascending k: one for each block of 32, or one for each element of binary16. -/
def State.mmTerms (s : State) (t : Fin 1024) (x y : TDesc) (m n i2 i3 : Nat) : List KtV :=
  if x.kb then
    (List.range (x.dim 0 / 32)).map fun b =>
      let prods := (List.range 32).map fun i =>
        let u := s.elem t x (32 * b + i) m i2 i3
        let v := s.elem t y (32 * b + i) n i2 i3
        (⟨u.v.mul v.v, false, u.inval || v.inval, u.oob || v.oob⟩ : KtV)
      KtV.r32 ⟨prods.foldl (fun a p => a.add p.v) Fp.zero, false, prods.any (·.inval), prods.any (·.oob)⟩
  else
    (List.range (x.dim 0)).map fun k =>
      let u := s.elem t x k m i2 i3
      let v := s.elem t y k n i2 i3
      ⟨u.v.mul v.v, false, u.inval || v.inval, u.oob || v.oob⟩

/-- TMMA and TMM.  A may lie in DDR5 for both: R252 names TMMA, and the example of R263 streams the A of a TMM
(DEDUCED, log entry 29). -/
def Act.mm (t : Fin 1024) (c a b : Fin 8) (acc : Bool) : Act :=
  Act.get fun s =>
    let dc := s.td t c
    let da := s.td t a
    let db := s.td t b
    let ok := dc.usable && da.usable && db.usable && dc.inTs && db.inTs && (da.inTs || da.inDdr5)
    let agree := dc.format == 3 && ((da.kb && db.kb) || (da.format == 2 && db.format == 2)) &&
      da.dim 0 == db.dim 0 && dc.dim 0 == db.dim 1 && dc.dim 1 == da.dim 1 &&
      da.dim 2 == dc.dim 2 && db.dim 2 == dc.dim 2 && da.dim 3 == dc.dim 3 && db.dim 3 == dc.dim 3
    Act.ktRun t dc ok agree fun s => dc.fill fun n m i2 i3 =>
      let sum := KtV.sum (s.mmTerms t da db m n i2 i3)
      if acc then KtV.map2 Fp.add (s.elem t dc n m i2 i3) sum else sum

def execTmma (t : Fin 1024) (c a b : Fin 8) (s : State) : Host.Outcome State Fault Refusal := (Act.mm t c a b true).go s
def execTmm (t : Fin 1024) (c a b : Fin 8) (s : State) : Host.Outcome State Fault Refusal := (Act.mm t c a b false).go s

/-! ## Element by element (R256, R257) -/

/-- Whether two tensors have the same shape. -/
def sameShape (x y : TDesc) : Bool := (List.finRange 4).all fun i => x.dim i == y.dim i

/-- The index in a dimension that is broadcast where its size is 1. -/
def bcast (d : TDesc) (i : Fin 4) (n : Nat) : Nat := if d.dim i = 1 then 0 else n

/-- C = A op B. -/
def Act.tew (t : Fin 1024) (c a b : Fin 8) (f : Fp → Fp → Fp) : Act :=
  Act.get fun s =>
    let dc := s.td t c
    let da := s.td t a
    let db := s.td t b
    let ok := dc.usable && da.usable && db.usable && dc.inTs && da.inTs && db.inTs
    let agree := dc.fp && da.fp && db.fp && sameShape dc da &&
      (List.finRange 4).all fun i => db.dim i == da.dim i || db.dim i == 1
    Act.ktRun t dc ok agree fun s => dc.fill fun i0 i1 i2 i3 =>
      KtV.map2 f (s.elem t da i0 i1 i2 i3)
        (s.elem t db (bcast db 0 i0) (bcast db 1 i1) (bcast db 2 i2) (bcast db 3 i3))

def execTewAdd (t : Fin 1024) (c a b : Fin 8) (s : State) : Host.Outcome State Fault Refusal := (Act.tew t c a b Fp.add).go s
def execTewSub (t : Fin 1024) (c a b : Fin 8) (s : State) : Host.Outcome State Fault Refusal :=
  (Act.tew t c a b fun x y => x.add y.opposite).go s
def execTewMul (t : Fin 1024) (c a b : Fin 8) (s : State) : Host.Outcome State Fault Refusal := (Act.tew t c a b Fp.mul).go s
def execTewMax (t : Fin 1024) (c a b : Fin 8) (s : State) : Host.Outcome State Fault Refusal :=
  (Act.tew t c a b fun x y => x.pick true y).go s
def execTewMin (t : Fin 1024) (c a b : Fin 8) (s : State) : Host.Outcome State Fault Refusal :=
  (Act.tew t c a b fun x y => x.pick false y).go s

/-- C = f(A), element by element. -/
def Act.map1 (t : Fin 1024) (c a : Fin 8) (f : State → KtV → KtV) : Act :=
  Act.get fun s =>
    let dc := s.td t c
    let da := s.td t a
    let ok := dc.usable && da.usable && dc.inTs && da.inTs
    let agree := dc.fp && da.fp && sameShape dc da
    Act.ktRun t dc ok agree fun s => dc.fill fun i0 i1 i2 i3 => f s (s.elem t da i0 i1 i2 i3)

/-- Bits [31:0] of a register as binary32, or with hi bits [63:32]. -/
def State.scalar (s : State) (t : Fin 1024) (g : Reg) (hi : Bool) : Fp :=
  fpRead32 ((s.gprOf (.thread t) g).toNat / (if hi then 2 ^ 32 else 1) % 2 ^ 32)

def execScale (t : Fin 1024) (c a : Fin 8) (g : Reg) (s : State) : Host.Outcome State Fault Refusal :=
  (Act.map1 t c a fun s => KtV.map1 fun x => x.mul (s.scalar t g false)).go s
def execRelu (t : Fin 1024) (c a : Fin 8) (s : State) : Host.Outcome State Fault Refusal :=
  (Act.map1 t c a fun _ => KtV.map1 fun x => x.pick true Fp.zero).go s

/-- CLAMP: min(max(A, lo), hi). -/
def execClamp (t : Fin 1024) (c a : Fin 8) (g : Reg) (s : State) : Host.Outcome State Fault Refusal :=
  (Act.map1 t c a fun s => KtV.map1 fun x => (x.pick true (s.scalar t g false)).pick false (s.scalar t g true)).go s

def execSigm (t : Fin 1024) (c a : Fin 8) (s : State) : Host.Outcome State Fault Refusal := (Act.map1 t c a fun _ => tact 0).go s
def execTanh (t : Fin 1024) (c a : Fin 8) (s : State) : Host.Outcome State Fault Refusal := (Act.map1 t c a fun _ => tact 1).go s
def execExp (t : Fin 1024) (c a : Fin 8) (s : State) : Host.Outcome State Fault Refusal := (Act.map1 t c a fun _ => tact 2).go s
def execRecip (t : Fin 1024) (c a : Fin 8) (s : State) : Host.Outcome State Fault Refusal := (Act.map1 t c a fun _ => tact 3).go s
def execRsqrt (t : Fin 1024) (c a : Fin 8) (s : State) : Host.Outcome State Fault Refusal := (Act.map1 t c a fun _ => tact 4).go s
def execGelu (t : Fin 1024) (c a : Fin 8) (s : State) : Host.Outcome State Fault Refusal := (Act.map1 t c a fun _ => tact 5).go s
def execSoftplus (t : Fin 1024) (c a : Fin 8) (s : State) : Host.Outcome State Fault Refusal := (Act.map1 t c a fun _ => tact 6).go s
def execLog (t : Fin 1024) (c a : Fin 8) (s : State) : Host.Outcome State Fault Refusal := (Act.map1 t c a fun _ => tact 7).go s

/-! ## Reductions along dimension 0, and indivisible accumulation (R256, R260) -/

/-- C = reduction of A. -/
def Act.reduce (t : Fin 1024) (c a : Fin 8) (f : List KtV → KtV) : Act :=
  Act.get fun s =>
    let dc := s.td t c
    let da := s.td t a
    let ok := dc.usable && da.usable && dc.inTs && da.inTs
    let agree := dc.fp && da.fp && dc.dim 0 == 1 && dc.dim 1 == da.dim 1 && dc.dim 2 == da.dim 2 && dc.dim 3 == da.dim 3
    Act.ktRun t dc ok agree fun s => dc.fill fun _ i1 i2 i3 =>
      f ((List.range (da.dim 0)).map fun i0 => s.elem t da i0 i1 i2 i3)

/-- The largest or smallest of a row. -/
def rowPick (isMax : Bool) : List KtV → KtV
  | [] => KtV.pure Fp.zero
  | x :: r => r.foldl (KtV.map2 fun u v => u.pick isMax v) x

def execRsum (t : Fin 1024) (c a : Fin 8) (s : State) : Host.Outcome State Fault Refusal := (Act.reduce t c a rowSum).go s
def execRmax (t : Fin 1024) (c a : Fin 8) (s : State) : Host.Outcome State Fault Refusal :=
  (Act.reduce t c a (rowPick true)).go s
def execRmin (t : Fin 1024) (c a : Fin 8) (s : State) : Host.Outcome State Fault Refusal :=
  (Act.reduce t c a (rowPick false)).go s

/-- TACC and TAMAX: C = C op A, indivisible since instructions come one at a time. They add to what stands in tensor SRAM
when they arrive there (R260), which is when they issue; with them the earlier KT writes of the thread are seen (log entry
89). -/
def Act.accum (t : Fin 1024) (c a : Fin 8) (f : Fp → Fp → Fp) : Act :=
  Act.get fun s =>
    let dc := s.td t c
    let da := s.td t a
    let ok := dc.usable && da.usable && dc.inTs && da.inTs
    let agree := dc.fp && da.fp && sameShape dc da
    Act.ktRun t dc ok agree (fun s => dc.fill fun i0 i1 i2 i3 =>
      KtV.map2 f (s.elem t dc i0 i1 i2 i3) (s.elem t da i0 i1 i2 i3)) (shows := true)

def execTacc (t : Fin 1024) (c a : Fin 8) (s : State) : Host.Outcome State Fault Refusal := (Act.accum t c a Fp.add).go s
def execTamax (t : Fin 1024) (c a : Fin 8) (s : State) : Host.Outcome State Fault Refusal :=
  (Act.accum t c a Fp.amax).go s

/-! ## Copies -/

/-- TCPY: one operand at least lies in tensor SRAM, the other there, in shared SRAM or in DDR5 (R252). -/
def Act.tcpy (t : Fin 1024) (c a : Fin 8) : Act :=
  Act.get fun s =>
    let dc := s.td t c
    let da := s.td t a
    let reach (d : TDesc) : Bool := d.inTs || d.inSh || d.inDdr5
    let ok := dc.usable && da.usable && reach dc && reach da && (dc.inTs || da.inTs)
    Act.ktRun t dc ok (sameShape dc da) fun s => dc.fill fun i0 i1 i2 i3 => s.elem t da i0 i1 i2 i3

def execTcpy (t : Fin 1024) (c a : Fin 8) (s : State) : Host.Outcome State Fault Refusal := (Act.tcpy t c a).go s

/-- TZERO. -/
def Act.tzero (t : Fin 1024) (c : Fin 8) : Act :=
  Act.get fun s =>
    let dc := s.td t c
    Act.ktRun t dc (dc.usable && dc.inTs) true fun _ => dc.fill fun _ _ _ _ => KtV.pure Fp.zero

def execTzero (t : Fin 1024) (c : Fin 8) (s : State) : Host.Outcome State Fault Refusal := (Act.tzero t c).go s

/-- TTRN: dimensions 0 and 1 exchanged; binary16 and binary32 only. -/
def Act.ttrn (t : Fin 1024) (c a : Fin 8) : Act :=
  Act.get fun s =>
    let dc := s.td t c
    let da := s.td t a
    let ok := dc.usable && da.usable && dc.inTs && da.inTs
    let agree := dc.fp && da.fp && dc.dim 0 == da.dim 1 && dc.dim 1 == da.dim 0 && dc.dim 2 == da.dim 2 && dc.dim 3 == da.dim 3
    Act.ktRun t dc ok agree fun s => dc.fill fun i0 i1 i2 i3 => s.elem t da i1 i0 i2 i3

def execTtrn (t : Fin 1024) (c a : Fin 8) (s : State) : Host.Outcome State Fault Refusal := (Act.ttrn t c a).go s

/-! ## TWAIT, TEND, TFLAGS (R253, R256, R258) -/

/-- TWAIT: what the KT instructions of the thread have written is visible to every requester (R258). -/
def execTwait (t : Fin 1024) (s : State) : Host.Outcome State Fault Refusal :=
  (Act.k32do (.thread t) fun _ => Act.showWrites t).go s

/-- TEND: as TWAIT, and the thread ends, and with the last thread its job (R253). -/
def Act.tend (t : Fin 1024) : Act :=
  Act.k32do (.thread t) fun s =>
    let j := (s.thread t).job
    ((Act.showWrites t).andThen
      (Act.thread t fun c => { c with st := .ended, retired := min (c.retired + 1) 0xFFFFFFFFFFFFFFFF })).andThen
      (Act.get fun s => Act.when ((s.jobThreads j).all fun p => p.2.st = .ended) (Act.jobStops j 0 0))

def execTend (t : Fin 1024) (s : State) : Host.Outcome State Fault Refusal := (Act.tend t).go s

/-- TFLAGS: d = the flags, which are then cleared. -/
def execTflags (t : Fin 1024) (d : Reg) (s : State) : Host.Outcome State Fault Refusal :=
  (Act.k32do (.thread t) fun s =>
    let c := s.thread t
    (Act.setR (.thread t) d (BitVec.ofNat 64 (b2n c.sat + 2 * b2n c.inval + 4 * b2n c.oob))).andThen
      (Act.thread t fun c => { c with sat := false, inval := false, oob := false })).go s

end Sys2Proof.Machine
end

