-- ==== Sys2Proof/Machine/Eth.lean ====
section
/-!
DEFINITION. Ethernet ports, MKA, PTP, queue pairs, the windows of a peer, and how a request comes into a mailbox (R326 to
R345).
-/
namespace Sys2Proof.Machine

/-! ## Ports (R326, R328, R331) -/

/-- PORT_DOWN: the PCS reports link fault or has lost FEC lock for 50 µs. -/
def execPortDown (l : Fin 8) (s : State) : Host.Outcome State Fault Refusal :=
  (Act.get fun s => Act.when s.powered (Act.portDown l 0)).go s

/-- Whether logical port l may be up: it exists in the present mode, is enabled and has power. -/
def State.portMay (s : State) (l : Nat) : Bool := s.portPresent l && s.flag (F.ETH_PORT_CFG.en l) && s.portPowered l

/-- PORT_UP: 100 ms of continuous link.  A port that requires MACsec negotiates. -/
def Act.portUp (l : Fin 8) : Act :=
  Act.get fun s =>
    if s.portMay l && !s.portUp l then Act.seq [
      Act.setB (F.ETH_PORT_STAT.link l) true,
      Act.setB (F.ETH_PORT_STAT.fec_lock l) true,
      Act.setF (F.ETH_PORT_STAT.macsec l) (if s.flag (F.ETH_PORT_CFG.macsec_req l) then 1 else 0),
      Act.emit 0x28 0x0D00 2 [l, 5],
      Act.ethLine]
    else Act.skip

def execPortUp (l : Fin 8) (s : State) : Host.Outcome State Fault Refusal := (Act.portUp l).go s

/-- Run a change of the port registers: a physical port retrains when the mode or PHY type of either of its logical ports
changes, and a logical port that is disabled or no longer exists goes down (R326). -/
def Act.withPorts (a : Act) : Act :=
  Act.get fun s0 => a.andThen (Act.get fun s1 =>
    Act.each (List.finRange 8) fun (l : Fin 8) =>
      let even := l.val / 2 * 2
      let retrains := [even, even + 1].any fun i =>
        s0.fld (F.ETH_PORT_CFG.phy i) ≠ s1.fld (F.ETH_PORT_CFG.phy i) ||
          s0.fld (F.ETH_PORT_CFG.split i) ≠ s1.fld (F.ETH_PORT_CFG.split i)
      if retrains then Act.portDown l 3
      else if !s1.flag F.ETH_CTL.en || !s1.flag (F.ETH_PORT_CFG.en l) || !s1.portPresent l then Act.portDown l 4
      else Act.skip)

/-- MKA_SECURED: traffic beside EAPOL may flow.  With the key-kill fuse blown the CAK reads zeros and MKA never reaches
SECURED (R359). -/
def Act.mkaSecured (l : Fin 8) (peer : Nat) : Act :=
  Act.get fun s =>
    if s.powered && s.portUp l && s.flag (F.ETH_PORT_CFG.macsec_req l) && !s.fuses.keyKill &&
        s.fld (F.ETH_PORT_STAT.macsec l) ≠ 2 then Act.seq [
      Act.setF (F.ETH_PORT_STAT.macsec l) 2,
      Act.port l fun p => { p with sakAt := s.tns.tick, sakGen := p.sakGen + 1, mkaPeer := peer },
      Act.emit 0x28 0x0D02 3 [l, 0],
      Act.ethLine]
    else Act.skip

def execMkaSecured (l : Fin 8) (peer : Nat) (s : State) : Host.Outcome State Fault Refusal := (Act.mkaSecured l peer).go s

/-- MKA_LOST: the port stops all traffic beside EAPOL, which is a port failure. -/
def Act.mkaLost (l : Fin 8) (reason : Nat) : Act :=
  Act.get fun s =>
    if s.powered && s.fld (F.ETH_PORT_STAT.macsec l) = 2 then Act.seq [
      Act.setF (F.ETH_PORT_STAT.macsec l) 3,
      Act.emit 0x28 0x0D02 3 [l, reason],
      Act.portDown l 1]
    else Act.skip

def execMkaLost (l : Fin 8) (reason : Nat) (s : State) : Host.Outcome State Fault Refusal := (Act.mkaLost l reason).go s

/-- SAK_REKEY: a new SAK replaces the old one between frames.  It comes at the rekey interval or near XPN exhaustion, which
only the port sees. -/
def Act.sakRekey (l : Fin 8) : Act :=
  Act.get fun s =>
    if s.powered && s.fld (F.ETH_PORT_STAT.macsec l) = 2 then
      (Act.port l fun p => { p with sakAt := s.tns.tick, sakGen := p.sakGen + 1 }).andThen Act.ethLine
    else Act.skip

def execSakRekey (l : Fin 8) (s : State) : Host.Outcome State Fault Refusal := (Act.sakRekey l).go s

/-! ## PTP (R58, R333) -/

/-- Whether PTP runs on logical port l: its bit is set, and an ordinary clock keeps to one port, the lowest set (R329;
DESIGN CHOICE which, log entry 25). -/
def State.ptpOn (s : State) (l : Nat) : Bool :=
  let ports := s.fld F.ETH_PTP_CFG.ports
  bitOf ports l && s.fld F.ETH_PTP_ROLE.role ≠ 0 && (s.fld F.ETH_PTP_ROLE.role ≠ 1 || (List.range l).all fun i => !bitOf ports i)

/-- PTP_MESSAGE: a message sent or received on a port with PTP enabled. An event message that is sent is timestamped unless
the crystal is lost, as a received one was when its frame came; then no Sync is sent and the clock class announced is 248.
The firmware decides the port's state, and the servo may write TNS_ADJ. -/
def Act.ptpMessage (l : Fin 8) (sent isEvent : Bool) (newState : Nat) (servo : Option (BitVec 32)) : Act :=
  Act.get fun s =>
    let lost := s.flag F.TNS_STATUS.xtal_lost
    if s.powered && s.portOpen l && s.coreUp 2 && s.ptpOn l then
      Act.seq [
        Act.setF (F.ETH_PORT_STAT.ptp l) newState,
        Act.when (isEvent && !lost) (Act.setB F.TNS_STATUS.ptp_valid true),
        Act.when (sent && isEvent) (Act.takeStamp l),
        Act.when (sent && !(isEvent && lost && newState = 2))
          (Act.ethSend l (if !isEvent && lost then .announce l 248
            else .ptp l (if isEvent && !lost then some (s.portStamp l) else none))),
        (match servo with
         | some v => Act.when (s.coreUp 1 && !lost) (Act.adjWrite v.toNat)
         | none => Act.skip),
        Act.ethLine]
    else Act.skip

def execPtpMessage (l : Fin 8) (sent isEvent : Bool) (newState : Fin 4) (servo : Option (BitVec 32)) (s : State) :
    Host.Outcome State Fault Refusal := (Act.ptpMessage l sent isEvent newState servo).go s

/-! ## Congestion (R330) -/

/-- The full rate of a QP, in 1/65,536 of the line rate. -/
def fullRate : Nat := 65536

/-- CNP: the QP's rate halves, at most once per 50 µs. -/
def Act.cnp (n : Nat) : Act :=
  Act.get fun s =>
    let now := s.tns.tick
    Act.when s.powered (Act.qp n fun q =>
      let may : Bool := match q.halvedAt with | some t => decide (t + 50 ≤ now) | none => true
      if q.error then q
      else if may then { q with rate := q.rate / 2, halvedAt := some now, cnpAt := some now }
      else { q with cnpAt := some now })

def execCnp (qp : Nat) (s : State) : Host.Outcome State Fault Refusal := (Act.cnp qp).go s

/-- RATE_RECOVERY: after each 100 µs without a CNP the rate rises by 1/16 of the line rate. -/
def Act.rateRecovery (n : Nat) : Act :=
  Act.get fun s =>
    let now := s.tns.tick
    Act.when s.powered (Act.qp n fun q =>
      match q.cnpAt with
      | some t => if !q.error && t + 100 ≤ now && q.rate < fullRate then
          { q with rate := min fullRate (q.rate + fullRate / 16), cnpAt := some now } else q
      | none => q)

def execRateRecovery (qp : Nat) (s : State) : Host.Outcome State Fault Refusal := (Act.rateRecovery qp).go s

/-! ## Connections (R329, R332, R334, R337, R345) -/

/-- The source of a connection request: of the mailbox or of the stream that it binds, none where they differ or name
nothing. -/
def State.cmSource (s : State) (q : CmReq) : Nat :=
  let a := match q.mailbox with | some m => some (s.mbxSource m) | none => none
  let b := match q.stream with | some n => some (s.eth.streams[n]).owner | none => none
  match a, b with
  | some x, none => x
  | none, some y => y
  | some x, some y => if x = y then x else 0
  | none, none => 0

/-- Whether a MANAGER's QP may use port l: MACsec is required and SECURED, and management is permitted (R332). -/
def State.mgmtPort (s : State) (l : Nat) : Bool :=
  s.flag (F.ETH_PORT_CFG.macsec_req l) && s.flag (F.ETH_PORT_CFG.mgmt l) && s.fld (F.ETH_PORT_STAT.macsec l) = 2

/-- Whether a connection request is accepted: a mailbox or stream that is bound already is granted to no other QP (R334,
R337). -/
def State.cmAccepts (s : State) (q : CmReq) : Bool :=
  let src := s.cmSource q
  (src == 1 || src == 2) && q.qp < 4096 && (s.qpOf q.qp).isNone &&
    (match q.mailbox with
     | some m => s.flag F.MBX_CTL.en && !s.flag (F.MBX_STAT.bound m)
     | none => true) &&
    (match q.stream with
     | some n => (s.eth.streams[n]).mode ≠ 0 && !(s.eth.qps.any fun x => x.stream == some n.val && !x.error)
     | none => true) &&
    (src ≠ 1 || (s.mgmtPort q.port && (match q.alt with | some a => s.mgmtPort a | none => true)))

/-- The windows that a request's binding is granted (R334): 0 request area, 1 response area, 2 stream ring, 3 records. -/
def State.cmWindows (s : State) (q : CmReq) : List (Nat × Nat) :=
  (match q.mailbox with | some m => [(0, m.val), (1, m.val)] | none => []) ++
  (match q.stream with | some n => if (s.eth.streams[n]).mode = 1 then [(2, n.val)] else [] | none => []) ++
  (if q.records && s.cmSource q = 1 then [(3, 0)] else [])

/-- A pending request of mailbox m is answered ABORTED (R345). -/
def Act.abortPending (m : Fin 16) : Act :=
  Act.get fun s =>
    Act.when (bitOf (s.fld F.MBX_PENDING.pending) m)
      (Act.respond m (s.nat (reqArea m + 2) 1) (s.nat (reqArea m + 3) 1) 12 [])

/-- Bind mailbox m to a QP. -/
def Act.bind (m : Fin 16) (q : CmReq) (src : Nat) : Act :=
  Act.seq [Act.abortPending m, Act.setB (F.MBX_STAT.bound m) true, Act.setB (F.MBX_STAT.push m) q.push,
    Act.setF (F.MBX_STAT.qp m) q.qp, Act.emit 0x30 0x0D12 1 [m, q.qp, src]]

/-- An rkey that no connection has had (R334): the first from a free value on (log entry 9). -/
def freshRkey (used : List Nat) : Nat :=
  (((List.range (used.length + 1)).map fun i => (Config.rkey used.length + i) % 2 ^ 32).find? fun k => !used.contains k).getD 0

/-- An rkey for each of a list of windows, none used before. -/
def grantKeys : List Nat → List (Nat × Nat) → List (Nat × Nat × Nat)
  | _, [] => []
  | used, w :: ws => (w.1, w.2, freshRkey used) :: grantKeys (freshRkey used :: used) ws

/-- CM_REQ: the security core authorizes the binding, and the reply returns an rkey for each window granted. -/
def Act.cmReq (q : CmReq) : Act :=
  Act.get fun s =>
    if !s.powered || !s.portOpen q.port || !s.portPowered q.port || !s.coreUp 0 then Act.skip
    else if !s.cmAccepts q then Act.ethSend q.port (.cmRefused q.qp)
    else
      let src := s.cmSource q
      let keys := grantKeys s.eth.rkeysUsed (s.cmWindows q)
      let new : Qp :=
        { num := q.qp, source := src, port := q.port, alt := q.alt.map Fin.val, mailbox := q.mailbox.map Fin.val,
          stream := q.stream.map Fin.val, push := q.push, pushAddr := q.pushAddr, pushLen := q.pushLen, rkeys := keys,
          rate := fullRate, halvedAt := none, cnpAt := none, cnpSentAt := none, error := false }
      Act.seq [
        (match q.mailbox with | some m => Act.bind m q src | none => Act.skip),
        Act.ethx fun e => { e with
          qps := (e.qps.filter fun x => x.num ≠ q.qp) ++ [new],
          rkeysUsed := (keys.map fun p => p.2.2).reverse ++ e.rkeysUsed },
        Act.ethSend q.port (.cmRep q.qp (keys.map fun p => p.2.2))]

def execCmReq (q : CmReq) (s : State) : Host.Outcome State Fault Refusal := (Act.cmReq q).go s

/-- QP_DISCONNECT: the QP bound to a mailbox disconnects or fails; its mailbox becomes unbound. -/
def execQpDisconnect (qp : Nat) (s : State) : Host.Outcome State Fault Refusal :=
  (Act.get fun s => Act.when s.powered (Act.qpError qp)).go s

/-! ## RDMA (R334, R342) -/

/-- The base and size of a window. -/
def windowOf (kind i : Nat) : Nat × Nat :=
  match kind with
  | 0 => (reqArea i, 0x2000)
  | 1 => (respArea i, 0x2000)
  | 2 => (0x11780000 + 0x10000 * i, 0x10000)
  | _ => (0x50000000, 0x400000)

/-- The window of a QP that an rkey names, where n bytes from an address lie in it. -/
def Qp.window (q : Qp) (rkey a n : Nat) : Option (Nat × Nat) :=
  (q.rkeys.find? fun p => p.2.2 == rkey && inWindow (windowOf p.1 p.2.1) a n).map fun p => (p.1, p.2.1)

/-- A remote access error: a NAK, the QP in error, the count and the event (R334). -/
def Act.remoteError (q : Qp) : Act :=
  Act.seq [Act.ethSend q.port (.nak q.num), Act.bump F.ETH_RKEY_ERR.count, Act.emit 0x28 0x0D03 2 [q.port, q.num],
    Act.qpError q.num]

/-- A packet of a QP came marked ECN-CE: a CNP is sent, at most one per 50 µs (R330). -/
def Act.congested (q : Qp) : Act :=
  Act.get fun s =>
    Act.when (match q.cnpSentAt with | some t => decide (t + 50 ≤ s.tns.tick) | none => true)
      ((Act.qp q.num fun q => { q with cnpSentAt := some s.tns.tick }).andThen (Act.ethSend q.port (.cnp q.num)))

/-- An operation of a connected QP that reaches the controller, in packets of which one is marked ECN-CE or none is. -/
def Act.rdma (n : Nat) (ce : Bool) (body : State → Qp → Act) : Act :=
  Act.get fun s =>
    match (if s.powered then s.qpOf n else none) with
    | some q => Act.when (s.portOpen q.port && s.portPowered q.port) ((Act.when ce (Act.congested q)).andThen (Act.get fun s => body s q))
    | none => Act.skip

/-- RDMA_WRITE: into the request area of the QP's mailbox; the mailbox region carries no tags (R336). -/
def Act.rdmaWrite (n rkey a : Nat) (data : List Byte) (ce : Bool) : Act :=
  Act.rdma n ce fun _ q =>
    match q.window rkey a data.length with
    | some (0, _) => Act.setBytes a data
    | _ => Act.remoteError q

def execRdmaWrite (qp rkey addr : Nat) (data : List (BitVec 8)) (ce : Bool) (s : State) : Host.Outcome State Fault Refusal :=
  (Act.rdmaWrite qp rkey addr data ce).go s

/-- RDMA_READ: of the response area, a stream's ring or the event recorder. -/
def Act.rdmaRead (n rkey a len : Nat) (ce : Bool) : Act :=
  Act.rdma n ce fun s q =>
    match q.window rkey a len with
    | some (0, _) => Act.remoteError q
    | some _ => Act.ethSend q.port (.readData n (s.viewBytes a len))
    | none => Act.remoteError q

def execRdmaRead (qp rkey addr len : Nat) (ce : Bool) (s : State) : Host.Outcome State Fault Refusal :=
  (Act.rdmaRead qp rkey addr len ce).go s

/-- A submission to mailbox m: the immediate goes to the request word and pending is set, or an overrun is shown. -/
def Act.submit (m : Fin 16) (imm : Nat) : Act :=
  Act.get fun s =>
    (Act.bump (F.MBX_CNT.count m)).andThen
      (if bitOf (s.fld F.MBX_PENDING.pending) m then
        (Act.setFBit F.MBX_OVERRUN.overrun m true).andThen (Act.emit 0x30 0x0D10 2 [m])
       else (Act.store (reqWord m) (leBytes 8 imm)).andThen (Act.setFBit F.MBX_PENDING.pending m true))

/-- WRITE_WITH_IMMEDIATE to a request window. -/
def Act.writeImm (n rkey a : Nat) (data : List Byte) (imm : Nat) (ce : Bool) : Act :=
  Act.rdma n ce fun _ q =>
    match q.window rkey a data.length with
    | some (0, m) => (Act.setBytes a data).andThen (if h : m < 16 then Act.submit ⟨m, h⟩ imm else Act.skip)
    | _ => Act.remoteError q

def execWriteWithImmediate (qp rkey addr : Nat) (data : List (BitVec 8)) (imm : BitVec 32) (ce : Bool) (s : State) :
    Host.Outcome State Fault Refusal := (Act.writeImm qp rkey addr data imm.toNat ce).go s

/-! ## MBX_DONE (R343, R344) -/

/-- A write of MBX_DONE(m): done clears pending, push sends the response. -/
def Act.mbxDoneWrite (m : Fin 16) (v : Nat) : Act :=
  (Act.when (bitOf v 0) (Act.mbxDone m)).andThen (Act.when (bitOf v 1) (Act.mbxPush m))

/-- MBX_DONE by core k, while the core runs. -/
def execMbxDone (k : Fin 13) (m : Fin 16) (v : BitVec 32) (s : State) : Host.Outcome State Fault Refusal :=
  (Act.get fun s => Act.when (s.powered && s.coreUp k) (Act.mbxDoneWrite m v.toNat)).go s

/-- MBX_PUSH by core k, while the core runs: the same register. -/
def execMbxPush (k : Fin 13) (m : Fin 16) (v : BitVec 32) (s : State) : Host.Outcome State Fault Refusal :=
  (Act.get fun s => Act.when (s.powered && s.coreUp k) (Act.mbxDoneWrite m v.toNat)).go s

end Sys2Proof.Machine
end

