-- ==== Sys2Proof/Machine/Class1.lean ====
section
/-!
DEFINITION. Message class 0x01 and the telemetry streams (R346, R348 to R352).
-/
namespace Sys2Proof.Machine

/-! ## Identity and ports (R346) -/

/-- IDENTIFY: part number, revision, role, format version, serial and the mode of each port. -/
def Act.identify (m : Fin 16) : Act :=
  Act.command m 1 1 fun _ => Act.get fun s =>
    Act.respondItems m 1 1 0 ([0x0856, 0xA0, s.role, 1, 0, s.fuses.serial] ++
      (List.range 8).map fun l => (s.reg (R.ETH_PORT_CFG l)).toNat)

def execIdentify (m : Fin 16) (s : State) : Host.Outcome State Fault Refusal := (Act.identify m).go s

/-- What ETH_PORT_STAT shows: present is computed. -/
def State.portStat (s : State) (l : Nat) : W32 := fldPut (s.reg (R.ETH_PORT_STAT l)) 0 0 (b2n (s.portPresent l))

/-- PORT_QUERY. -/
def Act.portQuery (m : Fin 16) (port : Nat) : Act :=
  Act.command m 1 2 fun _ => Act.get fun s =>
    if h : port < 8 then
      Act.respondItems m 1 2 0 ([(s.portStat port).toNat, (s.eth.ports[port]).sakGen, (s.eth.ports[port]).mkaPeer,
        Config.ptpOffset port s.tns.tick % 2 ^ 64, s.fld (F.ETH_FEC_CORR.count port), s.fld (F.ETH_FEC_UNCORR.count port),
        s.fld (F.ETH_MACSEC_DROP.count port)] ++ (List.range 8).map fun q => s.fld (F.ETH_RX_DROP.count port q))
    else Act.respond m 1 2 5 []

def execPortQuery (m : Fin 16) (port : Nat) (s : State) : Host.Outcome State Fault Refusal := (Act.portQuery m port).go s

/-- Set the addresses of a port. -/
def Act.portAddrs (l : Nat) (ip4 : BitVec 32) (ip6 : BitVec 128) : Act :=
  Act.seq [
    Act.setReg (R.ETH_PORT_IP4 l) ip4,
    Act.each (List.range 4) fun w => Act.setReg (R.ETH_PORT_IP6 l w) (BitVec.ofNat 32 (ip6.toNat / 2 ^ (32 * w)))]

/-- PORT_CFG: an odd port in 1 × 200 mode is RANGE, as is the reserved PHY type; a change of a locked field is DENIED. -/
def Act.portCfg (m : Fin 16) (port flags : Nat) (ip4 : BitVec 32) (ip6 : BitVec 128) : Act :=
  Act.managerCommand m 1 3 (Act.get fun s =>
    let even := port % 2 = 0
    let split := b2n (bitOf flags 1)
    let phy := flags / 4 % 4
    let same := (!even || s.fld (F.ETH_PORT_CFG.split port) = split) && s.fld (F.ETH_PORT_CFG.phy port) = phy
    if 8 ≤ port || phy = 3 || (!even && !s.flag (F.ETH_PORT_CFG.split (port - 1))) then Act.respond m 1 3 5 []
    else if s.flag F.ETH_CTL.lock && !same then Act.respond m 1 3 4 []
    else Act.seq [
      Act.withPorts (Act.seq [
        Act.setB (F.ETH_PORT_CFG.en port) (bitOf flags 0),
        Act.when even (Act.setF (F.ETH_PORT_CFG.split port) split),
        Act.setF (F.ETH_PORT_CFG.phy port) phy]),
      Act.portAddrs port ip4 ip6,
      Act.respond m 1 3 0 []])

def execPortCfg (m : Fin 16) (port flags : Nat) (ipv4 : BitVec 32) (ipv6 : BitVec 128) (s : State) :
    Host.Outcome State Fault Refusal := (Act.portCfg m port flags ipv4 ipv6).go s

/-- PTP_CFG: the two registers; a reserved encoding is RANGE. -/
def Act.ptpCfg (m : Fin 16) (cfg role : BitVec 32) : Act :=
  Act.managerCommand m 1 6
    (if admitsAll R.ETH_PTP_CFG cfg && admitsAll R.ETH_PTP_ROLE role then Act.seq [
      Act.plainWrite 2 R.ETH_PTP_CFG cfg, Act.plainWrite 2 R.ETH_PTP_ROLE role, Act.respond m 1 6 0 []]
     else Act.respond m 1 6 5 [])

def execPtpCfg (m : Fin 16) (cfg role : BitVec 32) (s : State) : Host.Outcome State Fault Refusal := (Act.ptpCfg m cfg role).go s

/-- UP_CFG. -/
def Act.upCfg (m : Fin 16) (cfg : BitVec 32) : Act :=
  Act.managerCommand m 1 7
    (if admitsAll R.ETH_UP_CFG cfg then (Act.plainWrite 2 R.ETH_UP_CFG cfg).andThen (Act.respond m 1 7 0 [])
     else Act.respond m 1 7 5 [])

def execUpCfg (m : Fin 16) (cfg : BitVec 32) (s : State) : Host.Outcome State Fault Refusal := (Act.upCfg m cfg).go s

/-! ## Streams (R346, R348, R349) -/

/-- Change stream n. -/
def Act.stream (n : Fin 8) (f : Stream → Stream) : Act :=
  Act.ethx fun e => { e with streams := e.streams.set n (f e.streams[n]) }

/-- The ring of stream n (R334). -/
def ringBase (n : Nat) : Nat := 0x11780000 + 0x10000 * n

/-- Write the header of stream n's ring (R349): its newest seq is that of the last record written, none shed. -/
def Act.ringHead (n : Fin 8) : Act :=
  Act.get fun s =>
    let x := s.eth.streams[n]
    Act.store (ringBase n) (leBytes 4 x.newest ++ leBytes 4 (min x.dropped 0xFFFFFFFF) ++ leBytes 4 x.generation)

/-- Whether a source may have the record types of a mask: the tray host POWER, THERMAL and GAP only (R348). -/
def typesFor (src types : Nat) : Bool := src == 1 || (types % 2 ^ 16) &&& 0xFF38 == 0

/-- STREAM_CFG. -/
def Act.streamCfg (m : Fin 16) (c : StreamReq) : Act :=
  Act.command m 1 4 fun src => Act.get fun s =>
    if h : c.stream < 8 then
      let n : Fin 8 := ⟨c.stream, h⟩
      let x := s.eth.streams[n]
      let bad := 2 < c.mode || (c.mode ≠ 0 && (c.periodMs = 0 || 10000 < c.periodMs || 4 < c.minSev)) ||
        (c.mode = 2 && (c.ringRec < 16 || 65535 < c.ringRec))
      if x.owner ≠ 0 && x.owner ≠ src then Act.respond m 1 4 4 []
      else if bad then Act.respond m 1 4 5 []
      else if c.mode ≠ 0 && !typesFor src c.types then Act.respond m 1 4 4 []
      else
        let gen := (x.generation + 1) % 2 ^ 32
        Act.seq [
          Act.stream n fun x =>
            if c.mode = 0 then { Stream.reset with generation := gen, seq := x.seq, newest := x.newest }
            else { x with owner := src, mode := c.mode, types := c.types, periodMs := c.periodMs, minSev := c.minSev,
                          rkey := c.rkey, target := c.target, ringRec := c.ringRec, generation := gen,
                          nextAt := s.tns.tick + c.periodMs * 1000, evNext := s.evr.nextSeq, gap := none },
          Act.ringHead n,
          Act.respond m 1 4 0 []]
    else Act.respond m 1 4 5 []

def execStreamCfg (m : Fin 16) (c : StreamReq) (s : State) : Host.Outcome State Fault Refusal := (Act.streamCfg m c).go s

/-- STREAM_QUERY. -/
def Act.streamQuery (m : Fin 16) (n : Nat) : Act :=
  Act.command m 1 5 fun _ => Act.get fun s =>
    if h : n < 8 then
      let x := s.eth.streams[n]
      Act.respondItems m 1 5 0 [x.mode, x.types, x.periodMs, x.minSev, x.rkey, x.target, x.ringRec, x.owner, x.dropped]
    else Act.respond m 1 5 5 []

def execStreamQuery (m : Fin 16) (stream : Nat) (s : State) : Host.Outcome State Fault Refusal := (Act.streamQuery m stream).go s

/-! ## The records of a period (R348, R350 to R352) -/

/-- A record as built: its type, slot byte, flags, payload, and its class in the order of admission with its severity. -/
structure StrRec where
  typ : Nat
  slot : Nat
  flags : Nat
  payload : List Byte

/-- The 64 bytes of a record with a seq. -/
def StrRec.bytes (r : StrRec) (seq stamp : Nat) : List Byte :=
  let b := leBytes 1 r.typ ++ leBytes 1 r.slot ++ leBytes 2 r.flags ++ leBytes 4 (seq % 2 ^ 32) ++ leBytes 8 stamp ++
    r.payload.take 48
  b ++ List.replicate (64 - b.length) 0#8

/-- A GAP record. -/
def gapRec (reason count first slot : Nat) : StrRec :=
  ⟨6, slot, 0, leBytes 1 reason ++ leBytes 4 count ++ leBytes 4 first⟩

/-- Whether slot n is under a scrub, so that no record concerns it. -/
def State.slotHushed (s : State) (n : Nat) : Bool := s.hidden n || (if h : n < 8 then s.scrubbing ⟨n, h⟩ else false)

/-- The mean fast power of a slot over the period of stream n. -/
def State.periodPower (s : State) (n : Fin 8) (slot : Fin 8) : Nat :=
  if s.caps.strCnt[n] = 0 then s.fld (F.CAP_SLOT_FAST.watts slot) else (s.caps.strSum[n])[slot] / s.caps.strCnt[n]

/-- The effective cap of the tray as a record shows it; 0xFFFF is none. -/
def State.trayCapShown (s : State) : Nat := min 0xFFFF ((s.effCap 8).getD 0xFFFF)

/-- A POWER record of stream n. -/
def State.powerRec (s : State) (n : Fin 8) : StrRec :=
  let slotVal (pick : Fin 8 → Nat) (avg : List Nat × List Nat → List Nat) : List Byte :=
    ((List.finRange 8).map fun (k : Fin 8) =>
      leBytes 2 (min 0xFFFF (if s.slotHushed k then 0xFFFF else if s.conf then s.coarse k avg else pick k))).flatten
  let hush := (List.range 8).any s.slotHushed
  ⟨1, 0xFF, b2n (hush || s.conf),
    leBytes 4 s.trayFast ++ slotVal (s.periodPower n) Prod.snd ++ leBytes 2 s.trayCapShown ++
      leBytes 2 (min 0xFFFF (s.slotBudget.getD 0xFFFF)) ++ leBytes 2 s.scaleCode ++
      slotVal (fun k => s.quaOut (8 + k)) Prod.fst⟩

/-- The hottest value of zone z as a record shows it: in confidential mode a slot zone's 1 s average, to the nearest
1 degC (R153). -/
def State.zoneShown (s : State) (z : Nat) : Nat :=
  if s.zoneTarget z < 8 && s.slotHushed (s.zoneTarget z) then 0xFFFF
  else match s.zoneHottest z with
    | none => 0
    | some i =>
      if s.conf && s.zoneTarget z < 8 then
        let l := (s.sensor i).trail.filter fun p => s.tns.tick < p.1 + 1000000
        let avg : Int := if l.isEmpty || s.snsBroken i then s.snsValue i else (l.foldl (fun a p => a + p.2.2) 0) / (l.length : Int)
        unsignedOf 16 ((avg + 8) / 16 * 16)
      else unsignedOf 16 (s.snsValue i)

/-- A THERMAL record. -/
def State.thermalRec (s : State) : StrRec :=
  let hush := (List.range 16).any fun z => s.zoneTarget z < 8 && s.slotHushed (s.zoneTarget z)
  ⟨2, 0xFF, b2n (hush || s.conf),
    leBytes 8 ((List.range 16).foldl (fun a z => a + s.zoneLevel z % 16 * 16 ^ z) 0) ++
      ((List.range 16).map fun z => leBytes 2 (s.zoneShown z)).flatten ++
      leBytes 2 (maskOf ((List.range 16).filter fun i => s.flag (F.THM_FAN_STAT.failed i))) ++
      leBytes 1 (maskOf ((List.range 4).filter fun p => s.flag (F.THM_PUMP_STAT.failed p))) ++
      leBytes 1 (min 255 ((List.range 280).countP s.snsBroken))⟩

/-- A CAP record, its items in the order of the table without a gap; the flags are one byte, lagging bit 0, emergency bit 1
and staged bit 2, for which the manual gives no width (DESIGN CHOICE, log entry 8). -/
def State.capRec (s : State) : StrRec :=
  let shown (c : Option Nat) : List Byte := leBytes 2 (min 0xFFFF (c.getD 0xFFFF))
  ⟨3, 0xFF, 0, leBytes 4 (s.fld F.CAP_EPOCH_APPLIED.epoch) ++ leBytes 4 (s.fld F.CAP_EPOCH_STAGED.epoch) ++
    leBytes 1 (b2n (s.flag F.CAP_STATUS.lagging) + 2 * b2n ((List.range 8).any fun n => s.fld (F.CMA_PACE_CTL.emergency n) ≠ 0) +
      4 * b2n (s.flag F.CAP_STATUS.staged)) ++ shown (s.target 8).capM ++ shown (s.target 8).capH⟩

/-- The slot that an event concerns, by the core that recorded it; 0xFF for the tray. -/
def State.eventSlot (s : State) (src : Nat) : Nat :=
  if 0x10 ≤ src && src ≤ 0x19 then (s.slotOf (src - 0x10 + 3)).getD 0xFF else 0xFF

/-- An EVENT record of this tray, or a GAP in its place. -/
def State.eventRec (s : State) (r : EvRec) (seq : Nat) : StrRec :=
  let n := s.eventSlot r.src
  if n ≠ 0xFF && s.slotHushed n then gapRec 1 1 seq n else ⟨4, n, 0, r.bytes ++ leBytes 2 0xFFFF⟩

/-- The record of a child's event. -/
def kidEvent (k : KidEvent) : EvRec := ⟨k.cycles, k.ms, k.seq, k.src, k.code, k.sev, k.hw, k.payload⟩

/-- The EVENT record that forwards a child's event: flag bit 1, and the member it came from (R348). -/
def kidStrRec (k : KidEvent) : StrRec := ⟨4, k.slot, 2, (kidEvent k).bytes ++ leBytes 2 k.origin⟩

/-- An event that a stream may send: one of this tray, or a child's. -/
abbrev StrEvent := EvRec × Option KidEvent

/-- Put an event behind those no younger, by the milliseconds of their stamps: trays share no other time (DESIGN CHOICE, log
entry 97). -/
def insertOld (x : StrEvent) : List StrEvent → List StrEvent
  | [] => [x]
  | y :: l => if x.1.ms < y.1.ms then x :: y :: l else y :: insertOld x l

/-- The events a stream sends in this period: those of this tray, and on a manager's or top's stream upward the children's
at or above fwd_sev; critical first, and oldest first within a severity (R352). -/
def State.eventsFor (s : State) (x : Stream) (kids : List KidEvent) : List StrEvent :=
  let own := ((s.evr.ring.filter fun r => x.evNext ≤ r.seq && x.minSev ≤ r.sev).reverse).map fun r => (r, none)
  let fwd := if s.role ≠ 0 && x.owner = 1 then
      (kids.filter fun k => s.fld F.ETH_UP_CFG.fwd_sev ≤ k.sev && x.minSev ≤ k.sev).map fun k => (kidEvent k, some k) else []
  let l := fwd.foldl (fun l e => insertOld e l) own
  [4, 3, 2, 1, 0].flatMap fun v => l.filter fun r => r.1.sev == v

/-- The children of the cap group of a manager or top. -/
def State.workers (s : State) : Nat :=
  let g := s.fld F.CAP_CTL.group
  if s.role = 0 || !s.flag F.CAP_CTL.group_valid || (s.grp g).isNone then 0 else min 64 (s.fld (F.AGR_GRP_CFG.children g))

/-- The entry of a child from the entries it has brought: power summed, temperature and level maximal, and flags ORed
(R351). The tray state and the slots ON of a worker are its own; those of a manager's subtree the manual does not give, and
they are free values, as is the whole entry of a child that has brought none (log entry 1). -/
def sumJoin (l : List SumEntry) (d : Nat) : SumEntry :=
  match l with
  | [] => ⟨d % 2 ^ 16, (d / 2 ^ 16 % 2 ^ 8 : Nat) - 128, d / 2 ^ 24 % 5, d / 2 ^ 28 % 16, d / 2 ^ 32 % 16 * 8, d / 2 ^ 40 % 9, 0⟩
  | [x] => x
  | x :: r => ⟨min 0xFFFF (l.foldl (fun a y => a + y.watts10) 0), r.foldl (fun a y => max a y.hottest) x.hottest,
      r.foldl (fun a y => max a y.level) x.level, d / 2 ^ 28 % 16, l.foldl (fun a y => a ||| y.flags) 0, d / 2 ^ 40 % 256, 0⟩

/-- The entry of child i in a SUMMARY: what it has brought, with what the group shows of it: lagging, lost and emergency,
and its applied epoch. -/
def State.summaryEntry (s : State) (i : Nat) (draw : Word) : List Byte :=
  let g := s.fld F.CAP_CTL.group
  let emerg := (s.grp g).elim 0 (·.emerg)
  let applied := (s.grp g).elim 0 fun x => (x.kidApplied[i]?).getD 0
  let x := sumJoin ((s.eth.kidSums.lookup i).getD []) draw.toNat
  if s.workers ≤ i then leBytes 8 0
  else
    leBytes 2 x.watts10 ++ leBytes 1 (unsignedOf 8 x.hottest) ++ leBytes 1 (x.level % 16 * 16 + x.tray % 16) ++
      leBytes 1 (x.flags ||| (b2n (bitOf (s.lagMap g) i) + 2 * b2n (bitOf (s.lostMap g) i) + 4 * b2n (bitOf emerg i))) ++
      leBytes 1 x.on ++ leBytes 2 (applied % 2 ^ 16)

/-- Keep the summaries that the children have brought in: the last entries of each, and their power over the last second. -/
def Act.kidsIn (l : List (Nat × List SumEntry)) : Act :=
  Act.get fun s => Act.ethx fun e => { e with
    kidSums := l ++ e.kidSums.filter fun p => (l.lookup p.1).isNone
    kidPower := (l.map fun p => (p.1, s.tns.tick, p.2.foldl (fun a x => a + x.watts10) 0)) ++
      e.kidPower.filter fun p => s.tns.tick < p.2.1 + 1000000 }

/-- The SUMMARY record of six workers from w on. -/
def State.summaryRec (s : State) (w : Nat) (draw : Word) : StrRec :=
  ⟨5, w, 0, ((List.range 6).map fun i => s.summaryEntry (w + i) (Config.freeWord (draw.toNat + i))).flatten⟩

/-- Whether a type is asked of a stream. -/
def Stream.wants (x : Stream) (t : Nat) : Bool := bitOf x.types t

/-- The records of stream n for this period in the order of admission (R352): GAP, its own POWER, THERMAL and CAP, SUMMARY,
events.  In confidential mode POWER and THERMAL come once per second (R350). -/
def State.streamRecs (s : State) (n : Fin 8) (draw : Word) (kids : List KidEvent) : List StrRec :=
  let x := s.eth.streams[n]
  let timely := !s.conf || x.lastConf + 1000000 ≤ s.tns.tick
  let lost := ((s.evr.ring.getLast?).elim 0 (·.seq)) - x.evNext
  let fixed := (match x.gap with | some (r, c, f) => [gapRec r c f 0xFF] | none => []) ++
    (if x.wants 4 && lost ≠ 0 then [gapRec 3 lost (x.seq % 2 ^ 32) 0xFF] else []) ++
    (if x.wants 1 && timely then [s.powerRec n] else []) ++
    (if x.wants 2 && timely then [s.thermalRec] else []) ++
    (if x.wants 3 then [s.capRec] else []) ++
    (if x.wants 5 then (List.range (ceilDiv s.workers 6)).map fun w => s.summaryRec (6 * w) draw else [])
  fixed ++ (if x.wants 4 then (s.eventsFor x kids).zipIdx.map fun p =>
    match p.1.2 with
    | some k => kidStrRec k
    | none => s.eventRec p.1.1 (x.seq + fixed.length + p.2) else [])

/-- The upward budget in thousandths of a record as of now (R352). -/
def State.upBudget (s : State) : Nat :=
  let rate := s.fld F.ETH_UP_CFG.rec_per_ms
  min (rate * 1000) (s.eth.budget + (s.tns.tick - s.eth.budgetAt) * rate)

/-- The QP that a stream pushes over. -/
def State.streamQp (s : State) (n : Fin 8) : Option Qp :=
  s.eth.qps.find? fun q => q.stream == some n.val && !q.error && s.portOpen q.port && s.portPowered q.port

/-- Deliver record seq of stream n. -/
def Act.deliver (n : Fin 8) (x : Stream) (q : Option Qp) (seq : Nat) (b : List Byte) : Act :=
  match q with
  | some q => Act.ethSend q.port (.write q.num (x.target + 64 * (seq % max 1 x.ringRec)) none b)
  | none => Act.store (ringBase n + 64 * (1 + seq % 1023)) b

/-- STREAM_PERIOD: the records of the period are built, budgeted and shed, and written to the ring or pushed; a manager or
top first takes what its children have brought in. -/
def Act.streamPeriod (n : Fin 8) (brought : Brought) : Act :=
  (Act.get fun s => Act.when (s.powered && s.coreUp 2 && s.role ≠ 0) (Act.kidsIn brought.sums)).andThen <|
  Act.fresh fun draw => Act.get fun s =>
    let x := s.eth.streams[n]
    if !s.powered || !s.coreUp 2 || x.mode = 0 || s.tns.tick < x.nextAt then Act.skip
    else if x.mode = 2 && (s.streamQp n).isNone then
      (Act.stream n fun x => { Stream.reset with generation := x.generation, seq := x.seq, newest := x.newest }).andThen
        (Act.emit 0x30 0x0D13 2 [n])
    else
      let q := if x.mode = 2 then s.streamQp n else none
      let all := s.streamRecs n draw brought.events
      let bounded := s.role ≠ 0 && x.owner = 1
      let sent := if bounded then min all.length (s.upBudget / 1000) else all.length
      let shed := all.length - sent
      let last := if sent = 0 then x.newest else (x.seq + sent + 0xFFFFFFFF) % 2 ^ 32
      Act.seq [
        Act.each (all.take sent).zipIdx fun p => Act.deliver n x q ((x.seq + p.2) % 2 ^ 32) (p.1.bytes (x.seq + p.2) s.stamp),
        Act.stream n fun x => { x with
          seq := (x.seq + all.length) % 2 ^ 32, newest := last, dropped := x.dropped + shed, nextAt := s.tns.tick + x.periodMs * 1000,
          evNext := s.evr.nextSeq, lastConf := if s.conf && x.lastConf + 1000000 ≤ s.tns.tick then s.tns.tick else x.lastConf,
          gap := if shed = 0 then none else some (2, shed, (x.seq + sent) % 2 ^ 32) },
        Act.capsx fun c => { c with
          strSum := c.strSum.set n (Vector.replicate 8 0), strCnt := c.strCnt.set n 0 },
        Act.when bounded (Act.ethx fun e => { e with budget := s.upBudget - 1000 * sent, budgetAt := s.tns.tick }),
        Act.when (shed ≠ 0) ((Act.addF F.ETH_UP_SHED.count shed).andThen
          (Act.emitFirst 0 (Act.emit 0x28 0x0D04 2 [shed]) 0x0D04)),
        (match q with
         | some q => Act.ethSend q.port (.write q.num x.target (some last) [])
         | none => Act.ringHead n)]

def execStreamPeriod (n : Fin 8) (brought : Brought) (s : State) : Host.Outcome State Fault Refusal :=
  (Act.streamPeriod n brought).go s

end Sys2Proof.Machine
end

