-- ==== Sys2Proof/Machine/Sec.lean ====
section
/-!
DEFINITION. Security and contexts: attestation, contexts and their scrub, sessions, confidential mode, debug, lifecycle
and the TAP (R356 to R381).
-/
namespace Sys2Proof.Machine

/-! ## Attestation (R368 to R371) -/

/-- A command of class 0x08 that needs a signature: while the security core restarts, the scheduler core answers BUSY with
retry_ms 50 (R370). -/
def Act.signCommand (m : Fin 16) (cmd : Nat) (body : Nat → Act) : Act :=
  Act.get fun s =>
    if s.powered && s.coreUp 2 && s.serves 8 cmd && (!s.coreUp 0 || !s.sec.verified) then Act.respondBusy m 8 cmd 50
    else Act.command m 8 cmd body

/-- Whether the queue of signing requests is full (R371). -/
def State.signFull (s : State) : Bool := 64 ≤ s.sec.signing.length

/-- A request beyond 64 is answered BUSY and counted. -/
def Act.signBusy (m : Fin 16) (cmd : Nat) : Act :=
  Act.get fun s =>
    let n := s.sec.signing.length
    Act.seq [Act.bump F.SEC_ATT_BUSY.count, Act.emit 0x01 0x0E04 2 [n], Act.respondBusy m 8 cmd (ceilDiv (n * 10) 28)]

/-- Queue a signing request. -/
def Act.signQueue (q : SignReq) : Act := Act.secx fun x => { x with signing := x.signing ++ [q] }

/-- ATTEST.  In BLANK and DECOMMISSIONED attestation is refused (R359). -/
def Act.attest (m : Fin 16) (nonce : Nat) : Act :=
  Act.signCommand m 1 fun _ => Act.get fun s =>
    if s.fuses.lifecycle = 0 || s.fuses.lifecycle = 3 then Act.respond m 8 1 11 []
    else if s.signFull then Act.signBusy m 1
    else Act.signQueue ⟨m, nonce, none, 0⟩

def execAttest (m : Fin 16) (nonce : BitVec 256) (s : State) : Host.Outcome State Fault Refusal :=
  (Act.attest m nonce.toNat).go s

/-- The addresses of CSR space that hold a register, ascending, each with its fields. -/
def regsByAddress : List (Nat × List FieldSpec) :=
  (List.range 256).flatMap fun b => sortBy Prod.fst ((regsOfBlock b).flatMap fun r =>
    (List.range r.n).flatMap fun i => (List.range r.m).map fun j => (r.off + i * r.stride + j * r.stride2, r.fields))

/-- The values that the configuration digest covers: every RWL and SEC field and every lock bit (the W1S fields are the lock
bits), in ascending address order, four bytes each (log entry 9). -/
def State.configBytes (s : State) : List Byte :=
  regsByAddress.flatMap fun r => (r.2.filter fun f => f.acc matches .rwl | .sec | .secW1s | .w1s).flatMap fun f =>
    leBytes 4 (fldOf (s.reg r.1) f.hi f.lo)

/-- The bytes of the non-secret fuses (log entry 9). -/
def State.fuseBytes (s : State) : List Byte :=
  let f := s.fuses
  leBytes 1 f.lifecycle ++ leBytes 1 (b2n f.keyKill) ++ leBytes 16 f.serial ++ leBytes 32 f.ownerDig ++
    leBytes 32 f.dbgDig ++ leBytes 1 f.svnResident ++ leBytes 1 f.svnService ++ leBytes 1 f.keysFused ++
    leBytes 1 f.keysRevoked ++ f.keyDigs.toList.flatMap (leBytes 32)

/-- Whether a block lock of R368 is clear: those of TNS, SEQ, PER, THM, PRS, BUF, CNJ, QUA, AGR, ETH, MBX and SEC. -/
def State.someUnlocked (s : State) : Bool :=
  [F.TNS_CTL.lock, F.SEQ_CTL.cfg_lock, F.PER_CTL.lock, F.THM_CTL.lock, F.PRS_CTL.lock, F.BUF_CTL.lock, F.CNJ_CTL.lock,
   F.QUA_CTL.lock, F.AGR_CTL.lock, F.ETH_CTL.lock, F.MBX_CTL.lock, F.SEC_CTL.lock].any fun f => !s.flag f

/-- The newest record of resident-image slot n (R395). -/
def State.slotRec (s : State) (n : Nat) : Option MetaRec := s.boot.records.find? fun r => r.slot == n

/-- The slot whose image a fallback of the resident trial boots: the other one (R396, R404). -/
def State.otherSlot (s : State) : Nat := if s.boot.running = 0 then 1 else 0

/-- The pending digest of a report in TRANSITION; 0 otherwise (R404). -/
def State.pendingDigest (s : State) : Nat :=
  if !s.flag F.BOOT_STATUS.transition then 0
  else if s.boot.trial then (match s.slotRec s.otherSlot with | some r => r.digest | none => 0)
  else if 2 ≤ s.fld F.BOOT_STATUS.svc && s.fld F.BOOT_STATUS.svc ≤ 4 then s.boot.staged.digest
  else match s.slotRec s.otherSlot with | some r => r.digest | none => 0

/-- The service image of a report: during a handover or a trial the one that ran before the activation (R404). -/
def State.reportService (s : State) : Nat :=
  if s.fld F.BOOT_STATUS.svc = 3 || s.fld F.BOOT_STATUS.svc = 4 then s.boot.prev.digest else s.boot.service.digest

/-- The flags of a report (R368). -/
def State.reportFlags (s : State) : Nat :=
  maskOf ((if s.conf then [0] else []) ++ (if s.fld F.SEC_STATUS.debug ≠ 0 then [1] else []) ++
    (if s.boot.running = 2 then [2] else []) ++ (if !s.svcRuns then [3] else []) ++ (if s.someUnlocked then [4] else []) ++
    (if s.flag F.PER_CAUSE.self_fault then [5] else []) ++ (if !bitOf s.its.mirror.status 0 then [6] else []) ++
    (if s.learned.roles.any (fun r => r.holder.isSome) then [7] else []) ++
    (if s.flag F.SEC_STATUS.trng_fail then [8] else []) ++ (if s.flag F.TNS_STATUS.xtal_lost then [9] else []))

/-- Whether the boot flash of slot n is being erased, programmed or verified (R405). -/
def State.flashing (s : State) (n : Nat) : Bool :=
  1 ≤ s.fld (F.BOOT_SLOTFL_STAT.state n) && s.fld (F.BOOT_SLOTFL_STAT.state n) ≤ 3

/-- Whether a spare is taking slot n: the core that serves it is a spare that does not run yet. -/
def State.spareTaking (s : State) (n : Nat) : Bool :=
  (s.slotCore n = 11 || s.slotCore n = 12) && (s.servingCore n).isNone

/-- The state of slot n in a report (R369). -/
def State.entryState (s : State) (n : Nat) : Nat :=
  let b := s.bindState n
  if b = 3 then 3
  else if ((b = 1 || b = 2) && s.flag (F.SLT_STAT.rst n)) || s.spareTaking n || s.flashing n then 4
  else if s.hidden n then 5
  else b

/-- The 16 bytes of slot n in a report (R369). -/
def State.slotEntry (s : State) (n : Fin 8) : List Byte :=
  let bound := match s.owner n with
    | some c => s.learned.models.any fun x => x.bound == some (n.val, c)
    | none => false
  leBytes 1 (s.entryState n) ++ leBytes 1 ((s.owner n).getD 0xFF) ++
    leBytes 1 (if s.slotCore n < 13 then s.slotCore n else 0xFF) ++
    leBytes 1 (b2n (s.linkState n = 2) + 2 * b2n (bitOf (s.fld F.RST_ABORT.failed) n) + 4 * b2n bound) ++
    leBytes 4 s.inv.classes[n] ++ leBytes 8 (if s.flashing n then 0 else s.inv.fwIds[n])

/-- The digest of the model that holds role r; 0 for a built-in. -/
def State.roleDigest (s : State) (r : Fin 4) : Nat :=
  match s.learned.roles[r].holder.bind modelNo with
  | some i => (s.model i).digest
  | none => 0

/-- Bytes 0 to 575 of the report that answers a signing request (R368). -/
def State.reportBody (s : State) (q : SignReq) : List Byte :=
  let ses := q.session.bind fun n => s.sec.sessions.find? fun x => x.num == n
  [0x4B#8, 0x41#8, 0x54#8, 0x52#8] ++ leBytes 1 0 ++ leBytes 1 1 ++ leBytes 1 (s.fld F.BOOT_STATUS.transition) ++
    leBytes 1 s.fuses.lifecycle ++ leBytes 2 s.reportFlags ++ leBytes 1 s.role ++ leBytes 1 0 ++
    leBytes 4 (s.sec.reports + 1) ++ s.uid ++ leBytes 32 q.nonce ++ leBytes 8 s.stamp ++ leBytes 8 s.tns.tick ++
    leBytes 32 (Config.sm3 s.fuseBytes) ++ leBytes 32 s.boot.resident.digest ++ leBytes 32 s.reportService ++
    leBytes 32 s.pendingDigest ++
    leBytes 32 Config.itsRomDigest ++ leBytes 32 (Config.itsConstsDigest (s.its.mirror.core.consts.toList.flatMap Vector.toList)) ++
    leBytes 4 s.its.mirror.core.seals ++ leBytes 4 s.its.mirror.core.cals ++ leBytes 32 (Config.sm3 s.configBytes) ++
    leBytes 32 (s.roleDigest 1) ++ leBytes 32 (s.roleDigest 2) ++ leBytes 32 (s.roleDigest 3) ++
    (List.finRange 8).flatMap s.slotEntry ++ leBytes 32 q.binding ++
    leBytes 1 (match ses with | some x => x.slot | none => 0xFF) ++
    leBytes 1 (match ses with | some x => x.ctx | none => 0xFF) ++ leBytes 6 0

/-- The 640 bytes of a signed report. -/
def State.report (s : State) (q : SignReq) : List Byte :=
  let b := s.reportBody q
  b ++ beBytes 64 (Config.sm2Sign s.fuses.identity s.uid b)

/-- What a session report is sent with: the session, the device's ephemeral key and S_B (R380). -/
def State.sessionHead (s : State) (n : Nat) : List Byte :=
  match s.sec.sessions.find? fun x => x.num == n with
  | some x => leBytes 2 n ++ beBytes 64 x.own ++ leBytes 32 x.confirm
  | none => leBytes 98 n

/-- SIGNING_SERVE: the security core signs the next report. -/
def Act.signingServe : Act :=
  Act.get fun s =>
    match s.sec.signing with
    | [] => Act.skip
    | q :: r =>
      if !s.powered || !s.coreUp 0 || !s.coreUp 2 || !s.sec.verified then Act.skip
      else Act.seq [
        Act.secx fun x => { x with signing := r, reports := x.reports + 1 },
        Act.bump F.SEC_ATT_CNT.count,
        (match q.session with
         | none => Act.respond (Fin.ofNat 16 q.mailbox) 8 1 0 (s.report q)
         | some n => Act.respond (Fin.ofNat 16 q.mailbox) 8 7 0 (s.sessionHead n ++ s.report q))]

def execSigningServe (s : State) : Host.Outcome State Fault Refusal := Act.signingServe.go s

/-- CERT_GET. -/
def Act.certGet (m : Fin 16) (index off len : Nat) : Act :=
  Act.command m 8 2 fun _ =>
    if 1 < index || len = 0 || 4096 < len || Config.certLen index < off then Act.respond m 8 2 5 []
    else Act.respond m 8 2 0
      ((List.range (min len (Config.certLen index - off))).map fun i => Config.certByte index (off + i))

def execCertGet (m : Fin 16) (index off length : Nat) (s : State) : Host.Outcome State Fault Refusal :=
  (Act.certGet m index off length).go s

/-! ## Confidential mode (R376) -/

/-- CONF_SET. -/
def Act.confSet (m : Fin 16) (on : Nat) : Act :=
  Act.managerCommand m 8 3 (Act.get fun s =>
    if 1 < on then Act.respond m 8 3 5 []
    else if on = 1 then
      if s.fld F.SEC_STATUS.debug ≠ 0 then Act.respond m 8 3 4 []
      else Act.seq [
        Act.when (!s.conf) ((Act.secx fun x => { x with confSince := s.tns.tick }).andThen (Act.emit 0x01 0x0E00 1 [1])),
        Act.setB F.SEC_CTL.conf true,
        Act.setB F.SEC_STATUS.conf_pending false,
        Act.respond m 8 3 0 []]
    else if s.flag F.SEC_CTL.conf_force then Act.respond m 8 3 4 []
    else if !s.conf then Act.respond m 8 3 0 []
    else Act.seq [
      Act.setB F.SEC_STATUS.conf_pending true,
      Act.secx fun x => { x with confWait := maskOf ((List.range 8).filter fun n => s.phase n ≠ 0) },
      Act.emit 0x01 0x0E00 1 [2],
      Act.respond m 8 3 0 []])

def execConfSet (m : Fin 16) (on : Nat) (s : State) : Host.Outcome State Fault Refusal := (Act.confSet m on).go s

/-- CONF_EXIT: every slot has passed through a scrub or been in NONE since the request. -/
def Act.confExit : Act :=
  Act.get fun s =>
    if s.powered && s.coreUp 0 && s.flag F.SEC_STATUS.conf_pending && !s.flag F.SEC_CTL.conf_force &&
        (List.range 8).all (fun n => !bitOf s.sec.confWait n || s.phase n = 0) then Act.seq [
      Act.setB F.SEC_CTL.conf false,
      Act.setB F.SEC_STATUS.conf_pending false,
      Act.emit 0x01 0x0E00 1 [0]]
    else Act.skip

def execConfExit (s : State) : Host.Outcome State Fault Refusal := Act.confExit.go s

/-! ## Contexts (R367, R375, R380) -/

/-- Whether context c of slot n is open. -/
def State.ctxOpen (s : State) (n c : Nat) : Bool := s.sec.contexts.any fun p => p.1 == (n, c)

/-- CTX_OPEN. -/
def Act.ctxOpen (m : Fin 16) (slot ctx digest : Nat) : Act :=
  Act.managerCommand m 8 4 (Act.get fun s =>
    if 7 < slot || 15 < ctx then Act.respond m 8 4 5 []
    else if s.ctxOpen slot ctx then Act.respond m 8 4 3 []
    else (Act.secx fun x => { x with contexts := ((slot, ctx), digest) :: x.contexts }).andThen (Act.respond m 8 4 0 []))

def execCtxOpen (m : Fin 16) (slot ctx : Nat) (keyDigest : BitVec 256) (s : State) : Host.Outcome State Fault Refusal :=
  (Act.ctxOpen m slot ctx keyDigest.toNat).go s

/-- Show in SEC_SLOT(n).sessions which contexts of slot n have an ACTIVE session. -/
def Act.sessionBits (n : Nat) : Act :=
  Act.get fun s => Act.setF (F.SEC_SLOT.sessions n)
    (maskOf ((s.sec.sessions.filter fun x => x.active && x.slot == n).map fun x => x.ctx))

/-- Close a session, with its record in the log of its context. -/
def Act.closeSession (x : Session) : Act :=
  Act.seq [
    Act.secx fun y => { y with sessions := y.sessions.filter fun z => z.num != x.num },
    Act.sessionBits x.slot,
    Act.fresh fun w => Act.ctxLog (Fin.ofNat 8 x.slot) x.ctx (w.toNat % 65536) [x.num]]

/-- Close every session that strikes holds of. -/
def Act.closeSessions (strikes : Session → Bool) : Act :=
  Act.get fun s => Act.each (s.sec.sessions.filter strikes) Act.closeSession

/-- CTX_CLOSE: closes the sessions of the context and zeroes its log. -/
def Act.ctxClose (m : Fin 16) (slot ctx : Nat) : Act :=
  Act.managerCommand m 8 5 (Act.get fun s =>
    if 7 < slot || 15 < ctx then Act.respond m 8 5 5 []
    else if !s.ctxOpen slot ctx then Act.respond m 8 5 6 []
    else if s.owner slot = some ctx || (s.flag (F.SEC_SLOT.ann_valid slot) && s.fld (F.SEC_SLOT.ann_ctx slot) = ctx) then
      Act.respond m 8 5 7 []
    else Act.seq [
      Act.closeSessions fun x => x.slot == slot && x.ctx == ctx,
      Act.secx fun x => { x with
        contexts := x.contexts.filter fun p => p.1 != (slot, ctx),
        ctxLogs := x.ctxLogs.filter fun p => p.1 != (slot, ctx) },
      Act.respond m 8 5 0 []])

def execCtxClose (m : Fin 16) (slot ctx : Nat) (s : State) : Host.Outcome State Fault Refusal := (Act.ctxClose m slot ctx).go s

/-- CTX_ANNOUNCE: 0xFF withdraws the announcement; a context that is not open is INVALID. -/
def Act.ctxAnnounce (m : Fin 16) (slot ctx : Nat) : Act :=
  Act.command m 8 6 fun _ => Act.get fun s =>
    if 7 < slot || (15 < ctx && ctx ≠ 0xFF) then Act.respond m 8 6 5 []
    else if ctx = 0xFF then
      (Act.setB (F.SEC_SLOT.ann_valid slot) false).andThen (Act.respond m 8 6 0 [])
    else if !s.ctxOpen slot ctx then Act.respond m 8 6 6 []
    else Act.seq [
      Act.setF (F.SEC_SLOT.ann_ctx slot) ctx,
      Act.setB (F.SEC_SLOT.ann_valid slot) true,
      Act.respond m 8 6 0 []]

def execCtxAnnounce (m : Fin 16) (slot ctx : Nat) (s : State) : Host.Outcome State Fault Refusal :=
  (Act.ctxAnnounce m slot ctx).go s

/-! ## Sessions (R373, R374) -/

/-- A command of class 0x08 that only the tray host may send. -/
def Act.hostCommand (m : Fin 16) (cmd : Nat) (body : State → Act) : Act :=
  Act.command m 8 cmd fun src => if src = 2 then Act.get body else Act.respond m 8 cmd 4 []

/-- A session is refused or a tag fails: 0 key mismatch, 1 context not open, 2 S_A, 3 replay, 4 tag; the model's numbering
(log entry 3). -/
def Act.sessionRefused (m : Fin 16) (cmd status slot ctx reason : Nat) : Act :=
  (Act.emit 0x01 0x0E01 2 [slot, ctx, reason]).andThen (Act.respond m 8 cmd status [])

/-- SESSION_OPEN: the keys are exchanged and a report over the session is queued; an earlier session of the context
closes. Where attestation is refused (R359), so is the report it would return (DEDUCED, log entry 101). -/
def Act.sessionOpen (m : Fin 16) (slot ctx staticKey ephKey nonce : Nat) : Act :=
  Act.signCommand m 7 fun src => Act.get fun s =>
    if src ≠ 2 then Act.respond m 8 7 4 []
    else if s.fuses.lifecycle = 0 || s.fuses.lifecycle = 3 then Act.respond m 8 7 11 []
    else if 7 < slot || 15 < ctx then Act.respond m 8 7 5 []
    else if s.flag F.SEC_STATUS.trng_fail then Act.respondBusy m 8 7 0
    else match s.sec.contexts.lookup (slot, ctx) with
      | none => Act.sessionRefused m 7 4 slot ctx 1
      | some d =>
        if Config.sm3 (beBytes 64 staticKey) ≠ d then Act.sessionRefused m 7 4 slot ctx 0
        else if s.signFull then Act.signBusy m 7
        else
          let n := s.sec.nextSession % 65536
          Act.seq [
            Act.closeSessions fun x => (x.slot == slot && x.ctx == ctx) || x.num == n,
            Act.fresh fun w =>
              let secret := Config.random w.toNat
              let own := Config.kexPublic secret
              let key := Config.kexKey s.fuses.identity secret staticKey ephKey
              Act.seq [
                Act.secx fun x => { x with
                  sessions := ⟨n, slot, ctx, false, 0, ephKey, own, Config.kexConfirm key ephKey own, key, 0⟩ :: x.sessions,
                  nextSession := (n + 1) % 65536 },
                Act.signQueue ⟨m, nonce, some n, Config.sm3 (beBytes 64 ephKey ++ beBytes 64 own)⟩]]

def execSessionOpen (m : Fin 16) (slot ctx : Nat) (staticKey ephKey : BitVec 512) (nonce : BitVec 256) (s : State) :
    Host.Outcome State Fault Refusal := (Act.sessionOpen m slot ctx staticKey.toNat ephKey.toNat nonce.toNat).go s

/-- The session with a number. -/
def State.session (s : State) (n : Nat) : Option Session := s.sec.sessions.find? fun x => x.num == n

/-- Change the session with a number. -/
def Act.session (n : Nat) (f : Session → Session) : Act :=
  Act.secx fun x => { x with sessions := x.sessions.map fun y => if y.num = n then f y else y }

/-- SESSION_CONFIRM: the session is ACTIVE only when S_A verifies. -/
def Act.sessionConfirm (m : Fin 16) (n sA : Nat) : Act :=
  Act.hostCommand m 8 fun s =>
    match s.session n with
    | none => Act.respond m 8 8 6 []
    | some x =>
      if Config.kexAccepts x.key x.ephemeral x.own sA then Act.seq [
        Act.session n fun y => { y with active := true },
        Act.sessionBits x.slot,
        Act.fresh fun w => Act.ctxLog (Fin.ofNat 8 x.slot) x.ctx (w.toNat % 65536) [n],
        Act.respond m 8 8 0 []]
      else Act.sessionRefused m 8 4 x.slot x.ctx 2

def execSessionConfirm (m : Fin 16) (session : Nat) (sA : BitVec 256) (s : State) : Host.Outcome State Fault Refusal :=
  (Act.sessionConfirm m session sA.toNat).go s

/-- The records of a context's log from a sequence number on, oldest first. -/
def State.ctxRecords (s : State) (n c fromSeq count : Nat) : List EvRec :=
  let log := (s.sec.ctxLogs.lookup (n, c)).getD []
  (List.range count).filterMap fun i => log.find? fun r => r.seq == fromSeq + i

/-- The status and payload that answer an inner request (class, command, payload) of a session: LOG_READ, ATTRIB_QUERY and
CTX_LOG_READ, each of the session's context only (R374). -/
def State.innerReply (s : State) (x : Session) (cls cmd : Nat) (p : List Byte) : Nat × List Byte :=
  if cls = 5 && cmd = 2 then
    let count := leAt p 4 2
    if count = 0 || 256 < count then (5, [])
    else (0, recordBytes (s.logPick (leAt p 0 4) count fun r => r.ofContext x.slot x.ctx))
  else if cls = 5 && cmd = 5 then
    if leAt p 0 1 ≠ x.slot then (4, [])
    else (0, s.attribPayload x.slot fun r => r < 32 && r % 16 = x.ctx)
  else if cls = 8 && cmd = 0xC then
    let count := leAt p 4 2
    if count = 0 || 64 < count then (5, [])
    else (0, (s.ctxRecords x.slot x.ctx (leAt p 0 4) count).flatMap EvRec.bytes)
  else (4, [])

/-- The inner response to an inner request with a status, retry_ms and payload: its header and the payload. -/
def innerPacket (req : List Byte) (status retry : Nat) (payload : List Byte) : List Byte :=
  leBytes 1 0 ++ leBytes 1 1 ++ slice req 2 6 ++ respHead payload.length status 0 retry (leAt req 16 8) ++ payload

/-- The inner response to an inner request that reads. -/
def State.innerResponse (s : State) (x : Session) (req : List Byte) : List Byte :=
  let cls := leAt req 2 1
  let cmd := leAt req 3 1
  let r := s.innerReply x cls cmd (slice req 32 (min (leAt req 8 2) 8160))
  innerPacket req r.1 0 (kindByte cls cmd r.1 ++ r.2)

/-- Whether an inner request is MODEL_COMMIT. -/
def innerCommits (req : List Byte) : Bool := leAt req 2 1 == 6 && leAt req 3 1 == 0x11

/-- Answer with an inner response enciphered under the request's counter with bit 63 set (R374). -/
def Act.respondSealed (m : Fin 16) (cmd : Nat) (x : Session) (counter : Nat) (body : List Byte) : Act :=
  let c := counter % 2 ^ 63 + 2 ^ 63
  let text := Config.gcmSeal x.key c body
  Act.respondItems m 8 cmd 0 [x.num, c, Config.gcmTag x.key c [] text, leNat text]

/-- SESSION_REQ. Beside the requests of R374, which read, it takes MODEL_COMMIT, which R365 lets come through a session and
binds to the session's context (DEDUCED, log entry 41). -/
def Act.sessionReq (m : Fin 16) (n counter tag : Nat) (cipher : List Byte) : Act :=
  Act.hostCommand m 9 fun s =>
    match s.session n with
    | none => Act.respond m 8 9 6 []
    | some x =>
      if !x.active then Act.respond m 8 9 6 []
      else if counter ≤ x.counter then Act.sessionRefused m 9 4 x.slot x.ctx 3
      else if Config.gcmTag x.key counter (s.bytes (reqArea m) 32 ++ leBytes 2 n) cipher ≠ tag then
        (Act.session n fun y => { y with fails := y.fails + 1 }).andThen (Act.sessionRefused m 9 6 x.slot x.ctx 4)
      else (Act.session n fun y => { y with counter := counter }).andThen (
        let req := Config.gcmOpen x.key counter cipher
        if innerCommits req then
          match modelNo (leAt req 32 1) with
          | none => Act.respondSealed m 9 x counter (innerPacket req 5 0 [])
          | some i => Act.commitBy 2 (some (x.slot, x.ctx)) i fun st retry p =>
              Act.respondSealed m 9 x counter (innerPacket req st retry p)
        else Act.respondSealed m 9 x counter (s.innerResponse x req))

def execSessionReq (m : Fin 16) (session counter : Nat) (tag : BitVec 128) (cipher : List (BitVec 8)) (s : State) :
    Host.Outcome State Fault Refusal := (Act.sessionReq m session counter tag.toNat cipher).go s

/-- SESSION_CLOSE. -/
def Act.sessionClose (m : Fin 16) (n : Nat) : Act :=
  Act.hostCommand m 0xA fun s =>
    match s.session n with
    | none => Act.respond m 8 0xA 6 []
    | some x => (Act.closeSession x).andThen (Act.respond m 8 0xA 0 [])

def execSessionClose (m : Fin 16) (session : Nat) (s : State) : Host.Outcome State Fault Refusal :=
  (Act.sessionClose m session).go s

/-- CTX_LOG_READ: the inner request of an ACTIVE session, answered under the session's last counter; without such a session
it is DENIED. -/
def Act.ctxLogRead (m : Fin 16) (n fromSeq count : Nat) : Act :=
  Act.command m 8 0xC fun _ => Act.get fun s =>
    match s.session n with
    | none => Act.respond m 8 0xC 4 []
    | some x =>
      if !x.active then Act.respond m 8 0xC 4 []
      else Act.respondSealed m 9 x x.counter
        (s.innerResponse x (leBytes 1 0 ++ leBytes 1 1 ++ leBytes 1 8 ++ leBytes 1 0xC ++ leBytes 4 0 ++ leBytes 2 6 ++
          leBytes 22 0 ++ leBytes 4 fromSeq ++ leBytes 2 count))

def execCtxLogRead (m : Fin 16) (session fromSeq count : Nat) (s : State) : Host.Outcome State Fault Refusal :=
  (Act.ctxLogRead m session fromSeq count).go s

/-! ## Keys, debug and lifecycle (R356, R359, R378 to R380) -/

/-- Whether a signature over a message verifies under the owner root key, of which the fuses hold the digest (log entry
9). -/
def State.ownerSigned (s : State) (msg : List Byte) (sig : Nat) : Bool :=
  s.fuses.lifecycle = 2 && Config.sm2Verify s.fuses.ownerDig s.uid msg sig

/-- KEY_ENROLL: the key is kept with the owner's signature (R356); a key of zeros removes; removing a key releases every role held by a model signed under it. -/
def Act.keyEnroll (m : Fin 16) (slot key sig : Nat) : Act :=
  Act.managerCommand m 8 0xB (Act.get fun s =>
    if h : slot < 8 then
      if !s.ownerSigned (leBytes 1 slot ++ beBytes 64 key ++ s.uid) sig then Act.respond m 8 0xB 9 []
      else Act.seq [
        Act.secx fun x => { x with
          modelKeys := x.modelKeys.set slot (if key = 0 then none else some key),
          keySigs := x.keySigs.set slot (if key = 0 then 0 else sig) },
        Act.setFBit F.SEC_MODEL_KEYS.valid slot (key ≠ 0),
        Act.when (key = 0) (Act.each (List.finRange 16) fun (i : Fin 16) =>
          Act.when ((s.model i).keySlot = slot) (Act.releaseRoles i)),
        Act.respond m 8 0xB 0 []]
    else Act.respond m 8 0xB 5 [])

def execKeyEnroll (m : Fin 16) (slot : Nat) (key sig : BitVec 512) (s : State) : Host.Outcome State Fault Refusal :=
  (Act.keyEnroll m slot key.toNat sig.toNat).go s

/-- DEBUG_CHALLENGE: a fresh nonce, valid for 60 s, replaces any earlier one. -/
def Act.debugChallenge (m : Fin 16) : Act :=
  Act.managerCommand m 8 0xD (Act.get fun s =>
    if s.flag F.SEC_STATUS.trng_fail then Act.respondBusy m 8 0xD 0
    else Act.fresh fun w =>
      let n := Config.random w.toNat % 2 ^ 256
      (Act.secx fun x => { x with nonce := some (n, s.tns.tick) }).andThen (Act.respond m 8 0xD 0 (leBytes 32 n)))

def execDebugChallenge (m : Fin 16) (s : State) : Host.Outcome State Fault Refusal := (Act.debugChallenge m).go s

/-- The nonce, while it is valid: drawn within the last 60 s and not used. -/
def State.liveNonce (s : State) : Option Nat :=
  (s.sec.nonce.filter fun p => s.tns.tick < p.2 + 60000000).map Prod.fst

/-- The nonce is used. -/
def Act.nonceUsed : Act := Act.secx fun x => { x with nonce := none }

/-- The key by which a debug token is checked: Puenar's in PROVISIONED, the owner debug key in OWNED (R359). -/
def State.debugKey (s : State) : Nat := if s.fuses.lifecycle = 1 then Config.puenarKey else s.fuses.dbgDig

/-- DEBUG_UNLOCK.  In BLANK and DECOMMISSIONED every scope is open and nothing unlocks or relocks (R359). -/
def Act.debugUnlock (m : Fin 16) (sig scope : Nat) : Act :=
  Act.managerCommand m 8 0xE (Act.get fun s =>
    if s.conf || (List.range 8).any (fun n => s.phase n = 1) || s.flag F.SEC_CTL.dbg_dis || s.fuses.lifecycle = 0 ||
        s.fuses.lifecycle = 3 then Act.respond m 8 0xE 4 []
    else match s.liveNonce with
      | none => Act.respond m 8 0xE 4 []
      | some n =>
        if 7 < scope then Act.respond m 8 0xE 5 []
        else Act.nonceUsed.andThen
          (if !Config.sm2Verify s.debugKey s.uid (leBytes 32 n ++ s.uid ++ leBytes 1 scope) sig then Act.respond m 8 0xE 9 []
           else Act.seq [
            Act.setF F.SEC_STATUS.debug (if scope = 0 then 0 else s.fld F.SEC_STATUS.debug ||| scope),
            Act.emit 0x01 0x0E02 4 [scope],
            Act.respond m 8 0xE 0 []]))

def execDebugUnlock (m : Fin 16) (sig : BitVec 512) (scope : BitVec 8) (s : State) : Host.Outcome State Fault Refusal :=
  (Act.debugUnlock m sig.toNat scope.toNat).go s

/-- OWNER_PROVISION, in PROVISIONED. -/
def Act.ownerProvision (m : Fin 16) (rootKey dbgKey : Nat) : Act :=
  Act.managerCommand m 8 0xF (Act.get fun s =>
    if s.fuses.lifecycle ≠ 1 then Act.respond m 8 0xF 4 []
    else Act.seq [
      Act.fusesx (·.own (Config.sm3 (beBytes 64 rootKey)) (Config.sm3 (beBytes 64 dbgKey))) fun _ => Fuses.own_below ..,
      Act.emit 0x01 0x0E03 4 [2],
      Act.respond m 8 0xF 0 []])

def execOwnerProvision (m : Fin 16) (rootKey dbgKey : BitVec 512) (s : State) : Host.Outcome State Fault Refusal :=
  (Act.ownerProvision m rootKey.toNat dbgKey.toNat).go s

/-- DECOMMISSION, in OWNED: the key-kill fuse is blown, and every debug scope is open. -/
def Act.decommission (m : Fin 16) (sig : Nat) : Act :=
  Act.managerCommand m 8 0x10 (Act.get fun s =>
    if s.fuses.lifecycle ≠ 2 then Act.respond m 8 0x10 4 []
    else match s.liveNonce with
      | none => Act.respond m 8 0x10 4 []
      | some n => Act.nonceUsed.andThen
          (if !s.ownerSigned (leBytes 32 n ++ s.uid ++ leBytes 1 0xDC) sig then Act.respond m 8 0x10 9 []
           else Act.seq [
            Act.fusesx Fuses.retire Fuses.retire_below,
            Act.setF F.SEC_STATUS.debug 7,
            Act.emit 0x01 0x0E03 4 [3],
            Act.respond m 8 0x10 0 []]))

def execDecommission (m : Fin 16) (sig : BitVec 512) (s : State) : Host.Outcome State Fault Refusal :=
  (Act.decommission m sig.toNat).go s

/-- NONCE_EXPIRY: a nonce that has reached 60 s is invalid. -/
def execNonceExpiry (s : State) : Host.Outcome State Fault Refusal :=
  (Act.get fun s => Act.when (s.powered && s.liveNonce.isNone) Act.nonceUsed).go s

/-- TRNG_FAIL (R358). -/
def Act.trngFail (test : Nat) : Act :=
  Act.get fun s => Act.when s.powered ((Act.setB F.SEC_STATUS.trng_fail true).andThen (Act.emit 0x01 0x0E05 3 [test]))

def execTrngFail (test : Nat) (s : State) : Host.Outcome State Fault Refusal := (Act.trngFail test).go s

/-! ## The scrub (R363, R364) -/

/-- Abort the jobs of each model slot bound to a context of slot n, and free the model slot as MODEL_FREE does. -/
def Act.scrubModels (n : Fin 8) (c : Nat) : Act :=
  Act.get fun s => Act.each ((List.finRange 16).filter fun (i : Fin 16) => (s.model i).bound == some (n.val, c)) fun i =>
    (Act.each ((s.jobs.filter fun p => p.2.st ≠ .free && p.2.modeP && p.2.slot == i.val).map Prod.fst) fun j =>
      Act.jobStops j 2 0).andThen (Act.modelEmpty i)

/-- The end of the controller's scrub of slot n: WAIT_DEVICE (R364). -/
def Act.scrubEnd (n : Fin 8) : Act :=
  Act.get fun s => Act.seq [
    Act.setF (F.SEC_SLOT.phase n) 3,
    Act.bump (F.SEC_SCRUB_CNT.count n),
    Act.emit (coreSource (s.slotCore n)) 0x0E10 1 [n, 3],
    (match s.sec.leaving[n] with | some c => Act.ctxLog n c 0x0E10 [n, 3] | none => Act.skip),
    Act.secx fun x => { x with confWait := clrBit x.confWait n, leaving := x.leaving.set n none },
    Act.scrubAt n 0,
    Act.ctxMismatch n]

/-- What the power core has of slot n from before its scrub goes (R364): its post, its normalized counts, its part of the
phase classifier's 16 ticks and its class, and its part of the millisecond's sums. -/
def Act.slotHistoryGone (n : Fin 8) : Act :=
  Act.learnedx fun x => { x with
    posts := x.posts.set n none
    counts := zeroSpan n 4 0#32 x.counts
    history := x.history.map (zeroSpan n 8 0#32)
    phase := zeroSpan n 1 (7, 0#32) x.phase
    msSum := zeroSpan n 1 0 x.msSum
    msLast := (zeroSpan n 1 0 x.msLast.1, x.msLast.2) }

/-- Step i of the scrub of slot n, on the core that R364 names.  No telemetry record waits between its making and its
sending, so that step 3 has none to discard. -/
def Act.scrubStep (n : Fin 8) (i : Nat) : Act :=
  Act.get fun s =>
    let done_ (k : Fin 13) (a : Act) : Act := if s.coreUp k then a.andThen (Act.scrubAt n (i + 1)) else Act.skip
    match i with
    | 1 => Act.scrubBegin n
    | 2 => Act.scrubBegin n
    | 3 => done_ 2 Act.skip
    | 4 => done_ 1 (Act.seq [
        Act.each (List.range 4) fun c => Act.setReg (R.CMA_ACC n c) 0#32,
        Act.setReg (R.CMA_ACC_FLAGS n) 0#32,
        Act.setReg (R.CMA_INTENT n) 0#32,
        Act.slotHistoryGone n])
    | 5 => done_ 0 (match s.sec.leaving[n] with | some c => Act.scrubModels n c | none => Act.skip)
    | 6 => (match s.servingCore n with
        | some _ => (match s.sec.leaving[n] with
            | some c => Act.fresh fun w => Act.ctxLog n c (w.toNat % 65536) [n]
            | none => Act.skip).andThen (Act.scrubAt n 7)
        | none => Act.skip)
    | 7 => if s.coreUp 0 then Act.scrubEnd n else Act.skip
    | _ => Act.skip

/-- SCRUB_STEP_DONE: the core that owns the next step of slot n's scrub carries it out. -/
def execScrubStepDone (n : Fin 8) (s : State) : Host.Outcome State Fault Refusal :=
  (Act.get fun s => Act.when s.powered (Act.scrubStep n s.sec.scrubStep[n])).go s

/-- Whether slot n may enter OWNED (R363). -/
def State.ownable (s : State) (n : Fin 8) : Bool :=
  s.svcRuns && s.phase n = 3 && s.sec.scrubStep[n] = 0 && s.flag (F.CMA_CTX.rep_valid n) &&
    s.flag (F.SEC_SLOT.ann_valid n) && s.fld (F.CMA_CTX.rep_ctx n) = s.fld (F.SEC_SLOT.ann_ctx n) &&
    s.ctxOpen n (s.fld (F.SEC_SLOT.ann_ctx n))

/-- OWNED_ENTRY: the security core sets the phase; the slot core switches the tariff at the next strobe, ends the scrub
frames and sets what it expects (R364). -/
def Act.ownedEntry (n : Fin 8) : Act :=
  Act.get fun s =>
    if !s.powered || !s.coreUp 0 || !s.ownable n then Act.skip
    else match s.servingCore n with
      | none => Act.skip
      | some k =>
        let c := s.fld (F.SEC_SLOT.ann_ctx n)
        Act.seq [
          Act.setF (F.SEC_SLOT.own_ctx n) c,
          Act.setB (F.SEC_SLOT.own_valid n) true,
          Act.setF (F.SEC_SLOT.phase n) 1,
          Act.tariffFor k n (some c),
          Act.setB (F.CMA_PACE_CTL.scrub n) false,
          Act.setF (F.CMA_CTX.exp_ctx n) c,
          Act.setB (F.CMA_CTX.exp_valid n) true]

def execOwnedEntry (n : Fin 8) (s : State) : Host.Outcome State Fault Refusal := (Act.ownedEntry n).go s

/-! ## The TAP (R378, R460) -/

/-- Select a TAP instruction: what its data register captures, and what it drives. -/
def Act.tap (ir : Nat) (dr : List Byte) (drive : Option (List Byte)) : Act :=
  Act.get fun s => Act.when s.powered ⟨fun s => { s with tap := ⟨ir, dr, drive⟩ }, fun _ h => h, fun _ => rfl, fun _ => .refl _, fun _ h => ⟨h, rfl⟩⟩

/-- IDCODE: version 0, part 0x0856, the manufacturer, and 1 (R460). -/
def execIdcode (s : State) : Host.Outcome State Fault Refusal :=
  (Act.tap 0 (leBytes 4 (0x0856 * 2 ^ 12 + Config.manufacturer % 2048 * 2 + 1)) none).go s

/-- BYPASS: a one-bit register of 0. -/
def execBypass (s : State) : Host.Outcome State Fault Refusal := (Act.tap 1 [0#8] none).go s

/-- Whether the boundary-scan scope is unlocked. -/
def State.scanOpen (s : State) : Bool := bitOf (s.fld F.SEC_STATUS.debug) 2

/-- EXTEST: acts as BYPASS while its scope is locked, and takes effect only while the gate request is off. -/
def execExtest (drive : List (BitVec 8)) (s : State) : Host.Outcome State Fault Refusal :=
  (Act.get fun s =>
    if !s.scanOpen then Act.tap 1 [0#8] none
    else Act.tap 2 [] (if s.gateOn then none else some drive)).go s

/-- The bytes that boundary scan drives now: EXTEST's, while its scope is unlocked and the gate request is off, also where the
gate came on after it. -/
def State.scanDrive (s : State) : Option (List Byte) := if s.scanOpen && !s.gateOn then s.tap.drive else none

/-- SAMPLE: acts as BYPASS while its scope is locked. -/
def execSample (capture : List (BitVec 8)) (s : State) : Host.Outcome State Fault Refusal :=
  (Act.get fun s => if s.scanOpen then Act.tap 3 capture none else Act.tap 1 [0#8] none).go s

end Sys2Proof.Machine
end

