-- ==== Sys2Proof/Machine/Boot.lean ====
section
/-!
DEFINITION. Boot: how an image is checked and loaded, stage 0, and the lock and release of cores (R382 to R396, R424).
-/
namespace Sys2Proof.Machine

/-! ## Images (R385 to R388, R391) -/

/-- n bytes at offset o of what rd reads. -/
def rdBytes (rd : Nat → Byte) (o n : Nat) : List Byte := (List.range n).map fun i => rd (o + i)

/-- The little-endian number in n bytes at offset o of what rd reads. -/
def rdNat (rd : Nat → Byte) (o n : Nat) : Nat := leNat (rdBytes rd o n)

/-- The payload size of an image. -/
def imgPayload (rd : Nat → Byte) : Nat := rdNat rd 8 4

/-- The whole size of an image: header, payload and trailer. -/
def imgSize (rd : Nat → Byte) : Nat := 4096 + imgPayload rd + 96

/-- D of an image, as its trailer has it. -/
def imgDigest (rd : Nat → Byte) : Nat := rdNat rd (4096 + imgPayload rd) 32

/-- The identity of an image. -/
def imgId (rd : Nat → Byte) : ImageId := ⟨imgDigest rd, rdNat rd 14 1, rdNat rd 16 8⟩

/-- The entry of core k in an image. -/
def imgVector (rd : Nat → Byte) (k : Nat) : Nat := rdNat rd (96 + 4 * k) 4

/-- Section r of an image for the bank at address bank, as its header has it (R386). -/
def imgSect (rd : Nat → Byte) (bank r : Nat) : Sect :=
  let o := 160 + 32 * r
  let attr := rdNat rd (o + 18) 1
  ⟨r, rdNat rd (o + 8) 8 + (if bitOf attr 5 then bank else 0), rdNat rd (o + 4) 4, rdNat rd (o + 16) 2, attr⟩

/-- The sections in use. -/
def imgSects (rd : Nat → Byte) (bank : Nat) : List Sect :=
  ((List.range 12).map (imgSect rd bank)).filter fun x => x.size ≠ 0

/-- Where the content of section r lies in the payload; none for a section without content. -/
def imgSrc (rd : Nat → Byte) (r : Nat) : Option Nat :=
  let v := rdNat rd (160 + 32 * r) 4
  if v = 0xFFFFFFFF then none else some v

/-- The region of R383 that an image of a kind occupies: the resident image's, or a service bank of 8 MiB. -/
def imgRegion (kind bank : Nat) : Nat × Nat := if kind = 1 then (0x10000000, 0x400000) else (bank, 0x800000)

/-- Whether a section keeps to R386. -/
def sectOk (rd : Nat → Byte) (kind bank : Nat) (x : Sect) : Bool :=
  let raw := rdNat rd (160 + 32 * x.index + 8) 8
  let lies := (imgRegion kind bank).1 ≤ x.base && x.base + x.size ≤ (imgRegion kind bank).1 + (imgRegion kind bank).2
  x.size % 4096 = 0 && raw % 4096 = 0 && raw < 2 ^ 48 &&
    (match imgSrc rd x.index with
     | some o => lies && o + x.size ≤ imgPayload rd && (kind = 1 || bitOf x.attr 5)
     | none => !bitOf x.attr 4 || lies) &&
    (kind = 1 || x.cores &&& 0x1FF9 == 0)

/-- Whether a CRC-32C of the header's table fails its 64 KiB block. -/
def crcBad (rd : Nat → Byte) (i : Nat) : Bool :=
  crc32c (rdBytes rd (4096 + 65536 * i) (min 65536 (imgPayload rd - 65536 * i))) ≠ rdNat rd (1024 + 4 * i) 4

/-- The 16 ASCII bytes CUANTARO-IMAGE-1 (R387). -/
def imgUid : List Byte :=
  [0x43#8, 0x55#8, 0x41#8, 0x4E#8, 0x54#8, 0x41#8, 0x52#8, 0x4F#8, 0x2D#8, 0x49#8, 0x4D#8, 0x41#8, 0x47#8, 0x45#8, 0x2D#8, 0x31#8]

/-- Whether the key of an image's header is accepted (R387); in BLANK none is checked, and slot 0 only in PROVISIONED. -/
def State.imgKeyOk (s : State) (rd : Nat → Byte) : Bool :=
  let k := rdNat rd 7 1
  s.fuses.lifecycle = 0 ||
    (bitOf s.fuses.keysFused k && !bitOf s.fuses.keysRevoked k && (k ≠ 0 || s.fuses.lifecycle = 1) &&
      (if h : k < 4 then s.fuses.keyDigs[k] == Config.sm3 (rdBytes rd 32 64) else false))

/-- Whether the signature over D verifies. -/
def State.imgSigned (s : State) (rd : Nat → Byte) : Bool :=
  s.fuses.lifecycle = 0 ||
    Config.sm2Verify (beNat (rdBytes rd 32 64)) imgUid (rdBytes rd (4096 + imgPayload rd) 32)
      (beNat (rdBytes rd (4096 + imgPayload rd + 32) 64))

/-- The security version below which an image of a kind is refused (R388). -/
def State.svnFloor (s : State) (kind : Nat) : Nat := if kind = 1 then s.fuses.svnResident else s.fuses.svnService

/-- The first check of R391 that an image fails, from 1; 0 where it passes: 1 magic, 2 major, 3 kind, 4 sizes, 5 sections,
6 key, 7 svn, 8 CRC, 9 digest, 10 signature (the model's numbering, log entry 3).  Golden images are exempt from the svn. -/
def State.imgCheck (s : State) (rd : Nat → Byte) (kind bank : Nat) (golden : Bool) : Nat :=
  if rdBytes rd 0 4 ≠ [0x4B#8, 0x49#8, 0x4D#8, 0x47#8] then 1
  else if rdNat rd 5 1 ≠ 1 then 2
  else if rdNat rd 6 1 ≠ kind then 3
  else if imgPayload rd % 4 ≠ 0 || (imgRegion kind bank).2 < imgPayload rd || 64 < rdNat rd 14 1 ||
      rdNat rd 12 2 ≠ ceilDiv (imgPayload rd) 65536 then 4
  else if !(imgSects rd bank).all (sectOk rd kind bank) ||
      (kind = 2 && (List.range 13).any fun k => k ≠ 1 && k ≠ 2 && imgVector rd k ≠ 0) then 5
  else if !s.imgKeyOk rd then 6
  else if !golden && rdNat rd 14 1 < s.svnFloor kind then 7
  else if (List.range (rdNat rd 12 2)).any (crcBad rd) then 8
  else if Config.sm3 (rdBytes rd 0 (4096 + imgPayload rd)) ≠ imgDigest rd then 9
  else if !s.imgSigned rd then 10
  else 0

/-- Copy the content of an image's sections to where they go, and zero the zero-fill sections (R391). -/
def Act.imgCopy (rd : Nat → Byte) (bank : Nat) : Act :=
  Act.each (imgSects rd bank) fun x =>
    match imgSrc rd x.index with
    | some o => Act.store x.base (rdBytes rd (4096 + o) x.size)
    | none => if bitOf x.attr 4 then Act.store x.base (List.replicate x.size 0#8) else Act.skip

/-! ## Regions and vectors (R220, R386, R390) -/

/-- Set region r of core k (SYS_CORE_MPU): enabled, with the section's grants. -/
def Act.setRegion (k : Fin 13) (x : Sect) : Act :=
  Act.seq [
    Act.setF (F.SYS_CORE_MPU_BASE.page k x.index) (x.base / 4096),
    Act.setF (F.SYS_CORE_MPU_LIMIT.page k x.index) ((x.base + x.size) / 4096 - 1),
    Act.setF (F.SYS_CORE_MPU_ATTR.attr k x.index) (x.attr % 16 * 2 + 1)]

/-- Set and lock the regions of core k from an image's sections. -/
def Act.setRegions (k : Fin 13) (l : List Sect) : Act :=
  (Act.each (l.filter fun x => bitOf x.cores k) (Act.setRegion k)).andThen (Act.setB (F.SYS_CORE_LOCK.lock k) true)

/-- Write BOOT_VEC(k). -/
def Act.setVector (k : Fin 13) (v : Nat) : Act :=
  Act.when (k ≠ 0) ((Act.setF (F.BOOT_VEC_LO.vec k) (v % 2 ^ 32 / 4 * 4)).andThen (Act.setF (F.BOOT_VEC_HI.vec k) (v / 2 ^ 32)))

/-- BOOT_VEC(k) (R390). -/
def State.bootVec (s : State) (k : Nat) : Nat :=
  if k = 0 then 0 else s.fld (F.BOOT_VEC_LO.vec k) + s.fld (F.BOOT_VEC_HI.vec k) * 2 ^ 32

/-- The entry of core k in the resident image. -/
def State.resVector (s : State) (k : Nat) : Nat := (s.boot.resVectors[k]?).getD 0

/-- Whether core k is one of the resident image's: the image starts it or names it in a section. -/
def State.resCore (s : State) (k : Nat) : Bool := s.resVector k ≠ 0 || s.boot.resSects.any fun x => bitOf x.cores k

/-- Set and lock the regions and the vector of core k from the resident image. -/
def Act.residentCore (k : Fin 13) : Act :=
  Act.get fun s => (Act.setVector k (s.resVector k)).andThen (Act.setRegions k s.boot.resSects)

/-! ## Repair (R424) -/

/-- How many repair rows of a memory (1 shared SRAM, 2 tensor SRAM) are in use, of the MiB that keep holds of. -/
def State.rowsUsed (s : State) (kind : Nat) (keep : Nat → Bool) : Nat :=
  (s.repair.countP fun e => e.kind == kind && e.state == 0x3F && keep (e.index / 2048)) +
    ((if kind = 1 then s.fuses.rowsSh else s.fuses.rowsTs).countP fun r => keep (r / 2048))

/-- How many rows of a memory await stage 0. -/
def State.rowsPending (s : State) (kind : Nat) : Nat := s.repair.countP fun e => e.kind == kind && e.state == 0x7F

/-- Give the first pending entry of a row a state. -/
def markRow (kind index state : Nat) : List RepairEntry → List RepairEntry
  | [] => []
  | e :: r =>
    if e.kind = kind && e.index = index && e.state = 0x7F then { e with state := state } :: r
    else e :: markRow kind index state r

/-- The errors that a row has shown so far count no more: another row stands in its place. -/
def Act.rowForgotten (kind row : Nat) : Act :=
  Act.rstx fun r => { r with rowErrs := r.rowErrs.filter fun p => p.1 != (kind == 2, row) }

/-- Stage 0 maps every pending row to a repair row of its MiB, of which there are 32, or marks it exhausted. -/
def Act.repairRows : Act :=
  Act.get fun s => Act.each (s.repair.filter fun e => (e.kind == 1 || e.kind == 2) && e.state == 0x7F) fun e =>
    Act.get fun s =>
      if s.rowsUsed e.kind (fun m => m == e.index / 2048) < 32 then
        Act.seq [Act.repairx (markRow e.kind e.index 0x3F), Act.rowForgotten e.kind e.index, Act.emit 0x01 0x1008 2 [e.kind, e.index]]
      else (Act.repairx (markRow e.kind e.index 0x1F)).andThen (Act.emit 0x01 0x1008 4 [e.kind, e.index])

/-! ## Stage 0 (R389 to R396) -/

/-- The flash offset of a resident-image slot: 0 A, 1 B, 2 golden (R382). -/
def slotOffset (n : Nat) : Nat := 0x100000 + 0x800000 * n

/-- What is read of a resident-image slot. -/
def State.slotRd (s : State) (n : Nat) (i : Nat) : Byte := Sparse.get flashDefault (slotOffset n + i) s.flash

/-- The state of a resident-image slot: that of its newest record (R395). -/
def State.slotState (s : State) (n : Nat) : Nat := match s.slotRec n with | some r => r.state | none => 0xFF

/-- Change the newest record of a slot. -/
def modRec (n : Nat) (f : MetaRec → MetaRec) : List MetaRec → List MetaRec
  | [] => []
  | r :: l => if r.slot = n then f r :: l else r :: modRec n f l

/-- The 64 bytes of a metadata record: its CRC takes the state and the attempts as 0xFF (R394). -/
def MetaRec.bytes (r : MetaRec) : List Byte :=
  let body (state attempts : Nat) : List Byte :=
    [0x4D#8, 0x52#8] ++ leBytes 1 r.slot ++ leBytes 1 state ++ leBytes 1 attempts ++ leBytes 1 r.flags ++ leBytes 1 r.svn ++
      [0xFF#8] ++ leBytes 4 r.seq ++ leBytes 4 r.size ++ leBytes 32 r.digest ++ List.replicate 12 0xFF#8
  body r.state r.attempts ++ leBytes 4 (crc32c (body 0xFF 0xFF))

/-- The metadata sector of a generation: the two take turns (R394). -/
def metaSector (generation : Nat) : Nat := 0x10000 * (generation % 2)

/-- Write the records of the sector in use, behind its header and oldest first; it has room for 1,023. -/
def Act.metaStore : Act :=
  Act.get fun s => Act.each (s.boot.records.reverse.take 1023).zipIdx fun p =>
    Act.flashBytes (metaSector s.boot.metaGen + 64 * (p.2 + 1)) p.1.bytes

/-- Write the 64-byte header of the sector in use: it carries the generation, in a layout that the manual does not give (log
entry 8). -/
def Act.metaHeader : Act :=
  Act.get fun s => Act.flashBytes (metaSector s.boot.metaGen) ((List.range 64).map (Config.respByte 9 0x102 [s.boot.metaGen]))

/-- The newest record of each slot, newest first. -/
def State.newestRecs (s : State) : List MetaRec := s.boot.records.filter fun r => s.slotRec r.slot == some r

/-- The full sector gives way to the other under the next generation, which takes the newest record of each slot, and is
erased only then (R394). -/
def Act.metaRoll : Act :=
  Act.get fun s => Act.seq [
    Act.bootx fun b => { b with records := s.newestRecs, metaGen := b.metaGen + 1 },
    Act.metaHeader,
    Act.metaStore,
    Act.flashErase (metaSector s.boot.metaGen) 0x10000]

/-- Append a record to the sector in use, of which 1,023 fill it. -/
def Act.recordAdd (r : MetaRec) : Act :=
  Act.seq [
    Act.get fun s =>
      if 1023 ≤ s.boot.records.length then Act.metaRoll else Act.when s.boot.records.isEmpty Act.metaHeader,
    Act.bootx fun b => { b with records := r :: b.records },
    Act.metaStore]

/-- Change the newest record of a slot, clearing bits in place (R395). -/
def Act.slotRec (n : Nat) (f : MetaRec → MetaRec) : Act :=
  (Act.bootx fun b => { b with records := modRec n f b.records }).andThen Act.metaStore

/-- Take a slot's record to a state by clearing bits. -/
def Act.slotState (n state : Nat) : Act := Act.slotRec n fun r => { r with state := r.state &&& state }

/-- The next attempt byte: none used, one, two, three (R394). -/
def nextAttempt (a : Nat) : Nat := if a = 0xFF then 0xFE else if a = 0xFE then 0xFC else 0xF8

/-- The TRIAL slot, if there is one. -/
def State.trialSlot (s : State) : Option Nat := [0, 1].find? fun n => s.slotState n = 0x3F

/-- What the boot ROM does to the TRIAL slot before it chooses: INVALID when its attempts are used or the last reset was
HEALTH, which is a fallback; otherwise one more attempt (R396, R397). -/
def Act.trialAttempt (n : Nat) : Act :=
  Act.get fun s =>
    match s.slotRec n with
    | none => Act.skip
    | some r =>
      if r.attempts = 0xF8 || s.fld F.BOOT_STATUS.last_cause = 2 then
        (Act.slotState n 0).andThen (Act.emit 0x29 0x0F02 3 [0, n, 1 - n, s.fld F.BOOT_STATUS.last_cause])
      else Act.slotRec n fun r => { r with attempts := nextAttempt r.attempts }

/-- The candidates in the order of R396, after the TRIAL slot has been dealt with: the TRIAL slot, CONFIRMED slots with the
highest seq first, RETIRED slots, golden. -/
def State.candidates (s : State) : List Nat :=
  let seq (n : Nat) : Nat := match s.slotRec n with | some r => r.seq | none => 0
  let order : List Nat := if seq 0 < seq 1 then [1, 0] else [0, 1]
  s.trialSlot.toList ++ order.filter (fun n => s.slotState n = 0x1F) ++ order.filter (fun n => s.slotState n = 0x0F) ++ [2]

/-- The security core jumps to vector 0 of the resident image: stage 1 (R389). -/
def Act.stageOne (n : Nat) (trial : Bool) : Act :=
  Act.get fun s =>
    let rd := s.slotRd n
    Act.seq [
      Act.imgCopy rd 0,
      Act.bootx fun b => { b with
        running := n, resident := imgId rd, resSects := imgSects rd 0, resVectors := (List.range 13).map (imgVector rd),
        trial := trial,
        needManager := trial && (match s.slotRec n with | some r => bitOf r.flags 0 | none => false),
        managerOk := false, windowEnd := none, windowSvc := false },
      Act.each (List.finRange 13) fun (k : Fin 13) => Act.get fun s => Act.when (s.resCore k || k = 0) (Act.residentCore k),
      Act.setF F.BOOT_STATUS.source n,
      Act.setB F.BOOT_STATUS.trial trial,
      Act.setB F.BOOT_STATUS.transition trial,
      Act.setF F.BOOT_STATUS.stage 1,
      Act.secx fun x => { x with verified := true },
      Act.setPc 0 (imgVector rd 0),
      Act.core 0 fun c => { c with run := .running }]

/-- Load the first candidate that verifies; each that fails is recorded and passed over.  With none left, FAILED: the
security core stays in mask ROM (R391, R392). -/
def Act.bootFrom (trial : Option Nat) : List Nat → Act
  | [] => (Act.setF F.BOOT_STATUS.stage 7).andThen (Act.emit 0x29 0x0F03 4 [])
  | n :: r => Act.get fun s =>
    let c := s.imgCheck (s.slotRd n) 1 0 (n == 2)
    if c = 0 then Act.stageOne n (trial == some n)
    else (Act.emit 0x29 0x0F01 2 [n, c]).andThen (Act.bootFrom trial r)

/-- BOOT_STAGE_0: after the debounce of GOLDEN_N. -/
def Act.bootStage0 (goldenLow : Bool) : Act :=
  Act.get fun s =>
    if !s.powered || s.fld F.BOOT_STATUS.stage ≠ 0 then Act.skip
    else Act.seq [
      Act.repairRows,
      Act.rstx fun r => { r with badWords := [] },
      Act.setB F.BOOT_STATUS.golden_n goldenLow,
      if goldenLow then Act.bootFrom none [2]
      else Act.seq [
        (match s.trialSlot with | some n => Act.trialAttempt n | none => Act.skip),
        Act.get fun s => Act.bootFrom s.trialSlot s.candidates]]

def execBootStage0 (goldenLow : Bool) (s : State) : Host.Outcome State Fault Refusal := (Act.bootStage0 goldenLow).go s

/-! ## Lock and release (R221, R390) -/

/-- CORE_LOCK: a write of 1 to SYS_CORE_LOCK(k) by core by_; only the security core's takes effect. -/
def execCoreLock (by_ k : Fin 13) (s : State) : Host.Outcome State Fault Refusal :=
  (Act.get fun s => Act.when (s.powered && s.coreUp by_) (Act.plainWrite by_ (R.SYS_CORE_LOCK k) 1#32)).go s

/-- After stage 1, when both slots are CONFIRMED, the one of lower seq is RETIRED (R396). -/
def Act.retireLower : Act :=
  Act.get fun s =>
    match s.slotRec 0, s.slotRec 1 with
    | some a, some b =>
      if a.state = 0x1F && b.state = 0x1F then Act.slotState (if a.seq < b.seq then 0 else 1) 0x0F else Act.skip
    | _, _ => Act.skip

/-- Stage 1 ends when cores 1 to 10 are released and the regions of cores 11 and 12 are locked; a retired core is not waited
for (R389, R421). -/
def Act.stageTwo : Act :=
  Act.get fun s =>
    let retired (k : Nat) : Bool := s.fld (F.RST_CORE_STAT.role k) = 2
    if s.fld F.BOOT_STATUS.stage = 1 &&
        ((List.range 10).all fun i => bitOf (s.fld F.BOOT_RELEASE.release) i || retired (i + 1)) &&
        ([11, 12].all fun k => s.flag (F.SYS_CORE_LOCK.lock k) || retired k) then Act.seq [
      Act.setF F.BOOT_STATUS.stage 2,
      Act.emit 0x29 0x0F00 1 [s.boot.running, (match s.slotRec s.boot.running with | some r => r.seq | none => 0),
        s.boot.resident.svn, s.fld F.BOOT_STATUS.last_cause],
      Act.retireLower]
    else Act.skip

/-- Release core k at its vector: it runs; a core that serves a slot ends the slot's hold, and the
scheduler core makes its request words ready (R342, R390, R420). -/
def Act.releaseCore (k : Fin 13) : Act :=
  Act.get fun s => Act.seq [
    Act.setFBit F.BOOT_RELEASE.release (k - 1) true,
    Act.setPc k (s.bootVec k),
    Act.core k fun c => { c with run := .running },
    Act.rstx fun r => { r with wdogAt := r.wdogAt.set k s.tns.tick },
    Act.each ((List.range 8).filter fun n => s.slotCore n == k.val) fun n => Act.setB (F.CMA_PACE_CTL.hold n) false,
    Act.when (k = 2) Act.reqWords,
    Act.when (s.boot.trial && s.boot.windowEnd.isNone && (k = 1 || k = 2))
      (Act.bootx fun b => { b with windowEnd := some (s.tns.tick + s.fld F.BOOT_CFG.window_s * 1000000), windowSvc := false }),
    Act.stageTwo]

/-- A write of 1 to bit k of BOOT_RELEASE by core by_: only the security core's takes effect, and only when the core's
regions are locked. -/
def Act.releaseWrite (by_ k : Fin 13) : Act :=
  Act.get fun s =>
    if by_ ≠ 0 || k = 0 || bitOf (s.fld F.BOOT_RELEASE.release) (k - 1) then Act.skip
    else if !s.flag (F.SYS_CORE_LOCK.lock k) then Act.setB F.BOOT_STATUS.rel_refused true
    else Act.releaseCore k

/-- CORE_RELEASE. -/
def execCoreRelease (by_ k : Fin 13) (s : State) : Host.Outcome State Fault Refusal :=
  (Act.get fun s => Act.when (s.powered && s.coreUp by_) (Act.releaseWrite by_ k)).go s

end Sys2Proof.Machine
end

