-- ==== Sys2Proof/Machine/Reset.lean ====
section
/-!
DEFINITION. Resets: of one core, warm, and cold start; and what each keeps (R265, R345, R413, R416, R417, R427, R428, R434).
-/
namespace Sys2Proof.Machine

/-! ## One core (R73, R196, R203, R416) -/

/-- The clauses that run on core k are abandoned: enables hold, and what the effective state asks for is due again (R73). -/
def Act.abandonClauses (k : Fin 13) : Act :=
  Act.each (List.finRange 9) fun t => Act.get fun s =>
    match (s.target t).run with
    | some r =>
      if r.core = k then (Act.endRun t).andThen
        (Act.due t (if r.toFault then .downFault else if s.effOn t then .up else .down))
      else Act.skip
    | none => Act.skip

/-- The keys of core k's protection regions and their lock, and of its copy of the Itsal port. -/
def ownKey (k key : Nat) : Bool :=
  (0x2000 + 0x200 * k ≤ key && key < 0x2200 + 0x200 * k) ||
    (0x1000000 * (k + 1) + 0x400 ≤ key && key ≤ 0x1000000 * (k + 1) + 0x408)

/-- Core k is held in reset: its registers and protection regions reset, its release ends, and the slots it serves are
held. -/
def Act.holdCore (k : Fin 13) : Act :=
  Act.get fun s => Act.seq [
    Act.abandonClauses k,
    Act.resetCore k (s.bootVec k),
    Act.restrictRegs fun key => !ownKey k key,
    Act.itsx fun x => { x with flying := x.flying.filter fun f => f.1 ≠ k.val, queue := x.queue.filter fun f => f.1 ≠ k.val },
    Act.when (k ≠ 0) (Act.setFBit F.BOOT_RELEASE.release (k - 1) false),
    Act.each ((List.range 8).filter fun n => s.slotCore n == k.val) fun n => Act.setB (F.CMA_PACE_CTL.hold n) true]

/-- The reset of core k (R416): what it owns is poisoned.  The security core has lost its sessions and pending
challenges (R370), and runs its mask ROM. -/
def Act.coreReset (k : Fin 13) : Act :=
  Act.seq [
    Act.coreLost k 0,
    Act.holdCore k,
    Act.when (k = 0) (Act.seq [
      Act.secx fun x => { x with sessions := [], nonce := none, signing := [], verified := false },
      Act.each (List.range 8) fun n => Act.setF (F.SEC_SLOT.sessions n) 0,
      Act.core 0 fun c => { c with run := .running }])]

/-! ## Warm reset (R417, R427, R428) -/

/-- The number of a cause in RST_CAUSE; none for a write of RST_CTL.warm, to which the table gives no number. -/
def warmCode : WarmCause → Option Nat
  | .resetMessage => some 1 | .health => some 2 | .crash _ => some 3 | .selfCheck => some 4 | .activate => some 5
  | .csrWrite _ => none

/-- The core of a CRASH, or 0xFF. -/
def warmCore : WarmCause → Nat
  | .crash k => k | _ => 0xFF

/-- After the read-back of slot n's boot flash the controller sends ApplyComplete for a component of PLDM (R408; the code is
PRESUMED, log entry 30). -/
def Act.pldmFlashed (n : Fin 8) : Act :=
  Act.ethx fun e =>
    match e.pldmStaging with
    | some (c, _, 2) => if c = 0x1000 + n.val then { e with pldmStaging := none, pldmReq := some 0x18 } else e
    | _ => e

/-- The end of a slot-flash update of slot n with a reason; 0 is success (R407). -/
def Act.flashEnd (n : Fin 8) (reason : Nat) : Act :=
  Act.get fun s =>
    if !s.flashing n then Act.skip
    else
      let f := (s.boot.slotFlash[n]).getD ⟨0, 0⟩
      Act.seq [
        Act.setF (F.BOOT_SLOTFL_STAT.state n) (if reason = 0 then 4 else 5),
        Act.setF (F.BOOT_SLOTFL_STAT.reason n) reason,
        Act.when (reason = 0) (Act.setF (F.BOOT_SLOTFL_STAT.done n) (ceilDiv f.size 65536)),
        Act.invx fun v => { v with fwIds := v.fwIds.set n (if reason = 0 then f.digest % 2 ^ 64 else 0) },
        Act.bootx fun b => { b with slotFlash := b.slotFlash.set n none },
        Act.pldmFlashed n,
        Act.slotPins n fun p => { p with flashHold := false },
        Act.rstPin n,
        Act.emit 0x29 0x0F08 2 [n, if reason = 0 then 1 else 2]]

/-- The default-returning settings that R428 records with event 0x1009: 0 epoch deadlines, 1 the staged epoch, 2 models,
3 context logs, 4 clause slots (the model's numbering, log entry 3). -/
def Act.returned (setting n : Nat) : Act := Act.when (n ≠ 0) (Act.emit 0x03 0x1009 2 [setting, n])

/-- A clause slot whose digest no longer matches is EMPTY, and the bindings that name it are cleared (R428). -/
def Act.clauseRecheck : Act :=
  Act.get fun s =>
    let bad (n : Fin 32) : Bool :=
      let c := s.clauseSlot n
      let a := clauseBank n c.bank
      c.loaded && c.digest != Config.sm3 (s.bytes (a + 64) (s.hdr a 8 2 + s.hdr a 10 2))
    let l := (List.finRange 32).filter bad
    (Act.each l fun n => Act.seq [
      Act.clause n fun c => { ClauseSlot.reset with bank := c.bank },
      Act.each (List.range 9) fun t => Act.seq [
        Act.when (s.fld (F.SEQ_BIND.up t) = n.val) (Act.setB (F.SEQ_BIND.up_valid t) false),
        Act.when (s.fld (F.SEQ_BIND.down t) = n.val) (Act.setB (F.SEQ_BIND.down_valid t) false)]]).andThen
      (Act.returned 4 l.length)

/-- The volatile registers return to their defaults; locks, RWL fields and what else shares a register with a volatile
field is kept (R428). -/
def Act.volatileRegs : Act :=
  Act.get fun s => Act.seq [
    Act.restrictRegs fun key => !csrWarm key,
    Act.setB F.CNJ_CTL.lock (s.flag F.CNJ_CTL.lock),
    Act.setF F.CNJ_CTL.ctl_ctx (s.fld F.CNJ_CTL.ctl_ctx),
    Act.setB F.MBX_CTL.lock (s.flag F.MBX_CTL.lock),
    Act.setB F.CAP_STATUS.staged false, Act.setB F.CAP_STATUS.lagging false,
    Act.each (List.range 8) fun l => Act.setB (F.ETH_PORT_CFG.en l) false,
    Act.each (List.range 9) fun t => Act.seq [
      Act.setF (F.SEQ_CLAUSE_STAT.reason t) 0, Act.setF (F.SEQ_CLAUSE_STAT.index t) 0,
      Act.setF (F.SEQ_CLAUSE_STAT.clause t) 0]]

/-- The activation that was queued, in handover or in trial is lost and recorded (R410). -/
def Act.activationLost : Act :=
  Act.get fun s =>
    let svc := s.fld F.BOOT_STATUS.svc
    (Act.each s.boot.queue fun q => Act.emit 0x29 0x0F06 3 [q.target - 1, 2]).andThen
      (Act.when (svc = 3 || svc = 4) (Act.emit 0x29 0x0F06 3 [1, 2]))

/-- The service image and its state are gone: both banks are zeroed and BOOT_STATUS.svc is NONE (R399). -/
def Act.serviceGone : Act :=
  Act.seq [
    Act.zeroBytes 0x10400000 0x1000000,
    Act.bootx fun b => { b with
      svcUp := false, service := ImageId.none, staged := ImageId.none, bankSects := Vector.replicate 2 [],
      vectors := Vector.replicate 2 (0, 0), queue := [], windowEnd := none, prevBank := none, prev := ImageId.none,
      windowHalts := Vector.replicate 2 0, programming := false, trial := false, managerOk := false },
    Act.setF F.BOOT_STATUS.svc 0, Act.setB F.BOOT_STATUS.svc_bank false, Act.setB F.BOOT_STATUS.transition false,
    Act.setB F.BOOT_STATUS.trial false, Act.setB F.BOOT_HEALTH.self_ok false, Act.setF F.BOOT_STATUS.stage 0]

/-- A warm reset with a cause number and a core. -/
def Act.warmAs (code core : Nat) : Act :=
  Act.get fun s => Act.seq [
    Act.emit 0x29 0x1003 2 [code, core],
    Act.dumpTrigger 5 core,
    Act.each (List.finRange 8) fun (n : Fin 8) => Act.flashEnd n 5,
    Act.activationLost,
    Act.jobsGone,
    Act.zeroBytes tensorBase tensorSize,
    Act.each (List.finRange 13) fun (k : Fin 13) => Act.coreReset k,
    Act.poisonOwned fun o => o != 0xFF,
    Act.portsDown (fun _ => false) 0,
    Act.ethx fun e => { Eth.reset with out := e.out, rkeysUsed := e.rkeysUsed },
    Act.zeroBytes 0x40000000 0x40000,
    Act.modelsGone,
    Act.learnedx fun _ => Learned.reset,
    Act.ctxLogsGone,
    Act.secx fun x => { x with scrubStep := x.scrubStep.map fun i => if i = 0 then 0 else 1 },
    Act.returned 0 s.tns.deadlines.length,
    Act.returned 1 (s.fld F.CAP_STATUS.staged),
    Act.tense fun t => { t with deadlines := [] },
    Act.volatileRegs,
    Act.serviceGone,
    Act.clauseRecheck,
    Act.setF F.BOOT_STATUS.last_cause (if code = 2 then 2 else 1),
    Act.setF F.RST_CAUSE.cause code, Act.setF F.RST_CAUSE.core core,
    Act.bump F.RST_WARM_CNT.count,
    Act.rstx fun r => { r with wdogAt := Vector.replicate 13 s.tns.tick, warmDue := false, idleSince := none },
    ⟨fun s => { s with haltTimes := [] }, fun _ h => h, fun _ => rfl, fun _ => .refl _, fun _ h => ⟨h, rfl⟩⟩]

/-- A warm reset; the cause number of one by a write of RST_CTL.warm is a free value (log entry 1). -/
def Act.warmReset (c : WarmCause) : Act :=
  match warmCode c with
  | some code => Act.warmAs code (warmCore c)
  | none => Act.fresh fun w => Act.warmAs (w.toNat % 8) (warmCore c)

/-- WARM_RESET: the reset of a RESET message comes once it has been answered. -/
def execWarmReset (c : WarmCause) (s : State) : Host.Outcome State Fault Refusal :=
  (Act.get fun s => Act.when (s.powered && (c ≠ .resetMessage || s.rst.warmDue)) (Act.warmReset c)).go s

/-- The holds of R400 that are present, as BOOT_QUEUE.cond shows them: 0 CRIT, 1 cut, 2 leak, 3 scrub, 4 epoch. -/
def State.holdMask (s : State) : Nat :=
  maskOf ((if (List.range 9).any (fun t => 3 ≤ s.targetLevel t) then [0] else []) ++
    (if s.trayCause || (List.range 8).any s.slotCause || s.flag F.PER_CAUSE.self_fault then [1] else []) ++
    (if (List.range 8).any (fun z => s.zoneWet z || s.zoneConfirmed z) || s.flag F.PER_CAUSE.leak_wet then [2] else []) ++
    (if (List.range 8).any (fun n => s.phase n = 2) then [3] else []) ++
    (if s.flag F.CAP_STATUS.staged then [4] else []))

/-- RESET: class 0x01, command 0x08; one that is accepted ends the STANDBY kept by R443. -/
def Act.resetCommand (m : Fin 16) (kind : Nat) : Act :=
  Act.managerCommand m 1 8 (Act.get fun s =>
    if kind = 1 then
      if s.holdMask ≠ 0 then Act.respondBusy m 1 8 1000
      else (Act.respond m 1 8 0 []).andThen (Act.rstx fun r => { r with warmDue := true, lossHold := false })
    else if kind = 2 || kind = 3 then
      Act.seq [Act.setB F.RST_CTL.main_hold (kind = 2), Act.rstx fun r => { r with lossHold := false }, Act.respond m 1 8 0 []]
    else Act.respond m 1 8 5 [])

def execReset (m : Fin 16) (kind : Nat) (s : State) : Host.Outcome State Fault Refusal := (Act.resetCommand m kind).go s

/-! ## Cold start (R3, R4, R53, R413, R416) -/

/-- ALWAYS_ON_LOSS: the logic die loses its supply; Itsal goes on. -/
def execAlwaysOnLoss (s : State) : Host.Outcome State Fault Refusal :=
  .next { s with powered := false }

theorem wf_reset_parts : Sparse.wf csrReset ([] : List (Nat × W32)) = true ∧ Sparse.wf memDefault [] = true ∧
    Sparse.wf tagDefault [] = true ∧ evrOk Evr.reset ∧ ∀ k : Fin 13, coreOk k coresReset[k] := by
  refine ⟨rfl, rfl, rfl, ⟨by decide, by decide, by decide, by decide⟩, ?_⟩
  unfold coreOk
  decide

/-- The state after power-good rises: everything at reset but what fuses, flash and Itsal hold, in the role that ROLE[1:0]
names (R3, R4). -/
def State.reborn (s : State) (role : Nat) : State :=
  { State.reset with
      pending := s.pending, free := s.free, fuses := s.fuses, flash := s.flash, repair := s.repair,
      role := if role = 3 then 0 else role,
      boot := { Boot.reset with records := s.boot.records, metaGen := s.boot.metaGen },
      sec := { Sec.reset with modelKeys := s.sec.modelKeys, keySigs := s.sec.keySigs },
      inv := { Inv.reset with entries := s.inv.saved, saved := s.inv.saved,
                              fwIds := s.inv.fwIds, serials := s.inv.serials },
      its := { s.its with flying := [], queue := [], band := 0, bandNext := none },
      eth := { Eth.reset with out := s.eth.out, rkeysUsed := s.eth.rkeysUsed },
      agrOut := s.agrOut,
      tns := { Tense.reset with cycles := s.its.cur.cycles, opMs := s.its.saved.opMs } }

/-- Power-good rises on a logic die that has no power. -/
def Act.reborn (role : Nat) : Act :=
  ⟨fun s => if s.powered then s else s.reborn role,
   fun s h => by
     show Wf (if s.powered then s else s.reborn role)
     split
     · exact h
     · exact ⟨wf_reset_parts.1, ⟨wf_reset_parts.2.1, h.2.1.2⟩, wf_reset_parts.2.2⟩,
   fun s => by split <;> rfl,
   fun s => by split <;> exact .refl _,
   fun s h => by simp [h]⟩

/-- The physical tiles behind the logical tiles: a failed one of the first 16 is replaced by the next spare that works, or
left out (R264). -/
def placeTiles (bad : Nat) : List Nat → List Nat → List Nat
  | [], _ => []
  | p :: r, spares =>
    if !bitOf bad p then p :: placeTiles bad r spares
    else match spares with
      | [] => placeTiles bad r []
      | q :: t => q :: placeTiles bad r t

/-- Load the tiles that the fuses and the repair record name. -/
def Act.loadTiles : Act :=
  Act.get fun s =>
    let bad := (s.repair.filter fun e => e.kind == 3).foldl (fun m e => setBit m e.index) s.fuses.tilesBad
    (Act.setF F.CNJ_TILE_FAIL.fail bad).andThen
      (Act.setTiles (placeTiles bad (List.range 16) ([16, 17].filter fun p => !bitOf bad p)))

/-- Load the lines that the fuses and the repair record name. -/
def Act.loadLines : Act :=
  Act.get fun s =>
    Act.each ((bitsOf s.fuses.linesBad 32) ++ (s.repair.filter fun e => e.kind == 5).map fun e => e.index) fun i =>
      Act.get fun s =>
        if h : i < 32 then
          let left := s.fld F.AGR_LINE_MAP.spares_left
          if left = 0 then Act.line ⟨i, h⟩ fun x => { x with dead := true }
          else (if left = 2 then Act.setF F.AGR_LINE_MAP.spare0_for i else Act.setF F.AGR_LINE_MAP.spare1_for i).andThen
            (Act.setF F.AGR_LINE_MAP.spares_left (left - 1))
        else Act.skip

/-- Load the cores that the repair record has retired (R421). -/
def Act.loadCores : Act :=
  Act.get fun s => Act.each (s.repair.filter fun e => e.kind == 4 && e.index < 13) fun e =>
    Act.setF (F.RST_CORE_STAT.role e.index) 2

/-- The scheduler core starts from the POWER_UP record of this cold start (R198). -/
def Its.handledAtStart (x : Its) : Nat :=
  match x.log.find? fun r => r.typ == 0x30 with
  | some r => r.seq - 1
  | none => x.nextSeq - 1

/-- COLD_START: always-on power-good rises. The DDR5 keys are drawn anew (R356), and without a random source none is (R358).
-/
def Act.coldStart (role : Nat) (trngOk : Bool) : Act :=
  Act.get fun s =>
    if s.powered then Act.skip
    else Act.seq [
      Act.reborn role,
      Act.itsx fun x => { x with handled := x.handledAtStart },
      Act.loadTiles, Act.loadLines, Act.loadCores,
      Act.setF F.SEC_MODEL_KEYS.valid (maskOf ((List.finRange 8).filterMap fun i =>
        if (s.sec.modelKeys[i]).isSome then some i.val else none)),
      Act.when (s.fuses.lifecycle = 0 || s.fuses.lifecycle = 3) (Act.setF F.SEC_STATUS.debug 7),
      Act.when trngOk (Act.fresh fun a => Act.fresh fun b => Act.secx fun x =>
        { x with ddrKeys := some (Config.random a.toNat % 2 ^ 128, Config.random b.toNat % 2 ^ 128) }),
      Act.when (role = 3) (Act.emit 0x29 0x0F0F 3 []),
      Act.when (!trngOk) (Act.seq [
        Act.setB F.SEC_STATUS.trng_fail true,
        Act.setB F.DDR_STATUS.trng_off true,
        Act.setF F.DDR_STATUS.state 4,
        Act.fresh fun w => Act.emit 0x01 0x0E05 3 [w.toNat]])]

def execColdStart (role : BitVec 2) (trngOk : Bool) (s : State) : Host.Outcome State Fault Refusal :=
  (Act.coldStart role.toNat trngOk).go s

end Sys2Proof.Machine
end

