-- ==== Sys2Proof/Machine/Update.lean ====
section
/-!
DEFINITION. Update: class 0x09, activation and handover, health, slot-device firmware, and PLDM (R347, R384, R397 to R410).
-/
namespace Sys2Proof.Machine

/-! ## Targets (R384, R409) -/

/-- The slot of a slot-flash target 0x10 + s. -/
def flashSlot (target : Nat) : Option (Fin 8) := if h : 0x10 ≤ target ∧ target - 0x10 < 8 then some ⟨target - 0x10, h.2⟩ else none

/-- Whether a target code exists. -/
def targetOk (target : Nat) : Bool := target < 2 || (flashSlot target).isSome

/-- The staging area of a target. -/
def stageArea (target : Nat) : Nat :=
  if target = 0 then 0x1384000000 else if target = 1 then 0x1380000000 else 0x1388000000 + 0x4000000 * (target - 0x10)

/-- What is read of a target's staging area. -/
def State.stageRd (s : State) (target i : Nat) : Byte := s.byte (stageArea target + i)

/-- Whether a target is in TRANSITION (but for a queued activation) or programming. -/
def State.targetMoves (s : State) (target : Nat) : Bool :=
  if target = 0 then s.boot.trial || s.boot.programming
  else if target = 1 then s.fld F.BOOT_STATUS.svc = 3 || s.fld F.BOOT_STATUS.svc = 4
  else match flashSlot target with | some n => s.flashing n | none => false

/-- The activation of a target that is queued. -/
def State.queued (s : State) (target : Nat) : Option Activation := s.boot.queue.find? fun q => q.target == target + 1

/-- The target of a PLDM component (R408). -/
def componentTarget (c : Nat) : Option Nat :=
  if c = 1 then some 0 else if c = 2 then some 1 else if 0x1000 ≤ c ∧ c < 0x1008 then some (c - 0x1000 + 0x10) else none

/-- Whether PLDM is at work on a target. -/
def State.pldmHas (s : State) (target : Nat) : Bool :=
  match s.eth.pldmStaging with | some x => componentTarget x.1 == some target | none => false

/-- A command of class 0x09: only the manager may send it, on a target that exists. -/
def Act.updateCommand (m : Fin 16) (cmd target : Nat) (body : State → Act) : Act :=
  Act.managerCommand m 9 cmd (if targetOk target then Act.get body else Act.respond m 9 cmd 5 [])

/-- STAGE_WRITE. -/
def Act.stageWrite (m : Fin 16) (target off : Nat) (data : List Byte) : Act :=
  Act.updateCommand m 1 target fun s =>
    if off % 4 ≠ 0 || data.length % 4 ≠ 0 || data.length < 4 || 4096 < data.length || 0x4000000 < off + data.length then
      Act.respond m 9 1 5 []
    else if s.targetMoves target || (s.queued target).isSome || s.pldmHas target then Act.respondBusy m 9 1 0
    else Act.needDdr m 9 1 ((Act.store (stageArea target + off) data).andThen (Act.respond m 9 1 0 []))

def execStageWrite (m : Fin 16) (target off : Nat) (data : List (BitVec 8)) (s : State) :
    Host.Outcome State Fault Refusal := (Act.stageWrite m target off data).go s

/-! ## Commit (R391, R398, R399, R405, R409) -/

/-- The status that a failed check of R391 is answered with. -/
def checkStatus (c : Nat) : Nat := if c = 6 || c = 10 then 9 else if c = 7 then 3 else 6

/-- The bank that does not run. -/
def State.idleBank (s : State) : Nat := if s.boot.svcUp then 1 - s.fld F.BOOT_STATUS.svc_bank else 0

/-- The base of a service bank (R383). -/
def bankBase (b : Nat) : Nat := 0x10400000 + 0x800000 * b

/-- The check of R391 on what is staged for target 0 or 1. -/
def State.stagedCheck (s : State) (target : Nat) : Nat :=
  s.imgCheck (s.stageRd target) (target + 1) (if target = 1 then bankBase s.idleBank else 0) false

/-- Step 1 of R398: open a record for the slot not running, in state EMPTY; the slot is then erased and programmed. -/
def Act.commitResident : Act :=
  Act.get fun s =>
    let rd := s.stageRd 0
    let top := s.boot.records.foldl (fun n r => max n r.seq) 0
    let n := if s.boot.running = 2 then (if s.slotState 0 = 0x1F then 1 else 0) else s.otherSlot
    (Act.recordAdd ⟨n, 0xFF, 0xFF, 0xFF, rdNat rd 14 1, top + 1, imgSize rd, imgDigest rd⟩).andThen
      (Act.bootx fun b => { b with programming := true })

/-- A verified service image is copied into the bank not running (R399). -/
def Act.commitService : Act :=
  Act.get fun s =>
    let rd := s.stageRd 1
    let b := s.idleBank
    Act.seq [
      Act.zeroBytes (bankBase b) 0x800000,
      Act.imgCopy rd (bankBase b),
      Act.bootx fun x => { x with
        staged := imgId rd, stagedBank := b, bankSects := x.bankSects.setIfInBounds b (imgSects rd (bankBase b)),
        vectors := x.vectors.setIfInBounds b (bankBase b + imgVector rd 1, bankBase b + imgVector rd 2) },
      Act.setF F.BOOT_STATUS.svc 1]

/-- Start the update of slot n's boot flash from its staging area (R405, R407). -/
def Act.flashStart (n : Fin 8) (size : Nat) : Act :=
  Act.get fun s => Act.seq [
    Act.setF (F.BOOT_SLOTFL_STAT.state n) 1, Act.setF (F.BOOT_SLOTFL_STAT.reason n) 0, Act.setF (F.BOOT_SLOTFL_STAT.done n) 0,
    Act.bootx fun b => { b with
      slotFlash := b.slotFlash.set n (some ⟨size, Config.sm3 (s.bytes (stageArea (0x10 + n)) size)⟩) },
    Act.invx fun v => { v with fwIds := v.fwIds.set n 0 },
    Act.slotPins n fun p => { p with flashHold := true },
    Act.setB (F.SLT_STAT.fl_sel n) true,
    Act.rstPin n,
    Act.emit 0x29 0x0F08 2 [n, 0]]

/-- The status with which an update of slot n's boot flash is refused; 0 where it may start (R405, R406). -/
def State.flashRefusal (s : State) (n : Fin 8) (size : Nat) : Nat :=
  if !s.efuseOn n || s.phase n = 1 then 4
  else if size = 0 || 0x4000000 < size || s.fld (F.BOOT_SLOTFL_CFG.limit n) * 65536 < size then 5
  else 0

/-- STAGE_COMMIT. -/
def Act.stageCommit (m : Fin 16) (target size : Nat) : Act :=
  Act.updateCommand m 2 target fun s =>
    if s.targetMoves target || (s.queued target).isSome || s.pldmHas target then Act.respondBusy m 9 2 0
    else Act.needDdr m 9 2
      (match flashSlot target with
       | some n =>
         if s.flashRefusal n size ≠ 0 then Act.respond m 9 2 (s.flashRefusal n size) []
         else (Act.flashStart n size).andThen
          (Act.respondItems m 9 2 0 [Config.sm3 (s.bytes (stageArea target) size)])
       | none =>
         if s.stagedCheck target ≠ 0 then Act.respond m 9 2 (checkStatus (s.stagedCheck target)) []
         else Act.seq [
          if target = 0 then Act.commitResident else Act.commitService,
          Act.emit 0x29 0x0F04 1 [target, imgDigest (s.stageRd target) % 2 ^ 64],
          Act.respondItems m 9 2 0 [imgDigest (s.stageRd target)]])

def execStageCommit (m : Fin 16) (target size : Nat) (s : State) : Host.Outcome State Fault Refusal :=
  (Act.stageCommit m target size).go s

/-- IMAGE_SLOT_WRITTEN: the slot has been erased and programmed; when the read-back agrees, its state is WRITTEN (R398).
Otherwise its content is open: free bytes. -/
def Act.imageSlotWritten (ok : Bool) : Act :=
  Act.get fun s =>
    if !s.powered || !s.coreUp 0 || !s.boot.programming then Act.skip
    else match s.boot.records with
      | [] => Act.skip
      | r :: _ => Act.seq [
          Act.flashErase (slotOffset r.slot) 0x800000,
          (if ok then (Act.flashBytes (slotOffset r.slot) (s.bytes (stageArea 0) r.size)).andThen (Act.slotState r.slot 0x7F)
           else Act.fresh fun w => Act.flashBytes (slotOffset r.slot)
            ((List.range (min r.size 0x800000)).map (Config.respByte 9 0x101 [w.toNat]))),
          Act.bootx fun b => { b with programming := false }]

def execImageSlotWritten (ok : Bool) (s : State) : Host.Outcome State Fault Refusal := (Act.imageSlotWritten ok).go s

/-- SLOT_FLASH_DONE: programming of slot n's boot flash ends with result 0, or FAILED with the result as its reason. -/
def execSlotFlashDone (n : Fin 8) (result : Fin 6) (s : State) : Host.Outcome State Fault Refusal :=
  (Act.get fun s => Act.when s.powered (Act.flashEnd n result)).go s

/-! ## Handover (R401 to R403) -/

/-- What the outgoing power core writes into the handover record, whose layout the manual does not give (log entry 8):
standing orders with their caps, role assignments, demotion states and the staged epoch with its share and deadlines. -/
def State.handoverItems (s : State) : List Nat :=
  s.targets.toList.flatMap (fun t => [t.stM, t.stH, capCode (t.cap 1), capCode (t.cap 2)]) ++ s.learned.roles.toList.flatMap (fun r => [r.holder.getD 0xFF, b2n r.demoted]) ++
    [s.fld F.CAP_EPOCH_STAGED.epoch, s.fld F.CAP_STATUS.staged, s.fld F.CAP_STAGED_W.watts] ++
    s.tns.deadlines.flatMap fun d => [d.1, d.2]

/-- Core k, 1 or 2, moves to the image with the given sections, at vector v: it parks, is reset and released. The objects it
owns go to the security core and back, so nothing of them is poisoned; the lines it is a member of are. -/
def Act.moveCore (k : Fin 13) (sects : List Sect) (v : Nat) : Act :=
  Act.seq [
    Act.poisonLinesOf k 0,
    Act.holdCore k,
    Act.setVector k v,
    Act.setRegions k sects,
    Act.setGpr k 11 0x11400000#64,
    Act.releaseCore k]

/-- Cores 1 and 2 move to a bank, or without one to the resident image. -/
def Act.moveCores (bank : Option Nat) : Act :=
  Act.get fun s =>
    let sects := match bank with | some b => (s.boot.bankSects[b]?).getD [] | none => s.boot.resSects
    let vec := match bank with | some b => (s.boot.vectors[b]?).getD (0, 0) | none => (s.resVector 1, s.resVector 2)
    Act.seq [
      Act.store 0x11400000 ((List.range (min 4096 (Config.respLen 9 0x100))).map (Config.respByte 9 0x100 s.handoverItems)),
      Act.moveCore 1 sects vec.1,
      Act.moveCore 2 sects vec.2]

/-- The service image's own jobs, as the image that runs has them. -/
def Act.svcLoad : Act :=
  Act.get fun s => Act.learnedx fun x => { x with svc := Vector.ofFn fun j : Fin 3 =>
    let f := Config.svcJob s.boot.service.digest j
    { entry := f 0, threads := f 1, done := f 2, ins := [f 3, f 4, f 5], outs := [f 6, f 7, f 8] } }

/-- The handover to the staged service image (R402): HANDOVER, then TRIAL with a health window, and stage 3 (R389). Its
completion and the confirmed health of the image are recorded under one code (R411; DEDUCED, log entry 101). -/
def Act.handover (manager : Bool) : Act :=
  Act.get fun s => Act.seq [
    Act.setF F.BOOT_STATUS.svc 3,
    Act.bootx fun b => { b with
      prevBank := if b.svcUp then some (s.fld F.BOOT_STATUS.svc_bank) else none, prev := b.service,
      service := b.staged, svcUp := true, windowEnd := some (s.tns.tick + s.fld F.BOOT_CFG.window_s * 1000000),
      windowSvc := true, needManager := manager, managerOk := false, windowHalts := Vector.replicate 2 0 },
    Act.setF F.BOOT_STATUS.svc_bank s.boot.stagedBank,
    Act.setB F.BOOT_HEALTH.self_ok false,
    Act.svcLoad,
    Act.moveCores (some s.boot.stagedBank),
    Act.setF F.BOOT_STATUS.svc 4,
    Act.setF F.BOOT_STATUS.stage 3,
    Act.emit 0x29 0x0F07 1 [1, s.boot.staged.digest % 2 ^ 64]]

/-- A service image falls back to the bank that ran before the activation, or to the resident image.  cause: 0 window, 1
halts, 2 CANCEL (the model's numbering, log entry 3). -/
def Act.fallback (cause : Nat) : Act :=
  Act.get fun s => Act.seq [
    Act.emit 0x29 0x0F02 3 [1, s.fld F.BOOT_STATUS.svc_bank, s.boot.prevBank.getD 0xFF, cause],
    Act.moveCores s.boot.prevBank,
    Act.bootx fun b => { b with
      svcUp := b.prevBank.isSome, service := b.prev, windowEnd := none, windowHalts := Vector.replicate 2 0 },
    Act.svcLoad,
    Act.setF F.BOOT_STATUS.svc_bank (s.boot.prevBank.getD 0),
    Act.setF F.BOOT_STATUS.svc (if s.boot.prevBank.isSome then 5 else 0),
    Act.setF F.BOOT_STATUS.stage (if s.boot.prevBank.isSome then 3 else 2),
    Act.setB F.BOOT_HEALTH.self_ok false,
    Act.setB F.BOOT_STATUS.transition (!s.boot.queue.isEmpty)]

/-! ## Activation (R400, R404) -/

/-- The status that an ACTIVATE is refused with; 0 where it may be queued. -/
def State.activateStatus (s : State) (target : Nat) : Nat :=
  if s.targetMoves target then 7
  else if target = 0 then (if s.boot.running ≠ 2 && s.slotState s.otherSlot = 0x7F || s.boot.running = 2 && (s.slotState 0 = 0x7F || s.slotState 1 = 0x7F) then 0 else 6)
  else if s.fld F.BOOT_STATUS.svc = 1 || s.fld F.BOOT_STATUS.svc = 2 then 0
  else 6

/-- Queue the activation of a target, in place of an earlier one of it, which is recorded; a hold present is recorded. -/
def Act.queueActivation (target : Nat) (manager : Bool) : Act :=
  Act.get fun s => Act.seq [
    Act.when (s.queued target).isSome (Act.emit 0x29 0x0F06 3 [target, 1]),
    Act.bootx fun b => { b with
      queue := (b.queue.filter fun q => q.target != target + 1) ++ [⟨target + 1, manager, s.tns.tick⟩] },
    Act.when (target = 1) (Act.setF F.BOOT_STATUS.svc 2),
    Act.setB F.BOOT_STATUS.transition true,
    Act.when (s.holdMask ≠ 0) (Act.emit 0x29 0x0F05 2 [target, s.holdMask])]

/-- ACTIVATE. -/
def Act.activate (m : Fin 16) (target flags : Nat) : Act :=
  Act.managerCommand m 9 3 (Act.get fun s =>
    if 1 < target then Act.respond m 9 3 5 []
    else if s.activateStatus target ≠ 0 then Act.respond m 9 3 (s.activateStatus target) []
    else (Act.queueActivation target (bitOf flags 0)).andThen (Act.respond m 9 3 0 []))

def execActivate (m : Fin 16) (target flags : Nat) (s : State) : Host.Outcome State Fault Refusal :=
  (Act.activate m target flags).go s

/-- Take an activation off the queue: a service image is STAGED again, and TRANSITION ends unless something else holds it.
-/
def Act.unqueue (q : Activation) : Act :=
  Act.get fun s => Act.seq [
    Act.bootx fun b => { b with queue := b.queue.filter fun x => x.target != q.target },
    Act.when (q.target = 2) (Act.setF F.BOOT_STATUS.svc 1),
    Act.setB F.BOOT_STATUS.transition
      (s.boot.trial || s.fld F.BOOT_STATUS.svc = 4 || s.boot.queue.any fun x => x.target != q.target)]

/-- Carry out an activation whose holds have cleared: the handover, or TRIAL and a warm reset (R398, R402). -/
def Act.carryOut (q : Activation) : Act :=
  Act.get fun s =>
    if q.target = 2 then Act.seq [
      Act.unqueue q, Act.handover q.manager, Act.setB F.BOOT_STATUS.transition true]
    else
      let n := if s.boot.running = 2 then (if s.slotState 0 = 0x7F then 0 else 1) else s.otherSlot
      Act.seq [
        Act.unqueue q,
        Act.slotRec n fun r => { r with state := r.state &&& 0x3F, flags := if q.manager then 0xFF else 0xFE },
        Act.warmReset .activate]

/-- ACTIVATION_RECHECK: the oldest activation starts once its holds clear. -/
def Act.activationRecheck : Act :=
  Act.get fun s =>
    match s.boot.queue with
    | [] => Act.skip
    | q :: _ => Act.when (s.powered && s.coreUp 0 && s.coreUp 2 && s.holdMask = 0) (Act.carryOut q)

def execActivationRecheck (s : State) : Host.Outcome State Fault Refusal := Act.activationRecheck.go s

/-- Seconds before an activation is dropped (BOOT_QUEUE.left_s). -/
def State.queueLeft (s : State) (q : Activation) : Nat :=
  ceilDiv (q.since + s.fld F.BOOT_CFG.queue_min * 60000000 - s.tns.tick) 1000000

/-- ACTIVATION_DROP: an activation still held after queue_min. -/
def Act.activationDrop : Act :=
  Act.get fun s =>
    Act.each (s.boot.queue.filter fun q => s.queueLeft q = 0 && s.powered && s.coreUp 2 && s.holdMask ≠ 0) fun q =>
      (Act.unqueue q).andThen (Act.emit 0x29 0x0F06 3 [q.target - 1, 0])

def execActivationDrop (s : State) : Host.Outcome State Fault Refusal := Act.activationDrop.go s

/-- CANCEL: drops a queued activation, or forces the fallback of a trial. -/
def Act.cancel (m : Fin 16) (target : Nat) : Act :=
  Act.managerCommand m 9 6 (Act.get fun s =>
    if 1 < target then Act.respond m 9 6 5 []
    else match s.queued target with
      | some q => Act.seq [Act.unqueue q, Act.emit 0x29 0x0F06 3 [target, 3], Act.respond m 9 6 0 []]
      | none =>
        if target = 1 && s.fld F.BOOT_STATUS.svc = 4 then (Act.respond m 9 6 0 []).andThen (Act.fallback 2)
        else if target = 0 && s.boot.trial then (Act.respond m 9 6 0 []).andThen (Act.warmReset .health)
        else Act.respond m 9 6 6 [])

def execCancel (m : Fin 16) (target : Nat) (s : State) : Host.Outcome State Fault Refusal := (Act.cancel m target).go s

/-! ## Health (R397) -/

/-- Advance an svn counter to v (R388): 0 resident, 1 service. -/
def Act.advanceSvn (kind v : Nat) : Act :=
  Act.get fun s =>
    if (if kind = 0 then s.fuses.svnResident else s.fuses.svnService) < v then Act.seq [
      Act.fusesx (·.raise kind v) fun _ => Fuses.raise_below ..,
      Act.emit 0x29 0x0F09 1 [kind, v]]
    else Act.skip

/-- Health is confirmed when the image has confirmed its own and, where the activation set the flag, the manager has. -/
def Act.confirmCheck : Act :=
  Act.get fun s =>
    if s.boot.windowEnd.isNone || !s.flag F.BOOT_HEALTH.self_ok || (s.boot.needManager && !s.boot.managerOk) then Act.skip
    else Act.seq [
      (if s.boot.windowSvc then Act.seq [
          Act.setF F.BOOT_STATUS.svc 5, Act.advanceSvn 1 s.boot.service.svn,
          Act.emit 0x29 0x0F07 1 [1, s.boot.service.digest % 2 ^ 64]]
       else Act.seq [
          Act.slotState s.boot.running 0x1F, Act.slotState s.otherSlot 0x0F, Act.advanceSvn 0 s.boot.resident.svn,
          Act.bootx fun b => { b with trial := false }, Act.setB F.BOOT_STATUS.trial false,
          Act.emit 0x29 0x0F07 1 [0, s.boot.resident.digest % 2 ^ 64]]),
      Act.bootx fun b => { b with windowEnd := none },
      Act.setB F.BOOT_HEALTH.self_ok false,
      Act.setB F.BOOT_STATUS.transition (!s.boot.queue.isEmpty)]

/-- HEALTH_CONFIRM: a write of BOOT_HEALTH by core k; only cores 1 and 2 confirm, while a window runs. -/
def Act.healthWrite (k : Fin 13) (v : Nat) : Act :=
  Act.get fun s =>
    if (k = 1 || k = 2) && bitOf v 31 && s.boot.windowEnd.isSome then
      (Act.setB F.BOOT_HEALTH.self_ok true).andThen Act.confirmCheck
    else Act.skip

def execHealthConfirm (k : Fin 13) (v : BitVec 32) (s : State) : Host.Outcome State Fault Refusal :=
  (Act.get fun s => Act.when (s.powered && s.coreUp k) (Act.healthWrite k v.toNat)).go s

/-- CONFIRM: the manager's confirmation, while the window of the target runs. -/
def Act.confirm (m : Fin 16) (target : Nat) : Act :=
  Act.managerCommand m 9 4 (Act.get fun s =>
    if 1 < target then Act.respond m 9 4 5 []
    else if s.boot.windowEnd.isNone || s.boot.windowSvc ≠ (target = 1) then Act.respond m 9 4 6 []
    else Act.seq [Act.bootx fun b => { b with managerOk := true }, Act.confirmCheck, Act.respond m 9 4 0 []])

def execConfirm (m : Fin 16) (target : Nat) (s : State) : Host.Outcome State Fault Refusal := (Act.confirm m target).go s

/-- HEALTH_WINDOW_EXPIRY: unconfirmed, a resident trial is reset with cause HEALTH, and a service image falls back. -/
def Act.healthExpiry : Act :=
  Act.get fun s =>
    match s.boot.windowEnd with
    | none => Act.skip
    | some t =>
      if !s.powered || !s.coreUp 0 || s.tns.tick < t then Act.skip
      else if s.boot.windowSvc then Act.fallback 0
      else Act.warmReset .health

def execHealthWindowExpiry (s : State) : Host.Outcome State Fault Refusal := Act.healthExpiry.go s

/-! ## Query and keys (R387, R409) -/

/-- UPDATE_QUERY; the progress of a hidden slot reads all ones (R366). -/
def Act.updateQuery (m : Fin 16) (target : Nat) : Act :=
  Act.updateCommand m 5 target fun s =>
    let recs := [0, 1].flatMap fun n => match s.slotRec n with
      | some r => [r.slot, r.state, r.attempts, r.flags, r.svn, r.seq, r.size, r.digest] | none => [n, 0xFF]
    let left := match s.queued target with | some q => s.queueLeft q | none => 0
    Act.respondItems m 9 5 0
      (if target = 0 then [s.slotState s.otherSlot, s.boot.resident.digest, s.boot.resident.version, s.boot.resident.svn] ++ recs ++ [left]
       else if target = 1 then [s.fld F.BOOT_STATUS.svc, s.boot.service.digest, s.boot.service.version, s.boot.service.svn,
         s.boot.staged.digest, s.boot.staged.version, s.boot.staged.svn, left]
       else [leNat (s.veiled (target - 0x10) 4 (s.reg (R.BOOT_SLOTFL_STAT (target - 0x10))).toNat)])

def execUpdateQuery (m : Fin 16) (target : Nat) (s : State) : Host.Outcome State Fault Refusal :=
  (Act.updateQuery m target).go s

/-- IMAGE_KEY_FUSE, in OWNED. -/
def Act.imageKeyFuse (m : Fin 16) (slot digest sig : Nat) : Act :=
  Act.managerCommand m 9 7 (Act.get fun s =>
    if h : 1 ≤ slot ∧ slot < 4 then
      if s.fuses.lifecycle ≠ 2 || bitOf s.fuses.keysFused slot then Act.respond m 9 7 4 []
      else if !s.ownerSigned (leBytes 1 slot ++ leBytes 32 digest ++ s.uid) sig then Act.respond m 9 7 9 []
      else Act.seq [
        Act.fusesx (·.fuseKey ⟨slot, h.2⟩ digest) fun _ => Fuses.fuseKey_below ..,
        Act.emit 0x29 0x0F09 1 [2, slot],
        Act.respond m 9 7 0 []]
    else Act.respond m 9 7 5 [])

def execImageKeyFuse (m : Fin 16) (slot : Nat) (digest : BitVec 256) (sig : BitVec 512) (s : State) :
    Host.Outcome State Fault Refusal := (Act.imageKeyFuse m slot digest.toNat sig.toNat).go s

/-- Whether a slot is the last owner slot that is fused and not revoked. -/
def State.lastKey (s : State) (slot : Nat) : Bool :=
  slot ≠ 0 && bitOf s.fuses.keysFused slot && !bitOf s.fuses.keysRevoked slot &&
    ([1, 2, 3].all fun i => i = slot || !bitOf s.fuses.keysFused i || bitOf s.fuses.keysRevoked i)

/-- IMAGE_KEY_REVOKE. -/
def Act.imageKeyRevoke (m : Fin 16) (slot sig : Nat) : Act :=
  Act.managerCommand m 9 8 (Act.get fun s =>
    if 3 < slot then Act.respond m 9 8 5 []
    else if s.lastKey slot then Act.respond m 9 8 4 []
    else if !s.ownerSigned (leBytes 1 slot ++ s.uid) sig then Act.respond m 9 8 9 []
    else Act.seq [
      Act.fusesx (·.revokeKey slot) fun _ => Fuses.revokeKey_below ..,
      Act.emit 0x29 0x0F09 1 [3, slot],
      Act.respond m 9 8 0 []])

def execImageKeyRevoke (m : Fin 16) (slot : Nat) (sig : BitVec 512) (s : State) : Host.Outcome State Fault Refusal :=
  (Act.imageKeyRevoke m slot sig.toNat).go s

/-! ## PLDM (R347, R408) -/

/-- The request of the controller's own that is pending once the update agent's message has been taken: a response answers
it, an UpdateComponent of firmware update calls for RequestFirmwareData, and a cancel ends it. The place of the type, of the
request bit and of the command code, and the codes, are those of DSP0240 and DSP0267 (PRESUMED, log entry 30). -/
def pldmPending (old : Option Nat) (msg : List Byte) : Option Nat :=
  if !bitOf (leAt msg 0 1) 7 then none
  else if leAt msg 1 1 % 64 ≠ 5 then old
  else match leAt msg 2 1 with
    | 0x14 => some 0x15
    | 0x1C => none
    | 0x1D => none
    | _ => old

/-- PLDM_PASSTHROUGH: the controller's PLDM response, and its own pending request after it, with flags bit 0.  PLDM types 0
and 5 alone are supported. -/
def Act.pldm (m : Fin 16) (cmd : Nat) (msg : List Byte) : Act :=
  Act.managerCommand m 0xB cmd (Act.get fun s =>
    let typ := leAt msg 1 1 % 64
    let own := pldmPending s.eth.pldmReq msg
    if typ ≠ 0 && typ ≠ 5 then Act.respond m 0xB cmd 11 []
    else (Act.ethx fun e => { e with pldmReq := own }).andThen
      (Act.respondWith m 0xB cmd 0 (b2n own.isSome) 0 (itemBytes 0xB cmd [leNat msg, own.getD 0])))

def execPldmPassthrough (m : Fin 16) (msg : List (BitVec 8)) (s : State) : Host.Outcome State Fault Refusal :=
  (Act.pldm m 1 msg).go s

/-- Note a PLDM component at work: none, or its identifier, size and whether it is verified; and the request of the
controller's own that now waits for its answer. -/
def Act.pldmStaging (x : Option (Nat × Nat × Nat)) (own : Option Nat) : Act :=
  Act.ethx fun e => { e with pldmStaging := x, pldmReq := own }

/-- Whether an UPDATE_COMPONENT step may go on: the target is free, and no other component is at work. -/
def State.pldmMay (s : State) (component target : Nat) : Bool :=
  s.powered && s.coreUp 2 && s.coreUp 0 && s.active && !s.targetMoves target && (s.queued target).isNone &&
    (match s.eth.pldmStaging with | some x => x.1 == component | none => true)

/-- UPDATE_COMPONENT: data into the staging area; the checks of R391, or for a slot flash the start of R405; and the apply.
A component that is refused leaves the flow. Each step ends in a request to the update agent: RequestFirmwareData until all
data have come, then TransferComplete, VerifyComplete and ApplyComplete (R347; codes PRESUMED, log entry 30). -/
def Act.updateComponent (component size : Nat) (step : PldmStep) : Act :=
  Act.get fun s =>
    match componentTarget component with
    | none => Act.skip
    | some target =>
      if !s.pldmMay component target then Act.skip
      else match step with
        | .write off data =>
          if 4096 < data.length || size < off + data.length || 0x4000000 < size then Act.pldmStaging none (some 0x16)
          else (Act.store (stageArea target + off) data).andThen
            (Act.pldmStaging (some (component, size, 0)) (some (if off + data.length < size then 0x15 else 0x16)))
        | .verify =>
          if s.eth.pldmStaging ≠ some (component, size, 0) then Act.skip
          else match flashSlot target with
            | some n =>
              if s.flashRefusal n size ≠ 0 then Act.pldmStaging none (some 0x17)
              else (Act.flashStart n size).andThen (Act.pldmStaging (some (component, size, 2)) (some 0x17))
            | none =>
              if s.stagedCheck target ≠ 0 then Act.pldmStaging none (some 0x17)
              else Act.pldmStaging (some (component, size, 1)) (some 0x17)
        | .apply =>
          if s.eth.pldmStaging ≠ some (component, size, 1) then Act.skip
          else Act.seq [
            if target = 0 then Act.commitResident else Act.commitService,
            Act.emit 0x29 0x0F04 1 [target, imgDigest (s.stageRd target) % 2 ^ 64],
            Act.pldmStaging none (some 0x18),
            Act.ethx fun e => { e with pldmApplied := e.pldmApplied ++ [target] }]

def execUpdateComponent (component size : Nat) (step : PldmStep) (s : State) : Host.Outcome State Fault Refusal :=
  (Act.updateComponent component size step).go s

/-- ACTIVATE_FIRMWARE: ACTIVATE of each applied component, without the manager flag. -/
def Act.activateFirmware : Act :=
  Act.get fun s =>
    if !s.powered || !s.coreUp 2 || !s.coreUp 0 then Act.skip
    else (Act.each s.eth.pldmApplied fun t => Act.get fun s =>
        Act.when (s.activateStatus t = 0) (Act.queueActivation t false)).andThen
      (Act.ethx fun e => { e with pldmApplied := [] })

def execActivateFirmware (s : State) : Host.Outcome State Fault Refusal := Act.activateFirmware.go s

end Sys2Proof.Machine
end

