-- ==== Sys2Proof/Machine/Cores.lean ====
section
/-!
DEFINITION. Crashed cores, watchdogs, sparing, and repair of SRAM rows (R416, R418 to R421, R424).
-/
namespace Sys2Proof.Machine

/-! ## Resets (R416, R421) -/

/-- Reset core k; it restarts with its ROM self-test. -/
def Act.restart (k : Fin 13) : Act := (Act.coreReset k).andThen (Act.setF (F.RST_CORE_STAT.role k) 3)

/-- CORE_RESET: core k is reset by hardware. -/
def execCoreReset (k : Fin 13) (s : State) : Host.Outcome State Fault Refusal :=
  (Act.get fun s => Act.when s.powered (Act.restart k)).go s

/-- A write of RST_CORE_CMD by core by_: the security core resets the core it names, 1 to 12. -/
def Act.coreCmd (by_ : Fin 13) (v : W32) : Act :=
  Act.seq [
    Act.plainWrite by_ R.RST_CORE_CMD v,
    match coreNo (v.toNat % 16) with
    | some k => Act.when (by_ = 0 && bitOf v.toNat 8 && k ≠ 0) (Act.restart k)
    | none => Act.skip]

def execRstCoreCmd (by_ : Fin 13) (v : BitVec 32) (s : State) : Host.Outcome State Fault Refusal :=
  (Act.get fun s => Act.when (s.powered && s.coreUp by_) (Act.coreCmd by_ v)).go s

/-- The halts and expiries of core k within a time in us. -/
def State.haltsWithin (s : State) (k us : Nat) : Nat :=
  s.haltTimes.countP fun p => p.1 == k && s.tns.tick < p.2 + us

/-- The spare that takes a slot: the lowest-numbered core whose role is spare (R420). -/
def State.spareCore (s : State) : Option (Fin 13) := (List.finRange 13).find? fun k => s.fld (F.RST_CORE_STAT.role k) = 1

/-- A spare takes slot n (R420): the map, its regions and its release, line 9, and what the slot owns.  A scrub restarts
from step 1 (R367).  With no spare free the slot stays unserved. -/
def Act.takeSlot (n : Fin 8) : Act :=
  Act.get fun s =>
    match s.spareCore with
    | none => Act.skip
    | some q =>
      Act.seq [
        Act.setReg R.RST_SLOT_MAP (fldPut (s.reg R.RST_SLOT_MAP) (4 * n + 3) (4 * n) q),
        Act.setF (F.RST_CORE_STAT.role q) 0,
        Act.slotMoved n (s.slotCore n),
        Act.residentCore q,
        Act.releaseCore q,
        Act.raiseLine q 9,
        Act.scrubAt n (if s.sec.scrubStep[n] = 0 then 0 else 1),
        Act.emit 0x01 0x1001 3 [n, s.slotCore n, q]]

/-- What the security core does about crashed core k, 1 to 12 (R403, R419 to R421).  For cores 1 and 2, the third halt
within a service image's health window falls back, and the third within 60 s under the resident image is a warm reset.  A
slot core's slot moves to a spare, and the core is reset. -/
def Act.crashed (k : Fin 13) : Act :=
  Act.get fun s =>
    if k = 1 || k = 2 then
      let halts := (if k = 1 then s.boot.windowHalts[0] else s.boot.windowHalts[1]) + 1
      if s.svcRuns && s.boot.windowSvc && s.boot.windowEnd.isSome then
        if 3 ≤ halts then Act.fallback 1
        else (Act.bootx fun b => { b with windowHalts :=
            if k = 1 then b.windowHalts.set 0 halts else b.windowHalts.set 1 halts }).andThen (Act.restart k)
      else if !s.svcRuns && 3 ≤ s.haltsWithin k 60000000 then Act.warmReset (.crash k)
      else Act.restart k
    else
      (Act.each ((List.finRange 8).filter fun (n : Fin 8) => s.slotCore n == k.val) Act.takeSlot).andThen (Act.restart k)

/-- CRASH_CHECK: hardware has reset a halted security core at once; the security core, when it runs, acts on every other
halted core and on every slot whose core is restarting. -/
def Act.crashCheck : Act :=
  Act.get fun s =>
    if !s.powered then Act.skip
    else if (s.core 0).run = .halted then Act.restart 0
    else if !s.coreUp 0 then Act.skip
    else Act.seq [
      Act.each ((List.finRange 13).filter fun k => k ≠ 0) fun k => Act.get fun s =>
        Act.when ((s.core k).run = .halted) (Act.crashed k),
      Act.each (List.finRange 8) fun (n : Fin 8) => Act.get fun s =>
        Act.when (2 ≤ s.fld (F.RST_CORE_STAT.role (s.slotCore n))) (Act.takeSlot n)]

def execCrashCheck (s : State) : Host.Outcome State Fault Refusal := Act.crashCheck.go s

/-! ## Watchdogs (R418) -/

/-- WATCHDOG_KICK: a write of RST_WDOG(k) by core by_; one from any other core is ignored. -/
def Act.wdogWrite (by_ k : Fin 13) (v : Nat) : Act :=
  Act.get fun s => Act.when (by_ = k && bitOf v 0) (Act.rstx fun r => { r with wdogAt := r.wdogAt.set k s.tns.tick })

def execWatchdogKick (by_ k : Fin 13) (v : BitVec 32) (s : State) : Host.Outcome State Fault Refusal :=
  (Act.get fun s => Act.when (s.powered && s.coreUp by_) (Act.wdogWrite by_ k v.toNat)).go s

/-- WATCHDOG_EXPIRY: core k has not written RST_WDOG(k) within its interval.  It is counted and handled as a halt. -/
def Act.watchdogExpiry (k : Fin 13) : Act :=
  Act.get fun s =>
    let ms := s.fld (F.RST_WDOG_CFG.ms k)
    if s.powered && ms ≠ 0 && s.coreUp k && s.rst.wdogAt[k] + ms * 1000 ≤ s.tns.tick then Act.seq [
      Act.bump (F.RST_CORE_STAT.halts k),
      Act.haltMark k,
      Act.emit 0x01 0x1000 2 [k, 1],
      if k = 0 then Act.restart k else Act.get fun s => if s.coreUp 0 then Act.crashed k else Act.restart k]
    else Act.skip

def execWatchdogExpiry (k : Fin 13) (s : State) : Host.Outcome State Fault Refusal := (Act.watchdogExpiry k).go s

/-! ## Rows for repair (R424) -/

/-- Queue a row for repair, unless it is queued already: the security core appends a pending entry. -/
def Act.rowQueue (kind row : Nat) : Act :=
  Act.get fun s =>
    if !s.coreUp 0 || s.repair.any (fun e => e.kind == kind && e.index == row && e.state == 0x7F) then Act.skip
    else (Act.repairAdd kind 0x7F row).andThen (Act.emit 0x01 0x1008 2 [kind, row])

/-- The rows, as kind and row, that have shown what queues a row, but for those marked exhausted. -/
def State.rowsDue (s : State) : List (Nat × Nat) :=
  let ofWord (a : Nat) : Option (Nat × Nat) :=
    if sharedBase ≤ a && a < sharedBase + 512 * 49152 then some (1, (a - sharedBase) / 512)
    else if tensorBase ≤ a && a < tensorBase + tensorSize then some (2, (a - tensorBase) / 512)
    else none
  let errs : List (Nat × Nat) := (s.rst.rowErrs.filter fun p => decide (3 ≤ p.2.length)).map fun p => (if p.1.1 then 2 else 1, p.1.2)
  (s.rst.badWords.filterMap ofWord ++ errs).filter fun d =>
    !s.repair.any fun e => e.kind == d.1 && e.index == d.2 && e.state == 0x1F

/-! ## After the self-test (R419, R421) -/

/-- The security core runs its image again (R370, R419), and queues the rows whose errors came while it was down. -/
def Act.resumeSecurity : Act :=
  Act.get fun s => Act.seq [
    Act.setRegions 0 s.boot.resSects,
    Act.setPc 0 (s.resVector 0),
    Act.core 0 fun c => { c with run := .running },
    Act.secx fun x => { x with verified := true },
    Act.setF (F.RST_CORE_STAT.role 0) 0, Act.bump (F.RST_CORE_STAT.restarts 0),
    Act.emit 0x01 0x1000 2 [0, 0],
    Act.get fun s => Act.each s.rowsDue fun d => Act.rowQueue d.1 d.2]

/-- Core 1 or 2 is released at its vector in the running image; the scheduler core answers what was pending ABORTED
(R345). -/
def Act.resumeService (k : Fin 13) : Act :=
  Act.get fun s =>
    let b := s.fld F.BOOT_STATUS.svc_bank
    let v := (s.boot.vectors[b]?).getD (0, 0)
    Act.seq [
      Act.setF (F.RST_CORE_STAT.role k) 0, Act.bump (F.RST_CORE_STAT.restarts k),
      (if s.svcRuns then (Act.setVector k (if k = 1 then v.1 else v.2)).andThen
          (Act.setRegions k ((s.boot.bankSects[b]?).getD []))
       else Act.residentCore k),
      Act.releaseCore k,
      Act.emit 0x01 0x1000 2 [k, 0],
      Act.when (k = 2) (Act.each (List.finRange 16) fun m => Act.get fun s =>
        Act.when (bitOf (s.fld F.MBX_PENDING.pending) m) (Act.abortPending m))]

/-- Core k is retired and entered in the repair record.  reason: 0 self-test, 1 two halts (log entry 3). -/
def Act.retireCore (k : Fin 13) (reason : Nat) : Act :=
  Act.seq [Act.setF (F.RST_CORE_STAT.role k) 2, Act.repairAdd 4 0x3F k, Act.emit 0x01 0x1002 3 [k, reason]]

/-- SELF_TEST_DONE: the ROM self-test of restarting core k ends; for the security core, its self-check of the resident
image. -/
def Act.selfTestDone (k : Fin 13) (pass : Bool) : Act :=
  Act.get fun s =>
    if !s.powered || s.fld (F.RST_CORE_STAT.role k) ≠ 3 then Act.skip
    else if k = 0 then (if pass then Act.resumeSecurity else (Act.setF (F.RST_CORE_STAT.role 0) 0).andThen (Act.warmReset .selfCheck))
    else if !pass then Act.retireCore k 0
    else if k = 1 || k = 2 then (if s.coreUp 0 then Act.resumeService k else Act.skip)
    else if 2 ≤ s.haltsWithin k 3600000000 then Act.retireCore k 1
    else (Act.setF (F.RST_CORE_STAT.role k) 1).andThen (Act.bump (F.RST_CORE_STAT.restarts k))

def execSelfTestDone (k : Fin 13) (pass : Bool) (s : State) : Host.Outcome State Fault Refusal :=
  (Act.selfTestDone k pass).go s

/-! ## SRAM rows (R424) -/

/-- The address of a word of a row of 512 bytes of memory 0 shared SRAM, 1 tensor SRAM or 2 DDR5. -/
def rowAddr (mem : Fin 3) (row word : Nat) : Nat :=
  (match mem with | 0 => sharedBase | 1 => tensorBase | 2 => ddrBase) + 512 * row + 8 * (word % 64)

/-- An uncorrectable error leaves the word bad: a load or a fetch of it is MEMERR (R223). -/
def Act.wordError (a : Nat) : Act :=
  Act.rstx fun r => { r with badWords := a :: r.badWords.filter fun b => b != a }

/-- An error of DDR5, which the controller counts and whose address it shows (R463); DDR5 has no rows to repair. -/
def Act.ddrErr (row word : Nat) (uncorr : Bool) : Act :=
  Act.get fun s =>
    let a := rowAddr 2 row word
    if !s.powered || !s.active || s.fld F.DDR_STATUS.state ≠ 2 || ddrSize ≤ 512 * row then Act.skip
    else if uncorr then Act.seq [
      Act.bump F.DDR_ECC_UNCORR.count,
      Act.setReg R.DDR_ERR_ADDR_LO (BitVec.ofNat 32 a), Act.setReg R.DDR_ERR_ADDR_HI (BitVec.ofNat 32 (a / 2 ^ 32)),
      Act.wordError a]
    else Act.bump F.DDR_ECC_CORR.count

/-- An error of an SRAM: an uncorrectable error queues the row and leaves the word bad; a corrected one queues it when three
different words of it have shown one. -/
def Act.sramErr (tensor : Bool) (row word : Nat) (uncorr : Bool) : Act :=
  Act.get fun s =>
    let kind := if tensor then 2 else 1
    let rows := if tensor then 16384 else 49152
    if !s.powered || (tensor && !s.active) || rows ≤ row then Act.skip
    else if uncorr then
      (Act.wordError (rowAddr (if tensor then 1 else 0) row word)).andThen (Act.rowQueue kind row)
    else
      let old := (s.rst.rowErrs.lookup (tensor, row)).getD []
      let now := if old.contains (word % 64) then old else (word % 64) :: old
      (Act.rstx fun r => { r with rowErrs := ((tensor, row), now) :: r.rowErrs.filter fun p => p.1 != (tensor, row) }).andThen
        (Act.when (3 ≤ now.length) (Act.rowQueue kind row))

/-- SRAM_ERROR, also of DDR5, for which the table has no row of its own (DESIGN CHOICE, log entry 92). -/
def execSramError (e : SramErr) (s : State) : Host.Outcome State Fault Refusal :=
  (if e.mem = 2 then Act.ddrErr e.row e.word e.uncorrectable
   else Act.sramErr (e.mem = 1) e.row e.word e.uncorrectable).go s

end Sys2Proof.Machine
end

