-- ==== Sys2Proof/Machine/Mains.lean ====
section
/-!
DEFINITION. The main supply and the power states, the event recorder, the inventory, and class 0x0A (R413 to R415, R429 to
R435, R443).
-/
namespace Sys2Proof.Machine

/-! ## Power states (R413 to R415, R443) -/

/-- WAKE: a trigger that leaves STANDBY. -/
def Act.wake (t : WakeTrigger) : Act :=
  Act.get fun s =>
    let holds := match t with
      | .trayOn => s.effOn 8
      | .mainHold => s.flag F.RST_CTL.main_hold
      | .ddrCommand => true
    Act.when (s.powered && holds) Act.wakeNow

def execWake (t : WakeTrigger) (s : State) : Host.Outcome State Fault Refusal := (Act.wake t).go s

/-- The training of DDR5: it is tried twice, and the failures come as sub-channel and step; after a second it stays
FAILED. -/
def Act.ddrTrain (fails : List (Nat × Nat)) : Act :=
  Act.get fun s =>
    if s.flag F.DDR_STATUS.trng_off then Act.setF F.DDR_STATUS.state 4
    else if !s.flag F.DDR_CTL.en then Act.setF F.DDR_STATUS.state 0
    else match fails with
      | _ :: f :: _ => (Act.setF F.DDR_STATUS.state 3).andThen (Act.emit 0x29 0x1010 3 [f.1, f.2])
      | _ => Act.setF F.DDR_STATUS.state 2

/-- MAIN_PG_GOOD: the supply has been good for 1 ms and DDR5 has trained. -/
def Act.mainPgGood (fails : List (Nat × Nat)) : Act :=
  Act.get fun s =>
    if s.powered && s.fld F.RST_STATUS.pwr = 2 then Act.seq [
      Act.setB F.RST_STATUS.main_pg true, Act.ddrTrain fails, Act.powerState 3]
    else Act.skip

def execMainPgGood (train : List (Nat × Nat)) (s : State) : Host.Outcome State Fault Refusal := (Act.mainPgGood train).go s

/-- MAIN_SUPPLY_TIMEOUT: not good within 100 ms of MAIN_EN. -/
def Act.mainTimeout : Act :=
  Act.get fun s =>
    if s.powered && s.fld F.RST_STATUS.pwr = 2 && s.rst.mainEnAt + 100000 ≤ s.tns.tick then Act.seq [
      Act.setB F.RST_STATUS.main_en false, Act.emit 0x29 0x1005 3 [], Act.powerState 1]
    else Act.skip

def execMainSupplyTimeout (s : State) : Host.Outcome State Fault Refusal := Act.mainTimeout.go s

/-- MAIN_PG_LOSS: STANDBY with its losses, and one retry after 1 s; after a second loss within 10 s STANDBY is
kept until a RESET message or a new tray ON order. -/
def Act.mainPgLoss : Act :=
  Act.get fun s =>
    if s.powered && s.active then
      let second : Bool := match s.rst.lossAt with | some t => decide (s.tns.tick < t + 10000000) | none => false
      Act.seq [
        Act.emit 0x29 0x1005 3 [],
        Act.toStandby,
        Act.rstx fun r => { r with
          lossAt := some s.tns.tick, retryAt := if second then none else some (s.tns.tick + 1000000),
          lossHold := second }]
    else Act.skip

def execMainPgLoss (s : State) : Host.Outcome State Fault Refusal := Act.mainPgLoss.go s

/-- WAKE_RETRY. -/
def Act.wakeRetry : Act :=
  Act.get fun s => Act.when (s.powered && (match s.rst.retryAt with | some t => t ≤ s.tns.tick | none => false)) Act.wakeNow

def execWakeRetry (s : State) : Host.Outcome State Fault Refusal := Act.wakeRetry.go s

/-- STANDBY_ENTRY: the conditions of R415 have held for stby_delay_s. -/
def Act.standbyEntry : Act :=
  Act.get fun s =>
    let due := match s.rst.idleSince with
      | some t => t + s.fld F.RST_PWR_CFG.stby_delay_s * 1000000 ≤ s.tns.tick
      | none => false
    Act.when (s.powered && s.idle && due) Act.toStandby

def execStandbyEntry (s : State) : Host.Outcome State Fault Refusal := Act.standbyEntry.go s

/-- AVS_SETPOINT: the main regulator's answer to the setpoint that is sent while MAIN_EN is on; one that is not acknowledged
is recorded (R463). -/
def Act.avsSetpoint (ack : Bool) : Act :=
  Act.get fun s => Act.when (s.powered && s.flag F.RST_STATUS.main_en)
    ((Act.setB F.SLT_AVS.ack ack).andThen (Act.when (!ack) (Act.emit 0x29 0x1011 2 [s.fld F.SLT_AVS.mv])))

def execAvsSetpoint (ack : Bool) (s : State) : Host.Outcome State Fault Refusal := (Act.avsSetpoint ack).go s

/-! ## The event recorder (R429, R431) -/

/-- EVENT_ADMIT: a record is offered to the recorder; severities 5 to 15 are reserved. -/
def execEventAdmit (src code sev : Nat) (hw : Bool) (payload : List Nat) (s : State) :
    Host.Outcome State Fault Refusal :=
  (Act.get fun s => Act.when (s.powered && sev < 5) (Act.emitBy hw (src % 256) (code % 65536) sev payload)).go s

/-! ## The inventory (R432, R433) -/

/-- The dev_class that slot n's device declared in TRAIN (R270). -/
def State.declaredClass (s : State) (n : Nat) : Nat := s.nat (0x11700000 + 0x40 * n + 4) 4

/-- The entry of a serial. -/
def State.invFind (s : State) (serial : Nat) : Option Nat := (s.inv.entries.find? fun p => p.2.serial == serial).map Prod.fst

/-- Where a new serial goes: the first free index, else that of the entry least recently seen. -/
def State.invPlace (s : State) : Nat :=
  match (List.range 256).find? fun i => (s.inv.entries.lookup i).isNone with
  | some i => i
  | none => match s.inv.entries with
    | [] => 0
    | p :: r => (r.foldl (fun a q => if q.2.lastCycle < a.2.lastCycle then q else a) p).1

/-- Enter serial and dev_class of slot n's device at index i. -/
def Act.invEnter (n : Fin 8) (i cls serial : Nat) : Act :=
  Act.get fun s =>
    let old : InvEntry := match s.inv.entries.lookup i with
      | some e => if e.serial = serial then e else ⟨serial, 0, 0, 0, 0, 0⟩
      | none => ⟨serial, 0, 0, 0, 0, 0⟩
    (Act.invx fun v => { v with
      entries := (i, { old with cls := cls, slot := n.val, lastCycle := s.tns.cycles }) :: v.entries.filter fun p => p.1 != i }).andThen
      (Act.setF (F.INV_SLOT_STAT.entry n) i)

/-- INVENTORY_READ: the core that serves slot n has read the identity block and the module SPD hubs. -/
def Act.inventoryRead (n : Fin 8) (ack : Bool) (cls serial : Nat) (mods : List (Nat × Nat × Nat)) : Act :=
  Act.get fun s =>
    if !s.powered || (s.servingCore n).isNone || s.linkState n ≠ 2 then Act.skip
    else
      let ok := ack && s.fld (F.INV_SLOT_CFG.addr n) ≠ 0
      let c := if ok then cls else s.declaredClass n
      let ser := if ok then serial else 0
      let mismatch := ok && cls ≠ s.declaredClass n
      let changed := ser ≠ s.inv.serials[n]
      Act.seq [
        Act.invCount n,
        Act.setB (F.INV_SLOT_STAT.present n) ok,
        Act.setB (F.INV_SLOT_STAT.class_mismatch n) mismatch,
        (if ok then Act.invEnter n ((s.invFind ser).getD s.invPlace) c ser else Act.setF (F.INV_SLOT_STAT.entry n) 0xFF),
        Act.invx fun v => { v with
          classes := v.classes.set n c,
          serials := v.serials.set n ser,
          fwIds := if changed then v.fwIds.set n 0 else v.fwIds,
          modules := ((mods.take 3).zipIdx.map fun p => (3 * n.val + p.2, p.1.1, p.1.2.1, p.1.2.2)) ++
            v.modules.filter fun p => p.1 / 3 != n.val },
        Act.when (mismatch || changed || !ok) (Act.emit 0x03 0x100A 2 [n, ser % 2 ^ 64])]

def execInventoryRead (n : Fin 8) (id : IdRead) (s : State) : Host.Outcome State Fault Refusal :=
  (Act.inventoryRead n id.ack id.devClass.toNat id.serial.toNat id.modules).go s

/-- INVENTORY_COMMIT: the ON minutes are brought up to date and the inventory is committed to flash. -/
def Act.inventoryCommit : Act :=
  Act.get fun s => Act.when (s.powered && s.coreUp 0)
    ((Act.each (List.finRange 8) Act.invCount).andThen (Act.invx fun v => { v with saved := v.entries }))

def execInventoryCommit (s : State) : Host.Outcome State Fault Refusal := Act.inventoryCommit.go s

/-! ## Class 0x0A (R435) -/

/-- The 40 bytes of a slot's inventory (R366, R435). -/
def State.invSlot (s : State) (n : Fin 8) : List Byte :=
  let e : InvEntry := (s.inv.entries.lookup (s.fld (F.INV_SLOT_STAT.entry n))).getD ⟨0, 0, 0, 0, 0, 0⟩
  s.veiled n 4 s.inv.classes[n] ++
    s.veiled n 1 (b2n (s.flag (F.INV_SLOT_STAT.present n)) + 2 * b2n (s.bindState n = 3) +
      4 * b2n (s.flag (F.INV_SLOT_STAT.class_mismatch n))) ++
    leBytes 3 0 ++ s.veiled n 16 s.inv.serials[n] ++ s.veiled n 8 s.inv.fwIds[n] ++
    s.veiled n 4 (e.onUs / 60000000) ++ s.veiled n 2 e.failures ++ leBytes 2 0

/-- The 16 bytes of a module's inventory; module i is one of slot i / 3 (R366, R435). -/
def State.invModule (s : State) (i : Nat) : List Byte :=
  let x : Nat × Nat × Nat := (s.inv.modules.lookup i).getD (0, 0, 0)
  s.veiled (i / 3) 2 x.1 ++ s.veiled (i / 3) 4 x.2.1 ++ s.veiled (i / 3) 8 x.2.2 ++
    s.veiled (i / 3) 1 (b2n (s.inv.modules.lookup i).isSome) ++ leBytes 1 0

/-- INV_QUERY: the tray host may ask for section 1 only. -/
def Act.invQuery (m : Fin 16) (sec : Nat) : Act :=
  Act.command m 0xA 1 fun src => Act.get fun s =>
    if src ≠ 1 && sec ≠ 1 then Act.respond m 0xA 1 4 []
    else if sec = 0 then Act.respondItems m 0xA 1 0 [s.fuses.serial, 0x0856, 0xA0, s.tns.cycles, s.tns.opMs]
    else if sec = 1 then Act.respond m 0xA 1 0 ((List.finRange 8).flatMap s.invSlot)
    else if sec = 2 then Act.respond m 0xA 1 0 ((List.range 24).flatMap s.invModule)
    else Act.respond m 0xA 1 5 []

def execInvQuery (m : Fin 16) (section_ : Nat) (s : State) : Host.Outcome State Fault Refusal :=
  (Act.invQuery m section_).go s

/-- RECORDS_READ: as many whole records as a response holds. -/
def Act.recordsRead (m : Fin 16) (fromSeq count : Nat) : Act :=
  Act.managerCommand m 0xA 2 (Act.get fun s =>
    if count = 0 || 256 < count then Act.respond m 0xA 2 5 []
    else Act.respond m 0xA 2 0 ((((List.range count).filterMap fun i =>
      s.evr.ring.find? fun r => r.seq == (fromSeq + i) % 2 ^ 32).take 255).flatMap EvRec.bytes))

def execRecordsRead (m : Fin 16) (fromSeq count : Nat) (s : State) : Host.Outcome State Fault Refusal :=
  (Act.recordsRead m fromSeq count).go s

/-- How many spares of each kind are left: repair rows of the two memories, tiles, cores, barrier lines and the Parser's
converter. -/
def State.sparesLeft (s : State) : List Nat :=
  [32 * 24 - s.rowsUsed 1 (fun _ => true), 32 * 8 - s.rowsUsed 2 (fun _ => true), s.tileSpares.length,
   (List.range 13).countP fun k => s.fld (F.RST_CORE_STAT.role k) = 1, s.fld F.AGR_LINE_MAP.spares_left,
   b2n (s.fld F.PRS_STATUS.conv_fail = 0)]

/-- REPAIR_QUERY. -/
def Act.repairQuery (m : Fin 16) : Act :=
  Act.managerCommand m 0xA 3 (Act.get fun s =>
    Act.respondItems m 0xA 3 0 (s.sparesLeft ++ s.repair.map fun e => leNat e.bytes))

def execRepairQuery (m : Fin 16) (s : State) : Host.Outcome State Fault Refusal := (Act.repairQuery m).go s

/-- HOURS_READ: one inventory entry. -/
def Act.hoursRead (m : Fin 16) (index : Nat) : Act :=
  Act.managerCommand m 0xA 4 (Act.get fun s =>
    if 255 < index then Act.respond m 0xA 4 5 []
    else match s.inv.entries.lookup index with
      | some e => Act.respondItems m 0xA 4 0 [e.serial, e.cls, e.slot, e.onUs / 60000000, e.failures, e.lastCycle]
      | none => Act.respond m 0xA 4 6 [])

def execHoursRead (m : Fin 16) (index : Nat) (s : State) : Host.Outcome State Fault Refusal := (Act.hoursRead m index).go s

end Sys2Proof.Machine
end

