-- ==== Sys2Proof/Machine/Route.lean ====
section
/-!
DEFINITION. CSR space as a core reaches it: what a read of each register returns (R14, and the registers whose value the
hardware works out), what a write of each register does, and the meaning of CSR_WRITE.  Log entries 6, 60, 61.
-/
namespace Sys2Proof.Machine

/-! ## Reading -/

/-- A field's bits and the value it shows. -/
abbrev Shown := Nat × Nat × Nat

/-- One bit shown. -/
def showBit (i : Nat) (b : Bool) : Shown := (i, i, b2n b)

/-- The TNS registers' values that are not stored. -/
def State.showTns (s : State) (r : Nat) : List Shown :=
  if r = R.TNS_TICK_LO then [(31, 0, s.counter .tick)]
  else if r = R.TNS_OPTIME_LO then [(31, 0, s.counter .optime)]
  else if r = R.TNS_DTIME_LO then [(31, 0, s.counter .dtime)]
  else []

/-- The PER and PRS registers' values that are not stored. -/
def State.showPer (s : State) (r i : Nat) : List Shown :=
  if r = R.PER_STATUS then
    [showBit 11 (s.flag F.PER_CAUSE.self_fault), showBit 10 s.gateCause, showBit 9 (s.flag F.PER_CAUSE.fallback),
     showBit 8 s.paceCause, (7, 0, maskOf ((List.range 8).filter s.efuseCause))]
  else if r = R.PER_SLOT_CAUSE 0 then [showBit 2 (bitOf (s.fld F.SEQ_EFUSE_STATUS.fault) i)]
  else if r = R.PRS_FAST 0 then
    [(31, 0, maskOf ((List.range 32).filter fun b =>
      32 * i + b < 232 && s.snsEnabled (32 * i + b) && (s.sensor (32 * i + b)).promoted))]
  else []

/-- The THM registers' values that are not stored. -/
def State.showThm (s : State) (r i : Nat) : List Shown :=
  if r = R.THM_STATUS then
    let l := (List.range 16).map s.zoneLevel
    [showBit 17 (l.any (4 ≤ ·)), showBit 16 (l.any (3 ≤ ·)),
     (15, 0, maskOf ((List.range 16).filter fun z => 3 ≤ s.zoneLevel z))]
  else if r = R.THM_ZONE_STAT 0 then
    [(31, 29, s.zoneLevel i), (28, 24, min 31 (s.zoneBroken i)),
     (15, 0, match s.zoneHottest i with | some j => unsignedOf 16 (s.snsValue j) | none => 0)]
  else if r = R.THM_SNS_VAL 0 then
    [showBit 31 (s.evaluated i && s.snsBroken i), (30, 28, s.snsLevel i), (27, 16, unsignedOf 12 (satSigned 12 (s.sensor i).rate)),
     (15, 0, if s.evaluated i && ((s.sensor i).has || s.snsBroken i) then unsignedOf 16 (s.snsValue i) else 0x8000)]
  else if r = R.THM_BROKEN_SET 0 then [(31, 0, (s.reg (R.THM_BROKEN i)).toNat)]
  else if r = R.THM_FAN_STAT 0 then [showBit 30 (s.fanForced i), (25, 16, s.applied (16 + i))]
  else if r = R.THM_PUMP_STAT 0 then [showBit 30 (s.pumpForced i), (25, 16, s.applied (32 + i))]
  else []

/-- The SEQ, CMA, BUF, CAP and QUA registers' values that are not stored. -/
def State.showSeq (s : State) (r i : Nat) : List Shown :=
  if r = R.SEQ_STATUS then [(3, 2, s.bindState 8)]
  else if r = R.SEQ_DOM_CFG 0 then [(19, 12, max 1 (s.fld (F.SEQ_DOM_CFG.pg_timeout i)))]
  else if r = R.CMA_PACE_CTL 0 then [showBit 29 (!(s.emergencies i).isEmpty), (9, 0, s.quaOut i)]
  else if r = R.BUF_SETPT then [(31, 16, s.quaOut 37), (15, 0, s.quaOut 36)]
  else if r = R.BUF_MARGIN_CFG then [(15, 8, s.achieved)]
  else if r = R.BUF_PLAN then (if s.conf then [(31, 16, 0)] else [])
  else if r = R.CAP_SLOT_ALLOC 0 then [(15, 0, s.quaOut (8 + i))]
  else if r = R.QUA_OUT 0 then [(31, 16, s.applied i)]
  else []

/-- The code of a job's state. -/
def JState.code : JState → Nat
  | .free => 0 | .queued => 1 | .running => 2 | .ending => 3

/-- The CNJ registers' values that are not stored. -/
def State.showCnj (s : State) (r i : Nat) : List Shown :=
  if r = R.CNJ_STATUS then
    [(25, 24, min 3 s.tileSpares.length), (20, 16, s.tileCount), (10, 0, 64 * s.tileCount - s.ctxUsed)]
  else if r = R.CNJ_TILE_MAP 0 then
    [(31, 0, leNat ((List.range 4).map fun b => BitVec.ofNat 8 ((s.tiles[4 * i + b]?).getD 0x1F)))]
  else if r = R.CNJ_JOB_STAT 0 then
    let j := s.job i
    if j.st = .free then [(31, 0, 0)]
    else [(31, 30, j.st.code), (27, 24, j.issuer), (23, 23, j.prio), showBit 22 j.modeP, (21, 18, j.slot),
          (10, 0, s.threads.countP fun p => p.2.st ≠ .free && p.2.st ≠ .ended && p.2.job == i)]
  else []

/-- The AGR registers' values that are not stored, as core k sees them. -/
def State.showAgr (s : State) (k : Fin 13) (r i : Nat) : List Shown :=
  if r = R.AGR_STATUS then
    [showBit 3 (s.flag F.AGR_DUMP_CTL.freeze && !s.dumpWin.isEmpty), showBit 2 (!s.dumpWin.isEmpty),
     showBit 1 (s.objs.any (fun p => p.2.poisoned) || (List.range 32).any fun l => s.flag (F.AGR_LINE_STAT.poisoned l))]
  else if r = 0xF0054 then
    match s.objs.lookup (s.fld (F.AGR_OBJ_IDX.idx k)) with
    | some o => [(25, 24, if o.poisoned then 2 else 1), (16, 0, o.remain)]
    | none => [(25, 24, 0), (16, 0, 0)]
  else if r = R.AGR_DUMP 0 then [(31, 0, leAt s.dumpWin (4 * i) 4)]
  else []

/-- The 32-bit word w of a value held least significant word first. -/
def word32 (v w : Nat) : Nat := v / 2 ^ (32 * w)

/-- The SEC, BOOT and RST registers' values that are not stored. -/
def State.showBoot (s : State) (r i : Nat) : List Shown :=
  if r = R.SEC_STATUS then [(14, 8, s.sec.signing.length), (2, 0, s.fuses.lifecycle)]
  else if r = R.SEC_LIFECYCLE then [showBit 8 s.fuses.keyKill, (2, 0, s.fuses.lifecycle)]
  else if r = R.SEC_SERIAL 0 then [(31, 0, word32 s.fuses.serial i)]
  else if r = R.SEC_OWNER_DIG 0 then [(31, 0, word32 s.fuses.ownerDig i)]
  else if r = R.SEC_DBG_DIG 0 then [(31, 0, word32 s.fuses.dbgDig i)]
  else if r = R.BOOT_SVN then [(15, 8, s.fuses.svnService), (7, 0, s.fuses.svnResident)]
  else if r = R.BOOT_KEYS then [(7, 4, s.fuses.keysRevoked), (3, 0, s.fuses.keysFused)]
  else if r = R.BOOT_HEALTH then
    [(9, 0, match s.boot.windowEnd with | some e => ceilDiv (e - s.tns.tick) 1000000 | none => 0)]
  else if r = R.BOOT_QUEUE then
    match s.boot.queue with
    | q :: _ => [(31, 30, q.target), (20, 16, s.holdMask), (15, 0, s.queueLeft q)]
    | [] => [(31, 30, 0), (20, 16, 0), (15, 0, 0)]
  else if r = R.BOOT_RES_DIG 0 then [(31, 0, word32 s.boot.resident.digest i)]
  else if r = R.BOOT_SVC_DIG 0 then [(31, 0, word32 s.reportService i)]
  else if r = R.BOOT_PEND_DIG 0 then [(31, 0, word32 s.pendingDigest i)]
  else if r = R.RST_REPAIR_SH then [(31, 16, s.rowsPending 1), (15, 0, s.rowsUsed 1 fun _ => true)]
  else if r = R.RST_REPAIR_TS then [(31, 16, s.rowsPending 2), (15, 0, s.rowsUsed 2 fun _ => true)]
  else []

/-- The ETH, MBX, EVR, SLT and SYS registers' values that are not stored. -/
def State.showNet (s : State) (r i : Nat) : List Shown :=
  if r = R.ETH_QP_ACTIVE then [(12, 0, s.eth.qps.countP fun q => !q.error)]
  else if r = R.ETH_PORT_QPS 0 then [(12, 0, (s.qpsOn i).length)]
  else if r = R.ETH_PORT_STAT 0 then [showBit 0 (s.portPresent i)]
  else if r = R.ETH_PORT_CFG 0 then (if i % 2 = 1 then [(3, 3, 0)] else [])
  else if r = R.MBX_STAT 0 then [showBit 31 (bitOf (s.fld F.MBX_PENDING.pending) i)]
  else if r = R.EVR_HEAD then [(31, 0, (s.evr.nextSeq + 0xFFFFFFFF) % 2 ^ 32)]
  else if r = R.EVR_STAT then [(13, 8, s.evr.queue.length), (6, 0, s.evr.tokens)]
  else if r = R.EVR_SHED 0 then [(31, 0, (s.evr.shed.toList[i]?).getD 0)]
  else if r = R.SLT_STAT 0 then [showBit 1 (bitOf (s.fld F.RST_ABORT.asserted) i)]
  else if r = R.SYS_CORE_STAT 0 then (match coreNo i with | some j => [(1, 0, s.coreStat j)] | none => [])
  else []

/-- The fields of register r, index i, that show something other than what is stored. -/
def State.shown (s : State) (k : Fin 13) (r i : Nat) : List Shown :=
  match r / 0x10000 with
  | 0x0 => s.showNet r i
  | 0x1 => s.showBoot r i
  | 0x2 => s.showBoot r i
  | 0x3 => s.showBoot r i
  | 0x4 => s.showTns r
  | 0x5 => s.showPer r i
  | 0x6 => s.showPer r i
  | 0x7 => s.showThm r i
  | 0x9 => s.showSeq r i
  | 0xA => s.showSeq r i
  | 0xB => s.showSeq r i
  | 0xC => s.showSeq r i
  | 0xD => s.showCnj r i
  | 0xE => s.showSeq r i
  | 0xF => s.showAgr k r i
  | 0x10 => s.showNet r i
  | 0x11 => s.showNet r i
  | 0x12 => s.showNet r i
  | 0x14 => s.showNet r i
  | _ => []

/-- The value that core k reads from the register at an offset, where there is one: bits of no field and of WO fields
read 0 (R14, R16). -/
def State.csrValue (s : State) (k : Fin 13) (off : Nat) : Option W32 :=
  (findReg off).map fun (r, i) =>
    let v := s.reg (keyFor r k off)
    let stored := r.fields.foldl (fun (w : W32) f => if f.acc = .wo then w else fldPut w f.hi f.lo (fldOf v f.hi f.lo)) 0#32
    (s.shown k r.off i).foldl (fun w p => fldPut w p.1 p.2.1 p.2.2) stored

/-- What a read of the register at an offset by core k does: a read of a Tense counter's LO latches its HI (R52), and a line
is cleared at its source. -/
def Act.csrReadEffect (k : Fin 13) (off : Nat) : Act :=
  (if off = R.TNS_TICK_LO then Act.latchHi .tick
   else if off = R.TNS_OPTIME_LO then Act.latchHi .optime
   else if off = R.TNS_DTIME_LO then Act.latchHi .dtime
   else Act.skip).andThen (Act.lineRead k off)

/-! ## Writing -/

/-- Call a function with an index below n, where it is one. -/
def withFin (n i : Nat) (f : Fin n → Act) : Act := if h : i < n then f ⟨i, h⟩ else Act.skip

/-- A write of CMA_CTL (R84): a link whose link_en is 0 is DOWN; one whose link_en turns on while SLOTn_RST_N is released
enters TRAIN (DEDUCED, log entry 62). -/
def Act.cmaCtl (k : Fin 13) (v : W32) : Act :=
  Act.get fun s0 => (Act.plainWrite k R.CMA_CTL v).andThen (Act.get fun s1 =>
    Act.each (List.finRange 8) fun (n : Fin 8) =>
      let was := bitOf (s0.fld F.CMA_CTL.link_en) n
      let now := bitOf (s1.fld F.CMA_CTL.link_en) n
      if was && !now then Act.linkDown n
      else if now && !was && !s1.flag (F.SLT_STAT.rst n) && s1.linkState n = 0 then Act.linkTrain n
      else Act.skip)

/-- A write of SEC_CTL; the mode is entered at the tick at which conf turns on (R376). -/
def Act.secCtl (k : Fin 13) (v : W32) : Act :=
  Act.get fun s0 => (Act.plainWrite k R.SEC_CTL v).andThen (Act.get fun s1 =>
    Act.when (!s0.conf && s1.conf) (Act.secx fun x => { x with confSince := s1.tns.tick }))

/-- A write of RST_CTL; a 1 in warm from the security core is a warm reset. -/
def Act.rstCtl (k : Fin 13) (v : W32) : Act :=
  (Act.plainWrite k R.RST_CTL v).andThen (Act.when (k = 0 && bitOf v.toNat 0) (Act.warmReset (.csrWrite k)))

/-- A write of SEQ_EFUSE_STATUS clears the faults it names (R63, R163). -/
def Act.efuseStatus (v : W32) : Act :=
  Act.each ((List.range 8).filter fun n => bitOf v.toNat (24 + n)) Act.efuseFaultClear

/-- The count of shed records of severity v is cleared; line 10 falls when no count is left. -/
def Evr.clearShed (e : Evr) (v : Fin 5) : Evr :=
  { e with shed := e.shed.set v 0, shedIrq := e.shedIrq && (e.shed.set v 0).toList.any (· != 0) }

/-- A write of EVR_SHED(i): any 1 clears the whole count. -/
def Act.evrShed (i : Nat) (v : W32) : Act :=
  withFin 5 i fun j => Act.when (v ≠ 0#32) (Act.evr (fun _ e => e.clearShed j) (fun _ _ h => h))

/-- Write core k's key of a register whose fields must lie in order: a write in which the lower does not lie below the
upper is ignored (R17; DESIGN CHOICE, log entry 61). -/
def Act.orderedWrite (k : Fin 13) (off : Nat) (v : W32) (lower upper : Int) : Act :=
  Act.when (lower < upper) (Act.plainWrite k off v)

/-- A write of RST_SLOT_MAP by core k: what the slots that move to another core own is poisoned (R297, R306). -/
def Act.slotMapWrite (k : Fin 13) (v : W32) : Act :=
  Act.get fun s0 => (Act.plainWrite k R.RST_SLOT_MAP v).andThen (Act.get fun s1 =>
    Act.each ((List.range 8).filter fun n => s0.slotCore n != s1.slotCore n) fun n => Act.slotMoved n (s0.slotCore n))

/-- A write of a SYS, SEC, BOOT or RST register. -/
def Act.writeBoot (k : Fin 13) (r i off : Nat) (v : W32) : Act :=
  if r = 0x404 then Act.get fun s => Act.itsWrite k (s.core k).p v.toNat
  else if r = R.SEC_CTL then Act.secCtl k v
  else if r = R.BOOT_RELEASE then
    Act.each ((List.finRange 13).filter fun (j : Fin 13) => j ≠ 0 && bitOf v.toNat j) fun j => Act.releaseWrite k j
  else if r = R.BOOT_HEALTH then Act.healthWrite k v.toNat
  else if r = R.RST_CTL then Act.rstCtl k v
  else if r = R.RST_SLOT_MAP then Act.slotMapWrite k v
  else if r = R.RST_CORE_CMD then Act.coreCmd k v
  else if r = R.RST_WDOG 0 then withFin 13 i fun j => Act.wdogWrite k j v.toNat
  else if r = R.BOOT_VEC_LO 0 then Act.when (i ≠ 0) (Act.plainWrite k off (fldPut v 1 0 0))
  else if r = R.BOOT_VEC_HI 0 then Act.when (i ≠ 0) (Act.plainWrite k off v)
  else Act.plainWrite k off v

/-- A write of a TNS, PER, PRS, THM or LKD register. -/
def Act.writeSense (k : Fin 13) (r i off : Nat) (v : W32) : Act :=
  if r = R.TNS_ADJ then Act.adjWrite v.toNat
  else if r = R.TNS_STEP_CTL then Act.stepWrite v.toNat
  else if r = R.TNS_EPOCH_DL_HI 0 then Act.deadlineWrite k i v
  else if r = R.PER_CTL then Act.perCtl k v
  else if r = R.PER_CAUSE then Act.causeWrite .tray v
  else if r = R.PER_SLOT_CAUSE 0 then withFin 8 i fun n => Act.causeWrite (.slot n) v
  else if r = R.PER_IIN_LVL then Act.levelWrite k .iin v
  else if r = R.PER_VBUS_LVL then Act.levelWrite k .vbus v
  else if r = R.PER_HB then Act.hbWrite v
  else if r = R.LKD_ZONE_CFG 0 then withFin 8 i fun z => Act.levelWrite k (.zone z) v
  else if r = R.LKD_CTL then Act.lkdCtl k v
  else if r = R.THM_BROKEN 0 then Act.brokenClear i v
  else if r = R.THM_BROKEN_SET 0 then Act.brokenSet i v
  else if r = R.THM_ZONE_PRED 0 then withFin 16 i fun z => Act.zonePred z v
  else if r = R.THM_VALVE_CTL then Act.valveWrite v
  else if r / 0x10000 = 4 then Act.plainWrite k off v
  else Act.thmSync (Act.withValves (Act.plainWrite k off v))

/-- A write of a SEQ, CMA, BUF, CAP or QUA register. -/
def Act.writeSeq (k : Fin 13) (r i off : Nat) (v : W32) : Act :=
  if r = R.SEQ_EFUSE_STATUS then Act.efuseStatus v
  else if r / 0x10000 = 9 then Act.withFeeds ((Act.plainWrite k off v).andThen Act.settle)
  else if r = R.CMA_CTL then Act.cmaCtl k v
  else if r = R.BUF_BANK_V then (Act.orderedWrite k off v (fldOf v 23 16) (fldOf v 31 24)).andThen Act.bufSettle
  else if r = R.BUF_TEMP_CFG then
    (Act.orderedWrite k off v (signed 8 (fldOf v 7 0)) (signed 8 (fldOf v 15 8))).andThen Act.bufSettle
  else if r / 0x10000 = 0xB then (Act.plainWrite k off v).andThen Act.bufSettle
  else if r = R.CAP_CTL then Act.withGroupValid (Act.plainWrite k off v)
  else if r = R.QUA_TGT 0 then Act.quaTgtWrite k i v.toNat
  else Act.plainWrite k off v

/-- A write of a CNJ or AGR register. -/
def Act.writeAgr (k : Fin 13) (r i off : Nat) (v : W32) : Act :=
  if r = 0xD0010 then Act.launchWrite k v.toNat
  else if r = R.CNJ_ABORT then Act.abortWrite k v.toNat
  else if r = R.CNJ_PART_TS 0 || r = R.CNJ_PART_DDR 0 || r = R.CNJ_PART_SH 0 then Act.partWrite k i off v
  else if r = R.CNJ_PART_CTL 0 then Act.partCtl k i v
  else if r = 0xF0050 then Act.objCmd k (v.toNat % 8)
  else if r = R.AGR_NET_TIME then Act.orderedWrite k off v (fldOf v 23 16) (fldOf v 15 8)
  else if r = R.AGR_DUMP_REQ then Act.dumpReq v.toNat
  else if r = R.AGR_LINE_CFG 0 then withFin 32 i fun l => Act.lineCfg k l v
  else if r = R.AGR_GRP_GEN 0 then Act.groupCommit i v.toNat
  else Act.plainWrite k off v

/-- A write of an ETH, MBX, EVR or later register. -/
def Act.writeNet (k : Fin 13) (r i off : Nat) (v : W32) : Act :=
  if r = R.ETH_CTL then Act.withPorts (Act.plainWrite k off v)
  else if r = R.ETH_PORT_CFG 0 then Act.withPorts (Act.plainWrite k off (if i % 2 = 1 then fldPut v 3 3 0 else v))
  else if r = R.MBX_DONE 0 then withFin 16 i fun m => Act.mbxDoneWrite m v.toNat
  else if r = R.EVR_SHED 0 then Act.evrShed i v
  else Act.plainWrite k off v

/-- A write of core k to register r, index i, at an offset: by the register's own rule, or by its access codes. -/
def Act.csrWriteAt (k : Fin 13) (r i off : Nat) (v : W32) : Act :=
  let b := r / 0x10000
  if b < 4 then Act.writeBoot k r i off v
  else if b < 9 then Act.writeSense k r i off v
  else if b < 0xD || b = 0xE then Act.writeSeq k r i off v
  else if b < 0x10 then Act.writeAgr k r i off v
  else Act.writeNet k r i off v

/-- A write of core k to the register at an offset, where there is one. -/
def Act.csrWrite (k : Fin 13) (off : Nat) (v : W32) : Act :=
  match findReg off with
  | some (r, i) => Act.csrWriteAt k r.off i off v
  | none => Act.skip

/-- Whether a write of core k to an offset resets core k itself. -/
def resetsSelf (k : Fin 13) (off : Nat) (v : W32) : Bool := k = 0 && off == R.RST_CTL && bitOf v.toNat 0

/-- CSR_WRITE: a write of 32 bits by core k, while it runs; where no register stands it is a bus error of the core (R13,
R35). -/
def Act.csrWriteRow (k : Fin 13) (off : Nat) (v : W32) : Act :=
  Act.get fun s =>
    if !s.powered || !s.coreUp k then Act.skip
    else if (findReg off).isSome then Act.csrWrite k off v
    else Act.coreExc k 6 0 (s.core k).pc (BitVec.ofNat 64 (0x30000000 + off))

def execCsrWrite (k : Fin 13) (off : Nat) (v : BitVec 32) (s : State) : Host.Outcome State Fault Refusal :=
  (Act.csrWriteRow k off v).go s

end Sys2Proof.Machine
end

