-- ==== Sys2Proof/Machine/K32.lean ====
section
/-!
DEFINITION. LOAD and STORE of the K32 instruction set: the checks of a data access in their order, what each region of the
address map answers, and the effect on memory, tags and registers (R32 to R35, R202, R209, R212, R222, R247, R248).
-/
namespace Sys2Proof.Machine

/-- The offset of an address in CSR space, where it lies in it (R32). -/
def csrOffset (a : Nat) : Option Nat := if 0x30000000 ≤ a && a < 0x30170000 then some (a - 0x30000000) else none

/-- Whether an address lies in a region that can be read and written as memory (R32). -/
def inMemory (a : Nat) : Bool := inShared a || inTensor a || inDdr a || (0x40000000 ≤ a && a < 0x40040000)

/-- Whether an address lies in a read-only region (R32): boot ROMs, event recorder, export mirror. -/
def inReadOnly (a : Nat) : Bool :=
  a < 0x40000 || (0x50000000 ≤ a && a < 0x50400000) || (0x60000000 ≤ a && a < 0x60010000)

/-- Step 1 of R222: the alignment of an access of n bytes, or the rule of R13 in CSR space. -/
def alignExc (a n : Nat) : Option Nat :=
  match csrOffset a with
  | some off => if n = 4 && off % 4 = 0 then none else some 6
  | none => if a % n = 0 then none else some 4

/-- Step 2 of R222 on core k: the rule of mode P, and the regions; need is 2 for a read, 4 for a write. -/
def State.accessExc (s : State) (k : Fin 13) (a need : Nat) : Option Nat :=
  if (s.core k).p && !(inShared a || inTensor a) then some 5
  else if s.regionOk k a need then none else some 5

/-- Step 3 of R222: the address map. -/
def mapExc (a : Nat) (write : Bool) : Option Nat :=
  match csrOffset a with
  | some off => if (findReg off).isSome then none else some 6
  | none => if inMemory a || (!write && inReadOnly a) then none else some 6

/-- The exception of a data access of core k, if one of the checks fails. -/
def State.dataExc (s : State) (k : Fin 13) (a n : Nat) (write : Bool) : Option Nat :=
  (alignExc a n).or ((s.accessExc k a (if write then 4 else 2)).or (mapExc a write))

/-- Whether the memory at an address is there to be used: tensor SRAM has power in ACTIVE only, and DDR5 is used once it is
READY (R413, R446). -/
def State.memoryUp (s : State) (a : Nat) : Bool :=
  if inTensor a then s.active
  else if inDdr a then s.active && s.fld F.DDR_STATUS.state = 2
  else true

/-- A loaded value of n bytes, sign-extended or zero-extended (R209). -/
def extend (n : Nat) (zero : Bool) (v : Nat) : Word :=
  if zero then BitVec.ofNat 64 v else BitVec.ofInt 64 (signed (8 * n) v)

/-- The bytes of a width field (R209). -/
def widthBytes (width : Nat) : Nat := 2 ^ (width % 4)

/-- The address of a LOAD or STORE. -/
def State.dataAddr (s : State) (w : Agent) (a : Reg) (off : BitVec 14) : Word := s.gprOf w a + sx off

/-- Write the result of a load of memory; where the memory is not up its content is not stated and is a free value (log
entry 1). -/
def Act.loadResult (w : Agent) (d : Reg) (s : State) (x n : Nat) (zero : Bool) : Act :=
  if s.memoryUp x then Act.setR w d (extend n zero (leNat (s.viewBytes x n)))
  else Act.fresh fun v => Act.setR w d (extend n zero (v.toNat % 2 ^ (8 * n)))

/-- LOAD (R209). -/
def Act.load (w : Agent) (d a : Reg) (width : BitVec 3) (off : BitVec 14) : Act :=
  let n := widthBytes width.toNat
  let zero := 4 ≤ width.toNat
  Act.k32 w fun s =>
    let addr := s.dataAddr w a off
    let x := addr.toNat
    if width = 7 then .exc 1 0 (encI 0x0A d a (width.toNat * 2 ^ 14 + off.toNat))
    else match w with
    | .core k =>
      match s.dataExc k x n false with
      | some c => .exc c 0 addr
      | none =>
        match csrOffset x with
        | some o =>
          .done ((Act.setR w d (extend 4 zero ((s.csrValue k o).getD 0#32).toNat)).andThen (Act.csrReadEffect k o)) (s.next w)
        | none =>
          if s.wordBad x then .exc 0x0A 0 addr else .done (Act.loadResult w d s x n zero) (s.next w)
    | .thread t =>
      match alignExc x n with
      | some c => .exc c 0 addr
      | none =>
        if !s.reach t x n then .done ((Act.setR w d 0#64).andThen (Act.oob t)) (s.next w)
        else match s.threadDataExc x with
        | some c => .exc c 0 addr
        | none =>
          if s.wordBad x then .exc 0x0A 0 addr else .done (Act.loadResult w d (s.seenBy t) x n zero) (s.next w)

def execLoad (w : Agent) (d a : Reg) (width : BitVec 3) (off : BitVec 14) (s : State) :
    Host.Outcome State Fault Refusal := (Act.load w d a width off).go s

/-- STORE (R209, R212). -/
def Act.storeInstr (w : Agent) (d a : Reg) (width : BitVec 3) (off : BitVec 14) : Act :=
  let n := widthBytes width.toNat
  Act.k32 w fun s =>
    let addr := s.dataAddr w a off
    let x := addr.toNat
    let v := (s.gprOf w d).toNat
    if 4 ≤ width.toNat then .exc 1 0 (encI 0x0B d a (width.toNat * 2 ^ 14 + off.toNat))
    else match w with
    | .core k =>
      match s.dataExc k x n true with
      | some c => .exc c 0 addr
      | none =>
        match csrOffset x with
        | some o =>
          let word := BitVec.ofNat 32 v
          if resetsSelf k o word then .gone (Act.csrWrite k o word) else .done (Act.csrWrite k o word) (s.next w)
        | none => .done (Act.when (s.memoryUp x) (Act.store x (leBytes n v))) (s.next w)
    | .thread t =>
      match alignExc x n with
      | some c => .exc c 0 addr
      | none =>
        if !s.reach t x n then .done (Act.oob t) (s.next w)
        else match s.threadDataExc x with
        | some c => .exc c 0 addr
        | none => .done (Act.when (s.memoryUp x) (Act.threadStore t x (leBytes n v))) (s.next w)

def execStore (w : Agent) (d a : Reg) (width : BitVec 3) (off : BitVec 14) (s : State) :
    Host.Outcome State Fault Refusal := (Act.storeInstr w d a width off).go s

end Sys2Proof.Machine
end

