-- ==== Sys2Proof/Machine/Serve.lean ====
section
/-!
DEFINITION. MAILBOX_SERVE: the scheduler core takes the next pending mailbox in turn, reads the header and the payload of
its request, and serves the command they spell (R338 to R343, and the payload tables of classes 0x01 to 0x0B).
-/
namespace Sys2Proof.Machine

/-- A field of n bytes of a payload. -/
def pay (p : List Byte) (o n : Nat) : Nat := leAt p o n

/-- n data bytes of a payload from offset o on; a length past the largest payload is cut there, and the command refuses
it. -/
def payData (p : List Byte) (o n : Nat) : List Byte := slice p o (min n 8160)

/-- A key or a signature of 64 bytes, read as one number with its first byte most significant. -/
def payKey (p : List Byte) (o : Nat) : Nat := beNat (slice p o 64)

/-- Entry i of the peer list of GROUP_JOIN (R309). -/
def payPeer (p : List Byte) (i : Nat) : Peer :=
  ⟨pay p (16 + 8 * i) 6, pay p (22 + 8 * i) 1, bitOf (pay p (23 + 8 * i) 1) 0⟩

/-- A command of class 0x01 (R346, R434). -/
def Act.class1 (m : Fin 16) (cmd : Nat) (p : List Byte) : Act :=
  match cmd with
  | 1 => Act.identify m
  | 2 => Act.portQuery m (pay p 0 1)
  | 3 => Act.portCfg m (pay p 0 1) (pay p 1 1) (BitVec.ofNat 32 (pay p 4 4)) (BitVec.ofNat 128 (pay p 8 16))
  | 4 => Act.streamCfg m ⟨pay p 0 1, pay p 1 1, pay p 2 2, pay p 4 4, pay p 8 1, pay p 12 4, pay p 16 8, pay p 24 2⟩
  | 5 => Act.streamQuery m (pay p 0 1)
  | 6 => Act.ptpCfg m (BitVec.ofNat 32 (pay p 0 4)) (BitVec.ofNat 32 (pay p 4 4))
  | 7 => Act.upCfg m (BitVec.ofNat 32 (pay p 0 4))
  | 8 => Act.resetCommand m (pay p 0 1)
  | _ => Act.respond m 1 cmd 11 []

/-- A command of class 0x02 (R78, R434). -/
def Act.class2 (m : Fin 16) (cmd : Nat) (p : List Byte) : Act :=
  match cmd with
  | 1 => Act.powerOrder m (pay p 0 1) (pay p 1 1) (pay p 2 2)
  | 2 => Act.query m (pay p 0 1)
  | 3 => Act.clearFault m (pay p 0 1)
  | 4 => Act.abortRelease m (pay p 0 1)
  | _ => Act.respond m 2 cmd 11 []

/-- A command of class 0x03 (R108, R353). -/
def Act.class3 (m : Fin 16) (cmd : Nat) (p : List Byte) : Act :=
  match cmd with
  | 1 => Act.capStage m (pay p 0 1) (pay p 2 2) (pay p 4 4)
  | 2 => Act.floorSet m (pay p 0 1) (pay p 1 1) (pay p 2 2)
  | 3 => Act.capQuery m
  | 4 => Act.capCfg m (pay p 0 1) (pay p 1 1) (pay p 2 2)
  | 5 => Act.groupCap m (pay p 0 1) (pay p 1 1) (pay p 4 4) (pay p 8 4)
      ((List.range ((p.length - 12) / 4)).map fun i => pay p (12 + 4 * i) 4)
  | _ => Act.respond m 3 cmd 11 []

/-- A command of class 0x05 (R197). -/
def Act.class5 (m : Fin 16) (cmd : Nat) (p : List Byte) : Act :=
  match cmd with
  | 1 => Act.meterQuery m (pay p 0 1)
  | 2 => Act.logRead m (pay p 0 4) (pay p 4 2)
  | 3 => Act.intervalSet m (pay p 0 1) (pay p 1 1) (pay p 4 4)
  | 4 => Act.bandSet m (pay p 0 1) (pay p 4 4)
  | 5 => Act.attribQuery m (pay p 0 1)
  | _ => Act.respond m 5 cmd 11 []

/-- A command of class 0x06 (R230, R293). -/
def Act.class6 (m : Fin 16) (cmd : Nat) (p : List Byte) : Act :=
  match cmd with
  | 0x01 => Act.clauseWrite m (pay p 0 1) (pay p 2 2) (payData p 8 (pay p 4 2))
  | 0x02 => Act.clauseCommit m (pay p 0 1)
  | 0x03 => Act.clauseBind m (pay p 0 1) (pay p 1 1) (pay p 2 1) (pay p 3 1)
  | 0x04 => Act.clauseQuery m (pay p 0 1)
  | 0x05 => Act.clauseFree m (pay p 0 1)
  | 0x10 => Act.modelWrite m (pay p 0 1) (pay p 4 4) (payData p 12 (pay p 8 2))
  | 0x11 => Act.modelCommit m (pay p 0 1)
  | 0x12 => Act.modelAssign m (pay p 0 1) (pay p 1 1)
  | 0x13 => Act.modelQuery m (pay p 0 1)
  | 0x14 => Act.modelFree m (pay p 0 1)
  | 0x15 => Act.modelRun m (pay p 0 1) (payData p 8 (pay p 4 4))
  | 0x16 => Act.modelRead m (pay p 0 1)
  | 0x17 => Act.modelCfg m (pay p 0 1) (pay p 2 2)
  | _ => Act.respond m 6 cmd 11 []

/-- A command of class 0x07 (R322, R325). -/
def Act.class7 (m : Fin 16) (cmd : Nat) (p : List Byte) : Act :=
  match cmd with
  | 1 => Act.groupJoin m (pay p 0 1) (pay p 1 1) (pay p 2 2) (pay p 4 4) (pay p 8 2) (pay p 10 2) (pay p 12 1)
      ((List.range (pay p 12 1 + 2)).map (payPeer p))
  | 2 => Act.groupLeave m (pay p 0 1) (pay p 4 4)
  | 3 => Act.groupQuery m (pay p 0 1)
  | 4 => Act.objQuery m (pay p 0 1) (pay p 2 2)
  | 5 => Act.dumpRead m (pay p 0 4) (pay p 4 2) (pay p 6 1)
  | _ => Act.respond m 7 cmd 11 []

/-- A command of class 0x08 (R361); CTX_LOG_READ comes inside SESSION_REQ only. -/
def Act.class8 (m : Fin 16) (cmd : Nat) (p : List Byte) : Act :=
  match cmd with
  | 0x01 => Act.attest m (pay p 0 32)
  | 0x02 => Act.certGet m (pay p 0 1) (pay p 4 4) (pay p 8 2)
  | 0x03 => Act.confSet m (pay p 0 1)
  | 0x04 => Act.ctxOpen m (pay p 0 1) (pay p 1 1) (pay p 4 32)
  | 0x05 => Act.ctxClose m (pay p 0 1) (pay p 1 1)
  | 0x06 => Act.ctxAnnounce m (pay p 0 1) (pay p 1 1)
  | 0x07 => Act.sessionOpen m (pay p 0 1) (pay p 1 1) (payKey p 4) (payKey p 68) (pay p 132 32)
  | 0x08 => Act.sessionConfirm m (pay p 0 2) (pay p 4 32)
  | 0x09 => Act.sessionReq m (pay p 0 2) (pay p 8 8) (pay p 16 16) (p.drop 32)
  | 0x0A => Act.sessionClose m (pay p 0 2)
  | 0x0B => Act.keyEnroll m (pay p 0 1) (payKey p 4) (payKey p 68)
  | 0x0C => Act.command m 8 0xC fun _ => Act.respond m 8 0xC 4 []
  | 0x0D => Act.debugChallenge m
  | 0x0E => Act.debugUnlock m (payKey p 0) (pay p 64 1)
  | 0x0F => Act.ownerProvision m (payKey p 0) (payKey p 64)
  | 0x10 => Act.decommission m (payKey p 0)
  | _ => Act.respond m 8 cmd 11 []

/-- A command of class 0x09 (R409). -/
def Act.class9 (m : Fin 16) (cmd : Nat) (p : List Byte) : Act :=
  match cmd with
  | 1 => Act.stageWrite m (pay p 0 1) (pay p 4 4) (payData p 16 (pay p 8 2))
  | 2 => Act.stageCommit m (pay p 0 1) (pay p 4 4)
  | 3 => Act.activate m (pay p 0 1) (pay p 1 1)
  | 4 => Act.confirm m (pay p 0 1)
  | 5 => Act.updateQuery m (pay p 0 1)
  | 6 => Act.cancel m (pay p 0 1)
  | 7 => Act.imageKeyFuse m (pay p 0 1) (pay p 4 32) (payKey p 36)
  | 8 => Act.imageKeyRevoke m (pay p 0 1) (payKey p 4)
  | _ => Act.respond m 9 cmd 11 []

/-- A command of class 0x0A (R435). -/
def Act.classA (m : Fin 16) (cmd : Nat) (p : List Byte) : Act :=
  match cmd with
  | 1 => Act.invQuery m (pay p 0 1)
  | 2 => Act.recordsRead m (pay p 0 4) (pay p 4 2)
  | 3 => Act.repairQuery m
  | 4 => Act.hoursRead m (pay p 0 1)
  | _ => Act.respond m 0xA cmd 11 []

/-- Serve a command of mailbox m with a payload.  A class or command that no table defines is UNSUPPORTED (R339); class
0x04 has none. -/
def Act.mailboxCommand (m : Fin 16) (cls cmd : Nat) (p : List Byte) : Act :=
  match cls with
  | 0x1 => Act.class1 m cmd p
  | 0x2 => Act.class2 m cmd p
  | 0x3 => Act.class3 m cmd p
  | 0x5 => Act.class5 m cmd p
  | 0x6 => Act.class6 m cmd p
  | 0x7 => Act.class7 m cmd p
  | 0x8 => Act.class8 m cmd p
  | 0x9 => Act.class9 m cmd p
  | 0xA => Act.classA m cmd p
  | 0xB => Act.pldm m cmd (payData p 2 (pay p 0 2))
  | _ => Act.respond m cls cmd 11 []

/-- The pending mailbox whose turn is next, after the one served last (R343). -/
def State.nextMailbox (s : State) : Option (Fin 16) :=
  ((List.range 16).map fun i => (⟨(s.eth.lastServed + 1 + i) % 16, Nat.mod_lt _ (by decide)⟩ : Fin 16)).find?
    fun m => bitOf (s.fld F.MBX_PENDING.pending) m

/-- Serve the request of mailbox m: the wake takes the request word, as by LDE; one whose immediate is not the header's seq
is discarded (R342); a major other than 1 is answered VERSION with the supported major and minor (R340).  A length that
disagrees with the command's layout is the requester's own error (R8): the payload is cut at it, or at 8,160 bytes, what it
leaves out reads as 0, and the request is served (DESIGN CHOICE, log entry 96). -/
def Act.serveMailbox (m : Fin 16) : Act :=
  Act.get fun s =>
    let a := reqArea m
    let cls := s.nat (a + 2) 1
    let cmd := s.nat (a + 3) 1
    Act.seq [
      Act.ethx fun e => { e with lastServed := m },
      Act.when (!s.isPoisoned (wordNo (reqWord m))) (Act.setTag (wordNo (reqWord m)) false),
      if s.nat (reqWord m) 4 ≠ s.nat (a + 4) 4 then Act.mbxDone m
      else if s.nat (a + 1) 1 ≠ 1 then Act.respond m cls cmd 10 (leBytes 1 1 ++ leBytes 1 0)
      else Act.mailboxCommand m cls cmd (s.bytes (a + 32) (min 8160 (s.nat (a + 8) 2)))]

/-- An order that the coordinator of a MANAGER or TOP issues to its own tray, applied as a message of source MANAGER that
came in no mailbox and is answered nowhere (R337), or a request that it sends to a child's mailbox, the service image among
them (R335, R351). -/
def Act.ownOrder : OwnOrder → Act
  | .power target st capW =>
    match targetOf target with
    | some t => Act.when (st ≤ 3) (Act.powerOrderAs 1 t st (capW % 65536) fun _ _ => Act.skip)
    | none => Act.skip
  | .clearFault target =>
    if target < 8 then Act.efuseFaultClear target
    else Act.when (target = 8) (Act.setB F.SEQ_STATUS.gate_fail false)
  | .abortRelease mask => Act.get fun s => Act.abortUp (s.abortReleases mask)
  | .stage g w e => Act.get fun s => Act.capTake g w (e % 2 ^ 32) (s.stageStatus g w (e % 2 ^ 32))
  | .floor slot ctx watts => Act.when (floorOk slot ctx watts) (Act.setF (F.CAP_FLOOR.watts slot ctx) watts)
  | .capCfg g flags deadline => Act.when (capCfgOk g flags deadline) (Act.capCfgSet g flags deadline)
  | .send child cls cmd data => Act.get fun s => Act.childSend (s.fld F.CAP_CTL.group) child cls cmd data

/-- MAILBOX_SERVE, while the scheduler core runs: the coordinator's own order where there is one, otherwise the next pending
mailbox.  The security core authorizes an own order as any (R337). -/
def Act.mailboxServe (own : Option OwnOrder) : Act :=
  Act.get fun s =>
    match own with
    | some o => Act.when (s.powered && s.coreUp 2 && s.coreUp 0 && s.role ≠ 0) (Act.ownOrder o)
    | none =>
      match s.nextMailbox with
      | some m => Act.when (s.powered && s.coreUp 2) (Act.serveMailbox m)
      | none => Act.skip

def execMailboxServe (own : Option OwnOrder) (s : State) : Host.Outcome State Fault Refusal := (Act.mailboxServe own).go s

end Sys2Proof.Machine
end

