-- ==== Sys2Proof/Machine/Dispatch.lean ====
section
/-!
DEFINITION. What each command does: one arm for each row of the table of operations and events.
-/
namespace Sys2Proof.Machine

/-- The effect of a command on everything but the queue. -/
def exec (i : Instr) (s : State) : Host.Outcome State Fault Refusal :=
  match i with
  | .coldStart role trngOk => Sys2Proof.Machine.execColdStart role trngOk s
  | .alwaysOnLoss => Sys2Proof.Machine.execAlwaysOnLoss s
  | .warmReset cause => Sys2Proof.Machine.execWarmReset cause s
  | .bootStage0 goldenLow => Sys2Proof.Machine.execBootStage0 goldenLow s
  | .coreRelease by_ k => Sys2Proof.Machine.execCoreRelease by_ k s
  | .coreLock by_ k => Sys2Proof.Machine.execCoreLock by_ k s
  | .csrWrite k off v => Sys2Proof.Machine.execCsrWrite k off v s
  | .tnsCounterLoRead k c => Sys2Proof.Machine.execTnsCounterLoRead k c s
  | .tenseTick speed => Sys2Proof.Machine.execTenseTick speed s
  | .logicSlowClear => Sys2Proof.Machine.execLogicSlowClear s
  | .tnsAdjWrite k v => Sys2Proof.Machine.execTnsAdjWrite k v s
  | .domainTimeStep k v => Sys2Proof.Machine.execDomainTimeStep k v s
  | .epochDeadlineArm k g v => Sys2Proof.Machine.execEpochDeadlineArm k g v s
  | .epochDeadline g => Sys2Proof.Machine.execEpochDeadline g s
  | .paceRoundBoundary g busy => Sys2Proof.Machine.execPaceRoundBoundary g busy s
  | .xtalLost => Sys2Proof.Machine.execXtalLost s
  | .xtalRestored => Sys2Proof.Machine.execXtalRestored s
  | .ethFrameReceive port prio len taken macsecOk kind => Sys2Proof.Machine.execEthFrameReceive port prio len taken macsecOk kind s
  | .pfcPauseReceived port prios => Sys2Proof.Machine.execPfcPauseReceived port prios s
  | .powerOrder m target st capW => Sys2Proof.Machine.execPowerOrder m target st capW s
  | .query m target => Sys2Proof.Machine.execQuery m target s
  | .clearFault m target => Sys2Proof.Machine.execClearFault m target s
  | .gateRequestOn => Sys2Proof.Machine.execGateRequestOn s
  | .inputGood => Sys2Proof.Machine.execInputGood s
  | .gateTimeout => Sys2Proof.Machine.execGateTimeout s
  | .efuseFault n => Sys2Proof.Machine.execEfuseFault n s
  | .domPgGood p => Sys2Proof.Machine.execDomPgGood p s
  | .domPgLost d => Sys2Proof.Machine.execDomPgLost d s
  | .clauseStart t => Sys2Proof.Machine.execClauseStart t s
  | .domOn t d => Sys2Proof.Machine.execDomOn t d s
  | .dischargeWaitEnd t => Sys2Proof.Machine.execDischargeWaitEnd t s
  | .domOff t d => Sys2Proof.Machine.execDomOff t d s
  | .waitPg t d => Sys2Proof.Machine.execWaitPg t d s
  | .efuseOn t => Sys2Proof.Machine.execEfuseOn t s
  | .efuseOff t => Sys2Proof.Machine.execEfuseOff t s
  | .waitEfuse t => Sys2Proof.Machine.execWaitEfuse t s
  | .pmicOn t p => Sys2Proof.Machine.execPmicOn t p s
  | .pmicOff t p => Sys2Proof.Machine.execPmicOff t p s
  | .pmicVset t p rail mv => Sys2Proof.Machine.execPmicVset t p rail mv s
  | .regOn t d => Sys2Proof.Machine.execRegOn t d s
  | .regOff t d => Sys2Proof.Machine.execRegOff t d s
  | .regVset t d mv => Sys2Proof.Machine.execRegVset t d mv s
  | .rstAssert t => Sys2Proof.Machine.execRstAssert t s
  | .rstRelease t => Sys2Proof.Machine.execRstRelease t s
  | .waitSlotPg t => Sys2Proof.Machine.execWaitSlotPg t s
  | .flashMux t owner => Sys2Proof.Machine.execFlashMux t owner s
  | .waitTime t us => Sys2Proof.Machine.execWaitTime t us s
  | .waitTimeExpiry t => Sys2Proof.Machine.execWaitTimeExpiry t s
  | .event t code => Sys2Proof.Machine.execEvent t code s
  | .clauseEnd t => Sys2Proof.Machine.execClauseEnd t s
  | .pgTimeout t => Sys2Proof.Machine.execPgTimeout t s
  | .sidebandTransferDone t r => Sys2Proof.Machine.execSidebandTransferDone t r s
  | .rbCapStep => Sys2Proof.Machine.execRbCapStep s
  | .paceFrame busy => Sys2Proof.Machine.execPaceFrame busy s
  | .activityFrame n rx0 rx1 => Sys2Proof.Machine.execActivityFrame n rx0 rx1 s
  | .characterLockLoss n lane => Sys2Proof.Machine.execCharacterLockLoss n lane s
  | .commaLinkLost n => Sys2Proof.Machine.execCommaLinkLost n s
  | .commaLinkDead n => Sys2Proof.Machine.execCommaLinkDead n s
  | .controlTick => Sys2Proof.Machine.execControlTick s
  | .demotedProbe role => Sys2Proof.Machine.execDemotedProbe role s
  | .capStage m group capW epoch => Sys2Proof.Machine.execCapStage m group capW epoch s
  | .floorSet m slot ctx watts => Sys2Proof.Machine.execFloorSet m slot ctx watts s
  | .capQuery m => Sys2Proof.Machine.execCapQuery m s
  | .capCfg m group flags deadlineUs => Sys2Proof.Machine.execCapCfg m group flags deadlineUs s
  | .groupCap m group mode epoch total shares => Sys2Proof.Machine.execGroupCap m group mode epoch total shares s
  | .commitLimit g => Sys2Proof.Machine.execCommitLimit g s
  | .rampStep n => Sys2Proof.Machine.execRampStep n s
  | .rampAbandon n => Sys2Proof.Machine.execRampAbandon n s
  | .bufReady => Sys2Proof.Machine.execBufReady s
  | .limiterUpdate iinMv dt vbank ibank => Sys2Proof.Machine.execLimiterUpdate iinMv dt vbank ibank s
  | .dischargeEnd => Sys2Proof.Machine.execDischargeEnd s
  | .phaseOvercurrent p => Sys2Proof.Machine.execPhaseOvercurrent p s
  | .bankFault => Sys2Proof.Machine.execBankFault s
  | .bankOvervoltage vbank10mv => Sys2Proof.Machine.execBankOvervoltage vbank10mv s
  | .senseFault => Sys2Proof.Machine.execSenseFault s
  | .marginWrite d => Sys2Proof.Machine.execMarginWrite d s
  | .controlSetSample samples => Sys2Proof.Machine.execControlSetSample samples s
  | .fastRound busy convBad samples => Sys2Proof.Machine.execFastRound busy convBad samples s
  | .slowRound busy samples => Sys2Proof.Machine.execSlowRound busy samples s
  | .rateUpdate => Sys2Proof.Machine.execRateUpdate s
  | .moduleSensorRead n ix ack errFlag value => Sys2Proof.Machine.execModuleSensorRead n ix ack errFlag value s
  | .sensorStale ix => Sys2Proof.Machine.execSensorStale ix s
  | .stuckSensor ix => Sys2Proof.Machine.execStuckSensor ix s
  | .thmBrokenSet k w v => Sys2Proof.Machine.execThmBrokenSet k w v s
  | .thmBrokenClear k w v => Sys2Proof.Machine.execThmBrokenClear k w v s
  | .throttleUpdate => Sys2Proof.Machine.execThrottleUpdate s
  | .fanFail ix period ms => Sys2Proof.Machine.execFanFail ix period ms s
  | .fanRecover ix period => Sys2Proof.Machine.execFanRecover ix period s
  | .pumpFail p low period ms => Sys2Proof.Machine.execPumpFail p low period ms s
  | .flowLost f rate => Sys2Proof.Machine.execFlowLost f rate s
  | .flowRestored f rate => Sys2Proof.Machine.execFlowRestored f rate s
  | .valveCommand k v => Sys2Proof.Machine.execValveCommand k v s
  | .valvePullEnd v => Sys2Proof.Machine.execValvePullEnd v s
  | .thermalPredictorTick => Sys2Proof.Machine.execThermalPredictorTick s
  | .zonePredWrite k z v => Sys2Proof.Machine.execZonePredWrite k z v s
  | .fanCurveUpdate => Sys2Proof.Machine.execFanCurveUpdate s
  | .periodWave w => Sys2Proof.Machine.execPeriodWave w s
  | .tickAbsent => Sys2Proof.Machine.execTickAbsent s
  | .keepaliveExpiry o => Sys2Proof.Machine.execKeepaliveExpiry o s
  | .proofTest failPath => Sys2Proof.Machine.execProofTest failPath s
  | .periodArm k v => Sys2Proof.Machine.execPeriodArm k v s
  | .inputOvercurrentCut iin => Sys2Proof.Machine.execInputOvercurrentCut iin s
  | .inputOvercurrentPace iin => Sys2Proof.Machine.execInputOvercurrentPace iin s
  | .busOvervoltage vbus => Sys2Proof.Machine.execBusOvervoltage vbus s
  | .busUndervoltageCut vbus => Sys2Proof.Machine.execBusUndervoltageCut vbus s
  | .busUndervoltagePace vbus => Sys2Proof.Machine.execBusUndervoltagePace vbus s
  | .slotThermtrip n => Sys2Proof.Machine.execSlotThermtrip n s
  | .paceCauseClear c => Sys2Proof.Machine.execPaceCauseClear c s
  | .perCauseClear k reg v => Sys2Proof.Machine.execPerCauseClear k reg v s
  | .levelRegisterWrite k reg v => Sys2Proof.Machine.execLevelRegisterWrite k reg v s
  | .leakSample busy meas => Sys2Proof.Machine.execLeakSample busy meas s
  | .ropeSelfTest busy rises => Sys2Proof.Machine.execRopeSelfTest busy rises s
  | .perHb k v => Sys2Proof.Machine.execPerHb k v s
  | .fallbackEntry => Sys2Proof.Machine.execFallbackEntry s
  | .frameStrobe heard meas => Sys2Proof.Machine.execFrameStrobe heard meas s
  | .exportRefresh vin56 temps => Sys2Proof.Machine.execExportRefresh vin56 temps s
  | .commandLinkLost silentMs => Sys2Proof.Machine.execCommandLinkLost silentMs s
  | .commandLinkRestored silentMs => Sys2Proof.Machine.execCommandLinkRestored silentMs s
  | .intervalBoundary refBad => Sys2Proof.Machine.execIntervalBoundary refBad s
  | .referenceCheck refBad => Sys2Proof.Machine.execReferenceCheck refBad s
  | .nvCommit => Sys2Proof.Machine.execNvCommit s
  | .powerDown => Sys2Proof.Machine.execPowerDown s
  | .powerUp constsOk => Sys2Proof.Machine.execPowerUp constsOk s
  | .sealOpened => Sys2Proof.Machine.execSealOpened s
  | .sealClosed => Sys2Proof.Machine.execSealClosed s
  | .readI ch v mean crc => Sys2Proof.Machine.execReadI ch v mean crc s
  | .readV ch v mean crc => Sys2Proof.Machine.execReadV ch v mean crc s
  | .setIGain ch v crc => Sys2Proof.Machine.execSetIGain ch v crc s
  | .setIOfs ch v crc => Sys2Proof.Machine.execSetIOfs ch v crc s
  | .setVGain ch v crc => Sys2Proof.Machine.execSetVGain ch v crc s
  | .setVOfs ch v crc => Sys2Proof.Machine.execSetVOfs ch v crc s
  | .commit ch v crc => Sys2Proof.Machine.execCommit ch v crc s
  | .readConst ch v crc => Sys2Proof.Machine.execReadConst ch v crc s
  | .tariff k channel register => Sys2Proof.Machine.execTariff k channel register s
  | .intervalLen k => Sys2Proof.Machine.execIntervalLen k s
  | .intervalAlign k => Sys2Proof.Machine.execIntervalAlign k s
  | .logFetch k => Sys2Proof.Machine.execLogFetch k s
  | .itsCommandAck k => Sys2Proof.Machine.execItsCommandAck k s
  | .meterQuery m channel => Sys2Proof.Machine.execMeterQuery m channel s
  | .logRead m fromSeq count => Sys2Proof.Machine.execLogRead m fromSeq count s
  | .intervalSet m lengthMin align tickAt => Sys2Proof.Machine.execIntervalSet m lengthMin align tickAt s
  | .bandSet m band tickAt => Sys2Proof.Machine.execBandSet m band tickAt s
  | .attribQuery m slot => Sys2Proof.Machine.execAttribQuery m slot s
  | .logEventRecord => Sys2Proof.Machine.execLogEventRecord s
  | .attributionRun => Sys2Proof.Machine.execAttributionRun s
  | .add w d a b => Sys2Proof.Machine.execAdd w d a b s
  | .sub w d a b => Sys2Proof.Machine.execSub w d a b s
  | .and w d a b => Sys2Proof.Machine.execAnd w d a b s
  | .or w d a b => Sys2Proof.Machine.execOr w d a b s
  | .xor w d a b => Sys2Proof.Machine.execXor w d a b s
  | .andn w d a b => Sys2Proof.Machine.execAndn w d a b s
  | .sll w d a b => Sys2Proof.Machine.execSll w d a b s
  | .srl w d a b => Sys2Proof.Machine.execSrl w d a b s
  | .sra w d a b => Sys2Proof.Machine.execSra w d a b s
  | .slt w d a b => Sys2Proof.Machine.execSlt w d a b s
  | .sltu w d a b => Sys2Proof.Machine.execSltu w d a b s
  | .min w d a b => Sys2Proof.Machine.execMin w d a b s
  | .max w d a b => Sys2Proof.Machine.execMax w d a b s
  | .minu w d a b => Sys2Proof.Machine.execMinu w d a b s
  | .maxu w d a b => Sys2Proof.Machine.execMaxu w d a b s
  | .addw w d a b => Sys2Proof.Machine.execAddw w d a b s
  | .subw w d a b => Sys2Proof.Machine.execSubw w d a b s
  | .sllw w d a b => Sys2Proof.Machine.execSllw w d a b s
  | .srlw w d a b => Sys2Proof.Machine.execSrlw w d a b s
  | .sraw w d a b => Sys2Proof.Machine.execSraw w d a b s
  | .clz w d a => Sys2Proof.Machine.execClz w d a s
  | .ctz w d a => Sys2Proof.Machine.execCtz w d a s
  | .popc w d a => Sys2Proof.Machine.execPopc w d a s
  | .sadd w d a b => Sys2Proof.Machine.execSadd w d a b s
  | .ssub w d a b => Sys2Proof.Machine.execSsub w d a b s
  | .addi w d a imm => Sys2Proof.Machine.execAddi w d a imm s
  | .andi w d a imm => Sys2Proof.Machine.execAndi w d a imm s
  | .ori w d a imm => Sys2Proof.Machine.execOri w d a imm s
  | .xori w d a imm => Sys2Proof.Machine.execXori w d a imm s
  | .shi w d a imm => Sys2Proof.Machine.execShi w d a imm s
  | .slti w d a imm => Sys2Proof.Machine.execSlti w d a imm s
  | .lup w d imm => Sys2Proof.Machine.execLup w d imm s
  | .aup w d imm => Sys2Proof.Machine.execAup w d imm s
  | .load w d a width off => Sys2Proof.Machine.execLoad w d a width off s
  | .store w d a width off => Sys2Proof.Machine.execStore w d a width off s
  | .br w a b cond off => Sys2Proof.Machine.execBr w a b cond off s
  | .jal w d off => Sys2Proof.Machine.execJal w d off s
  | .jalr w d a imm => Sys2Proof.Machine.execJalr w d a imm s
  | .mul w d a b => Sys2Proof.Machine.execMul w d a b s
  | .mulh w d a b => Sys2Proof.Machine.execMulh w d a b s
  | .mulhu w d a b => Sys2Proof.Machine.execMulhu w d a b s
  | .div w d a b => Sys2Proof.Machine.execDiv w d a b s
  | .divu w d a b => Sys2Proof.Machine.execDivu w d a b s
  | .rem w d a b => Sys2Proof.Machine.execRem w d a b s
  | .remu w d a b => Sys2Proof.Machine.execRemu w d a b s
  | .ldw w d a => Sys2Proof.Machine.execLdw w d a s
  | .lde w d a => Sys2Proof.Machine.execLde w d a s
  | .stf w a b => Sys2Proof.Machine.execStf w a b s
  | .tclr w a => Sys2Proof.Machine.execTclr w a s
  | .tget w d a => Sys2Proof.Machine.execTget w d a s
  | .cadd w d a b => Sys2Proof.Machine.execCadd w d a b s
  | .tinite w a b => Sys2Proof.Machine.execTinite w a b s
  | .tinitf w a b => Sys2Proof.Machine.execTinitf w a b s
  | .tagWaitComplete w => Sys2Proof.Machine.execTagWaitComplete w s
  | .waitTimeout k => Sys2Proof.Machine.execWaitTimeout k s
  | .fence w mask => Sys2Proof.Machine.execFence w mask s
  | .ifence w => Sys2Proof.Machine.execIfence w s
  | .arv w d a => Sys2Proof.Machine.execArv w d a s
  | .bwt w d a b => Sys2Proof.Machine.execBwt w d a b s
  | .barrierWaitComplete k => Sys2Proof.Machine.execBarrierWaitComplete k s
  | .wfe w => Sys2Proof.Machine.execWfe w s
  | .wfeWake k => Sys2Proof.Machine.execWfeWake k s
  | .wtick w a => Sys2Proof.Machine.execWtick w a s
  | .wtickExpiry w => Sys2Proof.Machine.execWtickExpiry w s
  | .svc w imm => Sys2Proof.Machine.execSvc w imm s
  | .brk w imm => Sys2Proof.Machine.execBrk w imm s
  | .eret w => Sys2Proof.Machine.execEret w s
  | .crd w d cr => Sys2Proof.Machine.execCrd w d cr s
  | .cwr w cr a => Sys2Proof.Machine.execCwr w cr a s
  | .cset w d a cr => Sys2Proof.Machine.execCset w d a cr s
  | .cclr w d a cr => Sys2Proof.Machine.execCclr w d a cr s
  | .illegal w word => Sys2Proof.Machine.execIllegal w word s
  | .interrupt k => Sys2Proof.Machine.execInterrupt k s
  | .clauseWrite m slot off data => Sys2Proof.Machine.execClauseWrite m slot off data s
  | .clauseCommit m slot => Sys2Proof.Machine.execClauseCommit m slot s
  | .clauseBind m target flags up down => Sys2Proof.Machine.execClauseBind m target flags up down s
  | .clauseQuery m slot => Sys2Proof.Machine.execClauseQuery m slot s
  | .clauseFree m slot => Sys2Proof.Machine.execClauseFree m slot s
  | .tdld t td a imm => Sys2Proof.Machine.execTdld t td a imm s
  | .tdst t td a imm => Sys2Proof.Machine.execTdst t td a imm s
  | .tdrd t d td imm => Sys2Proof.Machine.execTdrd t d td imm s
  | .tdwr t td imm a => Sys2Proof.Machine.execTdwr t td imm a s
  | .tdadd t td imm a => Sys2Proof.Machine.execTdadd t td imm a s
  | .tmma t c a b => Sys2Proof.Machine.execTmma t c a b s
  | .tmm t c a b => Sys2Proof.Machine.execTmm t c a b s
  | .tewAdd t c a b => Sys2Proof.Machine.execTewAdd t c a b s
  | .tewSub t c a b => Sys2Proof.Machine.execTewSub t c a b s
  | .tewMul t c a b => Sys2Proof.Machine.execTewMul t c a b s
  | .tewMax t c a b => Sys2Proof.Machine.execTewMax t c a b s
  | .tewMin t c a b => Sys2Proof.Machine.execTewMin t c a b s
  | .scale t c a g => Sys2Proof.Machine.execScale t c a g s
  | .relu t c a => Sys2Proof.Machine.execRelu t c a s
  | .clamp t c a g => Sys2Proof.Machine.execClamp t c a g s
  | .sigm t c a => Sys2Proof.Machine.execSigm t c a s
  | .tanh t c a => Sys2Proof.Machine.execTanh t c a s
  | .exp t c a => Sys2Proof.Machine.execExp t c a s
  | .recip t c a => Sys2Proof.Machine.execRecip t c a s
  | .rsqrt t c a => Sys2Proof.Machine.execRsqrt t c a s
  | .gelu t c a => Sys2Proof.Machine.execGelu t c a s
  | .softplus t c a => Sys2Proof.Machine.execSoftplus t c a s
  | .log t c a => Sys2Proof.Machine.execLog t c a s
  | .rsum t c a => Sys2Proof.Machine.execRsum t c a s
  | .rmax t c a => Sys2Proof.Machine.execRmax t c a s
  | .rmin t c a => Sys2Proof.Machine.execRmin t c a s
  | .tacc t c a => Sys2Proof.Machine.execTacc t c a s
  | .tamax t c a => Sys2Proof.Machine.execTamax t c a s
  | .tcpy t c a => Sys2Proof.Machine.execTcpy t c a s
  | .tzero t c => Sys2Proof.Machine.execTzero t c s
  | .ttrn t c a => Sys2Proof.Machine.execTtrn t c a s
  | .twait t => Sys2Proof.Machine.execTwait t s
  | .tend t => Sys2Proof.Machine.execTend t s
  | .tflags t d => Sys2Proof.Machine.execTflags t d s
  | .jobLaunch k v => Sys2Proof.Machine.execJobLaunch k v s
  | .jobStart => Sys2Proof.Machine.execJobStart s
  | .jobEnd j => Sys2Proof.Machine.execJobEnd j s
  | .jobTimeout j => Sys2Proof.Machine.execJobTimeout j s
  | .jobAbort k v => Sys2Proof.Machine.execJobAbort k v s
  | .tileFail p reason => Sys2Proof.Machine.execTileFail p reason s
  | .partitionZero k p v => Sys2Proof.Machine.execPartitionZero k p v s
  | .zeroComplete p => Sys2Proof.Machine.execZeroComplete p s
  | .qualifierTick => Sys2Proof.Machine.execQualifierTick s
  | .quaTgtWrite k c v => Sys2Proof.Machine.execQuaTgtWrite k c v s
  | .modelWrite m slot off data => Sys2Proof.Machine.execModelWrite m slot off data s
  | .modelCommit m slot => Sys2Proof.Machine.execModelCommit m slot s
  | .modelAssign m slot role => Sys2Proof.Machine.execModelAssign m slot role s
  | .modelQuery m slot => Sys2Proof.Machine.execModelQuery m slot s
  | .modelFree m slot => Sys2Proof.Machine.execModelFree m slot s
  | .modelRun m slot data => Sys2Proof.Machine.execModelRun m slot data s
  | .modelRead m slot => Sys2Proof.Machine.execModelRead m slot s
  | .modelCfg m role failLimit => Sys2Proof.Machine.execModelCfg m role failLimit s
  | .read k => Sys2Proof.Machine.execRead k s
  | .register k => Sys2Proof.Machine.execRegister k s
  | .unregister k => Sys2Proof.Machine.execUnregister k s
  | .claim k => Sys2Proof.Machine.execClaim k s
  | .setOwner k => Sys2Proof.Machine.execSetOwner k s
  | .lineCfgWrite k l v => Sys2Proof.Machine.execLineCfgWrite k l v s
  | .lineFail l => Sys2Proof.Machine.execLineFail l s
  | .groupCommit k g v => Sys2Proof.Machine.execGroupCommit k g v s
  | .groupJoin m group role member generation periodUs phaseUs children peers => Sys2Proof.Machine.execGroupJoin m group role member generation periodUs phaseUs children peers s
  | .groupLeave m group generation => Sys2Proof.Machine.execGroupLeave m group generation s
  | .groupQuery m group => Sys2Proof.Machine.execGroupQuery m group s
  | .objQuery m kind index => Sys2Proof.Machine.execObjQuery m kind index s
  | .dumpRead m off length flags => Sys2Proof.Machine.execDumpRead m off length flags s
  | .dumpRequest k v => Sys2Proof.Machine.execDumpRequest k v s
  | .dumpWrite trigger core => Sys2Proof.Machine.execDumpWrite trigger core s
  | .relayRound g => Sys2Proof.Machine.execRelayRound g s
  | .roundExamine g => Sys2Proof.Machine.execRoundExamine g s
  | .round port f => Sys2Proof.Machine.execRound port f s
  | .staged port f => Sys2Proof.Machine.execStaged port f s
  | .agrCommit port f => Sys2Proof.Machine.execAgrCommit port f s
  | .arrive port f => Sys2Proof.Machine.execArrive port f s
  | .release port f => Sys2Proof.Machine.execRelease port f s
  | .stagedRetry g => Sys2Proof.Machine.execStagedRetry g s
  | .arriveRetry l => Sys2Proof.Machine.execArriveRetry l s
  | .childLost g c => Sys2Proof.Machine.execChildLost g c s
  | .orphaned g => Sys2Proof.Machine.execOrphaned g s
  | .portDown l => Sys2Proof.Machine.execPortDown l s
  | .portUp l => Sys2Proof.Machine.execPortUp l s
  | .cnp qp => Sys2Proof.Machine.execCnp qp s
  | .rateRecovery qp => Sys2Proof.Machine.execRateRecovery qp s
  | .mkaSecured l peer => Sys2Proof.Machine.execMkaSecured l peer s
  | .mkaLost l reason => Sys2Proof.Machine.execMkaLost l reason s
  | .ptpMessage l sent isEvent newState servo => Sys2Proof.Machine.execPtpMessage l sent isEvent newState servo s
  | .cmReq q => Sys2Proof.Machine.execCmReq q s
  | .rdmaWrite qp rkey addr data ce => Sys2Proof.Machine.execRdmaWrite qp rkey addr data ce s
  | .rdmaRead qp rkey addr len ce => Sys2Proof.Machine.execRdmaRead qp rkey addr len ce s
  | .writeWithImmediate qp rkey addr data imm ce => Sys2Proof.Machine.execWriteWithImmediate qp rkey addr data imm ce s
  | .mailboxServe own => Sys2Proof.Machine.execMailboxServe own s
  | .mbxDone k m v => Sys2Proof.Machine.execMbxDone k m v s
  | .mbxPush k m v => Sys2Proof.Machine.execMbxPush k m v s
  | .identify m => Sys2Proof.Machine.execIdentify m s
  | .portQuery m port => Sys2Proof.Machine.execPortQuery m port s
  | .portCfg m port flags ipv4 ipv6 => Sys2Proof.Machine.execPortCfg m port flags ipv4 ipv6 s
  | .streamCfg m c => Sys2Proof.Machine.execStreamCfg m c s
  | .streamQuery m stream => Sys2Proof.Machine.execStreamQuery m stream s
  | .ptpCfg m cfg role => Sys2Proof.Machine.execPtpCfg m cfg role s
  | .upCfg m cfg => Sys2Proof.Machine.execUpCfg m cfg s
  | .reset m kind => Sys2Proof.Machine.execReset m kind s
  | .pldmPassthrough m msg => Sys2Proof.Machine.execPldmPassthrough m msg s
  | .updateComponent component size step => Sys2Proof.Machine.execUpdateComponent component size step s
  | .activateFirmware => Sys2Proof.Machine.execActivateFirmware s
  | .streamPeriod n brought => Sys2Proof.Machine.execStreamPeriod n brought s
  | .attest m nonce => Sys2Proof.Machine.execAttest m nonce s
  | .signingServe => Sys2Proof.Machine.execSigningServe s
  | .certGet m index off length => Sys2Proof.Machine.execCertGet m index off length s
  | .confSet m on => Sys2Proof.Machine.execConfSet m on s
  | .confExit => Sys2Proof.Machine.execConfExit s
  | .ctxOpen m slot ctx keyDigest => Sys2Proof.Machine.execCtxOpen m slot ctx keyDigest s
  | .ctxClose m slot ctx => Sys2Proof.Machine.execCtxClose m slot ctx s
  | .ctxAnnounce m slot ctx => Sys2Proof.Machine.execCtxAnnounce m slot ctx s
  | .sessionOpen m slot ctx staticKey ephKey nonce => Sys2Proof.Machine.execSessionOpen m slot ctx staticKey ephKey nonce s
  | .sessionConfirm m session sA => Sys2Proof.Machine.execSessionConfirm m session sA s
  | .sessionReq m session counter tag cipher => Sys2Proof.Machine.execSessionReq m session counter tag cipher s
  | .sessionClose m session => Sys2Proof.Machine.execSessionClose m session s
  | .keyEnroll m slot key sig => Sys2Proof.Machine.execKeyEnroll m slot key sig s
  | .ctxLogRead m session fromSeq count => Sys2Proof.Machine.execCtxLogRead m session fromSeq count s
  | .debugChallenge m => Sys2Proof.Machine.execDebugChallenge m s
  | .debugUnlock m sig scope => Sys2Proof.Machine.execDebugUnlock m sig scope s
  | .ownerProvision m rootKey dbgKey => Sys2Proof.Machine.execOwnerProvision m rootKey dbgKey s
  | .decommission m sig => Sys2Proof.Machine.execDecommission m sig s
  | .nonceExpiry => Sys2Proof.Machine.execNonceExpiry s
  | .trngFail test => Sys2Proof.Machine.execTrngFail test s
  | .scrubStepDone n => Sys2Proof.Machine.execScrubStepDone n s
  | .ownedEntry n => Sys2Proof.Machine.execOwnedEntry n s
  | .idcode => Sys2Proof.Machine.execIdcode s
  | .bypass => Sys2Proof.Machine.execBypass s
  | .extest drive => Sys2Proof.Machine.execExtest drive s
  | .sample capture => Sys2Proof.Machine.execSample capture s
  | .stageWrite m target off data => Sys2Proof.Machine.execStageWrite m target off data s
  | .stageCommit m target size => Sys2Proof.Machine.execStageCommit m target size s
  | .activate m target flags => Sys2Proof.Machine.execActivate m target flags s
  | .confirm m target => Sys2Proof.Machine.execConfirm m target s
  | .updateQuery m target => Sys2Proof.Machine.execUpdateQuery m target s
  | .cancel m target => Sys2Proof.Machine.execCancel m target s
  | .imageKeyFuse m slot digest sig => Sys2Proof.Machine.execImageKeyFuse m slot digest sig s
  | .imageKeyRevoke m slot sig => Sys2Proof.Machine.execImageKeyRevoke m slot sig s
  | .activationRecheck => Sys2Proof.Machine.execActivationRecheck s
  | .activationDrop => Sys2Proof.Machine.execActivationDrop s
  | .healthConfirm k v => Sys2Proof.Machine.execHealthConfirm k v s
  | .healthWindowExpiry => Sys2Proof.Machine.execHealthWindowExpiry s
  | .slotFlashDone n result => Sys2Proof.Machine.execSlotFlashDone n result s
  | .coreReset k => Sys2Proof.Machine.execCoreReset k s
  | .rstCoreCmd by_ v => Sys2Proof.Machine.execRstCoreCmd by_ v s
  | .watchdogKick by_ k v => Sys2Proof.Machine.execWatchdogKick by_ k v s
  | .watchdogExpiry k => Sys2Proof.Machine.execWatchdogExpiry k s
  | .crashCheck => Sys2Proof.Machine.execCrashCheck s
  | .selfTestDone k pass => Sys2Proof.Machine.execSelfTestDone k pass s
  | .abortRelease m mask => Sys2Proof.Machine.execAbortRelease m mask s
  | .sramError e => Sys2Proof.Machine.execSramError e s
  | .wake t => Sys2Proof.Machine.execWake t s
  | .mainPgGood train => Sys2Proof.Machine.execMainPgGood train s
  | .mainSupplyTimeout => Sys2Proof.Machine.execMainSupplyTimeout s
  | .mainPgLoss => Sys2Proof.Machine.execMainPgLoss s
  | .wakeRetry => Sys2Proof.Machine.execWakeRetry s
  | .standbyEntry => Sys2Proof.Machine.execStandbyEntry s
  | .thermalShedExit => Sys2Proof.Machine.execThermalShedExit s
  | .avsSetpoint ack => Sys2Proof.Machine.execAvsSetpoint ack s
  | .eventAdmit src code sev hw payload => Sys2Proof.Machine.execEventAdmit src code sev hw payload s
  | .inventoryRead n id => Sys2Proof.Machine.execInventoryRead n id s
  | .inventoryCommit => Sys2Proof.Machine.execInventoryCommit s
  | .invQuery m section_ => Sys2Proof.Machine.execInvQuery m section_ s
  | .recordsRead m fromSeq count => Sys2Proof.Machine.execRecordsRead m fromSeq count s
  | .repairQuery m => Sys2Proof.Machine.execRepairQuery m s
  | .hoursRead m index => Sys2Proof.Machine.execHoursRead m index s
  | .pumpRecover p period => Sys2Proof.Machine.execPumpRecover p period s
  | .qpDisconnect qp => Sys2Proof.Machine.execQpDisconnect qp s
  | .readyHoldTimeout => Sys2Proof.Machine.execReadyHoldTimeout s
  | .imageSlotWritten ok => Sys2Proof.Machine.execImageSlotWritten ok s
  | .sakRekey l => Sys2Proof.Machine.execSakRekey l s

end Sys2Proof.Machine
end

