-- ==== Sys2Proof/Machine/TestMux.lean ====
section
/-!
DEFINITION. The test pins: what TESTMUX0 to TESTMUX3 and ATEST0 and ATEST1 carry (R366, R461).
-/
namespace Sys2Proof.Machine

/-- What a digital test pin carries. -/
inductive TestSignal where
  | low | usTick | controlTick | msTick | waveDone | keepAlive
  | paceStart (slot : Fin 8)
  | activityValid (slot : Fin 8)
  | coreRunning (core : Fin 13)
deriving DecidableEq, Repr

/-- What an analog test pin carries. -/
inductive TestLevel where
  | vss | vaonCore | vddMain | arefHalf | perVbus | bufIinTenfold
deriving DecidableEq, Repr

/-- The signal that a selection of TMX_DSEL names; any other drives the pin low. -/
def testSignal (sel : Nat) : TestSignal :=
  if sel = 0x01 then .usTick
  else if sel = 0x02 then .controlTick
  else if sel = 0x03 then .msTick
  else if sel = 0x30 then .waveDone
  else if sel = 0x31 then .keepAlive
  else if h : 0x10 ≤ sel ∧ sel < 0x18 then .paceStart ⟨sel - 0x10, by omega⟩
  else if h : 0x20 ≤ sel ∧ sel < 0x28 then .activityValid ⟨sel - 0x20, by omega⟩
  else if h : 0x40 ≤ sel ∧ sel < 0x4D then .coreRunning ⟨sel - 0x40, by omega⟩
  else .low

/-- The level that a selection of TMX_ASEL names; 6 and 7 drive VSS. -/
def testLevel (sel : Nat) : TestLevel :=
  match sel with
  | 1 => .vaonCore | 2 => .vddMain | 3 => .arefHalf | 4 => .perVbus | 5 => .bufIinTenfold | _ => .vss

/-- Whether hardware holds the test pins down: a slot is in SCRUB or WAIT_DEVICE, or confidential mode is on (R366). -/
def State.testHeld (s : State) : Bool := s.conf || (List.range 8).any s.hidden

/-- Whether selections reach the test pins: TMX_CTL.en, with debug scope bit 1 unlocked or in BLANK or DECOMMISSIONED, and
R366 not holding them (R461). -/
def State.testOpen (s : State) : Bool :=
  s.powered && s.flag F.TMX_CTL.en && (bitOf (s.fld F.SEC_STATUS.debug) 1 || s.fuses.lifecycle = 0 || s.fuses.lifecycle = 3) &&
    !s.testHeld

/-- What TESTMUX i carries. -/
def State.testmux (s : State) (i : Fin 4) : TestSignal := if s.testOpen then testSignal (s.fld (F.TMX_DSEL.sel i)) else .low

/-- Whether a signal is high as a level; those of the other selections mark an instant (log entry 98). -/
def State.testHigh (s : State) : TestSignal → Bool
  | .coreRunning k => s.coreUp k
  | _ => false

/-- What ATEST j carries. -/
def State.atest (s : State) (j : Fin 2) : TestLevel := if s.testOpen then testLevel (s.fld (F.TMX_ASEL.sel j)) else .vss

end Sys2Proof.Machine
end

