-- ==== Sys2Proof/Safety.lean ====
section
/-!
DEFINITION. What a run must keep to and what an answer is, in the terms the statements use.
-/
namespace Sys2Proof

open Sys2Proof.Machine

/-- The outcome is a next state that the condition holds of. -/
def Answers (o : Host.Outcome State Fault Refusal) (q : State → Prop) : Prop := ∃ t, o = .next t ∧ q t

/-- What every step must keep: the state is well formed, and no fuse is unburned on the way from s to t. -/
def SafeStep (s t : State) : Prop := (Wf s → Wf t) ∧ s.fuses.burnsTo t.fuses

/-- The states that commands lead to from s, one command after another, whatever commands are sent. -/
inductive Reaches (s : State) : State → Prop where
  | here : Reaches s s
  | after {t u : State} (c : Instr) : Reaches s t → exec c t = .next u → Reaches s u

/-! ## Frames -/

/-- Every register whose key is not listed reads as before. -/
def RegsKept (l : List Nat) (s t : State) : Prop := ∀ k, k ∉ l → t.reg k = s.reg k

/-- Every field that shares no bit with a listed one reads as before. -/
def FldsKept (l : List Fd) (s t : State) : Prop :=
  ∀ f : Fd, (∀ g ∈ l, f.off ≠ g.off ∨ f.hi < g.lo ∨ g.hi < f.lo) → t.fld f = s.fld f

/-- Every byte of memory outside n bytes from a on reads as before. -/
def BytesKept (a n : Nat) (s t : State) : Prop := ∀ b, (b < a ∨ a + n ≤ b) → t.byte b = s.byte b

/-- Every byte of the resident-image flash outside the listed spans, from first to before last, reads as before. -/
def FlashKept (l : List (Nat × Nat)) (s t : State) : Prop :=
  ∀ x, (∀ p ∈ l, x < p.1 ∨ p.2 ≤ x) → Sparse.get flashDefault x t.flash = Sparse.get flashDefault x s.flash

/-- The metadata sectors and the repair record (R382). -/
def metaSpan : Nat × Nat := (0, 0x20000)
def repairSpan : Nat × Nat := (0x1900000, 0x1910000)

/-! ## Requests at a mailbox -/

/-- A request of class cls and command cmd at mailbox m from source src is served: the block has power, the scheduler and
the security core run, and the image serves the command (R341, R360). -/
def Served (s : State) (m : Fin 16) (cls cmd src : Nat) : Prop :=
  s.powered = true ∧ s.coreUp 2 = true ∧ s.coreUp 0 = true ∧ s.serves cls cmd = true ∧ s.mbxSource m = src ∧ src ≠ 0

/-- The response area of mailbox m answers class cls and command cmd with a status, its seq is the request's, and the
request is no longer pending (R338, R343). -/
def Answered (s t : State) (m : Fin 16) (cls cmd status : Nat) : Prop :=
  t.byte (respArea m + 2) = BitVec.ofNat 8 cls ∧ t.byte (respArea m + 3) = BitVec.ofNat 8 cmd ∧
  t.byte (respArea m + 10) = BitVec.ofNat 8 status ∧
  (∀ i < 4, t.byte (respArea m + 4 + i) = s.byte (reqArea m + 4 + i)) ∧
  bitOf (t.fld F.MBX_PENDING.pending) m = false

/-- Mailbox m answers a request with a status, and of memory only its response area changes. -/
def Replied (s t : State) (m : Fin 16) (cls cmd status : Nat) : Prop :=
  Answered s t m cls cmd status ∧ BytesKept (respArea m) 0x2000 s t

/-- A request is answered, and nothing else happens: beside the response area and the pending bit only what the sources
are to be told and what left the ports may differ. -/
def RepliesOnly (s t : State) (m : Fin 16) (cls cmd status : Nat) : Prop :=
  Replied s t m cls cmd status ∧ RegsKept [F.MBX_PENDING.pending.off] s t ∧
  t = { s with mem := t.mem, csr := t.csr, seq := t.seq, eth := t.eth }

/-- No core and no thread waits on a word of shared SRAM that shares a byte with n bytes from a on. -/
def Unwaited (s : State) (a n : Nat) : Prop :=
  ∀ p ∈ s.waits, ∀ w, p.2.what.word = some w → sharedBase + 8 * w + 8 ≤ a ∨ a + n ≤ sharedBase + 8 * w

/-- No evaluation of the firmware's own waits on a job: neither the control tick's, nor the thermal job, nor the attribution
(R268, R269). -/
def Unclaimed (s : State) (x : JobRef) : Prop :=
  (∀ c, s.learned.chain = some c → c.job ≠ some x ∧ ∀ h ∈ c.hosts, h.2.1 ≠ x) ∧
  (∀ t, s.learned.thermal ≠ some (x, t)) ∧ ∀ i, s.learned.attrib ≠ some (x, i)

/-- Job r as core k launches it now (R249). -/
def launched (s : State) (k : Fin 13) (r : Job) : Job :=
  { r with st := .queued, issuer := k, accepted := s.tns.tick, order := s.jobSeq }

/-- Job j is about to end while the power core runs; no write of its threads is still to be shown, and its completion word
lies outside n bytes from a on (R254). -/
def JobEnds (s : State) (j : Fin 64) (a n : Nat) : Prop :=
  s.powered = true ∧ s.coreUp 1 = true ∧ (s.job j).st = .ending ∧ (∀ p ∈ s.jobThreads j, p.2.pend = []) ∧
  ((s.job j).done + 8 ≤ a ∨ a + n ≤ (s.job j).done)

/-- Targets and caps with the caps that were ordered since the last control tick in force (R95). -/
def capsInForce (s : State) : State :=
  { s with targets := s.targets.map fun x =>
      { x with capM := x.newM.getD x.capM, capH := x.newH.getD x.capH, newM := none, newH := none } }

/-- The port of core k to the Itsal die is free and nothing waits for it (R196). -/
def PortFree (s : State) (k : Fin 13) : Prop :=
  s.flag (F.SYS_ITS_STAT.busy k) = false ∧ ∀ c ∈ s.its.queue, c.1 ≠ k.val

/-- Core k runs or waits, with the logic die powered, so that what its firmware does takes effect. -/
def Alive (s : State) (k : Fin 13) : Prop := s.powered = true ∧ s.coreUp k = true

/-- What neither Period nor THM nor the sequencer ever changes: fuses, flash, tags, the Itsal die, Tense, clause slots,
caps, general registers, and memory outside tensor SRAM and DDR5, which lose their contents with the main supply (R415). -/
def Sheltered (s t : State) : Prop :=
  t.fuses = s.fuses ∧ t.flash = s.flash ∧ t.tags = s.tags ∧ t.its = s.its ∧ t.tns = s.tns ∧ t.clauses = s.clauses ∧
  t.caps = s.caps ∧ t.powered = s.powered ∧ (∀ k, (t.core k).gpr = (s.core k).gpr) ∧
  ∀ b, (b < tensorBase ∨ tensorBase + tensorSize ≤ b) → (b < ddrBase ∨ ddrBase + ddrSize ≤ b) → t.byte b = s.byte b

/-- Of the groups only the note that an emergency duty has stood may change (R105). -/
def GrpsKept (s t : State) : Prop :=
  ∀ g, (t.grp g).map (fun x => { x with selfEmerg := false }) = (s.grp g).map fun x => { x with selfEmerg := false }

/-- No enable of the tray's power changes. -/
def EnablesKept (s t : State) : Prop :=
  t.gateOn = s.gateOn ∧ (∀ n : Fin 8, t.efuseOn n = s.efuseOn n) ∧ ∀ d : Fin 48, t.domOn d = s.domOn d

/-- What TRAY and GATE leave (R161, R162): the gate request and the converter are off, the tray is FAULT, each slot that
was up or coming up is OFF and in reset, no clause runs, and every link carries emergency duty 1023. -/
def GateCut (s t : State) : Prop :=
  t.gateOn = false ∧ t.fld F.BUF_STATUS.mode = 0 ∧ t.bindState 8 = 3 ∧ (∀ x : Fin 9, (t.target x).run = none) ∧
  (∀ n : Fin 8, t.efuseOn n = false ∧ t.flag (F.SLT_STAT.rst n) = true ∧ 1023 ≤ t.applied n ∧
    t.bindState n = if s.bindState n = 3 then 3 else 0) ∧
  (∀ d : Fin 48, s.domOwner d ≤ 8 → t.domOn d = false) ∧ Sheltered s t

/-- What TRAY leaves (R161, R162): beside what GATE does, every domain enable is off. -/
def TrayCut (s t : State) : Prop := GateCut s t ∧ ∀ d : Fin 48, t.domOn d = false

/-- What SLOT n leaves (R161, R162, R422): its eFuse and its domains are off, it is FAULT and a failed slot device, its
down-clause is due or, where it has none, it is in reset (R72),
its link carries emergency duty 1023, and the gate and the other slots are as they were. -/
def SlotCut (s t : State) (n : Fin 8) : Prop :=
  t.efuseOn n = false ∧ (∀ d : Fin 48, s.domOwner d = n → t.domOn d = false) ∧ t.bindState n = 3 ∧
  (if s.flag (F.SEQ_BIND.down_valid n) then ∀ x : Fin 9, x.val = n.val → (t.target x).due = .downFault
   else t.flag (F.SLT_STAT.rst n) = true) ∧ bitOf (t.fld F.RST_ABORT.failed) n = true ∧ 1023 ≤ t.applied n ∧
  t.gateOn = s.gateOn ∧ (∀ j : Fin 8, j ≠ n → t.efuseOn j = s.efuseOn j ∧ t.bindState j = s.bindState j) ∧
  (∀ d : Fin 48, s.domOwner d ≠ n → t.domOn d = s.domOn d) ∧ Sheltered s t

/-! ## Clauses -/

/-- Settling changes nothing of target t: it is where the orders have it, or waits for the slots to be down, for the end of
a bus transfer, or for the tray (R73). -/
def calmAt (s : State) (t : Fin 9) : Bool :=
  let x := s.target t
  let st := s.bindState t
  let slotsDown := decide (t ≠ 8) || (List.finRange 8).all fun n =>
    s.quiet ⟨n, by omega⟩ && decide (s.bindState n ≠ 1) && decide (s.bindState n ≠ 2)
  match x.run with
  | some r =>
    !(r.stop && !r.inTransfer) &&
      (s.effOn t && (decide (t = 8) || (s.effOn 8 && decide (s.bindState 8 = 2))) || !r.up || !slotsDown || r.inTransfer && r.stop)
  | none =>
    if s.effOn t && (decide (t = 8) || (s.effOn 8 && decide (s.bindState 8 = 2))) then
      !(decide (x.due = .none) && (decide (st = 0) || (decide (st = 3) && x.lift)) && s.flag (F.SEQ_BIND.up_valid t) &&
        (decide (t ≠ 8) || s.seq.inputGood))
    else
      decide (x.due ≠ .up) && (decide (x.due ≠ .none) || !slotsDown ||
        (if t = 8 && st = 0 then !s.gateOn else decide (st = 0) || (s.effOn t && s.effOn 8)))

/-- Every target is where the orders have it. -/
def calm (s : State) : Bool := (List.finRange 9).all (calmAt s)

/-- The clause on core r.core goes on with a status in g10, its budget reloaded, where its program is in SVC (R229, R232);
no other core changes. -/
def Returned (s u : State) (r : ClauseRun) (status : Nat) : Prop :=
  let c := s.core r.core
  let d := u.core r.core
  let svc : Prop := c.exl = true ∧ c.causeIrq = false ∧ c.causeCode = 7
  (∀ j, j ≠ r.core → u.core j = s.core j) ∧
  (svc → d.gpr = c.gpr.set 10 (BitVec.ofNat 64 status) ∧ d.pc = pcOf (c.epc.toNat + 4) ∧ d.exl = false ∧
    d.pbudget = s.clauseBudget (clauseBank r.slot r.bank)) ∧
  (¬svc → d = c)

/-- The instruction of target t's clause fails with a reason (R71): shown with its index, and the clause goes on at its
on_fail block or, in a service, at its stub (R232); without either it is over with the target FAULT. -/
def Failed (s u : State) (t : Fin 9) (r : ClauseRun) (reason : Nat) : Prop :=
  u.fld (F.SEQ_CLAUSE_STAT.reason t) = reason ∧
  u.fld (F.SEQ_CLAUSE_STAT.index t) = ((s.core r.core).gpr[9]).toNat % 4096 ∧
  let block := r.onFail || decide (s.hdr (clauseBank r.slot r.bank) 14 2 ≠ 0xFFFF)
  (if block || s.inService r.core then
    (∃ q, (u.target t).run = some q ∧ q.onFail = block ∧ q.wait = none ∧ q.core = r.core ∧ q.slot = r.slot ∧ q.bank = r.bank) ∧
      Returned s u r reason
   else (u.target t).run = none ∧ u.bindState t = 3)

/-- Nothing changes but what the sequencer and its clauses hold and drive. -/
def OnlyPower (s u : State) : Prop :=
  GrpsKept s u ∧
  u = { s with csr := u.csr, targets := u.targets, cores := u.cores, evr := u.evr, doms := u.doms, pins := u.pins,
               links := u.links, seq := u.seq, inv := u.inv, quaFrac := u.quaFrac, ramps := u.ramps, free := u.free,
               grps := u.grps }

/-- A count of a field after n more, saturating. -/
def countedUp (s : State) (f : Fd) (n : Nat) : Nat := min (s.fld f + n) (fldSize f.hi f.lo - 1)

/-! ## Instructions of K32 -/

/-- The agent executes, and its instruction is fetched without a fault (R222, R223). -/
def Fetches (s : State) (w : Agent) : Prop :=
  s.runs w = true ∧ s.fetchFault w = none ∧ s.wordBad (s.pcOf w) = false

/-- The agent is not a core in mode P whose budget ends with this instruction (R223). -/
def InBudget (s : State) : Agent → Prop
  | .core k => (s.core k).p = true → (s.core k).pbudget ≠ 1
  | .thread _ => True

/-- The instruction of an agent completes.  Of the agent: every register but d is kept, CR_TSTAT takes ts where there is
one, the program counter is at pc, one more instruction is counted, and of a core in mode P one is taken from the budget;
nothing else of it changes.  No other core and no other thread changes. -/
def Completes (w : Agent) (d : Option Reg) (ts : Option Nat) (pc : Nat) (s t : State) : Prop :=
  (∀ r, some r ≠ d → t.gprOf w r = s.gprOf w r) ∧
  match w with
  | .core k =>
    (t.core k = { s.core k with
      gpr := (t.core k).gpr, pc := pcOf pc, retired := min ((s.core k).retired + 1) 0xFFFFFFFFFFFFFFFF, wait := none,
      run := .running, tstat := ts.getD (s.core k).tstat, pbudget := (s.core k).pbudget - b2n (s.core k).p }) ∧
    (∀ j, j ≠ k → t.core j = s.core j) ∧ t.threads = s.threads
  | .thread i =>
    (t.thread i = { s.thread i with
      gpr := (t.thread i).gpr, pc := pcOf pc, retired := min ((s.thread i).retired + 1) 0xFFFFFFFFFFFFFFFF, wait := none,
      st := .running, tstat := ts.getD (s.thread i).tstat }) ∧
    (∀ j : Nat, j ≠ i → t.thread j = s.thread j) ∧ t.cores = s.cores

/-- Nothing but cores and threads changes. -/
def OnlyAgents (s t : State) : Prop := t = { s with cores := t.cores, threads := t.threads }

/-- Register d of the agent holds v; g0 is as it was, whatever is written to it (R203). -/
def Gets (w : Agent) (d : Reg) (v : Word) (s t : State) : Prop :=
  t.gprOf w d = if d = 0 then s.gprOf w 0 else v

/-- An instruction with destination d and sources a and b computes f of the sources, completes, and does nothing else. -/
def Computes3 (c : Agent → Reg → Reg → Reg → Instr) (f : Word → Word → Word) : Prop :=
  ∀ (s : State) (w : Agent) (d a b : Reg), Fetches s w → InBudget s w →
    Answers (exec (c w d a b) s) fun t =>
      Gets w d (f (s.gprOf w a) (s.gprOf w b)) s t ∧ Completes w (some d) none (s.pcOf w + 4) s t ∧ OnlyAgents s t

/-- An instruction with destination d, source a and an immediate computes f of them where the immediate is legal. -/
def ComputesI {n : Nat} (c : Agent → Reg → Reg → BitVec n → Instr) (ok : BitVec n → Prop)
    (f : Word → BitVec n → Word) : Prop :=
  ∀ (s : State) (w : Agent) (d a : Reg) (imm : BitVec n), Fetches s w → InBudget s w → ok imm →
    Answers (exec (c w d a imm) s) fun t =>
      Gets w d (f (s.gprOf w a) imm) s t ∧ Completes w (some d) none (s.pcOf w + 4) s t ∧ OnlyAgents s t

/-- n is the number of leading zeros of x, trailing zeros with up. -/
def ZerosFrom (up : Bool) (x : Word) (n : Nat) : Prop :=
  n ≤ 64 ∧ (∀ i < n, x.getLsbD (if up then i else 63 - i) = false) ∧
  (n < 64 → x.getLsbD (if up then n else 63 - n) = true)

/-- Core k enters its handler (R224): mode, saved state and program counter, every other part of it as it was, and nothing
else of the state but draws free values. -/
def Enters (k : Fin 13) (irq : Bool) (code detail : Nat) (epc : Word) (s t : State) : Prop :=
  (t.core k).p = false ∧ (t.core k).ppm = ((s.core k).p && decide (3 ≤ k.val)) ∧ (t.core k).pie = (s.core k).ie ∧
  (t.core k).ie = false ∧ (t.core k).exl = true ∧ (t.core k).epc = epc ∧ (t.core k).causeIrq = irq ∧
  (t.core k).causeCode = code ∧ (t.core k).causeDetail = detail ∧ (t.core k).pc = pcOf (s.core k).vec ∧
  (t.core k).gpr = (s.core k).gpr ∧ (t.core k).vec = (s.core k).vec ∧ (t.core k).scratch = (s.core k).scratch ∧
  (t.core k).ien = (s.core k).ien ∧ (t.core k).tstat = (s.core k).tstat ∧ (t.core k).waitlim = (s.core k).waitlim ∧
  (t.core k).pbudget = (s.core k).pbudget ∧ (t.core k).regions = (s.core k).regions ∧
  (∀ j, j ≠ k → t.core j = s.core j) ∧ t = { s with cores := t.cores, free := t.free }

/-! ## Instructions of KT -/

/-- The KT instruction of thread i completes: every register but d is kept, the program counter is at the next word, one
more instruction is counted, and no core and no other thread changes. -/
def ThreadGoesOn (i : Fin 1024) (d : Option Reg) (s t : State) : Prop :=
  (∀ r, some r ≠ d → t.gprOf (.thread i) r = s.gprOf (.thread i) r) ∧
  (t.thread i).pc = pcOf ((s.thread i).pc + 4) ∧
  (t.thread i).retired = min ((s.thread i).retired + 1) 0xFFFFFFFFFFFFFFFF ∧
  t.cores = s.cores ∧ ∀ j : Nat, j ≠ i → t.thread j = s.thread j

/-- Every byte outside the cells of a tensor reads as before. -/
def CellsKept (d : TDesc) (s t : State) : Prop :=
  ∀ x, (∀ p ∈ d.cells, x < p.1 ∨ p.1 + p.2 ≤ x) → t.byte x = s.byte x

/-- A descriptor of a row of n binary32 elements in tensor SRAM. -/
def Row32 (d : TDesc) (n : Nat) : Prop :=
  d.format = 3 ∧ d.rank = 1 ∧ d.dims[0] = n ∧ d.usable = true ∧ d.inTs = true

/-- The bits and the value of element k of such a row. -/
def bitsAt (s : State) (d : TDesc) (k : Nat) : Nat := s.nat (d.base + 4 * k) 4
def laneAt (s : State) (d : TDesc) (k : Nat) : Fp := fpRead32 (bitsAt s d k)

end Sys2Proof
end

