-- ==== Sys2Proof/Certificates/Slice0/Obligations.lean ====
section
/-!
DEFINITION. The statements for the provers.
-/
open Sys2Proof Sys2Proof.Machine

/-- A step takes the command in front of the queue and runs it with the rest of the queue (spec/INDEX.md). -/
def Obligations.StepRunsTheFrontCommand : Prop :=
  ∀ (s : State) (c : Instr) (rest : List Instr),
    s.pending = c :: rest → step s = exec c { s with pending := rest }

/-- With ROLE[1:0] at 0b11 a cold start goes as for WORKER, and records an error of the boot (R4). -/
def Obligations.AMisStrappedTrayRunsAsWorker : Prop :=
  ∀ s : State, s.powered = false → ∃ t u : State,
    exec (.coldStart 0#2 true) s = .next t ∧ exec (.coldStart 3#2 true) s = .next u ∧
    u = { t with evr := u.evr } ∧ t.role = 0 ∧ t.powered = true ∧ t.coreUp 0 = true ∧ t.evr.ring = [] ∧
    ∃ r, u.evr.ring = [r] ∧ r.src = 0x29 ∧ r.code = 0x0F0F ∧ r.sev = 3 ∧ r.seq = 0

/-- The state after reset is well formed (R201, R203). -/
def Obligations.ResetStateIsWellFormed : Prop := Wf State.reset

/-- Every step keeps the state well formed, whatever command it runs (R201, R203, R431). -/
def Obligations.EveryStepKeepsTheStateWellFormed : Prop :=
  ∀ s t : State, Wf s → step s = .next t → Wf t

/-- Whatever commands are sent, no fuse is ever unburned (R359, R387, R388). -/
def Obligations.NoRunUnburnsAFuse : Prop :=
  ∀ s t : State, Reaches s t → s.fuses.burnsTo t.fuses

/-- Every command answers a next state and leaves the queue of commands alone (spec/opcode_table.json). -/
def Obligations.EveryCommandCompletesAndLeavesTheQueue : Prop :=
  ∀ (c : Instr) (s : State), Answers (exec c s) fun t => t.pending = s.pending ∧ SafeStep s t

/-- The role is sampled at a cold start and no command changes it while the logic die has power (R3). -/
def Obligations.TheRoleHoldsFromOneColdStartToTheNext : Prop :=
  (∀ (c : Instr) (s t : State), s.powered = true → exec c s = .next t →
    t.role = s.role ∧ (t.powered = true ∨ (c = .alwaysOnLoss ∧ t = { s with powered := false }))) ∧
  (∀ (s : State) (role : BitVec 2) (trngOk : Bool), s.powered = false → Answers (exec (.coldStart role trngOk) s) fun t =>
    t.powered = true ∧ t.role = if role = 3 then 0 else role.toNat)

/-- OP and MD instructions write the result of their operands to d, go on to the next word and change nothing else (R200, R203, R207, R210, R223). -/
def Obligations.RegisterArithmeticComputes : Prop :=
  Computes3 .add (fun x y => x + y) ∧ Computes3 .sub (fun x y => x - y) ∧ Computes3 .and (fun x y => x &&& y) ∧
  Computes3 .or (fun x y => x ||| y) ∧ Computes3 .xor (fun x y => x ^^^ y) ∧
  Computes3 .andn (fun x y => x &&& ~~~y) ∧
  Computes3 .sll (fun x y => x <<< (y.toNat % 64)) ∧ Computes3 .srl (fun x y => x >>> (y.toNat % 64)) ∧
  Computes3 .sra (fun x y => x.sshiftRight (y.toNat % 64)) ∧
  Computes3 .slt (fun x y => if x.toInt < y.toInt then 1#64 else 0#64) ∧
  Computes3 .sltu (fun x y => if x.toNat < y.toNat then 1#64 else 0#64) ∧
  Computes3 .min (fun x y => if x.toInt ≤ y.toInt then x else y) ∧
  Computes3 .max (fun x y => if x.toInt ≤ y.toInt then y else x) ∧
  Computes3 .minu (fun x y => if x.toNat ≤ y.toNat then x else y) ∧
  Computes3 .maxu (fun x y => if x.toNat ≤ y.toNat then y else x) ∧
  Computes3 .addw (fun x y => (x.setWidth 32 + y.setWidth 32).signExtend 64) ∧
  Computes3 .subw (fun x y => (x.setWidth 32 - y.setWidth 32).signExtend 64) ∧
  Computes3 .sllw (fun x y => (x.setWidth 32 <<< (y.toNat % 32)).signExtend 64) ∧
  Computes3 .srlw (fun x y => (x.setWidth 32 >>> (y.toNat % 32)).signExtend 64) ∧
  Computes3 .sraw (fun x y => ((x.setWidth 32).sshiftRight (y.toNat % 32)).signExtend 64) ∧
  Computes3 .sadd (fun x y => BitVec.ofInt 64 (max (-(2 ^ 63)) (min (x.toInt + y.toInt) (2 ^ 63 - 1)))) ∧
  Computes3 .ssub (fun x y => BitVec.ofInt 64 (max (-(2 ^ 63)) (min (x.toInt - y.toInt) (2 ^ 63 - 1)))) ∧
  Computes3 .mul (fun x y => x * y) ∧
  Computes3 .mulh (fun x y => BitVec.ofInt 64 ((x.toInt * y.toInt) / 2 ^ 64)) ∧
  Computes3 .mulhu (fun x y => BitVec.ofNat 64 (x.toNat * y.toNat / 2 ^ 64))

/-- Division never raises an exception; by 0 the quotient is all ones and the remainder the dividend (R203, R210). -/
def Obligations.DivisionNeverTraps : Prop :=
  Computes3 .div (fun x y => if y = 0#64 then BitVec.allOnes 64 else BitVec.ofInt 64 (x.toInt.tdiv y.toInt)) ∧
  Computes3 .divu (fun x y => if y = 0#64 then BitVec.allOnes 64 else BitVec.ofNat 64 (x.toNat / y.toNat)) ∧
  Computes3 .rem (fun x y => if y = 0#64 then x else BitVec.ofInt 64 (x.toInt.tmod y.toInt)) ∧
  Computes3 .remu (fun x y => if y = 0#64 then x else BitVec.ofNat 64 (x.toNat % y.toNat))

/-- CLZ, CTZ, POPC and the instructions with an immediate write their result to d and go on (R204, R205, R207, R208). -/
def Obligations.ImmediateAndCountingInstructionsCompute : Prop :=
  (∀ (s : State) (w : Agent) (d a : Reg), Fetches s w → InBudget s w →
    (Answers (exec (.clz w d a) s) fun t =>
      (d ≠ 0 → ZerosFrom false (s.gprOf w a) (t.gprOf w d).toNat) ∧ Completes w (some d) none (s.pcOf w + 4) s t ∧
      OnlyAgents s t) ∧
    (Answers (exec (.ctz w d a) s) fun t =>
      (d ≠ 0 → ZerosFrom true (s.gprOf w a) (t.gprOf w d).toNat) ∧ Completes w (some d) none (s.pcOf w + 4) s t ∧
      OnlyAgents s t) ∧
    (Answers (exec (.popc w d a) s) fun t =>
      Gets w d (BitVec.ofNat 64 ((List.range 64).countP fun i => (s.gprOf w a).getLsbD i)) s t ∧
      Completes w (some d) none (s.pcOf w + 4) s t ∧ OnlyAgents s t)) ∧
  ComputesI .addi (fun _ => True) (fun x imm => x + imm.signExtend 64) ∧
  ComputesI .andi (fun _ => True) (fun x imm => x &&& imm.signExtend 64) ∧
  ComputesI .ori (fun _ => True) (fun x imm => x ||| imm.signExtend 64) ∧
  ComputesI .xori (fun _ => True) (fun x imm => x ^^^ imm.signExtend 64) ∧
  ComputesI .slti (fun _ => True) (fun x imm => if x.toInt < imm.toInt then 1#64 else 0#64) ∧
  ComputesI .shi (fun imm => imm.toNat < 2 ^ 9 ∧ (imm.getLsbD 8 = true → imm.getLsbD 5 = false))
    (fun x imm =>
      let n := imm.toNat % 64
      if imm.getLsbD 8 then
        let y : BitVec 32 := x.setWidth 32
        (match imm.toNat / 64 % 4 with
          | 0 => y <<< n | 1 => y >>> n | 2 => y.sshiftRight n | _ => y.rotateRight n).signExtend 64
      else match imm.toNat / 64 % 4 with
        | 0 => x <<< n | 1 => x >>> n | 2 => x.sshiftRight n | _ => x.rotateRight n) ∧
  (∀ (s : State) (w : Agent) (d : Reg) (imm : BitVec 22), Fetches s w → InBudget s w →
    (Answers (exec (.lup w d imm) s) fun t =>
      Gets w d (BitVec.ofInt 64 (imm.toInt * 2 ^ 17)) s t ∧ Completes w (some d) none (s.pcOf w + 4) s t ∧
      OnlyAgents s t) ∧
    (Answers (exec (.aup w d imm) s) fun t =>
      Gets w d (BitVec.ofInt 64 (s.pcOf w + imm.toInt * 2 ^ 17)) s t ∧ Completes w (some d) none (s.pcOf w + 4) s t ∧
      OnlyAgents s t))

/-- BR, JAL and JALR move the program counter by their condition and offset and write the link (R205, R210, R211). -/
def Obligations.BranchesAndJumpsGoWhereTheyShould : Prop :=
  ∀ (s : State) (w : Agent), Fetches s w → InBudget s w →
    (∀ (a b : Reg) (cond : BitVec 3) (off : BitVec 14) (holds : Bool),
      (let x := s.gprOf w a
       let y := s.gprOf w b
       (cond = 0 ∧ holds = decide (x = y)) ∨ (cond = 1 ∧ holds = decide (x ≠ y)) ∨
       (cond = 2 ∧ holds = decide (x.toInt < y.toInt)) ∨ (cond = 3 ∧ holds = decide (y.toInt ≤ x.toInt)) ∨
       (cond = 4 ∧ holds = decide (x.toNat < y.toNat)) ∨ (cond = 5 ∧ holds = decide (y.toNat ≤ x.toNat))) →
      Answers (exec (.br w a b cond off) s) fun t => OnlyAgents s t ∧
        Completes w none none
          (if holds then (BitVec.ofInt 64 ((s.pcOf w : Int) + 4 * off.toInt)).toNat else s.pcOf w + 4) s t) ∧
    (∀ (d : Reg) (off : BitVec 22),
      Answers (exec (.jal w d off) s) fun t => OnlyAgents s t ∧ Gets w d (BitVec.ofNat 64 (s.pcOf w + 4)) s t ∧
        Completes w (some d) none (BitVec.ofInt 64 ((s.pcOf w : Int) + 4 * off.toInt)).toNat s t) ∧
    (∀ (d a : Reg) (imm : BitVec 17), (s.gprOf w a + imm.signExtend 64).toNat % 4 = 0 →
      Answers (exec (.jalr w d a imm) s) fun t => OnlyAgents s t ∧ Gets w d (BitVec.ofNat 64 (s.pcOf w + 4)) s t ∧
        Completes w (some d) none (s.gprOf w a + imm.signExtend 64).toNat s t) ∧
    (∀ mask : BitVec 4, Answers (exec (.fence w mask) s) fun t =>
      OnlyAgents s t ∧ Completes w none none (s.pcOf w + 4) s t) ∧
    (Answers (exec (.ifence w) s) fun t => OnlyAgents s t ∧ Completes w none none (s.pcOf w + 4) s t)

/-- LOAD extends what memory holds at a + off14 into d; STORE writes the low bytes of d there and makes its word FULL (R204, R209, R212, R222). -/
def Obligations.LoadsAndStoresReachMemory : Prop :=
  ∀ (s : State) (k : Fin 13) (d a : Reg) (width : BitVec 3) (off : BitVec 14),
    Fetches s (.core k) → InBudget s (.core k) →
    let x := (s.gprOf (.core k) a + off.signExtend 64).toNat
    let n := 2 ^ (width.toNat % 4)
    inMemory x = true → csrOffset x = none → s.memoryUp x = true →
    (width ≠ 7 → s.dataExc k x n false = none → s.wordBad x = false →
      Answers (exec (.load (.core k) d a width off) s) fun t =>
        OnlyAgents s t ∧ Completes (.core k) (some d) none (s.pcOf (.core k) + 4) s t ∧
        Gets (.core k) d
          (let v := leNat (s.bytes x n)
           if width.toNat < 3 ∧ 2 ^ (8 * n - 1) ≤ v then BitVec.ofInt 64 ((v : Int) - 2 ^ (8 * n)) else BitVec.ofNat 64 v)
          s t) ∧
    (width.toNat < 4 → s.dataExc k x n true = none → (inShared x = true → s.waitersOn (wordNo x) = []) →
      Answers (exec (.store (.core k) d a width off) s) fun t =>
        t = { s with cores := t.cores, threads := t.threads, mem := t.mem, tags := t.tags } ∧
        Completes (.core k) none none (s.pcOf (.core k) + 4) s t ∧
        t.bytes x n = leBytes n (s.gprOf (.core k) d).toNat ∧ BytesKept x n s t ∧
        (∀ w, t.tagFull w =
          if inShared x = true ∧ w = wordNo x ∧ s.isPoisoned w = false then true else s.tagFull w))

/-- TAG instructions on a usable word read it, write it and give it the state that R213 states (R212, R213, R214, R216). -/
def Obligations.TagInstructionsActOnTheWord : Prop :=
  ∀ (s : State) (w : Agent) (d a b : Reg) (n : Nat), Fetches s w → InBudget s w →
    s.isPoisoned n = false → s.wordBad (wordAddr n) = false → s.waitersOn n = [] →
    let old := s.word64 n
    let does (c : Instr) (need : Nat) (d : Option Reg) (v : Word) (mem : Word) (full : Bool) : Prop :=
      s.tagAddr w (s.gprOf w a).toNat need = .ok n →
      Answers (exec c s) fun t =>
        t = { s with cores := t.cores, threads := t.threads, mem := t.mem, tags := t.tags } ∧
        Completes w d (some 0) (s.pcOf w + 4) s t ∧ (∀ r, d = some r → Gets w r v s t) ∧
        t.word64 n = mem ∧ BytesKept (wordAddr n) 8 s t ∧
        (∀ m, t.tagFull m = if m = n then full else s.tagFull m)
    (s.tagFull n = true → does (.ldw w d a) 2 (some d) old old true) ∧
    (s.tagFull n = true → does (.lde w d a) 6 (some d) old old false) ∧
    (s.tagFull n = false → does (.stf w a b) 4 none 0#64 (s.gprOf w b) true) ∧
    does (.tclr w a) 4 none 0#64 old false ∧
    does (.tget w d a) 2 (some d) (if s.tagFull n then 1#64 else 0#64) old (s.tagFull n) ∧
    does (.cadd w d a b) 6 (some d) old
      (let sum : Int := (old.toNat % 2 ^ 62 : Nat) + (s.gprOf w b).toInt
       if sum < 0 then BitVec.ofNat 64 ((old.toNat / 2 ^ 62 ||| 1) * 2 ^ 62)
       else if 2 ^ 62 ≤ sum then BitVec.ofNat 64 ((old.toNat / 2 ^ 62 ||| 2) * 2 ^ 62 + (2 ^ 62 - 1))
       else BitVec.ofNat 64 (old.toNat / 2 ^ 62 * 2 ^ 62 + sum.toNat)) (s.tagFull n) ∧
    does (.tinite w a b) 4 none 0#64 (s.gprOf w b) false ∧
    does (.tinitf w a b) 4 none 0#64 (s.gprOf w b) true

/-- A fill of an EMPTY word releases every LDW that waits on it and exactly one LDE, the one that waited first (R213, R214). -/
def Obligations.OneFillReleasesOneLdeAndEveryLdw : Prop :=
  ∀ (s : State) (w : Agent) (a b : Reg) (n : Nat), Fetches s w → InBudget s w → (s.threads.map Prod.fst).Nodup →
    s.tagAddr w (s.gprOf w a).toNat 4 = .ok n → s.isPoisoned n = false → s.tagFull n = false →
    (∀ p ∈ s.waitersOn n, p.1 ≠ w ∧ ∃ take addr d, p.2.what = .load take addr d) →
    let v := s.gprOf w b
    let isLde (p : Agent × Wait) : Bool := match p.2.what with | .load true _ _ => true | _ => false
    let grantOf (t : State) (x : Agent) : Option (Nat × Word) :=
      match x with | .core k => (t.core k).wait.bind (·.grant) | .thread i => (t.thread i).wait.bind (·.grant)
    Answers (exec (.stf w a b) s) fun t =>
      t.word64 n = v ∧
      (∀ p ∈ s.waitersOn n, isLde p = false → grantOf t p.1 = some (0, v)) ∧
      (match (s.waitersOn n).find? isLde with
       | some p => grantOf t p.1 = some (0, v) ∧ t.tagFull n = false ∧
         ∀ q ∈ s.waitersOn n, isLde q = true → q.1 ≠ p.1 → grantOf t q.1 = none
       | none => t.tagFull n = true)

/-- Tag waits, BWT, WFE and WTICK begin, complete, time out and wake as R214, R217 and R218 state (R214, R217, R218, R303). -/
def Obligations.WaitsBeginAndEndAsStated : Prop :=
  ∀ (s : State) (k : Fin 13) (d a b : Reg), InBudget s (.core k) →
    let w : Agent := .core k
    let waits (c : Instr) (x : WaitFor) : Prop :=
      Answers (exec c s) fun t =>
        t.core k = { s.core k with run := .waiting, wait := some ⟨x, s.tns.tick, s.waitSeq, none⟩ } ∧
        (∀ j, j ≠ k → t.core j = s.core j) ∧ t = { s with cores := t.cores, waitSeq := s.waitSeq + 1 }
    let ends (c : Instr) (d : Option Reg) (v : Word) (ts : Option Nat) : Prop :=
      Answers (exec c s) fun t => OnlyAgents s t ∧ Completes w d ts (s.pcOf w + 4) s t ∧ (∀ r, d = some r → Gets w r v s t)
    (Fetches s w →
      (∀ n, s.isPoisoned n = false → s.tagFull n = false →
        (s.tagAddr w (s.gprOf w a).toNat 2 = .ok n → waits (.ldw w d a) (.load false (wordAddr n) d)) ∧
        (s.tagAddr w (s.gprOf w a).toNat 6 = .ok n → waits (.lde w d a) (.load true (wordAddr n) d))) ∧
      (∀ n, s.isPoisoned n = false → s.tagFull n = true → s.tagAddr w (s.gprOf w a).toNat 4 = .ok n →
        waits (.stf w a b) (.fill (wordAddr n) (s.gprOf w b))) ∧
      (let l := lineNo (s.gprOf w a)
       s.flag (F.AGR_LINE_STAT.poisoned l) = false →
        (bitOf (s.members l) k = true → bitOf (s.arrived l) k = false → d ≠ 0 →
          Answers (exec (.arv w d a) s) fun t =>
            t.gprOf w d = BitVec.ofNat 64 (b2n (s.flag (F.AGR_LINE_STAT.sense l))) ∧ (t.core k).tstat = 0) ∧
        (s.flag (F.AGR_LINE_STAT.sense l) ≠ bitOf (s.gprOf w b).toNat 0 →
          ends (.bwt w d a b) (some d) (BitVec.ofNat 64 (b2n (s.flag (F.AGR_LINE_STAT.sense l)))) (some 0)) ∧
        (s.flag (F.AGR_LINE_STAT.sense l) = bitOf (s.gprOf w b).toNat 0 →
          waits (.bwt w d a b) (.barrier l (bitOf (s.gprOf w b).toNat 0) d))) ∧
      ((s.core k).p = false →
        (s.irqs k ≠ 0 → ends (.wfe w) none 0#64 (some 0)) ∧ (s.irqs k = 0 → waits (.wfe w) .event)) ∧
      ((s.gprOf w a).toNat ≤ s.tns.tick → ends (.wtick w a) none 0#64 none) ∧
      (s.tns.tick < (s.gprOf w a).toNat → waits (.wtick w a) (.tick (s.gprOf w a).toNat))) ∧
    (∀ x, s.waitOf w = some x →
      (∀ take addr r st v, x.what = .load take addr r → x.grant = some (st, v) →
        ends (.tagWaitComplete w) (if st = 0 then some r else none) v (some st)) ∧
      (∀ addr u st v, x.what = .fill addr u → x.grant = some (st, v) → ends (.tagWaitComplete w) none v (some st)) ∧
      (∀ l b r st v, x.what = .barrier l b r → x.grant = some (st, v) →
        ends (.barrierWaitComplete k) (if st = 0 then some r else none) v (some st)) ∧
      (x.what = .event → s.irqs k ≠ 0 → ends (.wfeWake k) none 0#64 (some 0)) ∧
      (∀ u, x.what = .tick u → u ≤ s.tns.tick → ends (.wtickExpiry w) none 0#64 none) ∧
      (x.what.limited = true → x.grant = none → (s.core k).waitlim ≠ 0 → x.since + (s.core k).waitlim ≤ s.tns.tick →
        ends (.waitTimeout k) none 0#64 (some 2)))

/-- SVC, BRK, ILLEGAL and INTERRUPT enter the handler as R224 states, and ERET returns from it (R219, R223, R224, R226). -/
def Obligations.ExceptionsAndInterruptsEnterTheHandler : Prop :=
  ∀ (s : State) (k : Fin 13),
    (Fetches s (.core k) → (s.core k).exl = false →
      ((s.core k).p = false ∨ s.clauseOn k = none →
        (∀ imm : BitVec 12, Answers (exec (.svc (.core k) imm) s) fun t =>
          Enters k false 7 imm.toNat (BitVec.ofNat 64 (s.core k).pc) s t ∧ (t.core k).badaddr = 0#64 ∧ t.free = s.free) ∧
        (∀ imm : BitVec 12, Answers (exec (.brk (.core k) imm) s) fun t =>
          Enters k false 8 imm.toNat (BitVec.ofNat 64 (s.core k).pc) s t ∧ (t.core k).badaddr = 0#64 ∧ t.free = s.free) ∧
        (∀ word : BitVec 32, decodeWord (.core k) word = none →
          Answers (exec (.illegal (.core k) word) s) fun t =>
            Enters k false 1 0 (BitVec.ofNat 64 (s.core k).pc) s t ∧
            (t.core k).badaddr = BitVec.ofNat 64 word.toNat ∧ t.free = s.free))) ∧
    (s.powered = true → (s.core k).run = .running → (s.core k).ie = true → ∀ n < 16, bitOf (s.irqs k) n = true →
      (∀ i < n, bitOf (s.irqs k) i = false) →
      Answers (exec (.interrupt k) s) fun t =>
        Enters k true 0 n (BitVec.ofNat 64 (s.core k).pc) s t ∧ (t.core k).run = .running) ∧
    (Fetches s (.core k) → (s.core k).p = false → Answers (exec (.eret (.core k)) s) fun t =>
      (t.core k).p = ((s.core k).ppm && decide (3 ≤ k.val)) ∧ (t.core k).ie = (s.core k).pie ∧ (t.core k).exl = false ∧
      (t.core k).pc = pcOf (s.core k).epc.toNat ∧ (t.core k).gpr = (s.core k).gpr ∧
      (t.core k).epc = (s.core k).epc ∧ (∀ j, j ≠ k → t.core j = s.core j) ∧ t = { s with cores := t.cores })

/-- A synchronous exception with exl set halts the core and counts the halt (R225). -/
def Obligations.AnExceptionInAHandlerHaltsTheCore : Prop :=
  ∀ (s : State) (k : Fin 13) (imm : BitVec 12), Fetches s (.core k) → (s.core k).exl = true → (s.core k).p = false →
    Answers (exec (.svc (.core k) imm) s) fun t =>
      (t.core k).run = .halted ∧ (t.core k).wait = none ∧ (t.core k).gpr = (s.core k).gpr ∧
      t.fld (F.RST_CORE_STAT.halts k) = min (s.fld (F.RST_CORE_STAT.halts k) + 1) (fldSize (F.RST_CORE_STAT.halts k).hi (F.RST_CORE_STAT.halts k).lo - 1)

/-- CRD, CWR, CSET and CCLR read and write core registers in mode F, and raise PRIV in mode P (R202, R219, R223, R224). -/
def Obligations.CoreRegistersAreReadAndWritten : Prop :=
  ∀ (s : State) (k : Fin 13) (d a : Reg), Fetches s (.core k) →
    let w : Agent := .core k
    let c := s.core k
    let v := s.gprOf w a
    ((s.core k).p = false →
      (∀ p ∈ [(0x000#12, BitVec.ofNat 64 (256 * min k.val 3 + k.val)), (0x002#12, BitVec.ofNat 64 c.vec), (0x003#12, c.epc),
          (0x005#12, c.badaddr), (0x006#12, c.scratch), (0x008#12, BitVec.ofNat 64 c.ien),
          (0x010#12, BitVec.ofNat 64 c.tstat), (0x011#12, BitVec.ofNat 64 s.tns.tick),
          (0x012#12, BitVec.ofNat 64 c.waitlim), (0x014#12, BitVec.ofNat 64 c.pbudget)],
        Answers (exec (.crd w d p.1) s) fun t =>
          OnlyAgents s t ∧ Completes w (some d) none (s.pcOf w + 4) s t ∧ Gets w d p.2 s t) ∧
      (let writes (cr : BitVec 12) (f : Core → Core) : Prop :=
        Answers (exec (.cwr w cr a) s) fun t =>
          t.core k = { f c with pc := pcOf (c.pc + 4), retired := min (c.retired + 1) 0xFFFFFFFFFFFFFFFF, wait := none } ∧
          (∀ j, j ≠ k → t.core j = s.core j) ∧ OnlyAgents s t
       writes 0x003#12 (fun c => { c with epc := v }) ∧ writes 0x006#12 (fun c => { c with scratch := v }) ∧
       writes 0x008#12 (fun c => { c with ien := v.toNat % 2 ^ 16 }) ∧
       writes 0x012#12 (fun c => { c with waitlim := v.toNat % 2 ^ 32 }) ∧
       writes 0x014#12 (fun c => { c with pbudget := v.toNat % 2 ^ 32 }) ∧
       writes 0x002#12 (fun c => { c with vec := v.toNat % 2 ^ 48 / 256 * 256 })) ∧
      (Answers (exec (.cset w d a 0x006#12) s) fun t =>
        (t.core k).scratch = c.scratch ||| v ∧ Gets w d c.scratch s t ∧ OnlyAgents s t) ∧
      (Answers (exec (.cclr w d a 0x006#12) s) fun t =>
        (t.core k).scratch = c.scratch &&& ~~~v ∧ Gets w d c.scratch s t ∧ OnlyAgents s t)) ∧
    ((s.core k).p = true → (s.core k).exl = false → s.clauseOn k = none →
      ∀ (cr : BitVec 12), crKnown cr.toNat = true →
      ∀ i ∈ [Instr.cwr w cr a, .cset w d a cr, .cclr w d a cr, .eret w, .wfe w] ++
          (if cr = 0x010#12 ∨ cr = 0x011#12 then [] else [Instr.crd w d cr]),
        Answers (exec i s) fun t => Enters k false 2 0 (BitVec.ofNat 64 c.pc) s t ∧ t.free = s.free)

/-- TDLD, TDST, TDRD, TDWR, TDADD, TWAIT, TEND and TFLAGS act on the thread's descriptors, state and flags (R243, R245, R256, R258). -/
def Obligations.DescriptorInstructionsActOnTheirDescriptor : Prop :=
  ∀ (s : State) (i : Fin 1024) (td : Fin 8) (d a : Reg) (imm : BitVec 8), Fetches s (.thread i) →
    let old := s.td i td
    let v := (s.gprOf (.thread i) a).toNat
    let n := imm.toNat
    let width : Nat := if n < 2 then 64 else if n < 4 then 8 else 32
    let x := (s.gprOf (.thread i) a + 64#64 * imm.signExtend 64).toNat
    (x % 64 = 0 → s.reach i x 64 = true → s.threadDataExc x = none →
      (Answers (exec (.tdld i td a imm) s) fun t =>
        t.td i td = TDesc.ofRecord ((s.seenBy i).bytes x 64) ∧ (∀ e, e ≠ td → t.td i e = s.td i e) ∧ ThreadGoesOn i none s t ∧
        t = { s with threads := t.threads }) ∧
      (Answers (exec (.tdst i td a imm) s) fun t =>
        (t.thread i).pend = (s.thread i).pend ++ [⟨x, old.record, true⟩] ∧ ThreadGoesOn i none s t ∧
        t = { s with threads := t.threads })) ∧
    (n < 14 →
      (Answers (exec (.tdrd i d td imm) s) fun t =>
        Gets (.thread i) d (BitVec.ofNat 64 (old.field n)) s t ∧ ThreadGoesOn i (some d) s t ∧
        t = { s with threads := t.threads }) ∧
      (Answers (exec (.tdwr i td imm a) s) fun t =>
        (t.td i td).field n = v % 2 ^ width ∧ (∀ e < 14, e ≠ n → (t.td i td).field e = old.field e) ∧
        ThreadGoesOn i none s t ∧ t = { s with threads := t.threads }) ∧
      (Answers (exec (.tdadd i td imm a) s) fun t =>
        (t.td i td).field n = (old.field n + v) % 2 ^ width ∧ (∀ e < 14, e ≠ n → (t.td i td).field e = old.field e) ∧
        ThreadGoesOn i none s t ∧ t = { s with threads := t.threads })) ∧
    ((∀ w, s.waitersOn w = []) → Answers (exec (.twait i) s) fun t =>
      ThreadGoesOn i none s t ∧ (t.thread i).pend = [] ∧
      t = { s with threads := t.threads, mem := t.mem, tags := t.tags } ∧
      ((s.thread i).pend = [] → t.mem = s.mem) ∧
      ∀ x l stores, (s.thread i).pend = [⟨x, l, stores⟩] → t.bytes x l.length = l ∧ BytesKept x l.length s t) ∧
    (Answers (exec (.tflags i d) s) fun t =>
      Gets (.thread i) d (BitVec.ofNat 64 (b2n (s.thread i).sat + 2 * b2n (s.thread i).inval + 4 * b2n (s.thread i).oob)) s t ∧
      (t.thread i).sat = false ∧ (t.thread i).inval = false ∧ (t.thread i).oob = false ∧
      ThreadGoesOn i (some d) s t ∧ t = { s with threads := t.threads }) ∧
    ((∃ p ∈ s.jobThreads (s.thread i).job, p.1 ≠ i.val ∧ p.2.st ≠ .ended) → Sparse.sorted s.threads = true →
      (∀ w, s.waitersOn w = []) → Answers (exec (.tend i) s) fun t =>
        (t.thread i).st = .ended ∧ (t.thread i).pend = [] ∧ t.jobs = s.jobs ∧ (∀ j : Nat, j ≠ i → t.thread j = s.thread j))

/-- A KT instruction on usable descriptors completes and writes no byte outside its destination tensor (R244, R252, R256, R258). -/
def Obligations.TensorInstructionsWriteOnlyTheirDestination : Prop :=
  ∀ (s : State) (i : Fin 1024) (a b c : Fin 8) (g : Reg), Fetches s (.thread i) → s.confine (.thread i) = none →
    let good (e : Fin 8) : Prop := (s.td i e).usable = true ∧ (s.td i e).inTs = true
    let pend := (s.thread i).pend
    let writesC (l : List Instr) : Prop := ∀ x ∈ l, Answers (exec x s) fun t =>
      ThreadGoesOn i none s t ∧ t = { s with threads := t.threads, jobs := t.jobs, free := t.free } ∧
      ∃ ws, (t.thread i).pend = pend ++ ws ∧ ∀ p ∈ ws, p.stores = false ∧ (p.addr, p.bytes.length) ∈ (s.td i c).cells
    (good c → good b → ((s.td i a).usable = true ∧ ((s.td i a).inTs = true ∨ (s.td i a).inDdr5 = true)) →
      writesC [.tmma i c a b, .tmm i c a b]) ∧
    (good c → good a → good b →
      writesC [.tewAdd i c a b, .tewSub i c a b, .tewMul i c a b, .tewMax i c a b, .tewMin i c a b]) ∧
    (good c → good a →
      writesC [.scale i c a g, .relu i c a, .clamp i c a g, .sigm i c a, .tanh i c a, .exp i c a, .recip i c a,
        .rsqrt i c a, .gelu i c a, .softplus i c a, .log i c a, .rsum i c a, .rmax i c a, .rmin i c a, .tcpy i c a,
        .ttrn i c a]) ∧
    (good c → good a → (∀ p ∈ pend, p.stores = false) → ∀ x ∈ [Instr.tacc i c a, .tamax i c a], Answers (exec x s) fun t =>
      ThreadGoesOn i none s t ∧ t = { s with threads := t.threads, jobs := t.jobs, mem := t.mem, free := t.free } ∧
      (t.thread i).pend = [] ∧
      ∀ b, (∀ p ∈ (s.td i c).cells, b < p.1 ∨ p.1 + p.2 ≤ b) → (∀ p ∈ pend, b < p.addr ∨ p.addr + p.bytes.length ≤ b) →
        t.byte b = s.byte b) ∧
    (good c → writesC [.tzero i c])

/-- Elementwise KT instructions on binary32 rows write the exact result rounded to nearest even in every lane (R241, R256, R257, R258). -/
def Obligations.ElementwiseResultsAreRoundedOnce : Prop :=
  ∀ (s : State) (i : Fin 1024) (a b c : Fin 8) (g : Reg) (n : Nat), Fetches s (.thread i) →
    s.confine (.thread i) = none → Row32 (s.td i a) n → Row32 (s.td i b) n → Row32 (s.td i c) n →
    let x := laneAt (s.seenBy i) (s.td i a)
    let y := laneAt (s.seenBy i) (s.td i b)
    let z := laneAt (s.seenBy i) (s.td i c)
    let lo := fpRead32 ((s.gprOf (.thread i) g).toNat % 2 ^ 32)
    let hi := fpRead32 ((s.gprOf (.thread i) g).toNat / 2 ^ 32)
    let gives (e : Instr) (f : Nat → Fp) : Prop := Answers (exec e s) fun t =>
      ∀ k < n, bitsAt (t.seenBy i) (s.td i c) k = ((f k).round fp32).1.bits fp32 32
    gives (.tewAdd i c a b) (fun k => (x k).add (y k)) ∧ gives (.tewSub i c a b) (fun k => (x k).add (y k).opposite) ∧
    gives (.tewMul i c a b) (fun k => (x k).mul (y k)) ∧ gives (.tewMax i c a b) (fun k => (x k).pick true (y k)) ∧
    gives (.tewMin i c a b) (fun k => (x k).pick false (y k)) ∧ gives (.scale i c a g) (fun k => (x k).mul lo) ∧
    gives (.relu i c a) (fun k => (x k).pick true Fp.zero) ∧
    gives (.clamp i c a g) (fun k => ((x k).pick true lo).pick false hi) ∧
    ((∀ p ∈ (s.thread i).pend, p.stores = false) →
      gives (.tacc i c a) (fun k => (z k).add (x k)) ∧ gives (.tamax i c a) (fun k => (z k).amax (x k))) ∧
    gives (.tcpy i c a) x ∧ gives (.tzero i c) (fun _ => Fp.zero)

/-- Activations, reductions and TTRN on binary32 rows never write an infinity or a NaN; RECIP, RSQRT of 0 and LOG saturate (R241, R256, R257). -/
def Obligations.ActivationsAndReductionsStayFinite : Prop :=
  ∀ (s : State) (i : Fin 1024) (a c : Fin 8) (n : Nat), Fetches s (.thread i) →
    s.confine (.thread i) = none → Row32 (s.td i a) n → Row32 (s.td i c) n →
    let x := laneAt (s.seenBy i) (s.td i a)
    let bitsOut (t : State) (k : Nat) : Nat := bitsAt (t.seenBy i) (s.td i c) k
    let finite (v : Nat) : Prop := v / 2 ^ 23 % 256 ≠ 255
    (∀ e ∈ [Instr.sigm i c a, .tanh i c a, .exp i c a, .recip i c a, .rsqrt i c a, .gelu i c a, .softplus i c a, .log i c a],
      Answers (exec e s) fun t => ∀ k < n, finite (bitsOut t k)) ∧
    (Answers (exec (.recip i c a) s) fun t => ∀ k < n, (x k).m = 0 →
      bitsOut t k = 0x7F7FFFFF ∧ (t.thread i).sat = true) ∧
    (Answers (exec (.rsqrt i c a) s) fun t => ∀ k < n, (x k).m = 0 →
      bitsOut t k = 0x7F7FFFFF ∧ (t.thread i).sat = true) ∧
    (Answers (exec (.log i c a) s) fun t => ∀ k < n, ((x k).m = 0 ∨ (x k).neg = true) →
      bitsOut t k = 0xFF7FFFFF ∧ (t.thread i).inval = true) ∧
    (n = 1 →
      (Answers (exec (.rsum i c a) s) fun t => finite (bitsOut t 0)) ∧
      (∀ e ∈ [Instr.rmax i c a, .rmin i c a, .ttrn i c a],
        Answers (exec e s) fun t => bitsOut t 0 = ((x 0).round fp32).1.bits fp32 32))

/-- A job is accepted or refused at its launch, starts all its threads at once, and ends with its completion word (R249, R250, R251, R253, R254, R267). -/
def Obligations.JobsAreLaunchedStartedStoppedAndEnded : Prop :=
  ∀ (s : State) (k : Fin 13) (v : BitVec 32) (j : Fin 64), s.powered = true →
    let r := s.jobRecord k (v.toNat / 64 * 64)
    let status := s.launchStatus k (v.toNat / 64 * 64) r
    let stops (c : Instr) (n code : Nat) : Prop := Answers (exec c s) fun t =>
      t.job n = { s.job n with st := .ending, status := code, cause := 0 } ∧ (∀ i, i ≠ n → t.job i = s.job i) ∧
      (∀ x, (s.thread x).st ≠ .free → (s.thread x).job = n →
        t.thread x = { s.thread x with st := .ended, wait := none }) ∧
      (∀ x, (∀ p ∈ s.threads, p.1 = x → p.2.st = .free ∨ p.2.job ≠ n) → t.thread x = s.thread x) ∧
      t = { s with jobs := t.jobs, threads := t.threads }
    let live (n : Nat) : Prop := (s.job n).st = .queued ∨ (s.job n).st = .running
    (s.coreUp k = true →
      (status = 1 → Answers (exec (.jobLaunch k v) s) fun t => ∃ n, s.freeJob = some n ∧ t.job n = r ∧
        (∀ i, i ≠ n → t.job i = s.job i) ∧ t.fld (F.CNJ_LAUNCH_STAT.status k) = 1 ∧ t.fld (F.CNJ_LAUNCH_STAT.job k) = n ∧
        RegsKept [R.CNJ_LAUNCH_STAT k] s t ∧ t = { s with jobs := t.jobs, jobSeq := s.jobSeq + 1, csr := t.csr }) ∧
      (status ≠ 1 → Answers (exec (.jobLaunch k v) s) fun t => t.fld (F.CNJ_LAUNCH_STAT.status k) = status ∧
        RegsKept [R.CNJ_LAUNCH_STAT k] s t ∧ t = { s with csr := t.csr, evr := t.evr })) ∧
    (∀ n x, s.active = true → s.nextJob = some (n, x) → Answers (exec .jobStart s) fun t =>
      t.job n = { s.job n with st := .running } ∧ (∀ i, i ≠ n → t.job i = s.job i) ∧
      (∀ i < x.threads, ∃ c, s.ctxFree c = true ∧ t.thread c = x.thread n i) ∧
      (∀ c, s.ctxFree c = false → t.thread c = s.thread c) ∧ t = { s with jobs := t.jobs, threads := t.threads }) ∧
    (live j → (s.job j).limitUs ≠ 0 → (s.job j).accepted + (s.job j).limitUs ≤ s.tns.tick →
      stops (.jobTimeout j) j 3) ∧
    (s.coreUp k = true → live (v.toNat % 64) → k = 0 ∨ (s.job (v.toNat % 64)).issuer = k → stops (.jobAbort k v) (v.toNat % 64) 2) ∧
    ((s.job j).st = .ending → Unclaimed s (j, (s.job j).order) → Answers (exec (.jobEnd j) s) fun t =>
      let r := s.job j
      t.job j = Job.reset ∧ (∀ i, i ≠ j.val → t.job i = s.job i) ∧
      (∀ x, (s.thread x).st ≠ .free → (s.thread x).job = j → t.thread x = Thread.reset) ∧
      (r.done % 8 = 0 → inShared r.done = true → Unwaited s r.done 8 → (∀ p ∈ s.jobThreads j, p.2.pend = []) →
        t.nat r.done 8 = s.doneWord j % 2 ^ 64 ∧ BytesKept r.done 8 s t ∧
        (s.isPoisoned (wordNo r.done) = false → t.tagFull (wordNo r.done) = true)) ∧
      t.fld F.CNJ_JOBS_DONE.count = (if r.status = 0 then countedUp s F.CNJ_JOBS_DONE.count 1 else s.fld F.CNJ_JOBS_DONE.count) ∧
      t.fld F.CNJ_JOBS_FAULT.count = (if r.status = 1 then countedUp s F.CNJ_JOBS_FAULT.count 1 else s.fld F.CNJ_JOBS_FAULT.count) ∧
      t.fld F.CNJ_JOBS_TIMEOUT.count = (if r.status = 3 then countedUp s F.CNJ_JOBS_TIMEOUT.count 1 else s.fld F.CNJ_JOBS_TIMEOUT.count) ∧
      RegsKept [R.CNJ_JOBS_DONE, R.CNJ_JOBS_FAULT, R.CNJ_JOBS_TIMEOUT, R.CNJ_OOB] s t ∧
      t = { s with mem := t.mem, tags := t.tags, csr := t.csr, evr := t.evr, objs := t.objs, cores := t.cores,
                   threads := t.threads, jobs := t.jobs, dumpNext := t.dumpNext, learned := t.learned })

/-- TILE_FAIL gives a spare the failed tile's number, and a partition's zero leaves its window at 0 (R264, R265, R266). -/
def Obligations.FailedTilesAndZeroedWindows : Prop :=
  ∀ (s : State) (f : Fin 18) (reason : Nat) (p : Fin 16) (v : BitVec 32), s.powered = true →
    (s.active = true → s.tileFailed f = false → Answers (exec (.tileFail f reason) s) fun t =>
      t.tileFailed f = true ∧ t.repair = s.repair ++ [⟨3, 0x3F, f, s.tns.cycles⟩] ∧
      (s.tiles.idxOf? f.val = none → t.tiles = s.tiles ∧ t.jobs = s.jobs) ∧
      (∀ l, s.tiles.idxOf? f.val = some l →
        (∀ q r, s.tileSpares = q :: r → t.tiles = s.tiles.set l q) ∧ (s.tileSpares = [] → t.tiles = s.tiles.eraseIdx l) ∧
        (∀ j ∈ s.jobsOn l, (s.job j).st = .queued ∨ (s.job j).st = .running →
          (t.job j).st = .ending ∧ (t.job j).status = 1 ∧ (t.job j).cause = 0x11)) ∧
      RegsKept [R.CNJ_TILE_FAIL] s t ∧
      FlashKept [repairSpan] s t ∧ t = { s with csr := t.csr, evr := t.evr, repair := t.repair, flash := t.flash, tiles := t.tiles,
                                                jobs := t.jobs, threads := t.threads }) ∧
    (s.coreUp 0 = true → s.slotBusy p = false → Answers (exec (.partitionZero 0 p v) s) fun t =>
      t.flag (F.CNJ_PART_CTL.valid p) = v.getLsbD 0 ∧
      t.flag (F.CNJ_PART_CTL.zero p) = (v.getLsbD 1 || s.flag (F.CNJ_PART_CTL.zero p)) ∧
      FldsKept [F.CNJ_PART_CTL.valid p, F.CNJ_PART_CTL.zero p, F.CNJ_PART_CTL.part_busy p] s t ∧ t = { s with csr := t.csr }) ∧
    (s.coreUp 0 = true → s.slotBusy p = true → Answers (exec (.partitionZero 0 p v) s) fun t =>
      t.flag (F.CNJ_PART_CTL.part_busy p) = true ∧ FldsKept [F.CNJ_PART_CTL.part_busy p] s t ∧ t = { s with csr := t.csr }) ∧
    (s.flag (F.CNJ_PART_CTL.zero p) = true → Answers (exec (.zeroComplete p) s) fun t =>
      t.flag (F.CNJ_PART_CTL.zero p) = false ∧ (∀ a, inWindow (s.winTs p) a 1 = true → t.byte a = 0) ∧
      BytesKept (s.winTs p).1 (s.winTs p).2 s t ∧ FldsKept [F.CNJ_PART_CTL.zero p] s t ∧
      t = { s with csr := t.csr, mem := t.mem })

/-- Each Qualifier tick moves every output towards its target and into its envelope; only two cores write targets (R280, R281, R283). -/
def Obligations.QualifierChannelsKeepTheirEnvelope : Prop :=
  ∀ (s : State) (k : Fin 13) (c : Fin 64) (v : BitVec 32), s.powered = true →
    (Answers (exec .qualifierTick s) fun t =>
      (∀ c < 64,
        let lo := s.quaMin c
        let hi := s.quaMax c
        let out := s.quaOut c
        let goal := s.quaGoal c
        (out < lo → t.quaOut c = lo) ∧ (hi < out → t.quaOut c = hi) ∧
        (lo ≤ out → out ≤ hi →
          (s.quaPos c < goal * 1024 → s.fld (F.QUA_SLEW.up c) = 0 →
            t.quaOut c = goal) ∧
          (goal * 1024 ≤ s.quaPos c → s.fld (F.QUA_SLEW.dn c) = 0 → t.quaOut c = goal) ∧
          (s.quaFrac.lookup c = none → out < goal → s.fld (F.QUA_SLEW.up c) ≠ 0 →
            t.quaOut c = min goal (out + s.fld (F.QUA_SLEW.up c) * 1024 / 1000 / 1024)))) ∧
      FldsKept ((List.range 64).flatMap fun c => [F.QUA_OUT.out c, F.QUA_CNT.slewed c]) s t ∧
      t = { s with csr := t.csr, quaFrac := t.quaFrac }) ∧
    (s.coreUp k = true → k.val < 2 → Answers (exec (.quaTgtWrite k c v) s) fun t =>
      t.fld (F.QUA_TGT.target c) = v.toNat % 65536 ∧
      t.fld (F.QUA_CNT.clamped c) = (if v.toNat % 65536 < s.quaMin c ∨ s.quaMax c < v.toNat % 65536
        then countedUp s (F.QUA_CNT.clamped c) 1 else s.fld (F.QUA_CNT.clamped c)) ∧
      FldsKept [F.QUA_TGT.target c, F.QUA_CNT.clamped c] s t ∧ t = { s with csr := t.csr }) ∧
    (s.coreUp k = true → 2 ≤ k.val → Answers (exec (.quaTgtWrite k c v) s) fun t =>
      t.fld F.QUA_REFUSED.count = countedUp s F.QUA_REFUSED.count 1 ∧ FldsKept [F.QUA_REFUSED.count] s t ∧
      t = { s with csr := t.csr, evr := t.evr })

/-- The class 0x06 commands on clause slots write the staging bank, commit, bind, show and free (R227, R230, R231). -/
def Obligations.ClauseSlotsAreLoadedBoundAndFreed : Prop :=
  ∀ (s : State) (m : Fin 16) (src : Nat) (n : Fin 32),
    let c := s.clauseSlot n
    let a := clauseBank n (1 - c.bank)
    let only (t : State) : Prop := ∀ i, i ≠ n → t.clauseSlot i = s.clauseSlot i
    (∀ off data, Served s m 6 1 src → s.clauseOthers src n = false → s.bankRuns n (1 - c.bank) = false →
      off % 4 = 0 → data.length % 4 = 0 → 4 ≤ data.length → data.length ≤ 4096 → off + data.length ≤ 12288 →
      Unwaited s (a + off) data.length → Answers (exec (.clauseWrite m n off data) s) fun t =>
        t.bytes (a + off) data.length = data ∧ t.clauseSlot n = { c with owner := src } ∧ only t ∧
        Answered s t m 6 1 0 ∧ RegsKept [F.MBX_PENDING.pending.off] s t ∧
        (∀ b, (b < a + off ∨ a + off + data.length ≤ b) → (b < respArea m ∨ respArea m + 0x2000 ≤ b) → t.byte b = s.byte b) ∧
        t = { s with mem := t.mem, tags := t.tags, csr := t.csr, seq := t.seq, eth := t.eth, clauses := t.clauses }) ∧
    (Served s m 6 2 src → s.clauseOthers src n = false → s.bankRuns n (1 - c.bank) = false →
      (s.clauseCheck a = 0 → Answers (exec (.clauseCommit m n) s) fun t =>
        t.clauseSlot n = { c with loaded := true, bank := 1 - c.bank, kind := s.hdr a 6 1, digest := s.hdr a 32 32 } ∧
        only t ∧ Replied s t m 6 2 0 ∧ RegsKept [F.MBX_PENDING.pending.off] s t ∧
        t = { s with mem := t.mem, csr := t.csr, seq := t.seq, eth := t.eth, clauses := t.clauses, evr := t.evr }) ∧
      (s.clauseCheck a ≠ 0 → Answers (exec (.clauseCommit m n) s) fun t =>
        Replied s t m 6 2 6 ∧ RegsKept [F.MBX_PENDING.pending.off] s t ∧
        t = { s with mem := t.mem, csr := t.csr, seq := t.seq, eth := t.eth, evr := t.evr })) ∧
    (∀ (tgt : Fin 9) (flags up down : Nat), Served s m 6 3 src → (tgt = 8 → src = 1) →
      (bitOf flags 0 = true → up < 32 ∧ s.clauseOthers src up = false ∧ s.bindable tgt up = true) →
      (bitOf flags 1 = true → down < 32 ∧ s.clauseOthers src down = false ∧ s.bindable tgt down = true) →
      Answers (exec (.clauseBind m tgt flags up down) s) fun t =>
        t.flag (F.SEQ_BIND.up_valid tgt) = bitOf flags 0 ∧ t.flag (F.SEQ_BIND.down_valid tgt) = bitOf flags 1 ∧
        t.fld (F.SEQ_BIND.up tgt) = up % 32 ∧ t.fld (F.SEQ_BIND.down tgt) = down % 32 ∧
        Replied s t m 6 3 0 ∧ t.clauses = s.clauses) ∧
    (Served s m 6 4 src → Answers (exec (.clauseQuery m n) s) fun t => RepliesOnly s t m 6 4 0) ∧
    (Served s m 6 5 src → (src = 1 ∨ s.clauseOthers src n = false) → s.clauseTargets n = [] → s.clauseRuns n = false →
      Answers (exec (.clauseFree m n) s) fun t =>
        t.clauseSlot n = { ClauseSlot.reset with bank := c.bank } ∧ only t ∧ Replied s t m 6 5 0 ∧
        RegsKept [F.MBX_PENDING.pending.off] s t ∧
        t = { s with mem := t.mem, csr := t.csr, seq := t.seq, eth := t.eth, clauses := t.clauses })

/-- The class 0x06 commands on model slots stage, commit, assign, show, free, run, read and set limits (R286, R290, R291, R293, R294). -/
def Obligations.ModelSlotsAreCommittedAssignedRunAndFreed : Prop :=
  ∀ (s : State) (m : Fin 16) (src : Nat) (i : Fin 16),
    let x := s.model i
    let a := modelStage i
    let only (t : State) : Prop := ∀ j, j ≠ i → t.model j = s.model j
    (∀ off data, Served s m 6 0x10 src → s.modelOthers src i = false → s.slotBusy i = false → s.active = true →
      s.fld F.DDR_STATUS.state = 2 → off % 4 = 0 → data.length % 4 = 0 → 4 ≤ data.length → data.length ≤ 4096 →
      off + data.length ≤ 0x4000000 → Answers (exec (.modelWrite m i off data) s) fun t =>
        t.bytes (a + off) data.length = data ∧ t.model i = { x with owner := src, state := max x.state 1 } ∧ only t ∧
        Answered s t m 6 0x10 0 ∧ RegsKept [F.MBX_PENDING.pending.off] s t ∧
        t = { s with mem := t.mem, csr := t.csr, seq := t.seq, eth := t.eth, learned := t.learned }) ∧
    (Served s m 6 0x11 src → s.modelOthers src i = false → (src = 2 → s.hdr a 6 1 = 0) → s.slotBusy i = false →
      s.active = true → s.fld F.DDR_STATUS.state = 2 →
      (∀ w, s.modelCheck a = 0 → s.modelSigned a = true → s.windowsFor a i = some w →
        Answers (exec (.modelCommit m i) s) fun t =>
          let n := s.codeSize a + s.tsInit a
          t.fld (F.CNJ_PART_TS.base i) = w.1 ∧ t.fld (F.CNJ_PART_TS.size i) = s.hdr a 20 1 ∧
          t.flag (F.CNJ_PART_CTL.valid i) = true ∧ t.bytes (t.winTs i).1 n = s.bytes (a + 160) n ∧
          t.model i = { x with
            state := 2, role := s.hdr a 6 1, cadence := s.hdr a 21 1, nOut := s.hdr a 32 2, threads := s.hdr a 26 2,
            limitUs := s.hdr a 28 4, codeSize := s.codeSize a, entry := s.hdr a 36 4, digest := s.hdr a 64 32,
            bound := none, out := [], keySlot := s.hdr a 7 1 } ∧
          only t ∧ (∀ r : Fin 4, t.learned.roles[r].holder ≠ some i.val) ∧ Answered s t m 6 0x11 0) ∧
      (∀ st, (s.modelCheck a ≠ 0 ∧ st = 6) ∨ (s.modelCheck a = 0 ∧ s.modelSigned a = false ∧ st = 9) ∨
          (s.modelCheck a = 0 ∧ s.modelSigned a = true ∧ s.windowsFor a i = none ∧ st = 8) →
        Answers (exec (.modelCommit m i) s) fun t => Replied s t m 6 0x11 st ∧ RegsKept [F.MBX_PENDING.pending.off] s t ∧
          t = { s with mem := t.mem, csr := t.csr, seq := t.seq, eth := t.eth, evr := t.evr })) ∧
    (∀ r : Fin 4, r ≠ 0 → Served s m 6 0x12 1 → s.modelOthers 1 i = false → (x.state = 2 ∨ x.state = 4) → x.role = r →
      Answers (exec (.modelAssign m i r) s) fun t =>
        t.learned.roles[r].holder = some i.val ∧ t.learned.roles[r].run = 0 ∧ t.model i = { x with state := 3 } ∧
        (∀ q : Fin 4, q ≠ r → t.learned.roles[q] = s.learned.roles[q]) ∧ Replied s t m 6 0x12 0 ∧
        RegsKept [F.MBX_PENDING.pending.off] s t ∧
        t = { s with mem := t.mem, csr := t.csr, seq := t.seq, eth := t.eth, learned := t.learned, evr := t.evr }) ∧
    (Served s m 6 0x13 src → Answers (exec (.modelQuery m i) s) fun t => RepliesOnly s t m 6 0x13 0) ∧
    (Served s m 6 0x14 src → (src = 1 ∨ s.modelOthers src i = false) → s.slotBusy i = false →
      Answers (exec (.modelFree m i) s) fun t => t.model i = Model.reset ∧ only t ∧
        (∀ r : Fin 4, t.learned.roles[r].holder ≠ some i.val) ∧ t.flag (F.CNJ_PART_CTL.valid i) = false ∧
        (∀ b, inWindow (s.winTs i) b 1 = true → t.byte b = 0) ∧ Answered s t m 6 0x14 0) ∧
    (∀ data, Served s m 6 0x15 src → s.modelOthers src i = false → x.state = 2 → x.role = 0 → x.cadence = 2 →
      data.length ≤ 4088 → Unwaited s (s.winSh i).1 data.length →
      let r := launched s 2 (s.modelJob i 1 x.limitUs)
      let st := s.launchStatus 2 sharedBase r
      Answers (exec (.modelRun m i data) s) fun t =>
        t.bytes (s.winSh i).1 data.length = data ∧ Answered s t m 6 0x15 (if st = 1 then 0 else 7) ∧
        (st ≠ 1 → t.jobs = s.jobs) ∧
        (st = 1 → ∃ n, s.freeJob = some n ∧ t.job n = r ∧ ∀ j, j ≠ n → t.job j = s.job j)) ∧
    (Served s m 6 0x16 src → s.conf = false → s.modelOthers src i = false → 2 ≤ x.state → x.role = 0 →
      x.out.length ≤ 4096 → Answers (exec (.modelRead m i) s) fun t =>
        t.bytes (respArea m + 32) x.out.length = x.out ∧ RepliesOnly s t m 6 0x16 0) ∧
    (∀ (r : Fin 4) (limit : Nat), r ≠ 0 → Served s m 6 0x17 1 → 1 ≤ limit → limit ≤ 4000 →
      Answers (exec (.modelCfg m r limit) s) fun t =>
        t.learned.roles[r] = { s.learned.roles[r] with limit := limit } ∧
        (∀ q : Fin 4, q ≠ r → t.learned.roles[q] = s.learned.roles[q]) ∧ t.learned.models = s.learned.models ∧
        Replied s t m 6 0x17 0 ∧ RegsKept [F.MBX_PENDING.pending.off] s t ∧
        t = { s with mem := t.mem, csr := t.csr, seq := t.seq, eth := t.eth, learned := t.learned })

/-- The class 0x05 commands answer and reach Itsal, log records are handled in order, and an interval is attributed once (R180, R194, R197, R198, R278, R376, R377). -/
def Obligations.MeteringIsAnsweredAndAttributed : Prop :=
  ∀ (s : State) (m : Fin 16) (src : Nat),
    (∀ ch : Fin 9, Served s m 5 1 src → Answers (exec (.meterQuery m ch) s) fun t =>
      t.bytes (respArea m + 32) 49 = 1#8 :: s.blockShown ch ∧ RepliesOnly s t m 5 1 0) ∧
    (∀ lo n, 1 ≤ n → n ≤ 256 → Served s m 5 2 src →
      (src = 1 → Answers (exec (.logRead m lo n) s) fun t =>
        let b := 1#8 :: recordBytes (s.logPick lo n fun _ => true)
        t.bytes (respArea m + 32) b.length = b ∧ RepliesOnly s t m 5 2 0) ∧
      (src ≠ 1 → s.conf = true → Answers (exec (.logRead m lo n) s) fun t => RepliesOnly s t m 5 2 4)) ∧
    (∀ slot < 8, Served s m 5 5 src →
      (s.conf = true → Answers (exec (.attribQuery m slot) s) fun t => RepliesOnly s t m 5 5 4) ∧
      (s.conf = false → (s.attribPayload slot fun _ => true).length < 8160 →
        Answers (exec (.attribQuery m slot) s) fun t =>
          let b := 2#8 :: s.attribPayload slot fun _ => true
          t.bytes (respArea m + 32) b.length = b ∧ RepliesOnly s t m 5 5 0)) ∧
    (s.its.up = true → s.its.linkUp = true →
      (∀ len align tick, len ≤ 60 → align ≤ 1 → Served s m 5 3 1 → PortFree s 2 →
        Answers (exec (.intervalSet m len align tick) s) fun t =>
          let cmds := (if len = 0 then [] else [(2, 0x2000, len)]) ++ (if align = 0 then [] else [(2, 0x3000, tick % 2 ^ 32)])
          t.its = { s.its with flying := s.its.flying ++ cmds.take 1, queue := s.its.queue ++ cmds.drop 1 } ∧
          (cmds ≠ [] → t.flag (F.SYS_ITS_STAT.busy 2) = true) ∧
          Replied s t m 5 3 0 ∧ RegsKept [F.MBX_PENDING.pending.off, R.SYS_ITS_ARG 2, R.SYS_ITS_STAT 2] s t ∧
          t = { s with mem := t.mem, csr := t.csr, seq := t.seq, eth := t.eth, its := t.its }) ∧
      (∀ band tick, band ≤ 1 → Served s m 5 4 1 → PortFree s 1 → Answers (exec (.bandSet m band tick) s) fun t =>
        let cmds := (List.range 9).map fun ch =>
          (1, 0x1000 + 0x100 * ch + tariffReg ch band (s.owner (ch - 1)) % 64, tick % 2 ^ 32)
        t.its = { s.its with band := s.bandAt (s.tns.tick % 2 ^ 32), bandNext := some (band, tick),
                             flying := s.its.flying ++ cmds.take 1, queue := s.its.queue ++ cmds.drop 1 } ∧
        t.flag (F.SYS_ITS_STAT.busy 1) = true ∧
        Replied s t m 5 4 0 ∧ RegsKept [F.MBX_PENDING.pending.off, R.SYS_ITS_ARG 1, R.SYS_ITS_STAT 1] s t ∧
        t = { s with mem := t.mem, csr := t.csr, seq := t.seq, eth := t.eth, its := t.its })) ∧
    (Alive s 2 → s.its.handled < s.its.mirror.lastSeq → s.its.mirror.lastSeq < s.its.handled + 513 →
      Answers (exec .logEventRecord s) fun t =>
        t.its = { s.its with handled := s.its.mirror.lastSeq } ∧ t = { s with its := t.its, evr := t.evr }) ∧
    (∀ i : Nat, Alive s 2 → s.learns = true → s.closedInterval = some i → s.learned.attribInterval ≠ some i →
      (∀ j, s.learned.attrib = some (j, i) → s.jobLives j = false) →
      let r := launched s 2 (s.learned.svc[(2 : Fin 3)].job 1 0)
      let status := s.launchStatus 2 sharedBase r
      (s.unmetered i ≠ 0 → Answers (exec .attributionRun s) fun t =>
        t.learned = { s.learned with attribs := [], attribInterval := some i } ∧
        t = { s with learned := t.learned, evr := t.evr }) ∧
      (s.unmetered i = 0 → Answers (exec .attributionRun s) fun t =>
        t.learned.attribIn = some (s.attribInput i) ∧ t.learned.attribs = s.learned.attribs ∧
        (status = 1 → ∃ n, s.freeJob = some n ∧ t.job n = r ∧ t.learned.attrib = some ((n, s.jobSeq), i)) ∧
        (status ≠ 1 → t.jobs = s.jobs ∧ t.learned.attrib = none) ∧ RegsKept [R.CNJ_LAUNCH_STAT 2] s t ∧
        t = { s with learned := t.learned, jobs := t.jobs, jobSeq := t.jobSeq, csr := t.csr, tags := t.tags, evr := t.evr }))

/-- A frame's energy goes to the register then selected; a closed interval drains every channel and keeps the totals (R176, R178, R179, R180, R181, R182, R183, R186, R193). -/
def Obligations.FramesAccumulateAndIntervalsDrain : Prop :=
  ∀ (s : State) (heard : Bool) (meas : List ChanMeas) (vin56 : Nat) (temps : List (Int × Bool)) (bad : BitVec 9),
    s.its.up = true →
    let x := s.its
    (Answers (exec (.frameStrobe heard meas) s) fun t =>
      let strobe := if heard = true ∧ s.powered = true ∧ x.linkUp = true then s.tns.tick % 2 ^ 32 else (x.strobe + 1) % 2 ^ 32
      let due (v : Nat) (passed : Bool) : Prop := passed = true ∨ ahead v strobe = false
      let ends : Prop := x.cur.closing = none ∧ (x.naturalDue = true ∨ ∃ a, x.align = some a ∧ due a.1 a.2)
      let fwd (ch : Fin 9) : Nat := energyOf ch true (calibrated x.cur.consts[ch] ((meas[ch.val]?).getD noMeas))
      let rev (ch : Fin 9) : Nat := energyOf ch false (calibrated x.cur.consts[ch] ((meas[ch.val]?).getD noMeas))
      let inIt (l : Vector ItsChan 9) : Prop := ∀ ch : Fin 9, l[ch].irev = x.cur.chans[ch].irev + rev ch ∧
        l[ch].regs = addReg x.selected[ch] (fwd ch) x.cur.chans[ch].regs
      (∀ ch : Fin 9,
        t.its.cur.chans[ch].fwd = (x.cur.chans[ch].fwd + fwd ch) % (2 ^ 64 * mjUnits) ∧
        t.its.cur.chans[ch].rev = (x.cur.chans[ch].rev + rev ch) % (2 ^ 64 * mjUnits) ∧
        ((∀ w ∈ x.switches, due w.2.1 w.2.2.2 → w.1 ≠ ch) → t.its.selected[ch] = x.selected[ch]) ∧
        (∀ r, (∃ w ∈ x.switches, due w.2.1 w.2.2.2 ∧ w.1 = ch) →
          (∀ w ∈ x.switches, due w.2.1 w.2.2.2 → w.1 = ch → w.2.2.1 = r) → t.its.selected[ch] = r)) ∧
      (¬ends → inIt t.its.cur.chans ∧ t.its.cur.interval = x.cur.interval ∧ t.its.cur.elapsed = x.cur.elapsed ∧
        t.its.cur.closing = x.cur.closing) ∧
      (ends → (∃ k, t.its.cur.closing = some k ∧ inIt k.chans ∧ k.number = x.cur.interval ∧ k.strobe = strobe) ∧
        (∀ ch : Fin 9, t.its.cur.chans[ch].irev = 0 ∧ t.its.cur.chans[ch].regs = []) ∧
        t.its.cur.interval = (x.cur.interval + 1) % 2 ^ 32 ∧ t.its.cur.len = x.newLen.getD x.cur.len ∧ t.its.newLen = none) ∧
      t.its.strobe = strobe ∧ t.its.saved = x.saved ∧ t = { s with its := t.its }) ∧
    (Answers (exec (.exportRefresh vin56 temps) s) fun t =>
      t.its.cur = { x.cur with opMs := x.cur.opMs + 1, elapsed := x.cur.elapsed + 1 } ∧
      (∀ ch : Fin 9, t.its.reads[ch] = x.sums[ch].read x.reads[ch] ∧ t.its.sums[ch] = ⟨0, 0, 0, 0⟩) ∧
      (s.powered = true → t.its.mirror.gen = (x.mirror.gen + 2) % 2 ^ 32 ∧ t.its.mirror.core = t.its.cur ∧
        t.its.mirror.reads = t.its.reads ∧ t.its.mirror.vin56 = vin56) ∧
      (s.powered = false → t = { s with its := t.its } ∧ t.its.mirror = x.mirror)) ∧
    (∀ k, x.cur.closing = some k → x.saturated = false → x.nextSeq + 400 ≤ logMax →
      (∀ ch : Fin 9, k.chans[ch].regs.length ≤ 33) → Answers (exec (.intervalBoundary bad) s) fun t =>
        (∀ ch : Fin 9,
          let c := x.cur.chans[ch]
          let d := t.its.cur.chans[ch]
          d.fwd = c.fwd ∧ d.rev = c.rev ∧ d.irev = c.irev ∧ d.regs = c.regs ∧
          ∃ r ∈ t.its.log, r.typ = 2 ∧ r.chan = ch ∧ r.interval = k.number ∧ r.value = mjOf k.chans[ch].ifwd ∧
            r.aux = k.chans[ch].regs.length ∧ r.tick = k.strobe % 2 ^ 32) ∧
        t.its.cur.closing = none ∧ t.its.cur.interval = x.cur.interval ∧ t.its.cur.elapsed = x.cur.elapsed ∧
        t = { s with its := t.its }) ∧
    (x.cur.closing = none → exec (.intervalBoundary bad) s = .next s) ∧
    (Answers (exec (.referenceCheck bad) s) fun t =>
      (∀ ch : Fin 9, bitOf t.its.refFail ch = bitOf bad.toNat ch ∧
        (bitOf bad.toNat ch = true → t.its.reads[ch].invalid = true ∧ t.its.cur.chans[ch].void = true) ∧
        (bitOf bad.toNat ch = false → t.its.reads[ch] = x.reads[ch] ∧ t.its.cur.chans[ch] = x.cur.chans[ch]) ∧
        ∀ k, x.cur.closing = some k → ∃ q, t.its.cur.closing = some q ∧
          q.chans[ch] = { k.chans[ch] with void := k.chans[ch].void || bitOf bad.toNat ch }) ∧
      t = { s with its := t.its })

/-- Power loss keeps Itsal's totals; link and seal are logged; constants change only with the seal open and within limits (R30, R177, R178, R187, R188, R189, R190, R191). -/
def Obligations.ItsalKeepsItsTotalsOverPowerLossAndSealsItsConstants : Prop :=
  ∀ (s : State) (ms : Nat) (ok : Bool) (ch : Fin 9) (mean : Int) (v : BitVec 32) (crc : BitVec 16),
    let x := s.its
    let logs (t : State) (typ value : Nat) : Prop := x.saturated = false →
      ∃ r, t.its.log.head? = some r ∧ r.typ = typ ∧ r.value = value % 2 ^ 64 ∧ r.seq = x.nextSeq
    let only (t : State) : Prop := t = { s with its := t.its }
    let good (cmd : Nat) : Prop := crc16 (calRequest cmd ch v) = crc.toNat
    let port : List (Nat × Instr) := [(1, .readI ch v mean crc), (2, .readV ch v mean crc), (3, .setIGain ch v crc),
      (4, .setIOfs ch v crc), (5, .setVGain ch v crc), (6, .setVOfs ch v crc), (7, .commit ch v crc), (8, .readConst ch v crc)]
    let sets (c : Instr) (i : Fin 4) (w : Int) : Prop := good (3 + i) → Answers (exec c s) fun t =>
      t.its = { x with staged := x.staged.set ch (x.staged[ch].set i w), reply := calReply 0 v.toNat } ∧ only t
    (x.up = true → Answers (exec .nvCommit s) fun t => t.its = { x with saved := x.cur } ∧ only t) ∧
    (x.up = true → Answers (exec .powerDown s) fun t => t.its.up = false ∧ t.its.saved = t.its.cur ∧
      (∀ c : Fin 9, t.its.cur.chans[c].fwd = x.cur.chans[c].fwd ∧ t.its.cur.chans[c].rev = x.cur.chans[c].rev ∧
        t.its.cur.chans[c].regs = []) ∧
      t.its.cur.interval = (x.cur.interval + 1) % 2 ^ 32 ∧ t.its.cur.closing = none ∧ t.its.switches = [] ∧
      t.its.align = none ∧ only t) ∧
    (Answers (exec (.powerUp ok) s) fun t => t.its.up = true ∧ t.its.cur.cycles = x.saved.cycles + 1 ∧
      t.its.saved = t.its.cur ∧ t.its.cur.opMs = x.saved.opMs ∧ t.its.cur.consts = x.saved.consts ∧ t.its.constsOk = ok ∧
      (∀ c : Fin 9, t.its.cur.chans[c].fwd = x.saved.chans[c].fwd ∧ t.its.cur.chans[c].rev = x.saved.chans[c].rev ∧
        t.its.selected[c] = if c = 0 then 0 else 32) ∧ only t) ∧
    (x.up = true → x.linkUp = true → 10 < ms → Answers (exec (.commandLinkLost ms) s) fun t =>
      t.its.linkUp = false ∧ t.its.cur = { x.cur with link := true } ∧ logs t 0x13 ms ∧ only t) ∧
    (x.up = true → x.linkUp = false → Answers (exec (.commandLinkRestored ms) s) fun t =>
      t.its.linkUp = true ∧ t.its.cur = x.cur ∧ logs t 0x14 ms ∧ only t) ∧
    (x.up = true → x.sealOpen = false → Answers (exec .sealOpened s) fun t => t.its.sealOpen = true ∧
      t.its.cur = { x.cur with seals := x.cur.seals + 1, cal := true } ∧ logs t 0x20 (x.cur.seals + 1) ∧ only t) ∧
    (x.up = true → x.sealOpen = true → Answers (exec .sealClosed s) fun t =>
      t.its.sealOpen = false ∧ t.its.cur = x.cur ∧ logs t 0x21 x.cur.seals ∧ only t) ∧
    (∀ c ∈ port, (x.sealOpen = false → exec c.2 s = .next s) ∧
      (x.up = true → x.sealOpen = true → ¬good c.1 → Answers (exec c.2 s) fun t =>
        t.its = { x with reply := calReply 2 0 } ∧ only t)) ∧
    (x.up = true → x.sealOpen = true →
      (∀ c ∈ port.take 2, good c.1 → Answers (exec c.2 s) fun t =>
        t.its = { x with reply := calReply 0 (unsignedOf 32 mean) } ∧ only t) ∧
      sets (.setIGain ch v crc) 0 v.toNat ∧ sets (.setIOfs ch v crc) 1 v.toInt ∧
      sets (.setVGain ch v crc) 2 v.toNat ∧ sets (.setVOfs ch v crc) 3 v.toInt ∧
      (∀ i : Fin 4, good 8 → v.toNat = i → Answers (exec (.readConst ch v crc) s) fun t =>
        t.its = { x with reply := calReply 0 (unsignedOf 32 (x.cur.consts[ch][i])) } ∧ only t) ∧
      (good 7 → constsLegal ch x.staged[ch] = true → Answers (exec (.commit ch v crc) s) fun t =>
        let n := x.cur.cals + b2n (x.staged[ch] != x.cur.consts[ch])
        t.its = { x with
          cur := { x.cur with consts := x.cur.consts.set ch x.staged[ch], cals := n },
          saved := { x.saved with consts := x.saved.consts.set ch x.staged[ch], cals := n },
          constsOk := true, reply := calReply 0 n } ∧ only t) ∧
      (good 7 → constsLegal ch x.staged[ch] = false → Answers (exec (.commit ch v crc) s) fun t =>
        t.its = { x with reply := calReply 1 x.cur.cals } ∧ only t))

/-- A command to Itsal takes a free port, is refused or overruns without effect, and its answer frees the port (R27, R181, R182, R185, R196, R226). -/
def Obligations.ItsalCommandsTakeThePortAndAreAnswered : Prop :=
  ∀ (s : State) (k : Fin 13) (ch reg : Nat), Alive s k →
    let stat := F.SYS_ITS_STAT.status k
    let busy := F.SYS_ITS_STAT.busy k
    let rows : List (Instr × Nat) := [(.tariff k ch reg, itsWord 1 ch reg), (.intervalLen k, 0x2000),
      (.intervalAlign k, 0x3000), (.logFetch k, 0x4000)]
    let may (w : Nat) : Bool := s.itsMay k (s.core k).p w
    (∀ c ∈ rows,
      (s.flag busy = true → Answers (exec c.1 s) fun t => t.fld stat = 4 ∧ FldsKept [stat] s t ∧ t = { s with csr := t.csr }) ∧
      (s.flag busy = false → may c.2 = false → Answers (exec c.1 s) fun t =>
        t.fld stat = 3 ∧ t.fld (F.SYS_ITS_STAT.refused k) = countedUp s (F.SYS_ITS_STAT.refused k) 1 ∧
        FldsKept [stat, F.SYS_ITS_STAT.refused k] s t ∧ t = { s with csr := t.csr }) ∧
      (s.flag busy = false → may c.2 = true →
        (s.its.linkUp = false ∨ s.its.up = false → Answers (exec c.1 s) fun t =>
          t.fld stat = 5 ∧ FldsKept [stat] s t ∧ t = { s with csr := t.csr }) ∧
        (s.its.linkUp = true → s.its.up = true → Answers (exec c.1 s) fun t =>
          t.fld stat = 0 ∧ t.flag busy = true ∧ FldsKept [stat, busy] s t ∧
          t = { s with csr := t.csr,
                       its := { s.its with flying := s.its.flying ++ [(k.val, c.2, s.fld (F.SYS_ITS_ARG.arg k))] } }))) ∧
    ((s.core k).p = true → ∀ c ∈ rows, may c.2 = false) ∧
    (∀ c, s.its.up = true → s.its.linkUp = true → s.its.flying.find? (fun c => c.1 = k.val) = some c →
      let op := c.2.1 / 2 ^ 12 % 16
      let arg := c.2.2
      let next := s.its.queue.find? fun c => c.1 = k.val
      Answers (exec (.itsCommandAck k) s) fun t =>
        bitOf (t.core k).raised 8 = true ∧
        (next = none → t.its.flying = s.its.flying.erase c ∧ t.flag busy = false ∧
          t.fld stat = itsStatus c.2.1 arg s.tns.tick ∧ FldsKept [stat, busy] s t) ∧
        (∀ d, next = some d → s.itsMay k false d.2.1 = true →
          t.its.flying = s.its.flying.erase c ++ [(k.val, d.2.1 % 65536, d.2.2 % 2 ^ 32)] ∧
          t.its.queue = s.its.queue.erase d ∧ t.flag busy = true) ∧
        (itsDiscards c.2.1 arg = true → t.its.cur = { s.its.cur with discards := min (s.its.cur.discards + 1) 0xFFFFFFFF } ∧
          t.its.switches = s.its.switches ∧ t.its.newLen = s.its.newLen ∧ t.its.align = s.its.align) ∧
        (itsDiscards c.2.1 arg = false → t.its.cur = s.its.cur ∧
          (op = 1 → (c.2.1 / 2 ^ 8 % 16, arg, c.2.1 % 64, !ahead arg s.tns.tick) ∈ t.its.switches) ∧
          (op = 2 → t.its.newLen = some arg) ∧ (op = 3 → t.its.align = some (arg, !ahead arg s.tns.tick)) ∧
          (op = 4 → t.its.fetch = arg)) ∧
        FldsKept [stat, busy, F.SYS_ITS_STAT.refused k, F.SYS_ITS_ARG.arg k] s t ∧
        t = { s with csr := t.csr, its := t.its, cores := t.cores })

/-- An OFF of either source keeps a target OFF; a forbidden ON stands and takes effect when the OFF is withdrawn (R75). -/
def Obligations.ReduceOrdersAlwaysWin : Prop :=
  ∀ (s : State) (g : Fin 9),
    (s.effOn g = false ↔ (s.target g).stM = 2 ∨ (s.target g).stH = 2 ∨
      ((s.target g).stM ≠ 1 ∧ (s.target g).stH ≠ 1 ∧ s.fld F.SEQ_CTL.auto_on = 0)) ∧
    (∀ w, s.effCap g = some w ↔
      ((s.target g).capM = some w ∨ (s.target g).capH = some w) ∧ (∀ v, (s.target g).capM = some v → w ≤ v) ∧
        (∀ v, (s.target g).capH = some v → w ≤ v)) ∧
    (∀ (m : Fin 16) (src cap : Nat), src = 1 ∨ src = 2 → Served s m 2 1 src →
      (Answers (exec (.powerOrder m g 2 cap) s) fun t => t.effOn g = false) ∧
      ((s.target g).st (otherSource src) = 2 → s.fld F.SEQ_PREC.raise_auth ≠ src →
        Answers (exec (.powerOrder m g 1 cap) s) fun t =>
          t.effOn g = false ∧ (t.target g).st src = 1 ∧ Answered s t m 2 1 1 ∧
          (∀ (n : Fin 16) (c : Nat), Served t n 2 1 (otherSource src) →
            Answers (exec (.powerOrder n g 0 c) t) fun u => u.effOn g = true)))

/-- POWER_ORDER replaces its own source's order and cap; QUERY, CLEAR_FAULT and ABORT_RELEASE do as named (R63, R74, R76, R78, R434). -/
def Obligations.PowerOrdersAreKeptPerSource : Prop :=
  ∀ (s : State) (m : Fin 16) (src : Nat), src = 1 ∨ src = 2 →
    (∀ (g : Fin 9) (st cap : Nat), st < 4 → cap < 65536 → Served s m 2 1 src →
      Answers (exec (.powerOrder m g st cap) s) fun t =>
        let x := s.target g
        let y := t.target g
        let o := otherSource src
        let auth : Prop := s.fld F.SEQ_PREC.raise_auth = src
        y.st src = (if st = 3 then x.st src else st) ∧
        y.cap src = (if cap = 0 then x.cap src else if cap = 65535 then none else some cap) ∧
        (auth ∧ st = 1 ∧ x.st o = 2 → y.st o = 0) ∧ (¬(auth ∧ st = 1 ∧ x.st o = 2) → y.st o = x.st o) ∧
        (auth ∧ cap ≠ 0 ∧ cap ≠ 65535 → y.cap o = none) ∧ (¬(auth ∧ cap ≠ 0 ∧ cap ≠ 65535) → y.cap o = x.cap o) ∧
        (∀ j, j ≠ g → (t.target j).stM = (s.target j).stM ∧ (t.target j).stH = (s.target j).stH ∧
          (t.target j).cap 1 = (s.target j).cap 1 ∧ (t.target j).cap 2 = (s.target j).cap 2) ∧
        (∀ j, t.effCap j = s.effCap j) ∧ t.rst.lossHold = (s.rst.lossHold && !(decide (st = 1) && decide (g = 8))) ∧
        Replied s t m 2 1 (if st = 1 ∧ t.effOn g = false then 1 else if s.toTell src then 2 else 0)) ∧
    (∀ g : Fin 9, Served s m 2 2 src → Answers (exec (.query m g) s) fun t => RepliesOnly s t m 2 2 0) ∧
    (∀ g : Fin 8, Served s m 2 3 src → Answers (exec (.clearFault m g) s) fun t =>
      bitOf (t.fld F.SEQ_EFUSE_STATUS.fault) g =
        (bitOf (s.fld F.SEQ_EFUSE_STATUS.fault) g && bitOf (s.fld F.SEQ_EFUSE_STATUS.flt) g) ∧
      (∀ n : Fin 8, n ≠ g → bitOf (t.fld F.SEQ_EFUSE_STATUS.fault) n = bitOf (s.fld F.SEQ_EFUSE_STATUS.fault) n) ∧
      Replied s t m 2 3 0 ∧
      GrpsKept s t ∧ t = { s with mem := t.mem, csr := t.csr, seq := t.seq, eth := t.eth, evr := t.evr, quaFrac := t.quaFrac,
                                  cores := t.cores, grps := t.grps }) ∧
    (Served s m 2 3 src → Answers (exec (.clearFault m 8) s) fun t =>
      t.flag F.SEQ_STATUS.gate_fail = false ∧ FldsKept [F.SEQ_STATUS.gate_fail, F.MBX_PENDING.pending] s t ∧
      Replied s t m 2 3 0 ∧ t = { s with mem := t.mem, csr := t.csr, seq := t.seq, eth := t.eth }) ∧
    (∀ mask, Served s m 2 4 src → Answers (exec (.abortRelease m mask) s) fun t =>
      (∀ n : Fin 8,
        let up : Prop := (mask % 256 = 0 ∨ bitOf mask n = true) ∧ s.bindState n ≠ 3
        (up → bitOf (t.fld F.RST_ABORT.asserted) n = false) ∧
        (¬up → bitOf (t.fld F.RST_ABORT.asserted) n = bitOf (s.fld F.RST_ABORT.asserted) n ∧
          bitOf (t.fld F.RST_ABORT.failed) n = bitOf (s.fld F.RST_ABORT.failed) n)) ∧
      Replied s t m 2 4 0 ∧ FldsKept [F.RST_ABORT.asserted, F.RST_ABORT.failed, F.MBX_PENDING.pending] s t ∧
      t = { s with mem := t.mem, csr := t.csr, seq := t.seq, eth := t.eth, evr := t.evr })

/-- The control ticks launch the learned jobs, their results are applied or discarded, and the rule-based step does without (R48, R79, R90, R95, R268, R269, R271, R274, R276, R285, R286, R287). -/
def Obligations.ControlEvaluationsAreAppliedOrDiscarded : Prop :=
  ∀ s : State, Alive s 1 →
    let svc (i : Fin 3) : SvcJob := s.learned.svc[i]
    let tickJob := launched s 1 ((svc 0).job 0 20)
    let thermalJob := launched s 1 ((svc 1).job 0 800)
    let counted (t : State) (r : Fin 4) : Prop := t.learned.roles[r].total = s.learned.roles[r].total + 1
    let allocKept (t : State) : Prop := ∀ n : Fin 8, t.fld (F.QUA_TGT.target (8 + n)) = s.fld (F.QUA_TGT.target (8 + n))
    (s.fallsBack 1 = true → Answers (exec .rbCapStep s) fun t => ∀ n : Fin 8,
      let u := if s.learns then s else capsInForce s
      t.fld (F.QUA_TGT.target (8 + n)) = clip16 (roundUp (u.ruleCap n) u.sharers) ∧
      t.fld (F.QUA_TGT.target n) = if u.ruleDuty n = s.quaGoal n then s.fld (F.QUA_TGT.target n) else u.ruleDuty n) ∧
    (s.chainRuns = true → Answers (exec .controlTick s) fun t =>
      t.fld (F.TNS_SKIP.count 1) = countedUp s (F.TNS_SKIP.count 1) 1 ∧ (s.fallsBack 1 = false → counted t 1) ∧
      FldsKept [F.TNS_SKIP.count 1] s t ∧ t = { s with csr := t.csr, learned := t.learned, evr := t.evr }) ∧
    (s.chainRuns = false → Answers (exec .controlTick s) fun t =>
      (∀ (n : Fin 8) (i : Nat), i < 4 → t.fld (F.CMA_ACC.count n i) = 0 ∧ t.links[n].merged = 0 ∧ t.links[n].periods = 0) ∧
      allocKept t ∧
      (s.learns = false → t.learned.posts = Vector.replicate 8 none) ∧
      (s.learns = true → t.learned.counts = ((List.finRange 8).flatMap fun n => (List.range 4).map (s.normCount n)) ∧
        (s.launchStatus 1 sharedBase tickJob = 1 → ∃ n, s.freeJob = some n ∧ t.job n = tickJob ∧
          t.learned.chain = some ⟨s.tns.tick, some (n, s.jobSeq), none, []⟩))) ∧
    (s.learns = true →
      (s.learned.thermal = none → s.fallsBack 3 = false → s.learned.roles[(3 : Fin 4)].holder = none →
        Answers (exec .thermalPredictorTick s) fun t =>
          (s.launchStatus 1 sharedBase thermalJob = 1 → ∃ n, s.freeJob = some n ∧ t.job n = thermalJob ∧
            t.learned.thermal = some ((n, s.jobSeq), s.tns.tick)) ∧
          (s.launchStatus 1 sharedBase thermalJob ≠ 1 → t.learned.thermal = none ∧ counted t 3)) ∧
      (∀ x t0, s.learned.thermal = some (x, t0) → s.jobLives x = true → Answers (exec .thermalPredictorTick s) fun t =>
        t.fld (F.TNS_SKIP.count 3) = countedUp s (F.TNS_SKIP.count 3) 1 ∧ t.learned.thermal = s.learned.thermal ∧
        (s.fallsBack 3 = false → counted t 3))) ∧
    (∀ (j : Fin 64) (c : Chain) (a : Nat), s.learned.chain = some c → c.job = some (j.val, (s.job j).order) → c.cls = none →
      c.hosts = [] → s.learned.roles[(1 : Fin 4)].holder = none → s.learned.roles[(2 : Fin 4)].holder = none →
      (svc 0).outs[1]? = some a → JobEnds s j a 64 → s.fallsBack 1 = false →
      let e := (s.job j).result (c.began + 20 < s.tns.tick) (s.blockAt a 16)
      Answers (exec (.jobEnd j) s) fun t => t.learned.chain = none ∧
        (evalOk e = true → t.learned.roles[(1 : Fin 4)].run = 0 ∧
          ∀ n : Fin 8, t.fld (F.QUA_TGT.target (8 + n)) = s.allocOut e n) ∧
        (evalOk e = false → counted t 1 ∧ allocKept t)) ∧
    (∀ (j : Fin 64) (t0 : Nat), s.learned.thermal = some ((j.val, (s.job j).order), t0) → (s.job j).modeP = false →
      (∀ c, s.learned.chain = some c → c.job ≠ some (j.val, (s.job j).order) ∧
        ∀ h ∈ c.hosts, h.2.1 ≠ (j.val, (s.job j).order)) →
      JobEnds s j ((svc 1).outs.getD 0 0) 1328 →
      let e := (s.job j).result (t0 + 800 < s.tns.tick) (s.blockAt ((svc 1).outs.getD 0 0) 332)
      let x := s.learned.roles[(3 : Fin 4)]
      Answers (exec (.jobEnd j) s) fun t => t.learned.thermal = none ∧
        (s.fallsBack 3 = false →
          (evalOk e = true → ∀ i < 20, t.fld (F.QUA_TGT.target (16 + i)) =
            match evalValue e i with
            | some w => f32target w
            | none => s.fld (F.QUA_TGT.target (16 + i))) ∧
          (evalOk e = false → counted t 3 ∧ ∀ i < 20, t.fld (F.QUA_TGT.target (16 + i)) = s.fld (F.QUA_TGT.target (16 + i)))) ∧
        (s.fallsBack 3 = true → x.demoted = true → x.probing = true →
          (evalOk e = false → t.learned.roles[(3 : Fin 4)] = { x with probing := false, probes := 0 }) ∧
          (evalOk e = true → x.probes < 39 →
            t.learned.roles[(3 : Fin 4)] = { x with probing := false, probes := x.probes + 1 }) ∧
          (evalOk e = true → 39 ≤ x.probes →
            t.learned.roles[(3 : Fin 4)] = { x with demoted := false, probing := false, probes := 0, run := 0 }))) ∧
    (∀ r : Fin 4, r ≠ 0 → s.learns = true → s.learned.roles[r].demoted = true → Answers (exec (.demotedProbe r) s) fun t =>
      t.learned = { s.learned with roles := s.learned.roles.set r { s.learned.roles[r] with probing := true } } ∧
      t = { s with learned := t.learned })

/-- Pace frames go out on every link, activity frames are counted once, and link failures are taken as stated (R48, R81, R82, R83, R84, R86, R88, R89, R90, R91, R117, R422). -/
def Obligations.CommaLinksCarryPaceAndActivity : Prop :=
  ∀ s : State, s.powered = true →
    (Answers (exec (.paceFrame true) s) fun t => t.fld (F.TNS_SKIP.count 0) = countedUp s (F.TNS_SKIP.count 0) 1 ∧
      FldsKept [F.TNS_SKIP.count 0] s t ∧ t = { s with csr := t.csr }) ∧
    (Answers (exec (.paceFrame false) s) fun t =>
      (∀ n : Fin 8,
        let l := s.links[n]
        (s.linkState n = 0 → t.links[n] = l) ∧
        (s.linkState n ≠ 0 → t.links[n].seq = (l.seq + 1) % 256 ∧ t.links[n].periods = l.periods + 1 ∧
          t.links[n].line = frameChars 16 t.links[n].sent ∧
          t.links[n].missRun = (if l.sent ≠ 0 then (if l.got then 0 else l.missRun + 1) else l.missRun) ∧
          t.fld (F.CMA_MISS.count n) = (if l.sent ≠ 0 ∧ l.got = false then countedUp s (F.CMA_MISS.count n) 1
            else s.fld (F.CMA_MISS.count n)) ∧
          (s.flag (F.CMA_RAMP.valid n) = false → s.stairs n = false → t.links[n].sent = s.paceFrame n l.seq) ∧
          (s.flag (F.CMA_RAMP.valid n) = true → t.flag (F.BUF_RAMP_STAT.active n) = true ∧
            (s.fld (F.CMA_RAMP.ramp_start n) ≠ 0 → t.flag (F.CMA_RAMP.valid n) = true ∧
              t.fld (F.CMA_RAMP.ramp_start n) = s.fld (F.CMA_RAMP.ramp_start n) - 1) ∧
            (s.fld (F.CMA_RAMP.ramp_start n) = 0 → t.flag (F.CMA_RAMP.valid n) = false ∧
              t.fld (F.BUF_RAMP_STAT.duty n) = s.fld F.BUF_RAMP_CFG.duty_start)))) ∧
      t = { s with csr := t.csr, links := t.links, ramps := t.ramps }) ∧
    (∀ (n : Fin 8) (f : BitVec 256) (rx1 : Option (BitVec 256)), frameValid f.toNat = true →
      bitOf (s.fld (F.CMA_STATUS.lane_fail n)) 2 = false →
      (s.linkState n = 2 → frameField f.toNat 3 0 = 0 → Answers (exec (.activityFrame n (some f) rx1) s) fun t =>
        (∀ i < 4, t.fld (F.CMA_ACC.count n i) =
          min (s.fld (F.CMA_ACC.count n i) + frameField f.toNat (79 + 16 * i) (64 + 16 * i)) 0xFFFFFFFF) ∧
        t.fld (F.CMA_INTENT.intent n) = frameField f.toNat 63 32 ∧ t.fld (F.CMA_CTX.rep_ctx n) = frameField f.toNat 27 24 ∧
        t.flag (F.CMA_CTX.rep_valid n) = bitOf f.toNat 28 ∧ t.links[n].got = true ∧ t.links[n].missRun = 0 ∧
        t.links[n].merged = s.links[n].merged + 1 ∧ t.linkState n = 2 ∧
        ∀ j : Fin 8, j ≠ n → t.links[j] = s.links[j]) ∧
      (s.linkState n = 1 → Answers (exec (.activityFrame n (some f) rx1) s) fun t =>
        t.links[n].validRun = s.links[n].validRun + 1 ∧
        t.linkState n = (if 16 ≤ s.links[n].validRun + 1 then 2 else 1) ∧
        ∀ i < 4, t.fld (F.CMA_ACC.count n i) = s.fld (F.CMA_ACC.count n i))) ∧
    (∀ (n : Fin 8) (rx0 rx1 : Option (BitVec 256)), s.linkState n ≠ 0 → (∀ f, rx0 = some f → frameValid f.toNat = false) →
      (∀ f, rx1 = some f → frameValid f.toNat = false) → Answers (exec (.activityFrame n rx0 rx1) s) fun t =>
        t.links[n].validRun = 0 ∧ t.links[n].got = s.links[n].got ∧ t.linkState n = s.linkState n ∧
        (∀ i < 4, t.fld (F.CMA_ACC.count n i) = s.fld (F.CMA_ACC.count n i)) ∧
        t = { s with csr := t.csr, links := t.links, evr := t.evr }) ∧
    (∀ (n : Fin 8) (lane : Fin 2), s.linkState n ≠ 0 → Answers (exec (.characterLockLoss n lane) s) fun t =>
      bitOf (t.fld (F.CMA_STATUS.lane_fail n)) (2 + lane) = true ∧ FldsKept [F.CMA_STATUS.lane_fail n] s t ∧
      t = { s with csr := t.csr, evr := t.evr }) ∧
    (∀ n : Fin 8, s.linkState n = 2 → s.fld F.CMA_LINK_CFG.loss_frames ≤ s.links[n].missRun →
      Answers (exec (.commaLinkLost n) s) fun t => t.linkState n = 3 ∧ t.links[n].lostAt = s.tns.tick ∧
        FldsKept [F.CMA_STATUS.state n] s t ∧ t = { s with csr := t.csr, links := t.links, evr := t.evr }) ∧
    (∀ n : Fin 8, s.linkState n = 3 → s.links[n].lostAt + 1000 * s.fld F.CMA_LINK_CFG.dead_ms ≤ s.tns.tick →
      Answers (exec (.commaLinkDead n) s) fun t => t.bindState n = 3 ∧ bitOf (t.fld F.RST_ABORT.failed) n = true ∧
        (s.flag (F.SEQ_BIND.down_valid n) = true → ∀ x : Fin 9, x.val = n.val → (t.target x).due = .downFault) ∧
        (s.flag (F.SEQ_BIND.down_valid n) = false → t.flag (F.SLT_STAT.rst n) = true ∧ t.efuseOn n = false))

/-- After every limiter update the converter's power lies within its discharge and charge ceilings (R121, R122, R123, R125). -/
def Obligations.TheLimiterKeepsItsCeilings : Prop :=
  ∀ (s : State) (iinMv dt vbank : Nat) (ibank : Int), s.powered = true →
    Answers (exec (.limiterUpdate iinMv dt vbank ibank) s) fun t =>
      t.conv.power ≤ (min t.disLim (t.quaOut 36) : Nat) ∧ -t.conv.power ≤ (min t.chgLim (t.quaOut 37) : Nat) ∧
      t.fld F.BUF_BANK_V.vbank = min vbank 65535 ∧ t.flag F.BUF_STATUS.dis_ok = t.disOk ∧
      t.flag F.BUF_STATUS.chg_ok = decide (t.chgReason = 0) ∧
      t.fld F.BUF_ENERGY_OUT.joules =
        countedUp s F.BUF_ENERGY_OUT.joules ((s.conv.outFrac + s.conv.power.toNat * dt * 5) / 8000000) ∧
      t.fld F.BUF_ENERGY_IN.joules =
        countedUp s F.BUF_ENERGY_IN.joules ((s.conv.inFrac + (-s.conv.power).toNat * dt * 5) / 8000000) ∧
      (t.chgReason ≠ 0 → t.conv.power < 0 → t.fld F.BUF_STATUS.mode ≠ 2) ∧
      t = { s with csr := t.csr, conv := t.conv, evr := t.evr }

/-- Ramp steps, the converter's modes, its faults and the margin change as stated (R113, R117, R118, R120, R121, R126). -/
def Obligations.TheBufferChangesModesAsStated : Prop :=
  ∀ s : State, s.powered = true →
    let mode (t : State) : Nat := t.fld F.BUF_STATUS.mode
    let only (t : State) : Prop := t = { s with csr := t.csr, conv := t.conv, evr := t.evr }
    let faulted (t : State) : Prop := mode t = if t.bufMustOff then 0 else 5
    (∀ n : Fin 8, s.stairs n = true → (∀ k, s.ramps[n].stair = some k → k ≤ s.ramps[n].frames) →
      Answers (exec (.rampStep n) s) fun t =>
        let d := s.fld (F.BUF_RAMP_STAT.duty n) - s.fld F.BUF_RAMP_CFG.duty_step
        t.fld (F.BUF_RAMP_STAT.duty n) = (if d ≤ s.quaOut n then 0 else d) ∧ t.ramps[n].frames = 0 ∧
        FldsKept [F.BUF_RAMP_STAT.duty n, F.BUF_RAMP_STAT.active n] s t ∧ t = { s with csr := t.csr, ramps := t.ramps }) ∧
    (∀ n : Fin 8, s.rampOverdue n = true → Answers (exec (.rampAbandon n) s) fun t =>
      t.fld (F.BUF_RAMP_STAT.duty n) = 0 ∧ t.flag (F.BUF_RAMP_STAT.active n) = s.flag (F.CMA_RAMP.valid n) ∧
      t.ramps[n].planned = s.ramps[n].planned ∧ t.ramps[n].awaits = false ∧
      FldsKept [F.BUF_RAMP_STAT.duty n, F.BUF_RAMP_STAT.active n] s t ∧
      t = { s with csr := t.csr, ramps := t.ramps, conv := t.conv, evr := t.evr }) ∧
    (s.coreUp 1 = true → s.conv.plans.any s.readyDue = true → (mode s = 1 ∨ mode s = 2 ∨ mode s = 3) →
      Answers (exec .bufReady s) fun t => mode t = 3 ∧ (mode s ≠ 3 → t.conv.power = 0) ∧
        t.conv.plans = (s.conv.plans.map fun p => { p with readied := p.readied || s.readyDue p }) ∧
        FldsKept [F.BUF_STATUS.mode] s t ∧ only t) ∧
    (mode s = 3 →
      let held : Prop := ∃ p ∈ s.conv.plans, p.readied = true ∧ s.tns.tick < p.holdTill
      Answers (exec .readyHoldTimeout s) fun t =>
        (held → mode t = 3) ∧ (¬held → mode t = (if s.chgReason = 0 then 2 else 1) ∧ t.conv.power = 0) ∧
        t.conv.plans = (s.conv.plans.filter fun p => s.tns.tick < p.holdTill) ∧
        FldsKept [F.BUF_STATUS.mode] s t ∧ t = { s with csr := t.csr, conv := t.conv, ramps := t.ramps }) ∧
    (mode s = 4 → (160 ≤ s.conv.zeroFor ∨ s.fld F.BUF_BANK_V.vbank ≤ s.bankVfloor ∨ s.disOk = false) →
      Answers (exec .dischargeEnd s) fun t =>
        mode t = (if s.chgReason = 0 then 2 else 1) ∧ t.conv.power = 0 ∧ FldsKept [F.BUF_STATUS.mode] s t ∧ only t) ∧
    (∀ p : Fin 4, bitOf (s.fld F.BUF_STATUS.phase_fail) p = false → Answers (exec (.phaseOvercurrent p) s) fun t =>
      bitOf (t.fld F.BUF_STATUS.phase_fail) p = true ∧
      (s.fld F.BUF_STATUS.phase_fail = 0 → FldsKept [F.BUF_STATUS.phase_fail] s t) ∧
      (s.fld F.BUF_STATUS.phase_fail ≠ 0 → t.flag F.BUF_FAULT.phase2 = true ∧ faulted t) ∧ only t) ∧
    (Answers (exec .bankFault s) fun t => t.flag F.BUF_FAULT.bank_flt = true ∧ faulted t ∧
      FldsKept [F.BUF_FAULT.bank_flt, F.BUF_STATUS.mode] s t ∧ only t) ∧
    (Answers (exec .senseFault s) fun t => t.flag F.BUF_FAULT.sense = true ∧ faulted t ∧
      FldsKept [F.BUF_FAULT.sense, F.BUF_STATUS.mode] s t ∧ only t) ∧
    (∀ v, s.bankVmax + 100 < v → Answers (exec (.bankOvervoltage v) s) fun t => t.flag F.BUF_FAULT.bank_ov = true ∧
      t.fld F.BUF_BANK_V.vbank = min v 65535 ∧ faulted t ∧
      FldsKept [F.BUF_FAULT.bank_ov, F.BUF_STATUS.mode, F.BUF_BANK_V.vbank] s t ∧ only t) ∧
    (∀ d : Fin 48, s.mapped d = true → s.domOn d = true → Answers (exec (.marginWrite d) s) fun t =>
      t.doms[d] = { s.doms[d] with
        vout := some (min (s.baseOf d * (100 + s.fld F.BUF_MARGIN_CFG.pct) / 100) (s.fld (F.SEQ_DOM_BUS.vset_max d) * 10)),
        base := some (s.baseOf d) } ∧
      (∀ j : Fin 48, j ≠ d → t.doms[j] = s.doms[j]) ∧ t = { s with doms := t.doms, evr := t.evr })

/-- Samples, rates and module readings change the sensors they name; failed tests and marks break sensors (R134, R135, R136, R137, R138, R139, R140, R144, R145). -/
def Obligations.SensorsAreConvertedRatedAndBroken : Prop :=
  ∀ s : State, s.powered = true →
    let same (t : State) (i : Nat) : Prop := t.sensor i = s.sensor i ∧ t.snsBroken i = s.snsBroken i
    let valued (t : State) (i : Nat) (v : Int) : Prop :=
      (t.sensor i).value = v ∧ (t.sensor i).has = true ∧ (t.sensor i).level = s.levelStep i (s.sensor i).level v ∧
      (t.sensor i).rate = (s.sensor i).rate ∧ (t.sensor i).lastAt = s.tns.tick ∧ t.snsBroken i = s.snsBroken i
    let broken (t : State) (i : Nat) : Prop :=
      t.snsBroken i = true ∧ (t.sensor i).value = (s.sensor i).value ∧
      (s.snsBroken i = false → s.inSet i = false → (t.sensor i).promoted = true)
    let took (t : State) (samples : List Sample) (q : Sample → Prop) : Prop :=
      (∀ x ∈ samples, q x → s.evaluated x.index = true →
        (s.plausible x = true → valued t x.index (s.converted x)) ∧ (s.plausible x = false → broken t x.index)) ∧
      (∀ i < 280, (∀ x ∈ samples, q x → x.index ≠ i) → same t i)
    (∀ (bad : BitVec 5) (samples : List Sample), (samples.map Sample.index).Nodup →
      (Answers (exec (.fastRound false bad samples) s) fun t =>
        took t samples (fun x => s.inFast x.index = true) ∧ t.thm.half = !s.thm.half ∧
        (∀ c < 5, bitOf (t.fld F.PRS_STATUS.conv_fail) c = (bitOf (s.fld F.PRS_STATUS.conv_fail) c || bitOf bad.toNat c)) ∧
        Sheltered s t) ∧
      (Answers (exec (.slowRound false samples) s) fun t =>
        took t samples (fun x => x.index < 224 ∧ s.snsEnabled x.index = true ∧ (s.sensor x.index).promoted = false ∧ s.inSet x.index = false) ∧
        Sheltered s t) ∧
      (Answers (exec (.controlSetSample samples) s) fun t =>
        took t samples (fun x => x.index < 128 ∧ s.inSet x.index = true ∧ s.snsEnabled x.index = true) ∧
        (∀ n < 8, ∀ x, s.flag (F.CAP_SLOT_CFG.en n) = true →
          samples.find? (fun x => x.index == s.fld (F.CAP_SLOT_CFG.ain n)) = some x →
          t.fld (F.CAP_SLOT_FAST.watts n) =
            min 65535 (Config.fastWatts (s.converted x).toNat (s.setVbus samples) * s.fld (F.CAP_SLOT_FAST.trim n) / 32768)) ∧
        (∀ n < 8, s.flag (F.CAP_SLOT_CFG.en n) = false →
          t.fld (F.CAP_SLOT_FAST.watts n) = s.fld (F.CAP_SLOT_FAST.watts n)) ∧ Sheltered s t)) ∧
    (∀ (bad : BitVec 5) (samples : List Sample),
      (Answers (exec (.fastRound true bad samples) s) fun t =>
        t.fld (F.TNS_SKIP.count 4) = countedUp s (F.TNS_SKIP.count 4) 1 ∧ FldsKept [F.TNS_SKIP.count 4] s t ∧
        t = { s with csr := t.csr }) ∧
      (Answers (exec (.slowRound true samples) s) fun t =>
        t.fld (F.TNS_SKIP.count 5) = countedUp s (F.TNS_SKIP.count 5) 1 ∧ FldsKept [F.TNS_SKIP.count 5] s t ∧
        t = { s with csr := t.csr })) ∧
    (Answers (exec .rateUpdate s) fun t =>
      (∀ i < 280, s.evaluated i = true → (s.sensor i).has = true →
        let v := (s.sensor i).present
        (t.sensor i).rate = (match (s.sensor i).hist[9]? with | some old => (v - old) * 10 | none => 0) ∧
        (t.sensor i).hist = (v :: (s.sensor i).hist).take 10 ∧ (t.sensor i).cnt = 0 ∧
        (t.sensor i).value = (s.sensor i).value ∧ (t.sensor i).level = (s.sensor i).level) ∧
      (∀ i < 280, s.evaluated i = false → (t.sensor i).has = false ∧ (t.sensor i).hist = []) ∧
      (∀ i < 280, s.snsBroken i = true → t.snsBroken i = true) ∧ Sheltered s t) ∧
    (∀ (n : Fin 8) (i : Nat) (ack err : Bool) (v : Int) (k : Fin 13), i < 6 → s.slotCore n = k → s.coreUp k = true →
      s.evaluated (232 + 6 * n + i) = true → Answers (exec (.moduleSensorRead n i ack err v) s) fun t =>
        (ack = true → err = false → valued t (232 + 6 * n + i) v) ∧
        (ack = false ∨ err = true → broken t (232 + 6 * n + i)) ∧
        (∀ j < 280, j ≠ 232 + 6 * n + i → same t j) ∧ Sheltered s t) ∧
    (∀ i, 232 ≤ i → i < 280 → s.evaluated i = true → (s.sensor i).lastAt + 100000 ≤ s.tns.tick →
      Answers (exec (.sensorStale i) s) fun t => broken t i ∧ (∀ j < 280, j ≠ i → same t j) ∧ Sheltered s t) ∧
    (∀ i < 280, s.evaluated i = true → s.fld (F.THM_SNS_CFG.zone i) < 16 → s.rawStands i = true →
      (∃ j < 280, s.neighbour i j = true ∧ s.moved j = true) →
      Answers (exec (.stuckSensor i) s) fun t => broken t i ∧ (∀ j < 280, j ≠ i → same t j) ∧ Sheltered s t) ∧
    (∀ (k : Fin 13) (w : Fin 9) (v : BitVec 32), s.coreUp k = true →
      let named (i : Nat) : Bool := i / 32 == w.val && bitOf v.toNat (i % 32)
      (Answers (exec (.thmBrokenSet k w v) s) fun t =>
        (∀ i < 280, t.snsBroken i = (s.snsBroken i || (named i && s.evaluated i))) ∧
        (∀ i < 280, named i = false → same t i) ∧ Sheltered s t) ∧
      (Answers (exec (.thmBrokenClear k w v) s) fun t =>
        (∀ i < 280, t.snsBroken i = (s.snsBroken i && !named i) ∧ t.sensor i = s.sensor i) ∧ Sheltered s t))

/-- Throttle duties step, fans, pumps and flow fail and recover, valves pull and hold, and the fan curve sets targets (R142, R147, R148, R149, R150, R152, R448). -/
def Obligations.CoolingIsMeasuredAndDriven : Prop :=
  ∀ s : State, s.powered = true →
    let calm (t : State) : Prop := t.sns = s.sns ∧ Sheltered s t
    (Answers (exec .throttleUpdate s) fun t => (∀ n < 8, t.fld (F.THM_THR_DUTY.duty n) = s.throttleStep n) ∧
      FldsKept ((List.range 8).map F.THM_THR_DUTY.duty) s t ∧ t = { s with csr := t.csr }) ∧
    (∀ (i : Fin 16) (period ms : Nat),
      (s.flag (F.THM_FAN_STAT.failed i) = false → s.tachRpm i period < s.fld (F.THM_FAN_CFG.min_rpm i) → 300 ≤ s.applied (16 + i) →
        s.fld (F.THM_FAN_CFG.fail_100ms i) * 100 ≤ ms → Answers (exec (.fanFail i period ms) s) fun t => t.flag (F.THM_FAN_STAT.failed i) = true ∧
          t.fld (F.THM_FAN_STAT.rpm i) = s.tachRpm i period ∧
          (∀ j : Fin 16, j ≠ i → t.flag (F.THM_FAN_STAT.failed j) = s.flag (F.THM_FAN_STAT.failed j)) ∧ calm t) ∧
      (s.flag (F.THM_FAN_STAT.failed i) = true → s.fld (F.THM_FAN_CFG.min_rpm i) ≤ s.tachRpm i period →
        Answers (exec (.fanRecover i period) s) fun t => t.flag (F.THM_FAN_STAT.failed i) = false ∧
          t.fld (F.THM_FAN_STAT.rpm i) = s.tachRpm i period ∧
          (∀ j : Fin 16, j ≠ i → t.flag (F.THM_FAN_STAT.failed j) = s.flag (F.THM_FAN_STAT.failed j)) ∧ calm t)) ∧
    (∀ (p : Fin 4) (low : Bool) (period ms : Nat),
      (s.fld F.THM_CTL.mode ≠ 0 → s.flag (F.THM_PUMP_STAT.failed p) = false →
        (low = true ∧ 10 ≤ ms) ∨ s.pumpSlow p period ms = true →
        Answers (exec (.pumpFail p low period ms) s) fun t => t.flag (F.THM_PUMP_STAT.failed p) = true ∧
          t.flag (F.THM_PUMP_STAT.flt p) = low ∧
          (∀ j : Fin 4, j ≠ p → t.flag (F.THM_PUMP_STAT.failed j) = s.flag (F.THM_PUMP_STAT.failed j)) ∧ calm t) ∧
      (s.fld F.THM_CTL.mode = 0 → exec (.pumpFail p low period ms) s = .next s) ∧
      (s.flag (F.THM_PUMP_STAT.failed p) = true →
        (s.flag (F.THM_PUMP_CFG.tach_en p) = false ∨ s.fld (F.THM_PUMP_CFG.min_rpm p) ≤ s.pumpRpm p period) →
        Answers (exec (.pumpRecover p period) s) fun t => t.flag (F.THM_PUMP_STAT.failed p) = false ∧
          t.flag (F.THM_PUMP_STAT.flt p) = false ∧
          (∀ j : Fin 4, j ≠ p → t.flag (F.THM_PUMP_STAT.failed j) = s.flag (F.THM_PUMP_STAT.failed j)) ∧ calm t)) ∧
    (∀ (f : Fin 4) (rate : Nat),
      (s.fld (F.THM_FLOW_CFG.kfactor f) ≠ 0 → s.flowPumped f = true → s.flag (F.THM_FLOW_STAT.lost f) = false →
        s.flowOf f rate < s.fld (F.THM_FLOW_CFG.min_flow f) * 10 → Answers (exec (.flowLost f rate) s) fun t =>
          t.flag (F.THM_FLOW_STAT.lost f) = true ∧ t.fld (F.THM_FLOW_STAT.flow f) = s.flowOf f rate ∧
          (∀ j : Fin 4, j ≠ f → t.flag (F.THM_FLOW_STAT.lost j) = s.flag (F.THM_FLOW_STAT.lost j)) ∧ calm t) ∧
      (s.flag (F.THM_FLOW_STAT.lost f) = true → s.fld (F.THM_FLOW_CFG.min_flow f) * 10 ≤ s.flowOf f rate →
        Answers (exec (.flowRestored f rate) s) fun t =>
          t.flag (F.THM_FLOW_STAT.lost f) = false ∧ t.fld (F.THM_FLOW_STAT.flow f) = s.flowOf f rate ∧
          (∀ j : Fin 4, j ≠ f → t.flag (F.THM_FLOW_STAT.lost j) = s.flag (F.THM_FLOW_STAT.lost j)) ∧ calm t)) ∧
    (∀ (k : Fin 13) (v : BitVec 32), s.coreUp k = true →
      (Answers (exec (.valveCommand k v) s) fun t => t.fld F.THM_VALVE_CTL.on = v.toNat % 256 ∧
        FldsKept [F.THM_VALVE_CTL.on] s t ∧
        t = { s with csr := t.csr, thm := { s.thm with pullEnd := t.thm.pullEnd } } ∧
        ∀ i : Fin 8, (t.valveDriven i = s.valveDriven i → t.thm.pullEnd[i] = s.thm.pullEnd[i]) ∧
          (s.valveDriven i = false → t.valveDriven i = true → t.valveDrive i = 100 ∧
            t.thm.pullEnd[i] = some (s.tns.tick + s.fld (F.THM_VALVE_CFG.pull_ms i) * 1000)) ∧
          (t.valveDriven i = false → t.valveDrive i = 0)) ∧
      (∀ z : Fin 16, Answers (exec (.zonePredWrite k z v) s) fun t =>
        t.fld (F.THM_ZONE_PRED.temp z) = v.toNat % 65536 ∧ t.fld (F.THM_ZONE_PRED.rate z) = v.toNat / 65536 ∧
        t.thm.predAt = s.thm.predAt.set z (some s.tns.tick) ∧
        FldsKept [F.THM_ZONE_PRED.temp z, F.THM_ZONE_PRED.rate z] s t ∧
        t = { s with csr := t.csr, thm := { s.thm with predAt := t.thm.predAt } })) ∧
    (∀ (v : Fin 8) (e : Nat), s.thm.pullEnd[v] = some e → e ≤ s.tns.tick → Answers (exec (.valvePullEnd v) s) fun t =>
      t.thm.pullEnd = s.thm.pullEnd.set v none ∧
      (s.valveDriven v = true → t.valveDrive v = s.fld (F.THM_VALVE_CFG.hold_pct v)) ∧
      t = { s with thm := { s.thm with pullEnd := t.thm.pullEnd } }) ∧
    (s.coreUp 1 = true → s.curveRules = true → Answers (exec .fanCurveUpdate s) fun t =>
      (∀ i < 16, ∀ d,
        s.curveOf (16 + i) ((List.range 8).filter fun g => bitOf (s.fld (F.THM_GROUP.fans g)) i) = some d →
        t.fld (F.QUA_TGT.target (16 + i)) = d % 65536) ∧
      (∀ p < 4, ∀ d,
        s.curveOf (32 + p) ((List.range 8).filter fun g => bitOf (s.fld (F.THM_GROUP.pumps g)) p) = some d →
        t.fld (F.QUA_TGT.target (32 + p)) = d % 65536) ∧
      (∀ c < 64, (c < 16 ∨ 36 ≤ c) → t.fld (F.QUA_TGT.target c) = s.fld (F.QUA_TGT.target c)) ∧
      t = { s with csr := t.csr }) ∧
    (∀ since, s.rst.coolSince = some since → s.rst.shed = true → since + 10000000 ≤ s.tns.tick →
      Answers (exec .thermalShedExit s) fun t =>
        t.rst = { s.rst with shed := false, coolSince := none } ∧ t = { s with rst := t.rst, evr := t.evr })

/-- Each cut source latches its cause and takes its action; a pace source puts its duty on every live link (R156, R157, R158, R159, R161, R162, R422). -/
def Obligations.PeriodCutsOnItsCauses : Prop :=
  ∀ s : State, s.powered = true →
    let selfFault (c : Instr) : Prop :=
      (s.flag F.PER_CAUSE.self_fault = false → Answers (exec c s) fun t =>
        t.flag F.PER_CAUSE.self_fault = true ∧ TrayCut s t) ∧
      (s.flag F.PER_CAUSE.self_fault = true → Answers (exec c s) fun t =>
        FldsKept [F.PER_PROOF.fail_path] s t ∧ t = { s with csr := t.csr })
    let cuts (c : Instr) (f : Fd) (mon : Fd) (v : Nat) : Prop :=
      (s.flag f = false → Answers (exec c s) fun t => t.flag f = true ∧ TrayCut s t) ∧
      (s.flag f = true → Answers (exec c s) fun t =>
        t.fld mon = min v 65535 ∧ FldsKept [mon] s t ∧ t = { s with csr := t.csr })
    let paces (c : Instr) (f : Fd) : Prop := Answers (exec c s) fun t =>
      t.flag f = true ∧ (∀ n : Fin 8, s.efuseOn n = true → s.fld F.PER_DUTY.pace_duty ≤ t.applied n) ∧
      (∀ g ∈ [F.PER_CAUSE.iin_oc, F.PER_CAUSE.vbus_ov, F.PER_CAUSE.vbus_uv, F.PER_CAUSE.self_fault], t.flag g = s.flag g) ∧
      EnablesKept s t ∧ Sheltered s t
    (∀ w : WaveIn,
      (w.invalidCode = true ∨ w.overrun = true → selfFault (.periodWave w)) ∧
      (w.invalidCode = false → w.overrun = false → Answers (exec (.periodWave w) s) fun t =>
        t.fld F.PER_MON.vbus = min w.vbus 65535 ∧ t.fld F.PER_MON.iin = min w.iin 65535 ∧
        t.fld F.SEQ_EFUSE_STATUS.flt = w.fltLow.toNat ∧
        (∀ n : Fin 8, t.flag (F.SLT_STAT.thermtrip n) = bitOf w.tripLow.toNat n) ∧ t.per.waveAt = s.tns.tick ∧
        FldsKept ([F.PER_MON.vbus, F.PER_MON.iin, F.SEQ_EFUSE_STATUS.flt] ++
          (List.range 8).map F.SLT_STAT.thermtrip) s t ∧ t = { s with csr := t.csr, per := t.per })) ∧
    selfFault .tickAbsent ∧
    (∀ path : Nat, path ≠ 0 → selfFault (.proofTest path) ∧
      Answers (exec (.proofTest path) s) fun t => t.fld F.PER_PROOF.fail_path = path % 256) ∧
    (Answers (exec (.proofTest 0) s) fun t => t.fld F.PER_PROOF.passes = countedUp s F.PER_PROOF.passes 1 ∧
      FldsKept [F.PER_PROOF.passes] s t ∧ t = { s with csr := t.csr }) ∧
    (∀ v : Nat,
      (s.fld F.PER_IIN_LVL.oc_cut < v → cuts (.inputOvercurrentCut v) F.PER_CAUSE.iin_oc F.PER_MON.iin v) ∧
      (s.fld F.PER_VBUS_LVL.ov * 5 < v → cuts (.busOvervoltage v) F.PER_CAUSE.vbus_ov F.PER_MON.vbus v) ∧
      (v < s.fld F.PER_VBUS_LVL.uv_cut * 5 → cuts (.busUndervoltageCut v) F.PER_CAUSE.vbus_uv F.PER_MON.vbus v) ∧
      (s.fld F.PER_IIN_LVL.oc_pace ≠ 0 → s.fld F.PER_IIN_LVL.oc_pace < v →
        paces (.inputOvercurrentPace v) F.PER_CAUSE.oc_pace) ∧
      (v < s.fld F.PER_VBUS_LVL.uv_pace * 5 → paces (.busUndervoltagePace v) F.PER_CAUSE.uv_pace)) ∧
    (∀ n : Fin 8,
      (s.flag (F.PER_SLOT_CAUSE.thermtrip n) = false → Answers (exec (.slotThermtrip n) s) fun t =>
        t.flag (F.PER_SLOT_CAUSE.thermtrip n) = true ∧ t.flag (F.SLT_STAT.thermtrip n) = true ∧ SlotCut s t n) ∧
      (s.flag (F.PER_SLOT_CAUSE.thermtrip n) = true → Answers (exec (.slotThermtrip n) s) fun t =>
        t.flag (F.SLT_STAT.thermtrip n) = true ∧ FldsKept [F.SLT_STAT.thermtrip n] s t ∧ t = { s with csr := t.csr }) ∧
      (Answers (exec (.keepaliveExpiry (.efuse n)) s) fun t => t.efuseOn n = false ∧ t.gateOn = s.gateOn ∧
        (∀ j : Fin 8, j ≠ n → t.efuseOn j = s.efuseOn j) ∧ (∀ d : Fin 48, t.domOn d = s.domOn d) ∧ Sheltered s t)) ∧
    (Answers (exec (.keepaliveExpiry .gate) s) fun t => t.gateOn = false ∧ (∀ n : Fin 8, t.efuseOn n = s.efuseOn n) ∧
      (∀ d : Fin 48, t.domOn d = s.domOn d) ∧ Sheltered s t) ∧
    (∀ d : Fin 48, Answers (exec (.keepaliveExpiry (.dom d)) s) fun t => t.domOn d = false ∧ t.gateOn = s.gateOn ∧
      (∀ n : Fin 8, t.efuseOn n = s.efuseOn n) ∧ (∀ e : Fin 48, e ≠ d → t.domOn e = s.domOn e) ∧ Sheltered s t)

/-- Arming, clearing, level writes, leak samples, self-tests, the heartbeat and fallback as stated (R160, R163, R164, R165, R166, R167, R169, R172, R464). -/
def Obligations.PeriodIsArmedClearedAndWatchesForLeaks : Prop :=
  ∀ s : State, s.powered = true →
    let cause (x : State) (b : Nat) : Bool := bitOf (x.reg R.PER_CAUSE).toNat b
    let slotCause (x : State) (n : Fin 8) (b : Nat) : Bool := bitOf (x.reg (R.PER_SLOT_CAUSE n)).toNat b
    (∀ (k : Fin 13) (v : BitVec 32), s.coreUp k = true →
      (Answers (exec (.periodArm k v) s) fun t => t.armed = (s.armed || bitOf v.toNat 16) ∧
        RegsKept [R.PER_CTL] s t ∧ t = { s with csr := t.csr }) ∧
      (Answers (exec (.perCauseClear k .tray v) s) fun t =>
        (∀ b ∈ [0, 1, 2, 3, 5], cause t b = (cause s b && !(bitOf v.toNat b && s.trayClearSide b))) ∧
        (∀ b, 5 < b → cause t b = cause s b) ∧ (bitOf v.toNat 4 = false → cause t 4 = cause s 4) ∧
        (bitOf v.toNat 5 = true → cause s 5 = true → s.trayClearSide 5 = true →
          t.fld F.LKD_STATUS.confirmed = 0 ∧ t.fld F.LKD_STATUS.test_fail = 0 ∧ t.fld F.THM_VALVE_CTL.forced = 0) ∧
        EnablesKept s t ∧ Sheltered s t) ∧
      (∀ n : Fin 8, Answers (exec (.perCauseClear k (.slot n) v) s) fun t =>
        slotCause t n 0 = (slotCause s n 0 && !(bitOf v.toNat 0 && !s.tripOn n)) ∧
        slotCause t n 1 = (slotCause s n 1 && !(bitOf v.toNat 1 && !s.flag (F.SLT_STAT.thermtrip n))) ∧
        (∀ j : Fin 8, j ≠ n → t.reg (R.PER_SLOT_CAUSE j) = s.reg (R.PER_SLOT_CAUSE j)) ∧
        EnablesKept s t ∧ Sheltered s t) ∧
      (∀ r : LevelReg,
        (levelsAgree r v = false ∨ admitsAll (levelOff r) v = false ∨ s.armed = true →
          Answers (exec (.levelRegisterWrite k r v) s) fun t => RegsKept [] s t ∧ t = { s with csr := t.csr }) ∧
        (levelsAgree r v = true → admitsAll (levelOff r) v = true → s.armed = false →
          Answers (exec (.levelRegisterWrite k r v) s) fun t => RegsKept [levelOff r] s t ∧ t = { s with csr := t.csr } ∧
            (match r with
             | .vbus => (t.reg (levelOff r)).toNat % 2 ^ 24 = v.toNat % 2 ^ 24
             | _ => t.reg (levelOff r) = v))) ∧
      (bitOf v.toNat 0 = true → s.flag F.PER_CAUSE.self_fault = false → Answers (exec (.perHb k v) s) fun t =>
        t.flag F.PER_CAUSE.fallback = false ∧ t.per = { s.per with hbAt := s.tns.tick } ∧ EnablesKept s t ∧ Sheltered s t) ∧
      (bitOf v.toNat 0 = false ∨ s.flag F.PER_CAUSE.self_fault = true → exec (.perHb k v) s = .next s)) ∧
    (∀ v : Nat,
      (s.flag F.PER_CAUSE.oc_pace = true → ocClearSide (s.fld F.PER_IIN_LVL.oc_pace) v = true →
        s.since s.per.ocClear 1000 = true → Answers (exec (.paceCauseClear (.ocPace v)) s) fun t =>
          t.flag F.PER_CAUSE.oc_pace = false ∧ t.flag F.PER_CAUSE.uv_pace = s.flag F.PER_CAUSE.uv_pace ∧
          EnablesKept s t ∧ Sheltered s t) ∧
      (s.flag F.PER_CAUSE.uv_pace = true → uvClearSide (s.fld F.PER_VBUS_LVL.uv_pace) v = true →
        s.since s.per.uvClear 1000 = true → Answers (exec (.paceCauseClear (.uvPace v)) s) fun t =>
          t.flag F.PER_CAUSE.uv_pace = false ∧ t.flag F.PER_CAUSE.oc_pace = s.flag F.PER_CAUSE.oc_pace ∧
          EnablesKept s t ∧ Sheltered s t)) ∧
    (∀ meas : List RopeMeas, Answers (exec (.leakSample false meas) s) fun t =>
      (∀ (z : Fin 8) (m : RopeMeas), s.zoneOn z = true → meas[z.val]? = some m →
        let wet := s.ropeWet z m
        t.fld (F.LKD_ZONE_MEAS.z_ab z) = min m.zAb 65535 ∧ bitOf (t.fld F.LKD_STATUS.wet) z = wet ∧
        t.ropes[z].wetRun = (if wet then s.ropes[z].wetRun + 1 else 0) ∧
        t.ropes[z].passed = (s.ropes[z].passed && !wet) ∧
        t.fld (F.LKD_ZONE_WET.count z) = countedUp s (F.LKD_ZONE_WET.count z) (b2n wet) ∧
        t.zoneConfirmed z = (s.zoneConfirmed z || (wet && 2 ≤ s.ropes[z].wetRun)) ∧
        (wet = true → t.flag F.PER_CAUSE.leak_wet = true ∧ (s.flag F.PER_CAUSE.leak_wet = false → t.gateOn = false)) ∧
        (wet = true → 2 ≤ s.ropes[z].wetRun → s.zoneConfirmed z = false → t.flag F.PER_CAUSE.leak_conf = true ∧
          (∀ d : Fin 48, s.domZone d = z → t.domOn d = false) ∧
          (∀ n : Fin 8, s.efuseZone n = z → t.efuseOn n = false ∧ 1023 ≤ t.applied n))) ∧
      (∀ z : Fin 8, s.zoneOn z = false ∨ meas[z.val]? = none →
        t.ropes[z] = s.ropes[z] ∧ t.zoneConfirmed z = s.zoneConfirmed z) ∧
      ((∀ (z : Fin 8) (m : RopeMeas), s.zoneOn z = true → meas[z.val]? = some m → s.ropeWet z m = false) →
        EnablesKept s t ∧ RegsKept ([R.LKD_STATUS] ++ (List.range 8).map R.LKD_ZONE_MEAS) s t) ∧
      t.per.polarity = !s.per.polarity ∧ Sheltered s t) ∧
    (∀ rises : List (Nat × Nat), (rises.map Prod.fst).Nodup → Answers (exec (.ropeSelfTest false rises) s) fun t =>
      (∀ (z : Fin 8) (r : Nat), (z.val, r) ∈ rises → s.zoneOn z = true →
        (risePasses r = true → t.ropes[z].failRun = 0 ∧ t.ropes[z].passed = true ∧
          t.zoneConfirmed z = s.zoneConfirmed z) ∧
        (risePasses r = false → t.fld (F.LKD_ZONE_TFAIL.count z) = countedUp s (F.LKD_ZONE_TFAIL.count z) 1) ∧
        (risePasses r = false → s.ropes[z].failRun < 2 → t.ropes[z].failRun = s.ropes[z].failRun + 1 ∧
          t.zoneConfirmed z = s.zoneConfirmed z) ∧
        (risePasses r = false → 2 ≤ s.ropes[z].failRun → t.zoneConfirmed z = true ∧
          bitOf (t.fld F.LKD_STATUS.test_fail) z = true ∧ bitOf (t.fld F.LKD_STATUS.wet) z = true ∧
          t.flag F.PER_CAUSE.leak_wet = true)) ∧
      (∀ z : Fin 8, (∀ r, (z.val, r) ∉ rises) → t.ropes[z] = s.ropes[z] ∧ t.zoneConfirmed z = s.zoneConfirmed z) ∧
      Sheltered s t) ∧
    (s.flag F.PER_CAUSE.fallback = false → s.per.hbAt + 5000 ≤ s.tns.tick → Answers (exec .fallbackEntry s) fun t =>
      t.flag F.PER_CAUSE.fallback = true ∧ (∀ n : Fin 8, s.efuseOn n = true → s.fld F.PER_DUTY.fb_duty ≤ t.applied n) ∧
      EnablesKept s t ∧ Sheltered s t)

/-- Tick, counters, speed, crystal and receive FIFOs change as stated (R45, R46, R50, R52, R53, R54, R59, R226, R327). -/
def Obligations.TimeAdvancesAndIsAdjustedAsStated : Prop :=
  ∀ s : State, s.powered = true →
    (∀ speed : BitVec 16, Answers (exec (.tenseTick speed) s) fun t =>
      let frac := s.tns.dfrac + 1000 * (1000000000 + s.rate)
      t.tns.tick = s.tns.tick + 1 ∧ t.tns.dtime = (s.tns.dtime + 2 * (frac / 2000000000).toNat) % 2 ^ 64 ∧
      t.tns.dfrac = frac % 2000000000 ∧
      t.tns.opMs = (if (s.tns.tick + 1) % 1000 = 0 then s.tns.opMs + 1 else s.tns.opMs) ∧
      t.fld F.TNS_SPEED.speed = speed.toNat ∧
      t.flag F.TNS_STATUS.slow = (s.flag F.TNS_STATUS.slow || decide (speed.toNat < s.fld F.TNS_CTL.slow_thresh)) ∧
      ((s.tns.tick + 1) % 1000 = 0 → ∀ k, bitOf (t.core k).raised 1 = true) ∧
      FldsKept [F.TNS_SPEED.speed, F.TNS_STATUS.slow] s t ∧
      (∀ k, (t.core k).gpr = (s.core k).gpr) ∧
      t = { s with csr := t.csr, tns := t.tns, evr := t.evr, cores := t.cores, rst := t.rst, grps := t.grps,
                   agrOut := t.agrOut }) ∧
    (s.flag F.TNS_STATUS.slow = true → 10000 ≤ s.tns.goodTicks → Answers (exec .logicSlowClear s) fun t =>
      t.flag F.TNS_STATUS.slow = false ∧ FldsKept [F.TNS_STATUS.slow] s t ∧ t = { s with csr := t.csr }) ∧
    (∀ k : Fin 13, s.coreUp k = true →
      let seen (t : State) : Prop := t.core k = { s.core k with raised := clrBit (clrBit (s.core k).raised 0) 1 } ∧
        (∀ j, j ≠ k → t.core j = s.core j) ∧ t = { s with csr := t.csr, cores := t.cores }
      (Answers (exec (.tnsCounterLoRead k .tick) s) fun t => t.fld F.TNS_TICK_HI.hi = s.tns.tick / 2 ^ 32 % 2 ^ 32 ∧
        FldsKept [F.TNS_TICK_HI.hi] s t ∧ seen t) ∧
      (Answers (exec (.tnsCounterLoRead k .optime) s) fun t =>
        t.fld F.TNS_OPTIME_HI.hi = s.tns.opMs % 2 ^ 40 / 2 ^ 32 ∧
        FldsKept [F.TNS_OPTIME_HI.hi] s t ∧ seen t) ∧
      (Answers (exec (.tnsCounterLoRead k .dtime) s) fun t => t.fld F.TNS_DTIME_HI.hi = s.tns.dtime / 2 ^ 32 % 2 ^ 32 ∧
        FldsKept [F.TNS_DTIME_HI.hi] s t ∧ seen t) ∧
      (∀ v : BitVec 32, Answers (exec (.tnsAdjWrite k v) s) fun t =>
        t.rate = max (-500000) (min 500000 v.toInt) ∧
        t.flag F.TNS_STATUS.adj_clamp = (s.flag F.TNS_STATUS.adj_clamp || decide (500000 < v.toInt.natAbs)) ∧
        FldsKept [F.TNS_ADJ.rate, F.TNS_STATUS.adj_clamp] s t ∧ t = { s with csr := t.csr })) ∧
    (s.flag F.TNS_STATUS.xtal_lost = false → Answers (exec .xtalLost s) fun t =>
      t.flag F.TNS_STATUS.xtal_lost = true ∧ t.flag F.TNS_STATUS.ptp_valid = false ∧
      FldsKept [F.TNS_STATUS.xtal_lost, F.TNS_STATUS.ptp_valid] s t ∧ t.tns = { s.tns with lostAt := s.tns.tick } ∧
      t = { s with csr := t.csr, tns := t.tns, evr := t.evr }) ∧
    (s.flag F.TNS_STATUS.xtal_lost = true → Answers (exec .xtalRestored s) fun t =>
      t.flag F.TNS_STATUS.xtal_lost = false ∧ FldsKept [F.TNS_STATUS.xtal_lost] s t ∧
      t = { s with csr := t.csr, evr := t.evr }) ∧
    (∀ (l p : Fin 8) (len taken : Nat) (ok : Bool) (kind : FrameKind), s.portUp l = true →
      Answers (exec (.ethFrameReceive l p len taken ok kind) s) fun t =>
        let left := s.eth.ports[l].fifo[p] - taken
        let bad : Bool := s.flag (F.ETH_PORT_CFG.macsec_req l) && !ok && decide (kind ≠ .eapol)
        let full : Bool := !bad && decide (Config.fifoBytes < left + len)
        t.eth.ports[l].fifo[p] = (if bad || full then left else left + len) ∧
        t.fld (F.ETH_MACSEC_DROP.count l) = countedUp s (F.ETH_MACSEC_DROP.count l) (b2n bad) ∧
        t.fld (F.ETH_RX_DROP.count l p) = countedUp s (F.ETH_RX_DROP.count l p) (b2n full) ∧
        bitOf t.eth.ports[l].pausing p =
          (decide (p.val < 7) && decide (Config.fifoBytes * 3 < t.eth.ports[l].fifo[p] * 4)) ∧
        (∀ q : Fin 8, q ≠ p → t.eth.ports[l].fifo[q] = s.eth.ports[l].fifo[q]) ∧
        t.eth.ports[l].stamp = (if kind = .ptpEvent ∧ s.flag F.TNS_STATUS.xtal_lost = false then some (s.portStamp l)
          else s.eth.ports[l].stamp) ∧
        (∀ j : Fin 8, j ≠ l → t.eth.ports[j] = s.eth.ports[j]) ∧
        FldsKept [F.ETH_MACSEC_DROP.count l, F.ETH_RX_DROP.count l p] s t ∧ t = { s with csr := t.csr, eth := t.eth }) ∧
    (∀ (l : Fin 8) (prios : BitVec 8), s.portUp l = true → Answers (exec (.pfcPauseReceived l prios) s) fun t =>
      (∀ i < 7, bitOf t.eth.ports[l].paused i = bitOf prios.toNat i) ∧ bitOf t.eth.ports[l].paused 7 = false ∧
      (∀ j : Fin 8, j ≠ l → t.eth.ports[j] = s.eth.ports[j]) ∧ t = { s with eth := t.eth })

/-- Boundaries, epoch deadlines and steps of domain time produce what the rules state (R55, R56, R57, R99, R101). -/
def Obligations.BoundariesDeadlinesAndStepsFollowDomainTime : Prop :=
  ∀ (s : State) (g : Fin 256), s.powered = true →
    let applied (t : State) : Prop :=
      (t.target 8).capM = some (s.fld F.CAP_STAGED_W.watts) ∧ (t.target 8).capH = (s.target 8).capH ∧
      t.fld F.CAP_EPOCH_APPLIED.epoch = s.fld F.CAP_EPOCH_STAGED.epoch ∧ t.flag F.CAP_STATUS.staged = false ∧
      t.flag (F.TNS_EPOCH_DL_HI.arm g) = false
    (Answers (exec (.paceRoundBoundary g true) s) fun t =>
      t.fld (F.TNS_SKIP.count 2) = countedUp s (F.TNS_SKIP.count 2) 1 ∧ FldsKept [F.TNS_SKIP.count 2] s t ∧
      t = { s with csr := t.csr }) ∧
    (∀ b, s.boundaryDue g = some b → Answers (exec (.paceRoundBoundary g false) s) fun t =>
      (∃ y, t.grp g = some y ∧ y.upTo = b ∧ y.lastBoundary = b ∧ y.stepped = false) ∧
      (∀ x e named, s.grp g = some x → x.held = some (e, named) →
        (named ≤ b → s.stagedFor g e = true →
          applied t ∧ t.fld F.CAP_STRAG_CNT.count = s.fld F.CAP_STRAG_CNT.count) ∧
        (b < named ∨ s.stagedFor g e = false → t.targets = s.targets ∧
          t.fld F.CAP_EPOCH_APPLIED.epoch = s.fld F.CAP_EPOCH_APPLIED.epoch ∧
          t.flag F.CAP_STATUS.staged = s.flag F.CAP_STATUS.staged)) ∧
      t = { s with csr := t.csr, tns := t.tns, evr := t.evr, targets := t.targets, grps := t.grps,
                   agrOut := t.agrOut }) ∧
    (s.boundaryDue g = none → exec (.paceRoundBoundary g false) s = .next s) ∧
    (∀ (k : Fin 13) (v : BitVec 32), s.coreUp k = true → Answers (exec (.epochDeadlineArm k g v) s) fun t =>
      t.flag (F.TNS_EPOCH_DL_HI.arm g) = bitOf v.toNat 0 ∧ t.fld (F.TNS_EPOCH_DL_HI.time g) = v.toNat / 2 ∧
      t.tns.deadlines.lookup g.val = (if bitOf v.toNat 0
        then some (s.fld (F.TNS_EPOCH_DL_LO.time g) + v.toNat / 2 * 2 ^ 32) else none) ∧
      RegsKept [R.TNS_EPOCH_DL_HI g] s t ∧
      t = { s with csr := t.csr, tns := { s.tns with deadlines := t.tns.deadlines } }) ∧
    (s.deadlineDue g = true → Answers (exec (.epochDeadline g) s) fun t =>
      bitOf (t.fld (F.TNS_EPOCH_PEND.pend (g / 32))) (g % 32) = true ∧ t.flag (F.TNS_EPOCH_DL_HI.arm g) = false ∧
      (s.coreUp 1 = true → s.capGroup g = true → s.flag F.CAP_STATUS.staged = true → applied t ∧
        t.flag F.CAP_STATUS.lagging = true ∧ t.fld F.CAP_STRAG_CNT.count = countedUp s F.CAP_STRAG_CNT.count 1) ∧
      (s.capGroup g = false ∨ s.flag F.CAP_STATUS.staged = false → t.targets = s.targets ∧
        t.fld F.CAP_EPOCH_APPLIED.epoch = s.fld F.CAP_EPOCH_APPLIED.epoch) ∧
      t = { s with csr := t.csr, tns := t.tns, evr := t.evr, targets := t.targets, grps := t.grps }) ∧
    (∀ (k : Fin 13) (v : BitVec 32), s.coreUp k = true →
      let refused : Prop := s.flag F.TNS_CTL.step_en = false ∨ s.fld F.TNS_STEP_LIMIT.limit < s.stepNs.natAbs
      let moved := unsignedOf 64 ((s.tns.dtime : Int) + s.stepNs)
      (bitOf v.toNat 0 = false → exec (.domainTimeStep k v) s = .next s) ∧
      (bitOf v.toNat 0 = true → refused → Answers (exec (.domainTimeStep k v) s) fun t =>
        t.flag F.TNS_STATUS.step_refused = true ∧ FldsKept [F.TNS_STATUS.step_refused] s t ∧
        t = { s with csr := t.csr, evr := t.evr }) ∧
      (bitOf v.toNat 0 = true → ¬refused → s.stepNs ≤ 0 → Answers (exec (.domainTimeStep k v) s) fun t =>
        t = { s with tns := { s.tns with dtime := moved }, evr := t.evr }) ∧
      (bitOf v.toNat 0 = true → ¬refused → 0 < s.stepNs → Answers (exec (.domainTimeStep k v) s) fun t =>
        t.tns.dtime = moved ∧
        (∀ x b, s.grp g = some x → s.boundaryAt g moved = some b → x.upTo < b →
          ∃ y, t.grp g = some y ∧ y.upTo = b ∧ y.lastBoundary = b ∧ y.stepped = true) ∧
        (∀ d, s.tns.deadlines.lookup g.val = some d → d ≤ moved → t.flag (F.TNS_EPOCH_DL_HI.arm g) = false) ∧
        t = { s with csr := t.csr, tns := t.tns, evr := t.evr, targets := t.targets, grps := t.grps,
                     agrOut := t.agrOut }))

/-- Cold start, warm reset and core reset leave what the rules state (R3, R4, R25, R53, R356, R413, R417, R418, R427, R428). -/
def Obligations.ResetsKeepAndLoseWhatTheyShould : Prop :=
  ∀ s : State,
    (exec .alwaysOnLoss s = .next { s with powered := false }) ∧
    (s.powered = true → ∀ (role : BitVec 2) (ok : Bool), exec (.coldStart role ok) s = .next s) ∧
    (s.powered = false → ∀ (role : BitVec 2) (ok : Bool), Answers (exec (.coldStart role ok) s) fun t =>
      t.fuses = s.fuses ∧ t.flash = s.flash ∧ t.repair = s.repair ∧ t.its.cur = s.its.cur ∧ t.its.log = s.its.log ∧
      t.mem = [] ∧ t.jobs = [] ∧ t.threads = [] ∧ t.objs = [] ∧ t.armed = false ∧ t.gateOn = false ∧
      (∀ n : Fin 8, t.efuseOn n = false) ∧ (∀ d : Fin 48, t.domOn d = false) ∧
      (∀ k : Fin 13, (t.core k).run = if k = 0 then .running else .held) ∧ (t.core 0).pc = 0 ∧
      t.tns.tick = 0 ∧ t.tns.opMs = s.its.saved.opMs ∧ t.tns.cycles = s.its.cur.cycles ∧ t.fld F.BOOT_STATUS.stage = 0 ∧
      t.flag F.SEC_STATUS.trng_fail = !ok ∧ t.sec.ddrKeys.isSome = ok ∧
      (role = 3 → ∃ r ∈ t.evr.ring, r.src = 0x29 ∧ r.code = 0x0F0F ∧ r.sev = 3)) ∧
    (∀ (c : WarmCause) (code : Nat), s.powered = true → warmCode c = some code →
      (c = .resetMessage → s.rst.warmDue = true) → Answers (exec (.warmReset c) s) fun t =>
        t.fld F.RST_CAUSE.cause = code ∧ t.fld F.RST_WARM_CNT.count = countedUp s F.RST_WARM_CNT.count 1 ∧
        t.jobs = [] ∧ t.threads = [] ∧ t.rst.warmDue = false ∧ t.fld F.BOOT_STATUS.stage = 0 ∧ t.fld F.BOOT_STATUS.svc = 0 ∧
        (∀ k : Fin 13, (t.core k).run = if k = 0 then .running else .held) ∧ (t.core 0).pc = 0 ∧
        (∀ x, tensorBase ≤ x → x < tensorBase + tensorSize → t.byte x = 0#8) ∧
        (∀ x, 0x10400000 ≤ x → x < 0x11400000 → t.byte x = 0#8) ∧
        (∀ x, ddrBase ≤ x → x < ddrBase + ddrSize → t.byte x = s.byte x) ∧
        (∀ x, sharedBase ≤ x → x < 0x10400000 → t.byte x = s.byte x) ∧
        t.armed = s.armed ∧ t.reg R.PER_CAUSE = s.reg R.PER_CAUSE ∧ t.fld F.CAP_EPOCH_APPLIED.epoch = s.fld F.CAP_EPOCH_APPLIED.epoch ∧
        (∀ x : Fin 9, (t.target x).capM = (s.target x).capM ∧ (t.target x).capH = (s.target x).capH) ∧
        EnablesKept s t ∧ t.fuses = s.fuses ∧ t.flash = s.flash ∧ t.its.cur = s.its.cur ∧ t.tns.tick = s.tns.tick) ∧
    (s.powered = true → s.rst.warmDue = false → exec (.warmReset .resetMessage) s = .next s) ∧
    (∀ m : Fin 16, Served s m 1 8 1 →
      (s.holdMask = 0 → Answers (exec (.reset m 1) s) fun t => Answered s t m 1 8 0 ∧ t.rst.warmDue = true) ∧
      (s.holdMask ≠ 0 → Answers (exec (.reset m 1) s) fun t => RepliesOnly s t m 1 8 7) ∧
      (∀ kind, kind = 2 ∨ kind = 3 → Answers (exec (.reset m kind) s) fun t =>
        Answered s t m 1 8 0 ∧ t.flag F.RST_CTL.main_hold = decide (kind = 2) ∧
        RegsKept [R.RST_CTL, F.MBX_PENDING.pending.off] s t) ∧
      (∀ kind, kind = 0 ∨ 3 < kind → Answers (exec (.reset m kind) s) fun t => RepliesOnly s t m 1 8 5))

/-- Stage 0 runs the first candidate that verifies, and cores are locked and released by the security core only (R13, R15, R35, R221, R224, R389, R390, R391, R392, R394, R396). -/
def Obligations.BootLoadsTheFirstImageThatVerifies : Prop :=
  ∀ s : State, s.powered = true →
    let good (n : Nat) : Prop := s.imgCheck (s.slotRd n) 1 0 (n == 2) = 0
    let runs (t : State) (n : Nat) : Prop :=
      t.fld F.BOOT_STATUS.stage = 1 ∧ t.fld F.BOOT_STATUS.source = n ∧ t.boot.running = n ∧ t.sec.verified = true ∧
      t.boot.resident = imgId (s.slotRd n) ∧ (t.core 0).run = .running ∧ (t.core 0).pc = pcOf (imgVector (s.slotRd n) 0) ∧
      ∀ k : Fin 13, imgVector (s.slotRd n) k ≠ 0 → t.flag (F.SYS_CORE_LOCK.lock k) = true
    let kept (t : State) : Prop := t.fuses = s.fuses ∧ FlashKept [metaSpan, repairSpan] s t ∧ t.its = s.its ∧ EnablesKept s t
    (∀ golden : Bool, s.fld F.BOOT_STATUS.stage = 0 → golden = true ∨ s.trialSlot = none →
      let l := if golden then [2] else s.candidates
      ((∀ n ∈ l, ¬good n) → Answers (exec (.bootStage0 golden) s) fun t => t.fld F.BOOT_STATUS.stage = 7 ∧ kept t) ∧
      (∀ (pre post : List Nat) (n : Nat), l = pre ++ n :: post → (∀ x ∈ pre, ¬good x) → good n →
        Answers (exec (.bootStage0 golden) s) fun t => runs t n ∧ t.boot.trial = false ∧
          t.flag F.BOOT_STATUS.golden_n = golden ∧ kept t)) ∧
    (∀ (n : Nat) (r : MetaRec), s.fld F.BOOT_STATUS.stage = 0 → s.trialSlot = some n → s.slotRec n = some r →
      r.attempts ≠ 0xF8 → s.fld F.BOOT_STATUS.last_cause ≠ 2 → good n →
      Answers (exec (.bootStage0 false) s) fun t => runs t n ∧ t.boot.trial = true ∧ kept t ∧
        ∃ q, t.slotRec n = some q ∧ q.attempts = nextAttempt r.attempts) ∧
    (s.fld F.BOOT_STATUS.stage ≠ 0 → ∀ golden, exec (.bootStage0 golden) s = .next s) ∧
    (∀ by_ k : Fin 13, s.coreUp by_ = true →
      (Answers (exec (.coreLock by_ k) s) fun t =>
        t.flag (F.SYS_CORE_LOCK.lock k) = (s.flag (F.SYS_CORE_LOCK.lock k) || decide (by_ = 0)) ∧
        FldsKept [F.SYS_CORE_LOCK.lock k] s t ∧ t = { s with csr := t.csr }) ∧
      (by_ ≠ 0 ∨ k = 0 → exec (.coreRelease by_ k) s = .next s) ∧
      (by_ = 0 → k ≠ 0 → bitOf (s.fld F.BOOT_RELEASE.release) (k - 1) = false →
        (s.flag (F.SYS_CORE_LOCK.lock k) = false → Answers (exec (.coreRelease by_ k) s) fun t =>
          t.flag F.BOOT_STATUS.rel_refused = true ∧ FldsKept [F.BOOT_STATUS.rel_refused] s t ∧ t = { s with csr := t.csr }) ∧
        (s.flag (F.SYS_CORE_LOCK.lock k) = true → Answers (exec (.coreRelease by_ k) s) fun t => FlashKept [metaSpan] s t ∧
          bitOf (t.fld F.BOOT_RELEASE.release) (k - 1) = true ∧ (t.core k).run = .running ∧
          (t.core k).pc = pcOf (s.bootVec k) ∧ (t.core k).gpr = (s.core k).gpr ∧ (∀ j, j ≠ k → t.core j = s.core j) ∧
          (k ≠ 2 → t = { s with csr := t.csr, cores := t.cores, rst := t.rst, boot := t.boot, evr := t.evr, flash := t.flash }) ∧
          (k = 2 → (s.objs = [] → t.objs = [(1023, reqObj)] ∧ ∀ m < 16, t.tagFull (wordNo (reqWord m)) = false ∧
              t.nat (reqWord m) 8 = 0) ∧
            t = { s with csr := t.csr, cores := t.cores, rst := t.rst, boot := t.boot, evr := t.evr, flash := t.flash, objs := t.objs,
                         mem := t.mem, tags := t.tags })))) ∧
    (∀ (k : Fin 13) (v : BitVec 32), s.coreUp k = true →
      exec (.csrWrite k R.TNS_ADJ v) s = exec (.tnsAdjWrite k v) s ∧
      exec (.csrWrite k R.TNS_STEP_CTL v) s = exec (.domainTimeStep k v) s ∧
      exec (.csrWrite k R.PER_CTL v) s = exec (.periodArm k v) s ∧
      exec (.csrWrite k R.PER_HB v) s = exec (.perHb k v) s ∧
      exec (.csrWrite k R.PER_CAUSE v) s = exec (.perCauseClear k .tray v) s ∧
      exec (.csrWrite k R.THM_VALVE_CTL v) s = exec (.valveCommand k v) s ∧
      (∀ g : Fin 256, exec (.csrWrite k (R.AGR_GRP_GEN g) v) s = exec (.groupCommit k g v) s) ∧
      (∀ (n : Fin 8) (c : Fin 16), Answers (exec (.csrWrite k (R.CAP_FLOOR n c) v) s) fun t =>
        t.fld (F.CAP_FLOOR.watts n c) = v.toNat % 65536 ∧ FldsKept [F.CAP_FLOOR.watts n c] s t ∧ t = { s with csr := t.csr }) ∧
      (∀ off, findReg off = none → (s.core k).p = false → Answers (exec (.csrWrite k off v) s) fun t =>
        Enters k false 6 0 (BitVec.ofNat 64 (s.core k).pc) s t ∧ (t.core k).badaddr = BitVec.ofNat 64 (0x30000000 + off)))

/-- Each clause instruction has its effect, waits, or fails with its reason; what it waits for ends the wait (R64, R67, R69, R71, R72, R160, R228, R229, R232, R405). -/
def Obligations.ClauseInstructionsActAsStated : Prop :=
  ∀ (s : State) (t : Fin 9) (r : ClauseRun), calm s = true → s.clauseLive t = some r →
    let others (u : State) : Prop := (∀ x, x ≠ t → u.target x = s.target x) ∧ OnlyPower s u
    let goes (u : State) (q : ClauseRun) : Prop := (u.target t).run = some q ∧ Returned s u r 0 ∧ others u
    let ok (u : State) : Prop := goes u { r with wait := none }
    let idle (u : State) : Prop := ok u ∧ EnablesKept s u
    let waits (u : State) (w : ClauseWait) : Prop :=
      (u.target t).run = some { r with wait := some w, since := s.tns.tick } ∧ u.cores = s.cores ∧ others u ∧ EnablesKept s u
    let fails (u : State) (reason : Nat) : Prop := Failed s u t r reason ∧ OnlyPower s u
    let does (c : Instr) (q : State → Prop) : Prop := Answers (exec c s) q
    let busy (u : State) (n : Fin 8) : Prop := u.flag (F.SLT_STAT.busy n) = true
    (r.wait = none →
      (∀ d : Nat, 48 ≤ d ∨ s.domOwner d ≠ t → ∀ c ∈ [Instr.domOn t d, .domOff t d, .waitPg t d, .regOn t d, .regOff t d,
        .regVset t d 0], does c (fails · 2)) ∧
      (∀ d : Fin 48, s.domOwner d = t →
        (s.domBarred d = true → does (.domOn t d) (fails · 5)) ∧
        (s.domBarred d = false → s.discharging d = true → does (.domOn t d) (waits · (.discharge d))) ∧
        (s.domBarred d = false → s.discharging d = false → does (.domOn t d) fun u => u.domOn d = true ∧ ok u ∧
          (∀ e : Fin 48, e ≠ d → u.domOn e = s.domOn e)) ∧
        (does (.domOff t d) fun u => u.domOn d = false ∧ ok u ∧ (∀ e : Fin 48, e ≠ d → u.domOn e = s.domOn e)) ∧
        (s.pgTimeout d < r.used d → does (.waitPg t d) fun u => fails u 1 ∧
          bitOf (u.fld (F.SEQ_DOM_FAULT.fault (d / 32))) (d % 32) = true) ∧
        (r.used d ≤ s.pgTimeout d →
          (s.domPg d = true → does (.waitPg t d) (goes · { r.counted d with wait := none })) ∧
          (s.domPg d = false → s.domCause d = true → does (.waitPg t d) (fails · 5)) ∧
          (s.domPg d = false → s.domCause d = false → does (.waitPg t d) (waits · (.pg d)))) ∧
        (∀ mv : Nat,
          (s.fld (F.SEQ_DOM_CFG.kind d) ≠ 1 → ∀ c ∈ [Instr.regOn t d, .regOff t d, .regVset t d mv], does c (fails · 2)) ∧
          (s.fld (F.SEQ_DOM_CFG.kind d) = 1 →
            let inside : Prop := s.fld (F.SEQ_DOM_BUS.vset_min d) * 10 ≤ mv ∧ mv ≤ s.fld (F.SEQ_DOM_BUS.vset_max d) * 10
            (s.domBarred d = true → does (.regOn t d) (fails · 5)) ∧
            (s.domBarred d = false → does (.regOn t d) (waits · (.regOn d))) ∧ does (.regOff t d) (waits · (.regOff d)) ∧
            (inside → does (.regVset t d mv) (waits · (.regVset d mv))) ∧ (¬inside → does (.regVset t d mv) (fails · 3))))) ∧
      (t = 8 → ∀ c ∈ [Instr.efuseOn t, .efuseOff t, .waitEfuse t, .pmicOn t 0, .pmicOff t 0, .pmicVset t 0 0 0,
        .rstAssert t, .rstRelease t, .waitSlotPg t, .flashMux t 0], does c (fails · 2)) ∧
      (∀ n : Fin 8, t.val = n.val →
        (s.efuseBarred n = true → does (.efuseOn t) (fails · 5)) ∧
        (s.efuseBarred n = false → does (.efuseOn t) fun u => u.efuseOn n = true ∧ ok u) ∧
        (does (.efuseOff t) fun u => u.efuseOn n = false ∧ ok u) ∧
        (bitOf (s.fld F.SEQ_EFUSE_STATUS.pg) n = true → does (.waitEfuse t) idle) ∧
        (bitOf (s.fld F.SEQ_EFUSE_STATUS.pg) n = false → s.efuseCause n = true → does (.waitEfuse t) (fails · 5)) ∧
        (bitOf (s.fld F.SEQ_EFUSE_STATUS.pg) n = false → s.efuseCause n = false → does (.waitEfuse t) (waits · .efuse)) ∧
        (∀ p rail mv : Nat,
          let inside : Prop := s.fld F.SEQ_PMIC_LIM.vmin ≤ mv ∧ mv ≤ s.fld F.SEQ_PMIC_LIM.vmax
          (2 < p → ∀ c ∈ [Instr.pmicOn t p, .pmicOff t p, .pmicVset t p rail mv], does c (fails · 2)) ∧
          (p ≤ 2 →
            (does (.pmicOn t p) fun u => waits u (.pmicOn (3 * n + p)) ∧ busy u n) ∧
            (does (.pmicOff t p) fun u => waits u (.pmicOff (3 * n + p)) ∧ busy u n) ∧
            (inside → does (.pmicVset t p rail mv) fun u => waits u (.pmicVset (3 * n + p) rail mv) ∧ busy u n) ∧
            (¬inside → does (.pmicVset t p rail mv) (fails · 3)))) ∧
        (does (.rstAssert t) fun u => u.flag (F.SLT_STAT.rst n) = true ∧ u.linkState n = 0 ∧ idle u) ∧
        (does (.rstRelease t) fun u => u.flag (F.SLT_STAT.rst n) = s.pins[n].flashHold ∧ idle u) ∧
        (s.flag (F.SLT_STAT.pg n) = true → does (.waitSlotPg t) idle) ∧
        (s.flag (F.SLT_STAT.pg n) = false → does (.waitSlotPg t) (waits · .slotPg)) ∧
        (∀ owner : Nat,
          (s.pins[n].flashHold = true → does (.flashMux t owner) (fails · 6)) ∧
          (s.pins[n].flashHold = false → does (.flashMux t owner) fun u => idle u ∧
            (owner < 2 → u.flag (F.SLT_STAT.fl_sel n) = (owner == 1))))) ∧
      (∀ us : Nat, does (.waitTime t us) (waits · (.time (s.tns.tick + us)))) ∧
      (∀ code : BitVec 16, does (.event t code) fun u => idle u ∧ u.csr = s.csr ∧
        (s.fld F.EVR_CTL.min_sev ≤ 1 → 16 ≤ s.evr.tokens → ∃ e ∈ u.evr.ring, e.code = code.toNat ∧ e.sev = 1 ∧
          e.payload = [t.val, r.slot, ((s.core r.core).gpr[9]).toNat % 4096])) ∧
      ((s.target t).lift = false → does (.clauseEnd t) fun u => (u.target t).run = none ∧
        u.bindState t = (if r.onFail || r.toFault then 3 else if r.up then 2 else 0) ∧
        (t = 8 → r.up = false → u.gateOn = false) ∧ OnlyPower s u)) ∧
    (∀ w, r.wait = some w →
      (∀ d : Fin 48, w = .discharge d → s.discharging d = false →
        (s.domBarred d = false → does (.dischargeWaitEnd t) fun u => u.domOn d = true ∧
          goes u { r with wait := none, discharged := (d.val, s.tns.tick - r.since) :: r.discharged }) ∧
        (s.domBarred d = true → does (.dischargeWaitEnd t) (fails · 5))) ∧
      (∀ u, w = .time u → u ≤ s.tns.tick → does (.waitTimeExpiry t) idle) ∧
      (∀ d, w = .pg d → r.since + (s.pgTimeout d - r.used d) ≤ s.tns.tick → does (.pgTimeout t) fun u => fails u 1 ∧
        bitOf (u.fld (F.SEQ_DOM_FAULT.fault (d / 32))) (d % 32) = true) ∧
      (w = .efuse → r.since + s.fld (F.SEQ_EFUSE_CFG.pg_timeout t) * 1000 ≤ s.tns.tick → does (.pgTimeout t) (fails · 1)) ∧
      (w = .slotPg → r.since + 1000000 ≤ s.tns.tick → does (.pgTimeout t) (fails · 1)) ∧
      (r.stop = false → w.isTransfer = true → does (.sidebandTransferDone t .nack) (fails · 4)) ∧
      (∀ m, w = .pmicOn m ∨ w = .pmicOff m → r.stop = true → does (.sidebandTransferDone t .ack) fun u =>
        (u.target t).run = none ∧ (s.flag (F.SEQ_BIND.down_valid t) = true → (u.target t).due = .down) ∧
        (s.flag (F.SEQ_BIND.down_valid t) = false → u.bindState t = 0)) ∧
      (∀ m rail mv, r.stop = false → w = .pmicVset m rail mv → does (.sidebandTransferDone t .locked) (fails · 3) ∧
        does (.sidebandTransferDone t .ack) fun u => idle u ∧ (m, rail, mv) ∈ u.seq.pmicSet) ∧
      (∀ m, r.stop = false → w = .pmicOn m → does (.sidebandTransferDone t .ack) fun u => idle u ∧ bitOf u.seq.pmicOn m = true) ∧
      (∀ m, r.stop = false → w = .pmicOff m → does (.sidebandTransferDone t .ack) fun u => idle u ∧ bitOf u.seq.pmicOn m = false) ∧
      (∀ d : Fin 48, r.stop = false → w = .regOn d → s.domBarred d = false → s.discharging d = false →
        does (.sidebandTransferDone t .ack) fun u => ok u ∧ u.domOn d = true ∧ u.doms[d].operation = true) ∧
      (∀ d : Fin 48, r.stop = false → w = .regOff d → does (.sidebandTransferDone t .ack) fun u => ok u ∧ u.domOn d = false ∧
        u.doms[d].operation = false) ∧
      (∀ (d : Fin 48) (mv : Nat), r.stop = false → w = .regVset d mv → does (.sidebandTransferDone t .ack) fun u => idle u ∧
        u.doms[d] = { s.doms[d] with vout := some mv, base := if s.doms[d].base.isSome then some mv else none }))

/-- The gate request, the input, feed faults, power-goods and the start of a clause as stated (R61, R62, R63, R66, R68, R70, R72, R229, R422). -/
def Obligations.TheGateTheFeedsAndTheClausesStart : Prop :=
  ∀ s : State, s.powered = true →
    (s.gateMay = true → Answers (exec .gateRequestOn s) fun u => u.gateOn = true ∧
      u.seq = { s.seq with gateAt := s.tns.tick, inputGood := false } ∧ FldsKept [F.SEQ_STATUS.gate_req] s u ∧
      u = { s with csr := u.csr, seq := u.seq }) ∧
    (s.gateMay = false → exec .gateRequestOn s = .next s) ∧
    (s.gateOn = true → s.seq.inputGood = false → s.inputNear = true → s.effOn 8 = true → s.quiet 8 = true →
      s.bindState 8 = 0 → s.flag (F.SEQ_BIND.up_valid 8) = true → Answers (exec .inputGood s) fun u =>
        u.seq.inputGood = true ∧ (u.target 8).due = .up ∧ u.gateOn = true ∧ OnlyPower s u) ∧
    (s.gateOn = true → s.seq.inputGood = false →
      s.seq.gateAt + s.fld F.SEQ_INPUT_CFG.gate_timeout * 10000 ≤ s.tns.tick → Answers (exec .gateTimeout s) fun u =>
        u.gateOn = false ∧ u.flag F.SEQ_STATUS.gate_fail = true ∧ u.bindState 8 = 3 ∧
        (∀ x, (u.target x).stM = (s.target x).stM ∧ (u.target x).stH = (s.target x).stH) ∧ OnlyPower s u) ∧
    (∀ n : Fin 8, Answers (exec (.efuseFault n) s) fun u => bitOf (u.fld F.SEQ_EFUSE_STATUS.fault) n = true ∧
      bitOf (u.fld F.SEQ_EFUSE_STATUS.flt) n = true ∧ SlotCut s u n) ∧
    (calm s = true →
      (∀ d : Fin 48, s.domOn d = true → Answers (exec (.domPgGood (.dom d)) s) fun u =>
        u.domPg d = true ∧ u.doms[d].pgSeen = true ∧ EnablesKept s u ∧ OnlyPower s u ∧
        ∀ (t : Fin 9) (r : ClauseRun), s.domOwner d = t → s.clauseLive t = some r → r.wait = some (.pg d) →
          (u.target t).run = some { r.counted d with wait := none } ∧ Returned s u r 0) ∧
      (∀ (n : Fin 8) (t : Fin 9), t.val = n.val →
        (s.efuseOn n = true → Answers (exec (.domPgGood (.efuse n)) s) fun u =>
          bitOf (u.fld F.SEQ_EFUSE_STATUS.pg) n = true ∧ EnablesKept s u ∧ OnlyPower s u ∧
          ∀ r, s.clauseLive t = some r → r.wait = some .efuse →
            (u.target t).run = some { r with wait := none } ∧ Returned s u r 0) ∧
        (Answers (exec (.domPgGood (.slot n)) s) fun u =>
          u.flag (F.SLT_STAT.pg n) = true ∧ EnablesKept s u ∧ OnlyPower s u ∧
          ∀ r, s.clauseLive t = some r → r.wait = some .slotPg →
            (u.target t).run = some { r with wait := none } ∧ Returned s u r 0))) ∧
    (∀ d : Fin 48, s.domOn d = true → s.doms[d].pgSeen = true → s.domPg d = true → Answers (exec (.domPgLost d) s) fun u =>
      u.domPg d = false ∧ bitOf (u.fld (F.SEQ_DOM_FAULT.fault (d / 32))) (d % 32) = true ∧ OnlyPower s u ∧
      (s.fld (F.SEQ_DOM_CFG.fault_action d) = 0 → EnablesKept s u) ∧
      (∀ t : Fin 9, s.domOwner d = t →
        (s.fld (F.SEQ_DOM_CFG.fault_action d) = 1 → u.domOn d = false ∧ u.bindState t = s.bindState t) ∧
        (2 ≤ s.fld (F.SEQ_DOM_CFG.fault_action d) → u.bindState t = 3 ∧ (u.target t).run = none ∧
          (if s.flag (F.SEQ_BIND.down_valid t) then (u.target t).due = .downFault ∧ EnablesKept s u else u.domOn d = false)) ∧
        (s.fld (F.SEQ_DOM_CFG.fault_action d) = 3 → t.val < 8 → bitOf (u.fld F.RST_ABORT.failed) t = true))) ∧
    (∀ (t : Fin 9) (k : Fin 13) (n : Fin 32), s.clauseCore t = k → 3 ≤ k.val → s.coreUp k = true → s.clauseFree k = true →
      s.dueFirst t = true → (s.target t).run = none →
      let a := clauseBank n (s.clauseSlot n).bank
      let starts (up : Bool) : Prop := (s.clauseSlot n).loaded = true → Answers (exec (.clauseStart t) s) fun u =>
        (∃ r, (u.target t).run = some r ∧ r.core = k ∧ r.slot = n.val ∧ r.bank = (s.clauseSlot n).bank ∧ r.up = up ∧
          r.toFault = decide ((s.target t).due = .downFault) ∧ r.onFail = false ∧ r.wait = none) ∧
        (u.target t).due = .none ∧ u.fld (F.SEQ_CLAUSE_STAT.clause t) = n ∧
        u.bindState t = (if up then 1 else s.bindState t) ∧
        (u.core k).p = true ∧ (u.core k).pc = pcOf (a + 64 + s.hdr a 12 2) ∧
        (∀ g : Fin 32, g ≠ 0 → (u.core k).gpr[g] = if g = 2 then BitVec.ofNat 64 (a + 0x4000) else 0#64) ∧
        (u.core k).pbudget = s.clauseBudget a ∧ (u.core k).regions[0] = ⟨a / 4096, a / 4096 + 2, 11⟩ ∧
        (u.core k).regions[1] = ⟨a / 4096 + 3, a / 4096 + 3, 7⟩ ∧ EnablesKept s u ∧ s.fuses = u.fuses
      ((s.target t).due = .up → s.fld (F.SEQ_BIND.up t) = n → starts true) ∧
      ((s.target t).due = .down ∨ (s.target t).due = .downFault → s.fld (F.SEQ_BIND.down t) = n →
        (s.flag (F.SEQ_BIND.down_valid t) = true → starts false) ∧
        (s.flag (F.SEQ_BIND.down_valid t) = false → (s.target t).lift = false → Answers (exec (.clauseStart t) s) fun u =>
          u.bindState t = (if (s.target t).due = .down then 0 else 3) ∧ (u.target t).run = none ∧ OnlyPower s u)))

/-- Shares, floors and cap groups, and the forming, leaving and committing of groups, as the manager orders (R99, R100, R102, R103, R108, R308, R309, R310, R324, R353). -/
def Obligations.CapsAndGroupsFollowTheManager : Prop :=
  ∀ (s : State) (m : Fin 16),
    let replies (c : Instr) (cls cmd status : Nat) : Prop := Answers (exec c s) fun t => RepliesOnly s t m cls cmd status
    let active (t : State) (g gen : Nat) : Prop :=
      t.fld (F.AGR_GRP_GEN.generation g) = gen ∧ t.fld (F.AGR_GRP_STAT.state g) = 1 ∧ (t.grp g).isSome = true ∧
      t.lagMap g = 0 ∧ t.lostMap g = 0 ∧ t.flag F.CAP_STATUS.staged = s.flag F.CAP_STATUS.staged ∧
      t.fld F.CAP_EPOCH_STAGED.epoch = s.fld F.CAP_EPOCH_STAGED.epoch ∧ t.tns = s.tns ∧ t.targets = s.targets ∧
      (∀ l : Fin 32, s.flag (F.AGR_LINE_CFG.net l) = true → s.fld (F.AGR_LINE_CFG.group l) = g → s.lines[l].dead = false →
        s.members l ≠ 0 → t.reg (R.AGR_LINE_STAT l) = 0#32 ∧ t.reg (R.AGR_LINE_ROUND l) = 0#32 ∧ t.lines[l].round = 0) ∧
      (∀ h, h ≠ g → t.grp h = s.grp h)
    let free (t : State) (g : Nat) : Prop := t.grp g = none ∧ t.fld (F.AGR_GRP_STAT.state g) = 0 ∧
      t.fld (F.AGR_GRP_GEN.generation g) = 0 ∧ (∀ h, h ≠ g → t.grp h = s.grp h) ∧ t.targets = s.targets
    (∀ g w epoch : Nat, Served s m 3 1 1 →
      let e := epoch % 2 ^ 32
      (s.stageStatus g w e = 0 → Answers (exec (.capStage m g w epoch) s) fun t =>
        t.fld F.CAP_STAGED_W.watts = w ∧ t.fld F.CAP_EPOCH_STAGED.epoch = e ∧ Answered s t m 3 1 0 ∧
        ((∀ x, s.grp g = some x → s.grpRole g = 0 ∧ x.held = none) → t.flag F.CAP_STATUS.staged = true ∧
          t.fld F.CAP_EPOCH_APPLIED.epoch = s.fld F.CAP_EPOCH_APPLIED.epoch ∧ t.targets = s.targets ∧
          t.flag (F.TNS_EPOCH_DL_HI.arm g) = true ∧
          t.tns.deadlines.lookup g = some ((s.tns.dtime + s.fld F.CAP_CTL.deadline_us * 1000) % 2 ^ 63))) ∧
      (s.stageStatus g w e = 3 → Answers (exec (.capStage m g w epoch) s) fun t =>
        Replied s t m 3 1 3 ∧ RegsKept [F.MBX_PENDING.pending.off] s t ∧ t.targets = s.targets) ∧
      (s.capGroup g = false → replies (.capStage m g w epoch) 3 1 4) ∧
      (s.capGroup g = true → w = 0 ∨ 65534 < w → replies (.capStage m g w epoch) 3 1 5)) ∧
    (∀ slot ctx watts : Nat, Served s m 3 2 1 →
      (slot ≤ 7 → ctx ≤ 15 → watts ≤ 65535 → Answers (exec (.floorSet m slot ctx watts) s) fun t =>
        t.fld (F.CAP_FLOOR.watts slot ctx) = watts ∧ Replied s t m 3 2 0 ∧
        FldsKept [F.CAP_FLOOR.watts slot ctx, F.MBX_PENDING.pending] s t ∧
        t = { s with mem := t.mem, csr := t.csr, seq := t.seq, eth := t.eth }) ∧
      (7 < slot ∨ 15 < ctx ∨ 65535 < watts → replies (.floorSet m slot ctx watts) 3 2 5)) ∧
    (∀ src, Served s m 3 3 src → replies (.capQuery m) 3 3 0) ∧
    (∀ g flags us : Nat, Served s m 3 4 1 →
      (g ≤ 255 → flags ≤ 1 → 100 ≤ us → us ≤ 5000 → Answers (exec (.capCfg m g flags us) s) fun t =>
        t.fld F.CAP_CTL.group = g ∧ t.fld F.CAP_CTL.group_valid = flags ∧ t.fld F.CAP_CTL.deadline_us = us ∧
        Replied s t m 3 4 0 ∧ t.targets = s.targets ∧
        t.flag F.CAP_STATUS.staged = (s.flag F.CAP_STATUS.staged && !(s.flag F.CAP_CTL.group_valid && flags == 0))) ∧
      (255 < g ∨ 1 < flags ∨ us < 100 ∨ 5000 < us → replies (.capCfg m g flags us) 3 4 5)) ∧
    (∀ (g mode epoch total : Nat) (given : List Nat), Served s m 3 5 1 →
      let e := epoch % 2 ^ 32
      let n := min 64 (s.fld (F.AGR_GRP_CFG.children g))
      let l := if mode = 0 then s.shareOut (Config.freeWord s.free) n total else given
      let root : Prop := (s.grp g).isSome = true ∧ s.fld (F.AGR_GRP_STAT.state g) = 1 ∧ s.grpRole g ≠ 0 ∧ s.capGroup g = true
      let newer : Prop := max (s.fld F.CAP_EPOCH_STAGED.epoch) (s.fld F.CAP_EPOCH_APPLIED.epoch) < e
      let fits : Prop := mode ≤ 1 ∧ l.length = n + 1 ∧ l.foldl (· + ·) 0 = total ∧
        ∀ p ∈ l.zipIdx, (p.2 = 0 ∨ Config.childKids g (p.2 - 1) = 0) → 0 < p.1 ∧ p.1 ≤ 65534
      let refuses (status : Nat) : Prop := Answers (exec (.groupCap m g mode epoch total given) s) fun t =>
        Replied s t m 3 5 status ∧ t = { s with mem := t.mem, csr := t.csr, seq := t.seq, eth := t.eth, free := t.free } ∧
        RegsKept [F.MBX_PENDING.pending.off] s t
      (root → newer → fits → Answers (exec (.groupCap m g mode epoch total given) s) fun t =>
        t.fld F.CAP_STAGED_W.watts = (l[0]?).getD 0 ∧ t.fld F.CAP_EPOCH_STAGED.epoch = e ∧ Answered s t m 3 5 0 ∧
        (∀ x, s.grp g = some x → ∀ p ∈ (l.drop 1).zipIdx, ∀ (q : Peer) (port : Nat), x.kids[p.2]? = some q →
          s.peerPort q = some port → ∃ f : EthFrame, (f ∈ t.eth.out ∨ f ∈ t.eth.held) ∧ f.port = port ∧
            ∃ cmd body, f.body = .request p.2 3 cmd body)) ∧
      (¬root → refuses 4) ∧ (root → ¬newer → refuses 3) ∧ (root → newer → ¬fits → refuses 5)) ∧
    (∀ (g : Fin 256) (x : Grp), s.powered = true → s.grp g = some x →
      (s.grpRole g = 2 → x.committed < x.ordered → x.limit ≤ s.tns.dtime → Answers (exec (.commitLimit g) s) fun t =>
        ∃ y, t.grp g = some y ∧ y.committed = x.ordered ∧ y.named = s.boundaryFrom g (s.tns.dtime + 20000) ∧
          y.notStaged = x.kidMap - (x.kidMap &&& x.kidStaged) ∧ y.ordered = x.ordered) ∧
      (s.grpRole g ≠ 2 ∨ x.ordered ≤ x.committed ∨ s.tns.dtime < x.limit → exec (.commitLimit g) s = .next s)) ∧
    (∀ (k : Fin 13) (g : Fin 256) (v : BitVec 32), Alive s k →
      (v ≠ 0#32 → Answers (exec (.groupCommit k g v) s) fun t => active t g v.toNat) ∧
      (v = 0#32 → (s.grp g).isSome = true → Answers (exec (.groupCommit k g v) s) fun t => free t g)) ∧
    (∀ (g role member gen period phase children : Nat) (peers : List Peer), Served s m 7 1 1 →
      let c := Instr.groupJoin m g role member gen period phase children peers
      let allowed : Prop := s.rolePermitted role = true ∧ gen % 2 ^ 32 ≠ 0
      let inRange : Prop := g ≤ 255 ∧ 100 ≤ period ∧ period ≤ 10000 ∧ phase < period ∧
        (if role = 0 then children = 0 else 0 < children ∧ children ≤ 64)
      let newer : Prop := s.fld (F.AGR_GRP_GEN.generation g) < gen % 2 ^ 32
      (allowed → inRange → newer → Answers (exec c s) fun t => active t g (gen % 2 ^ 32) ∧ t.grpRole g = role ∧
        t.fld (F.AGR_GRP_CFG.children g) = children ∧ t.fld (F.AGR_GRP_CFG.member g) = member % 65536 ∧
        t.periodNs g = period * 1000 ∧ t.phaseNs g = phase * 1000 ∧ Answered s t m 7 1 0) ∧
      (¬allowed → replies c 7 1 6) ∧ (allowed → ¬inRange → replies c 7 1 5) ∧
      (allowed → inRange → ¬newer → replies c 7 1 3)) ∧
    (∀ g gen : Nat, Served s m 7 2 1 →
      (g ≤ 255 → (s.grp g).isSome = true → gen = s.fld (F.AGR_GRP_GEN.generation g) →
        Answers (exec (.groupLeave m g gen) s) fun t => free t g ∧ Answered s t m 7 2 0) ∧
      (g ≤ 255 → s.grp g = none ∨ gen ≠ s.fld (F.AGR_GRP_GEN.generation g) → replies (.groupLeave m g gen) 7 2 3)) ∧
    (∀ g : Nat, Served s m 7 3 1 → g ≤ 255 → replies (.groupQuery m g) 7 3 0)

/-- What a frame of a group does: dropped, a beacon, a child's ROUND, STAGED, COMMIT, ARRIVE and RELEASE (R312, R313, R315, R316, R317, R318, R99, R101). -/
def Obligations.AgreementFramesAreTakenAsStated : Prop :=
  ∀ (s : State) (port : Fin 8) (f : AgrFrame), s.powered = true → s.flag F.AGR_CTL.net_en = true → s.portOpen port = true →
    f.ethertype = s.fld F.AGR_NET_CFG.ethertype →
    let g : Nat := f.group
    let w := AgrFrameWord f
    let fits : Prop := f.version / 16 = 1 ∧ f.domain = s.fld F.AGR_NET_CFG.domain ∧
      f.generation = s.fld (F.AGR_GRP_GEN.generation g)
    let dropped (c : Instr) : Prop := Answers (exec c s) fun t =>
      t.fld F.AGR_RX_DROP.count = countedUp s F.AGR_RX_DROP.count 1 ∧ RegsKept [F.AGR_RX_DROP.count.off] s t ∧
      t = { s with csr := t.csr }
    let sentTo (t : State) (p : Peer) (typ flags : Nat) (body : List Nat) : Prop :=
      p.valid = true → ∀ l, s.peerPort p = some l →
        ∃ x ∈ t.agrOut, x.port = l ∧ x.dest = p.mac ∧ x.src = s.fuses.macs.toList.getD l 0 ∧
          x.vid = s.fld F.AGR_NET_VLAN.vid ∧ x.ethertype = s.fld F.AGR_NET_CFG.ethertype ∧
          x.domain = s.fld F.AGR_NET_CFG.domain ∧ x.group = g ∧ x.typ = typ ∧ x.flags = flags + s.frameFlags ∧ x.body = body
    let sentDown (x : Grp) (t : State) (typ flags : Nat) (body : List Nat) : Prop :=
      if x.mcast.valid then sentTo t x.mcast typ flags body else ∀ p ∈ x.kids, sentTo t p typ flags body
    let quiet (t : State) : Prop := t.mem = s.mem ∧ t.targets = s.targets ∧ t.objs = s.objs ∧ t.tns = s.tns ∧ t.eth = s.eth ∧
      ∀ h, h ≠ g → t.grp h = s.grp h
    let refused : Prop := s.grp g = none ∨ ¬fits ∨ ∀ x, s.grp g = some x → x.sender port f.src = none
    (refused ∨ f.typ ≠ 1 → dropped (.round port f)) ∧ (refused ∨ f.typ ≠ 2 → dropped (.staged port f)) ∧
    (refused ∨ f.typ ≠ 3 → dropped (.agrCommit port f)) ∧ (refused ∨ f.typ ≠ 4 → dropped (.arrive port f)) ∧
    (refused ∨ f.typ ≠ 5 → dropped (.release port f)) ∧
    ∀ x : Grp, s.grp g = some x → fits →
      (x.sender port f.src = some none →
        (f.typ = 1 → Answers (exec (.round port f) s) fun t => quiet t ∧
          t.grp g = some { x with beaconHeard := true, beaconMissed := 0, beaconApplied := w 1 % 2 ^ 32,
                                  beaconCommitted := w 1 / 2 ^ 32 % 2 ^ 32 } ∧
          (s.fld (F.AGR_GRP_STAT.state g) = 2 → t.fld (F.AGR_GRP_STAT.state g) = 1 ∧ t.flag F.AGR_STATUS.grp_event = true) ∧
          (s.fld (F.AGR_GRP_STAT.state g) ≠ 2 → t.csr = s.csr) ∧
          (s.grpRole g = 1 → sentDown x t 1 (f.flags % 2) [w 0, w 1, 0, 0, 0]) ∧
          (s.grpRole g ≠ 1 → t.agrOut = s.agrOut)) ∧
        (f.typ = 2 → exec (.staged port f) s = .next s) ∧ dropped (.arrive port f) ∧
        (f.typ = 3 → let e := w 0 % 2 ^ 32
         (s.capGroup g = true → e < s.fld F.CAP_EPOCH_STAGED.epoch → exec (.agrCommit port f) s = .next s) ∧
         (s.capGroup g = false ∨ s.fld F.CAP_EPOCH_STAGED.epoch ≤ e → Answers (exec (.agrCommit port f) s) fun t =>
           (∃ y, t.grp g = some y ∧ y.committed = e ∧ y.named = w 1 ∧
             y.notStaged = x.kidMap - (x.kidMap &&& x.kidStaged) ∧ y.stagedOpen = (x.stagedOpen && decide (e < x.ordered)) ∧
             (s.capGroup g = true → s.fld F.CAP_EPOCH_APPLIED.epoch < e → s.stagedFor g e = false ∨ x.upTo < w 1 →
               y.held = some (e, w 1))) ∧
           (s.grpRole g = 1 → sentDown x t 3 (f.flags / 4 % 2 * 4) [e, w 1, x.kidMap - (x.kidMap &&& x.kidStaged), 0, 0]) ∧
           (s.stagedFor g e = true → s.fld F.CAP_EPOCH_APPLIED.epoch < e → w 1 ≤ x.upTo →
             t.fld F.CAP_EPOCH_APPLIED.epoch = e ∧ t.flag F.CAP_STATUS.staged = false ∧
             t.flag F.CAP_STATUS.lagging = true ∧ (t.target 8).cap 1 = some (s.fld F.CAP_STAGED_W.watts)) ∧
           (s.stagedFor g e = false ∨ x.upTo < w 1 → t.csr = s.csr ∧ t.targets = s.targets))) ∧
        (s.netLine g f = none → dropped (.release port f)) ∧
        (∀ l, f.typ = 5 → s.netLine g f = some l →
          let r := s.lines[l].round
          (w 1 ≠ r → dropped (.release port f)) ∧
          (w 1 = r → s.grpRole g ≠ 2 → Answers (exec (.release port f) s) fun t => quiet t ∧
            (s.grpRole g = 1 → sentDown x t 5 (f.flags / 2 % 4 * 2) [l, r, 0, 0, 0]) ∧
            (bitOf f.flags 1 = true → t.flag (F.AGR_LINE_STAT.poisoned l) = true ∧ t.lines[l].round = r ∧
              t.lines[l].poisonSent = true) ∧
            (bitOf f.flags 1 = false → s.flag (F.AGR_LINE_STAT.poisoned l) = true →
              t.flag (F.AGR_LINE_STAT.poisoned l) = true ∧ t.lines[l].round = r ∧ t.lines[l].poisonUp = false) ∧
            (bitOf f.flags 1 = false → s.flag (F.AGR_LINE_STAT.poisoned l) = false → t.lines[l].round = r + 1 ∧
              t.flag (F.AGR_LINE_STAT.sense l) = !s.flag (F.AGR_LINE_STAT.sense l) ∧
              t.arrived l = s.fld (F.AGR_LINE_STAT.parked l) ∧ t.fld (F.AGR_LINE_STAT.parked l) = 0)))) ∧
      ∀ c : Nat, x.sender port f.src = some (some c) →
        (f.typ = 1 → Answers (exec (.round port f) s) fun t => quiet t ∧
          (w 0 = x.lastBoundary → t.lagMap g = putBit (s.lagMap g) c (bitOf f.flags 4) ∧
            t.grp g = some { x with heard := setBit x.heard c, missed := x.missed.set c 0,
                                    emerg := putBit x.emerg c (bitOf f.flags 5), below := x.below.set c (w 2, w 3, w 4),
                                    kidApplied := x.kidApplied.set c (w 1 % 2 ^ 32) }) ∧
          (x.lastBoundary < w 0 → t.lagMap g = s.lagMap g ∧
            t.grp g = some { x with ahead := x.ahead.filter (fun p => p.1 != c) ++ [(c, f.flags, f.body)] }) ∧
          (w 0 < x.lastBoundary → t.lagMap g = s.lagMap g ∧ t.grp g = some x) ∧
          t.lostMap g = clrBit (s.lostMap g) c ∧
          (bitOf (s.lostMap g) c = true → t.flag F.AGR_STATUS.grp_event = true) ∧ t.agrOut = s.agrOut) ∧
        (f.typ = 2 → let e := w 0 % 2 ^ 32
         let old := if x.ordered < e then 0 else x.kidStaged
         let m := putBit old c (stagedWhole g c f)
         Answers (exec (.staged port f) s) fun t => ∃ y, t.grp g = some y ∧ y.ordered = max x.ordered e ∧
           (e < x.ordered → y = x) ∧ (x.ordered ≤ e → y.kidStaged = m) ∧
           (x.ordered < e → y.limit =
             s.tns.dtime + s.fld F.CAP_CTL.deadline_us * 1000 - s.periodNs g - 20000) ∧
           (s.grpRole g = 2 → x.ordered ≤ e → x.committed < e → m ≠ old → x.kidMap &&& m = x.kidMap →
             s.capGroup g = false ∨ s.stagedFor g e = true →
             y.committed = e ∧ y.named = s.boundaryFrom g (s.tns.dtime + 20000) ∧ y.notStaged = 0) ∧
           (s.grpRole g ≠ 2 → y.committed = x.committed) ∧
           (s.grpRole g = 1 → x.ordered < e → m ≠ old → x.stagedAt ≠ 0 ∧ s.tns.tick < x.stagedAt + 5 → y.stagedDue = true) ∧
           (s.grpRole g = 1 → x.ordered < e → m ≠ old → x.stagedAt = 0 ∨ x.stagedAt + 5 ≤ s.tns.tick → sentTo t x.parent 2 (64 * b2n (s.stagedFor g e))
             [e + (if s.stagedFor g e then s.fld F.CAP_STAGED_W.watts else 0) * 2 ^ 32, m, 0, 0, 0])) ∧
        (f.typ = 3 → exec (.agrCommit port f) s = .next s) ∧ dropped (.release port f) ∧
        (s.netLine g f = none → dropped (.arrive port f)) ∧
        ∀ l p, f.typ = 4 → s.netLine g f = some l → x.kids[c]? = some p →
          let r := s.lines[l].round
          let seen := setBit s.lines[l].kids c
          let all : Prop := s.allArrived l = true ∧
            ∀ (i : Nat) (q : Peer), x.kids[i]? = some q → q.valid = true → bitOf seen i = true
          let poisons : Prop := bitOf f.flags 1 = true ∧ s.flag (F.AGR_LINE_STAT.poisoned l) = false
          (w 1 < r → ¬poisons → Answers (exec (.arrive port f) s) fun t => sentTo t p 5 4 [l, w 1, 0, 0, 0] ∧ t = { s with agrOut := t.agrOut }) ∧
          (r < w 1 → dropped (.arrive port f)) ∧
          (w 1 = r → s.flag (F.AGR_LINE_STAT.poisoned l) = true → Answers (exec (.arrive port f) s) fun t =>
            (s.lines[l].poisonSent = true → sentTo t p 5 6 [l, r, 0, 0, 0]) ∧ t = { s with agrOut := t.agrOut }) ∧
          (w 1 ≤ r → poisons →
            Answers (exec (.arrive port f) s) fun t => t.flag (F.AGR_LINE_STAT.poisoned l) = true ∧ t.lines[l].round = r) ∧
          (w 1 = r → s.flag (F.AGR_LINE_STAT.poisoned l) = false → bitOf f.flags 1 = false →
            Answers (exec (.arrive port f) s) fun t => quiet t ∧
              (¬(s.grpRole g = 2 ∧ all) → t.lines[l].round = r ∧ t.lines[l].kids = seen ∧
                t.flag (F.AGR_LINE_STAT.sense l) = s.flag (F.AGR_LINE_STAT.sense l) ∧
                t.arrived l = s.arrived l) ∧
              (s.grpRole g = 1 → all → s.lines[l].sentArrive = false →
                sentTo t x.parent 4 (2 * b2n s.lines[l].poisonUp + 64) [l, r, seen, 0, 0]) ∧
              (s.grpRole g = 2 → all → t.lines[l].round = r + 1 ∧ t.lines[l].kids = 0 ∧
                t.flag (F.AGR_LINE_STAT.sense l) = !s.flag (F.AGR_LINE_STAT.sense l) ∧
                t.arrived l = s.fld (F.AGR_LINE_STAT.parked l) ∧ sentDown x t 5 0 [l, r, 0, 0, 0]))

/-- The timed duties of groups: relay ROUND, examination, retransmissions, a lost child and an orphan (R311, R312, R313, R314, R316, R317, R325). -/
def Obligations.GroupDutiesFallDueAsStated : Prop :=
  ∀ (s : State) (g : Fin 256) (x : Grp), s.powered = true → s.grp g = some x →
    let sentTo (t : State) (g : Nat) (p : Peer) (typ flags : Nat) (body : List Nat) : Prop :=
      s.flag F.AGR_CTL.net_en = true → p.valid = true → ∀ l, s.peerPort p = some l →
        ∃ y ∈ t.agrOut, y.port = l ∧ y.dest = p.mac ∧ y.src = s.fuses.macs.toList.getD l 0 ∧
          y.vid = s.fld F.AGR_NET_VLAN.vid ∧ y.ethertype = s.fld F.AGR_NET_CFG.ethertype ∧
          y.domain = s.fld F.AGR_NET_CFG.domain ∧ y.group = g ∧ y.typ = typ ∧ y.flags = flags + s.frameFlags ∧ y.body = body
    let resent (t : State) : Prop := x.committed ≠ 0 → x.named ≤ x.lastBoundary → ∀ (i : Fin 64) (p : Peer) (a : Nat),
      x.kids[i.val]? = some p → x.kidApplied[i.val]? = some a → bitOf x.heard i = true → a < x.committed →
        sentTo t g p 3 4 [x.committed, x.named, x.notStaged, 0, 0]
    let onlyFrames (t : State) : Prop :=
      t = { s with csr := t.csr, grps := t.grps, agrOut := t.agrOut, evr := t.evr } ∧ FldsKept [F.AGR_RETRY_CNT.count] s t
    let duty (c : Instr) (due : Prop) (effect : State → Prop) : Prop :=
      (due → Answers (exec c s) effect) ∧ (¬due → exec c s = .next s)
    let barriersPoisoned (t : State) : Prop := ∀ l : Fin 32, s.flag (F.AGR_LINE_CFG.net l) = true →
      s.fld (F.AGR_LINE_CFG.group l) = g → t.flag (F.AGR_LINE_STAT.poisoned l) = true
    let staged := s.stagedFor g x.ordered
    duty (.relayRound g) (s.grpRole g = 1 ∧ x.examDue = true ∧
        x.lastBoundary + s.fld F.AGR_NET_TIME.relay_us * 1000 ≤ s.tns.dtime) (fun t =>
      onlyFrames t ∧ t.grp g = some { x with examDue := false, selfLagging := false, selfEmerg := false } ∧ resent t ∧
      sentTo t g x.parent 1 (b2n x.stepped + 16 * b2n x.selfLagging + 32 * b2n (x.selfEmerg || s.emergency) +
          64 * b2n (s.capGroup g && s.flag F.CAP_STATUS.staged))
        [x.lastBoundary, twoWords (s.epochs g).1 (s.epochs g).2, s.lagMap g, s.lostMap g, x.emerg]) ∧
    duty (.roundExamine g) (s.grpRole g = 2 ∧ x.examDue = true ∧
        x.lastBoundary + s.fld F.AGR_NET_TIME.collect_us * 1000 ≤ s.tns.dtime) (fun t =>
      onlyFrames t ∧ t.grp g = some { x with examDue := false } ∧ resent t) ∧
    duty (.stagedRetry g) (x.stagedOpen = true ∧ x.stagedTries < 8 ∧
        x.stagedAt + s.fld F.AGR_NET_TIME.retry_us ≤ s.tns.tick) (fun t =>
      onlyFrames t ∧ t.fld F.AGR_RETRY_CNT.count = countedUp s F.AGR_RETRY_CNT.count 1 ∧
      t.grp g = some { x with stagedTries := x.stagedTries + 1, stagedAt := s.tns.tick, stagedDue := false } ∧
      sentTo t g x.parent 2 (4 + 64 * b2n staged)
        [x.ordered + (if staged then s.fld F.CAP_STAGED_W.watts else 0) * 2 ^ 32, x.kidStaged, 0, 0, 0]) ∧
    (∀ l : Fin 32, s.fld (F.AGR_LINE_CFG.group l) = g →
      let y := s.lines[l]
      duty (.arriveRetry l) (s.flag (F.AGR_LINE_CFG.net l) = true ∧ s.grpRole g ≠ 2 ∧
          (y.poisonUp = true ∨ (y.sentArrive = true ∧ s.flag (F.AGR_LINE_STAT.poisoned l) = false)) ∧
          y.sentAt + s.fld F.AGR_NET_TIME.retry_us ≤ s.tns.tick) (fun t =>
        t.fld F.AGR_RETRY_CNT.count = countedUp s F.AGR_RETRY_CNT.count 1 ∧ FldsKept [F.AGR_RETRY_CNT.count] s t ∧
        t.lines = s.lines.set l { y with sentAt := s.tns.tick } ∧ t = { s with csr := t.csr, lines := t.lines, agrOut := t.agrOut } ∧
        sentTo t g x.parent 4 (4 + 2 * b2n y.poisonUp + 64 * b2n y.sentArrive) [l, y.round, y.kids, 0, 0])) ∧
    (∀ c : Fin 64, duty (.childLost g c) ((∃ p, x.kids[c.val]? = some p ∧ p.valid = true) ∧ bitOf (s.lostMap g) c = false ∧
        ∃ n, x.missed[c.val]? = some n ∧ s.fld F.AGR_NET_TIME.lost_rounds ≤ n) (fun t =>
      bitOf (t.lostMap g) c = true ∧ (∀ i : Fin 64, i ≠ c → bitOf (t.lostMap g) i = bitOf (s.lostMap g) i) ∧
      t.fld (F.AGR_GRP_STAT.lost g) = popBits (t.lostMap g) 64 ∧ t.flag F.AGR_STATUS.grp_event = true ∧
      barriersPoisoned t ∧ t.grps = s.grps ∧ t.targets = s.targets ∧ t.tns = s.tns)) ∧
    duty (.orphaned g) (s.grpRole g ≠ 2 ∧ s.fld (F.AGR_GRP_STAT.state g) = 1 ∧
        s.fld F.AGR_NET_TIME.lost_rounds ≤ x.beaconMissed) (fun t =>
      t.fld (F.AGR_GRP_STAT.state g) = 2 ∧ t.flag F.AGR_STATUS.grp_event = true ∧ barriersPoisoned t ∧
      t.grps = s.grps ∧ t.targets = s.targets ∧ t.tns = s.tns)

/-- Object commands, line configuration and failure, and the debugger's views and dumps (R296, R297, R299, R302, R307, R317, R321, R322, R323, R324). -/
def Obligations.ObjectsLinesAndDumpsFollowTheirRules : Prop :=
  (∀ (s : State) (k : Fin 13), Alive s k →
    let i := s.fld (F.AGR_OBJ_IDX.idx k)
    let q := s.objAsked k
    let others (t : State) : Prop := ∀ j, j ≠ i → t.objs.lookup j = s.objs.lookup j
    let done (c : Instr) (effect : State → Prop) : Prop := Answers (exec c s) fun t =>
      t.fld (F.AGR_OBJ_RES.result k) = 1 ∧ t.fld (F.AGR_OBJ_RES.reason k) = 0 ∧ others t ∧
      t = { s with csr := t.csr, objs := t.objs, evr := t.evr } ∧ effect t
    let refused (c : Instr) (reason : Nat) : Prop := Answers (exec c s) fun t =>
      t.fld (F.AGR_OBJ_RES.result k) = 2 ∧ t.fld (F.AGR_OBJ_RES.reason k) = reason ∧ RegsKept [R.AGR_OBJ_RES k] s t ∧
      t = { s with csr := t.csr }
    (s.objs.lookup i = none →
      refused (.read k) 5 ∧ refused (.unregister k) 5 ∧ refused (.claim k) 5 ∧ refused (.setOwner k) 5 ∧
      (let legal : Prop := 0 < q.len ∧ q.len ≤ 65536 ∧ q.base + q.len ≤ sharedSize / 8
       let meets : Prop := ∃ p ∈ s.objs, p.2.base < q.base + q.len ∧ q.base < p.2.base + p.2.len
       (¬legal → refused (.register k) 2) ∧ (legal → meets → refused (.register k) 1) ∧
       (legal → ¬meets → done (.register k) fun t => t.objs.lookup i = some q ∧ RegsKept [R.AGR_OBJ_RES k] s t))) ∧
    (∀ o, s.objs.lookup i = some o →
      let mine : Prop := k = 0 ∨ o.owner = k.val ∨ (0x10 ≤ o.owner ∧ o.owner < 0x18 ∧ s.slotCore (o.owner - 0x10) = k.val)
      (o.base < 2 ^ 22 → o.len < 2 ^ 17 → o.owner < 256 → o.heirs < 2 ^ 13 → o.kind < 16 → done (.read k) fun t =>
        t.fld (F.AGR_OBJ_BASE.word k) = o.base ∧ t.fld (F.AGR_OBJ_LEN.words k) = o.len ∧
        t.fld (F.AGR_OBJ_OWN.owner k) = o.owner ∧ t.fld (F.AGR_OBJ_OWN.heirs k) = o.heirs ∧
        t.fld (F.AGR_OBJ_OWN.kind k) = o.kind ∧ t.objs = s.objs) ∧
      refused (.register k) 5 ∧
      (¬mine → refused (.unregister k) 3 ∧ refused (.setOwner k) 3) ∧
      (mine → o.poisoned = true ∨ s.waitersOnObj o ≠ 0 → refused (.unregister k) 6) ∧
      (mine → o.poisoned = false → s.waitersOnObj o = 0 → done (.unregister k) fun t => t.objs.lookup i = none) ∧
      (mine → o.poisoned = true → refused (.setOwner k) 6) ∧
      (mine → o.poisoned = false → done (.setOwner k) fun t =>
        t.objs.lookup i = some { o with owner := q.owner, heirs := q.heirs, kind := q.kind }) ∧
      (o.poisoned = false → refused (.claim k) 4) ∧
      (o.poisoned = true → ¬mine → bitOf o.heirs k = false → refused (.claim k) 3) ∧
      (o.poisoned = true → mine ∨ bitOf o.heirs k = true → done (.claim k) fun t =>
        let owner := if 0x10 ≤ o.owner ∧ o.owner < 0x18 then o.owner else k.val
        t.objs.lookup i = some { o with owner := owner, claimer := some k.val }))) ∧
  (∀ (s : State) (k : Fin 13) (l : Fin 32) (v : BitVec 32), Alive s k →
    let poisoned := s.flag (F.AGR_LINE_STAT.poisoned l)
    let idle : Prop := s.arrived l = 0 ∧ s.fld (F.AGR_LINE_STAT.parked l) = 0
    let may : Prop := (k = 0 ∨ s.fld (F.AGR_LINE_CFG.owner l) = k.val) ∧
      (if poisoned then s.flag (F.AGR_LINE_CFG.net l) = false else idle)
    (s.lines[l].dead = true → exec (.lineCfgWrite k l v) s = .next s) ∧
    (s.lines[l].dead = false → ¬may → Answers (exec (.lineCfgWrite k l v) s) fun t =>
      t.flag F.AGR_STATUS.misuse = true ∧ t.fld F.AGR_MISUSE_CNT.count = countedUp s F.AGR_MISUSE_CNT.count 1 ∧
      t.fld (F.AGR_LINE_MIS.count l) = countedUp s (F.AGR_LINE_MIS.count l) 1 ∧
      FldsKept [F.AGR_STATUS.misuse, F.AGR_MISUSE_CNT.count, F.AGR_LINE_MIS.count l] s t ∧
      t = { s with csr := t.csr, evr := t.evr, dumpNext := t.dumpNext }) ∧
    (s.lines[l].dead = false → may → Answers (exec (.lineCfgWrite k l v) s) fun t =>
      t.members l = v.toNat % 2 ^ 13 ∧ t.flag (F.AGR_LINE_CFG.net l) = bitOf v.toNat 23 ∧
      t.fld (F.AGR_LINE_CFG.group l) = v.toNat / 2 ^ 24 ∧
      t.fld (F.AGR_LINE_CFG.owner l) =
        (if v.toNat / 2 ^ 13 % 16 ≤ 12 then v.toNat / 2 ^ 13 % 16 else s.fld (F.AGR_LINE_CFG.owner l)) ∧
      (v.toNat % 2 ^ 13 ≠ 0 → t.reg (R.AGR_LINE_STAT l) = 0#32 ∧ t.reg (R.AGR_LINE_ROUND l) = 0#32 ∧
        t.lines[l].round = 0 ∧ t.lines[l].kids = 0 ∧ t.lines[l].poisonUp = false) ∧
      (∀ j : Fin 32, j ≠ l → t.lines[j] = s.lines[j] ∧ t.reg (R.AGR_LINE_STAT j) = s.reg (R.AGR_LINE_STAT j)) ∧
      t.mem = s.mem ∧ t.objs = s.objs ∧ t.grps = s.grps)) ∧
  (∀ (s : State) (l : Fin 32), s.powered = true →
    let n := s.fld F.AGR_LINE_MAP.spares_left
    (s.lines[l].dead = true → exec (.lineFail l) s = .next s) ∧
    (s.lines[l].dead = false → Answers (exec (.lineFail l) s) fun t =>
      t.flag (F.AGR_LINE_STAT.poisoned l) = true ∧ t.repair.length = s.repair.length + 1 ∧ FlashKept [repairSpan] s t ∧
      (n = 0 → t.lines[l].dead = true ∧ t.fld F.AGR_LINE_MAP.spares_left = 0) ∧
      (n ≠ 0 → t.lines[l].dead = false ∧ t.fld F.AGR_LINE_MAP.spares_left = n - 1) ∧
      (n = 2 → t.fld F.AGR_LINE_MAP.spare0_for = l ∧ t.fld F.AGR_LINE_MAP.spare1_for = s.fld F.AGR_LINE_MAP.spare1_for) ∧
      (n = 1 → t.fld F.AGR_LINE_MAP.spare1_for = l ∧
        (s.fld F.AGR_LINE_MAP.spare0_for ≠ l.val → t.fld F.AGR_LINE_MAP.spare0_for = s.fld F.AGR_LINE_MAP.spare0_for)) ∧
      ∀ j : Fin 32, j ≠ l → t.lines[j] = s.lines[j])) ∧
  (∀ (s : State) (m : Fin 16) (kind index : Nat), Served s m 7 4 1 →
    (∀ e, s.dbgEntry kind index = some e → Answers (exec (.objQuery m kind index) s) fun t =>
      RepliesOnly s t m 7 4 0 ∧ ∀ i < 32, e[i]? = some (t.byte (respArea m + 32 + i))) ∧
    (s.dbgEntry kind index = none → Answers (exec (.objQuery m kind index) s) fun t => RepliesOnly s t m 7 4 5)) ∧
  (∀ (s : State) (k : Fin 13) (v : BitVec 32), Alive s k →
    (bitOf v.toNat 0 = true → s.flag F.AGR_DUMP_CTL.freeze = false →
      exec (.dumpRequest k v) s = .next { s with dumpNext := s.dumpNext ++ [s.dump 4 0xFF] }) ∧
    (bitOf v.toNat 0 = false ∨ s.flag F.AGR_DUMP_CTL.freeze = true → exec (.dumpRequest k v) s = .next s)) ∧
  (∀ (s : State) (trigger : Fin 6) (core : Nat), s.powered = true →
    (∀ r l, s.dumpNext = r :: l → r.trigger = trigger.val → r.core = core →
      (s.flag F.AGR_DUMP_CTL.freeze = true → exec (.dumpWrite trigger core) s = .next { s with dumpNext := l }) ∧
      (s.flag F.AGR_DUMP_CTL.freeze = false → Answers (exec (.dumpWrite trigger core) s) fun t =>
        t = { s with dumpNext := l, dumpWin := r.bytes, evr := t.evr })) ∧
    ((∀ r l, s.dumpNext = r :: l → r.trigger ≠ trigger.val ∨ r.core ≠ core) → exec (.dumpWrite trigger core) s = .next s)) ∧
  ∀ (s : State) (m : Fin 16) (off len flags : Nat), Served s m 7 5 1 →
    let legal : Prop := off % 4 = 0 ∧ 4 ≤ len ∧ len ≤ 4096 ∧ off + len ≤ 0x8000
    let frozen := s.flag F.AGR_DUMP_CTL.freeze
    let c := Instr.dumpRead m off len flags
    (¬legal → Answers (exec c s) fun t => RepliesOnly s t m 7 5 5) ∧
    (legal → bitOf flags 2 = true → frozen = true → Answers (exec c s) fun t => RepliesOnly s t m 7 5 7) ∧
    (legal → bitOf flags 2 = false ∨ frozen = false → Answers (exec c s) fun t => Replied s t m 7 5 0 ∧
      t.dumpWin = (if bitOf flags 2 then (s.dump 4 0xFF).bytes else s.dumpWin) ∧
      t.flag F.AGR_DUMP_CTL.freeze = (if bitOf flags 1 then false else if bitOf flags 0 then true else frozen) ∧
      (∀ i < len, t.byte (respArea m + 32 + i) = (t.dumpWin[off + i]?).getD 0#8) ∧
      FldsKept [F.AGR_DUMP_CTL.freeze, F.MBX_PENDING.pending] s t)

/-- Ports down and up, MACsec association, PTP messages, CNP and rate recovery, disconnection (R326, R328, R330, R331, R333, R345, R359). -/
def Obligations.PortsFailOverAndQueuePairsPaceThemselves : Prop :=
  ∀ s : State, s.powered = true → (s.eth.qps.map Qp.num).Nodup →
    let now := s.tns.tick
    let fallen (l : Fin 8) (t : State) : Prop :=
      t.flag (F.ETH_PORT_STAT.link l) = false ∧ t.flag (F.ETH_PORT_STAT.fec_lock l) = false ∧
      t.eth.ports[l].fifo = Vector.replicate 8 0 ∧
      t.eth.qps = s.eth.qps.map (fun q => if q.port = l.val ∧ q.error = false then
        (if s.canMigrate q then { q with port := q.alt.getD q.port, alt := none } else { q with error := true, mailbox := none })
        else q) ∧
      (∀ q ∈ s.eth.qps, ∀ m : Fin 16, q.port = l.val → q.error = false → s.canMigrate q = false → q.mailbox = some m →
        t.flag (F.MBX_STAT.bound m) = false ∧ t.fld (F.MBX_STAT.qp m) = 0) ∧
      (t.flag (F.ETH_PORT_STAT.failover l) = true ↔ s.flag (F.ETH_PORT_STAT.failover l) = true ∨
        ∃ q ∈ s.eth.qps, q.port = l.val ∧ q.error = false ∧ s.canMigrate q = true) ∧
      (∀ j : Fin 8, j ≠ l → t.eth.ports[j] = s.eth.ports[j] ∧ t.reg (R.ETH_PORT_STAT j) = s.reg (R.ETH_PORT_STAT j)) ∧
      t = { s with csr := t.csr, eth := t.eth, evr := t.evr, cores := t.cores }
    let duty (c : Instr) (due : Prop) (effect : State → Prop) : Prop :=
      (due → Answers (exec c s) effect) ∧ (¬due → exec c s = .next s)
    (∀ l : Fin 8,
      let macsec := s.fld (F.ETH_PORT_STAT.macsec l)
      let rekeyed (peer : Nat) (t : State) : Prop := t.eth.ports = s.eth.ports.set l
        { s.eth.ports[l] with sakAt := now, sakGen := s.eth.ports[l].sakGen + 1, mkaPeer := peer }
      duty (.portDown l) (s.portUp l = true) (fallen l) ∧
      duty (.portUp l) (s.portMay l = true ∧ s.portUp l = false) (fun t =>
        t.flag (F.ETH_PORT_STAT.link l) = true ∧ t.flag (F.ETH_PORT_STAT.fec_lock l) = true ∧
        t.fld (F.ETH_PORT_STAT.macsec l) = b2n (s.flag (F.ETH_PORT_CFG.macsec_req l)) ∧
        FldsKept [F.ETH_PORT_STAT.link l, F.ETH_PORT_STAT.fec_lock l, F.ETH_PORT_STAT.macsec l] s t ∧
        t = { s with csr := t.csr, evr := t.evr, cores := t.cores }) ∧
      (∀ peer : Nat, duty (.mkaSecured l peer) (s.portUp l = true ∧ s.flag (F.ETH_PORT_CFG.macsec_req l) = true ∧ s.fuses.keyKill = false ∧
          macsec ≠ 2) (fun t =>
        t.fld (F.ETH_PORT_STAT.macsec l) = 2 ∧ rekeyed peer t ∧ FldsKept [F.ETH_PORT_STAT.macsec l] s t ∧
        t = { s with csr := t.csr, eth := { s.eth with ports := t.eth.ports }, evr := t.evr, cores := t.cores })) ∧
      duty (.sakRekey l) (macsec = 2) (fun t => rekeyed s.eth.ports[l].mkaPeer t ∧
        t = { s with eth := { s.eth with ports := t.eth.ports }, cores := t.cores }) ∧
      (∀ reason : Nat, duty (.mkaLost l reason) (macsec = 2) (fun t => t.fld (F.ETH_PORT_STAT.macsec l) = 3 ∧
        (s.portUp l = true → fallen l t) ∧ (s.portUp l = false → FldsKept [F.ETH_PORT_STAT.macsec l] s t ∧ t.eth = s.eth))) ∧
      ∀ (sent isEvent : Bool) (newState : Fin 4) (servo : Option (BitVec 32)),
        let lost := s.flag F.TNS_STATUS.xtal_lost
        let stamped : Eth := if sent && isEvent && !lost
          then { s.eth with ports := s.eth.ports.set l { s.eth.ports[l] with stamp := some (s.portStamp l) } } else s.eth
        duty (.ptpMessage l sent isEvent newState servo) (s.portOpen l = true ∧ s.coreUp 2 = true ∧ s.ptpOn l = true) (fun t =>
          t.fld (F.ETH_PORT_STAT.ptp l) = newState ∧
          t.flag F.TNS_STATUS.ptp_valid = (s.flag F.TNS_STATUS.ptp_valid || (isEvent && !lost)) ∧
          t.eth = (if !sent || (isEvent && lost && newState == 2) then stamped
            else State.ethAfter { s with eth := stamped } l (if !isEvent && lost then .announce l 248
              else .ptp l (if isEvent && !lost then some (s.portStamp l) else none))) ∧
          (∀ v, servo = some v → s.coreUp 1 = true → lost = false →
            (BitVec.ofNat 32 (t.fld F.TNS_ADJ.rate)).toInt = max (-500000) (min 500000 v.toInt)) ∧
          (servo = none ∨ s.coreUp 1 = false ∨ lost = true →
            FldsKept [F.ETH_PORT_STAT.ptp l, F.TNS_STATUS.ptp_valid] s t) ∧
          t = { s with csr := t.csr, eth := t.eth, cores := t.cores })) ∧
    (∀ n : Nat,
      (Answers (exec (.cnp n) s) fun t => t = { s with eth := { s.eth with qps := t.eth.qps } } ∧
        t.eth.qps = s.eth.qps.map fun q => if q.num = n ∧ q.error = false then
          (if (match q.halvedAt with | some a => decide (a + 50 ≤ now) | none => true) then
            { q with rate := q.rate / 2, halvedAt := some now, cnpAt := some now } else { q with cnpAt := some now }) else q) ∧
      (Answers (exec (.rateRecovery n) s) fun t => t = { s with eth := { s.eth with qps := t.eth.qps } } ∧
        t.eth.qps.map (fun q => (q.num, q.error, q.halvedAt)) = s.eth.qps.map (fun q => (q.num, q.error, q.halvedAt)) ∧
        ∀ q ∈ s.eth.qps,
          (q.num = n → q.error = false → ∀ a, q.cnpAt = some a → a + 100 ≤ now → q.rate < 65536 →
            { q with rate := min 65536 (q.rate + 4096), cnpAt := some now } ∈ t.eth.qps) ∧
          (q.num ≠ n ∨ q.cnpAt = none ∨ 65536 ≤ q.rate → q ∈ t.eth.qps)) ∧
      (s.qpOf n = none → exec (.qpDisconnect n) s = .next s) ∧
      (∀ q, s.qpOf n = some q → Answers (exec (.qpDisconnect n) s) fun t => t.qpOf n = none ∧
        t.eth.qps = s.eth.qps.map (fun x => if x.num = n then { x with error := true, mailbox := none } else x) ∧
        (∀ m : Fin 16, q.mailbox = some m → t.flag (F.MBX_STAT.bound m) = false ∧ t.flag (F.MBX_STAT.push m) = false ∧
          t.fld (F.MBX_STAT.qp m) = 0) ∧
        (q.mailbox = none → t.csr = s.csr) ∧ t.mem = s.mem))

/-- Connections, RDMA operations on the windows of a QP, submissions and the serving of mailboxes (R31, R332, R334, R337, R339, R340, R342, R343, R344, R345). -/
def Obligations.PeersReachOnlyTheirWindows : Prop :=
  ∀ s : State, s.powered = true →
    (∀ q : CmReq, s.portOpen q.port = true → s.portPowered q.port = true → s.coreUp 0 = true →
      let src := s.cmSource q
      let refused : Prop := exec (.cmReq q) s = .next { s with eth := s.ethAfter q.port (.cmRefused q.qp) }
      (src ≠ 1 → src ≠ 2 → refused) ∧ (4096 ≤ q.qp ∨ (s.qpOf q.qp).isSome = true → refused) ∧
      (∀ m, q.mailbox = some m → s.mbxSource m = 0 ∨ s.flag (F.MBX_STAT.bound m) = true ∨ s.flag F.MBX_CTL.en = false →
        refused) ∧
      (∀ n : Fin 8, q.stream = some n →
        s.eth.streams[n].mode = 0 ∨ (∃ x ∈ s.eth.qps, x.stream = some n.val ∧ x.error = false) → refused) ∧
      (src = 1 → s.mgmtPort q.port = false ∨ (∃ a, q.alt = some a ∧ s.mgmtPort a = false) → refused) ∧
      (src = 1 ∨ src = 2 → q.qp < 4096 → s.qpOf q.qp = none →
        (∀ m, q.mailbox = some m → s.flag F.MBX_CTL.en = true ∧ s.flag (F.MBX_STAT.bound m) = false) →
        (∀ n : Fin 8, q.stream = some n →
          s.eth.streams[n].mode ≠ 0 ∧ ∀ x ∈ s.eth.qps, x.stream = some n.val → x.error = true) →
        (src = 1 → s.mgmtPort q.port = true ∧ ∀ a, q.alt = some a → s.mgmtPort a = true) →
        Answers (exec (.cmReq q) s) fun t =>
          (∃ x, t.qpOf q.qp = some x ∧ x.source = src ∧ x.port = q.port ∧ x.alt = q.alt.map Fin.val ∧
            x.mailbox = q.mailbox.map Fin.val ∧ x.stream = q.stream.map Fin.val ∧ x.push = q.push ∧ x.rate = 65536 ∧
            x.rkeys.map (fun p => (p.1, p.2.1)) = s.cmWindows q ∧
            (s.eth.rkeysUsed.length < 2 ^ 31 →
              (∀ p ∈ x.rkeys, p.2.2 ∉ s.eth.rkeysUsed) ∧ (x.rkeys.map fun p => p.2.2).Nodup) ∧
            let f := s.frame q.port (.cmRep q.qp (x.rkeys.map fun p => p.2.2))
            t.eth.out.getLast? = some f ∨ (f.waits (s.pausedAt q.port) = true ∧ t.eth.held.getLast? = some f)) ∧
          (∀ m, q.mailbox = some m → t.flag (F.MBX_STAT.bound m) = true ∧ t.flag (F.MBX_STAT.push m) = q.push ∧
            t.fld (F.MBX_STAT.qp m) = q.qp ∧ bitOf (t.fld F.MBX_PENDING.pending) m = false ∧
            BytesKept (respArea m) 0x2000 s t) ∧
          (q.mailbox = none → t.csr = s.csr ∧ t.mem = s.mem) ∧ ∀ n, n ≠ q.qp → t.qpOf n = s.qpOf n)) ∧
    (∀ (n : Nat) (q : Qp), s.qpOf n = some q → s.portOpen q.port = true → s.portPowered q.port = true →
      let marked (ce : Bool) (u : State) : Prop :=
        u = { s with eth := u.eth } ∧
        ((ce = false ∨ ∃ a, q.cnpSentAt = some a ∧ s.tns.tick < a + 50) → u = s) ∧
        (ce = true → (∀ a, q.cnpSentAt = some a → a + 50 ≤ s.tns.tick) →
          u.eth = State.ethAfter { s with eth := { s.eth with qps := u.eth.qps } } q.port (.cnp q.num) ∧
          u.qpOf n = some { q with cnpSentAt := some s.tns.tick } ∧ ∀ j, j ≠ n → u.qpOf j = s.qpOf j)
      let turnedAway (c : Instr) : Prop := Answers (exec c s) fun t =>
        t.mem = s.mem ∧ t.tags = s.tags ∧ s.frame q.port (.nak q.num) ∈ t.eth.out ++ t.eth.held ∧ t.qpOf n = none ∧
        t.fld F.ETH_RKEY_ERR.count = countedUp s F.ETH_RKEY_ERR.count 1 ∧ t.objs = s.objs
      let written (a : Nat) (data : List Byte) (t : State) : Prop := ∀ i < data.length, data[i]? = some (t.byte (a + i))
      (∀ (rkey a : Nat) (data : List (BitVec 8)) (ce : Bool),
        ((∃ i, q.window rkey a data.length = some (0, i)) → Answers (exec (.rdmaWrite n rkey a data ce) s) fun t =>
          written a data t ∧ BytesKept a data.length s t ∧ ∃ u, marked ce u ∧ t = { u with mem := t.mem }) ∧
        ((∀ i, q.window rkey a data.length ≠ some (0, i)) → turnedAway (.rdmaWrite n rkey a data ce) ∧
          ∀ imm, turnedAway (.writeWithImmediate n rkey a data imm ce)) ∧
        ∀ (m : Fin 16) (imm : BitVec 32), q.window rkey a data.length = some (0, m.val) →
          Answers (exec (.writeWithImmediate n rkey a data imm ce) s) fun t =>
            written a data t ∧ (∃ u, marked ce u ∧ t.eth = u.eth) ∧ t.fld (F.MBX_CNT.count m) = countedUp s (F.MBX_CNT.count m) 1 ∧
            bitOf (t.fld F.MBX_PENDING.pending) m = true ∧
            (bitOf (s.fld F.MBX_PENDING.pending) m = true → bitOf (t.fld F.MBX_OVERRUN.overrun) m = true ∧
              BytesKept a data.length s t) ∧
            (bitOf (s.fld F.MBX_PENDING.pending) m = false → s.waitersOn (wordNo (reqWord m)) = [] →
              t.nat (reqWord m) 8 = imm.toNat ∧ t.fld F.MBX_OVERRUN.overrun = s.fld F.MBX_OVERRUN.overrun ∧
              (s.isPoisoned (wordNo (reqWord m)) = false → t.tagFull (wordNo (reqWord m)) = true))) ∧
      (∀ (rkey a len : Nat) (ce : Bool),
        (∀ k i, q.window rkey a len = some (k, i) → k ≠ 0 → ∃ u, marked ce u ∧ exec (.rdmaRead n rkey a len ce) s =
          .next { u with eth := u.ethAfter q.port (.readData n (u.viewBytes a len)) }) ∧
        (q.window rkey a len = none ∨ (∃ i, q.window rkey a len = some (0, i)) → turnedAway (.rdmaRead n rkey a len ce)))) ∧
    (∀ (n rkey a : Nat) (data : List (BitVec 8)) (ce : Bool), s.qpOf n = none →
      exec (.rdmaWrite n rkey a data ce) s = .next s ∧ exec (.rdmaRead n rkey a data.length ce) s = .next s ∧
      ∀ imm, exec (.writeWithImmediate n rkey a data imm ce) s = .next s) ∧
    (∀ o : OwnOrder, (s.role = 0 ∨ s.coreUp 2 = false ∨ s.coreUp 0 = false → exec (.mailboxServe (some o)) s = .next s) ∧
      ∀ slot ctx watts, o = .floor slot ctx watts → s.role ≠ 0 → s.coreUp 2 = true → s.coreUp 0 = true →
        (floorOk slot ctx watts = false → exec (.mailboxServe (some o)) s = .next s) ∧
        (floorOk slot ctx watts = true → Answers (exec (.mailboxServe (some o)) s) fun t =>
          t.fld (F.CAP_FLOOR.watts slot ctx) = watts ∧ FldsKept [F.CAP_FLOOR.watts slot ctx] s t ∧
          t = { s with csr := t.csr })) ∧
    (s.nextMailbox = none → exec (.mailboxServe none) s = .next s) ∧
    (∀ m : Fin 16, s.nextMailbox = some m → s.coreUp 2 = true →
      let hdr (i n : Nat) := s.nat (reqArea m + i) n
      let seqMatches : Prop := s.nat (reqWord m) 4 = hdr 4 4
      bitOf (s.fld F.MBX_PENDING.pending) m = true ∧
      (∀ j : Fin 16, bitOf (s.fld F.MBX_PENDING.pending) j = true →
        (m.val + 31 - s.eth.lastServed % 16) % 16 ≤ (j.val + 31 - s.eth.lastServed % 16) % 16) ∧
      (¬seqMatches → Answers (exec (.mailboxServe none) s) fun t => bitOf (t.fld F.MBX_PENDING.pending) m = false ∧
        t.mem = s.mem ∧ t.eth = { s.eth with lastServed := m } ∧ FldsKept [F.MBX_PENDING.pending] s t) ∧
      (seqMatches → hdr 1 1 ≠ 1 → Answers (exec (.mailboxServe none) s) fun t =>
        Replied s t m (hdr 2 1) (hdr 3 1) 10 ∧ t.byte (respArea m + 32) = 1#8 ∧ t.byte (respArea m + 33) = 0#8) ∧
      (seqMatches → hdr 1 1 = 1 → hdr 2 1 = 4 ∨ hdr 2 1 = 0 ∨ 0xB < hdr 2 1 → Answers (exec (.mailboxServe none) s) fun t =>
        Replied s t m (hdr 2 1) (hdr 3 1) 11) ∧
      (seqMatches → hdr 1 1 = 1 → ∃ u, u = { s with eth := { s.eth with lastServed := m }, tags := u.tags } ∧
        (hdr 2 1 = 1 → hdr 3 1 = 1 → exec (.mailboxServe none) s = exec (.identify m) u) ∧
        (hdr 2 1 = 2 → hdr 3 1 = 1 → 4 ≤ hdr 8 2 → hdr 8 2 ≤ 8160 → exec (.mailboxServe none) s =
          exec (.powerOrder m (hdr 32 1) (hdr 33 1) (hdr 34 2)) u) ∧
        (hdr 2 1 = 3 → hdr 3 1 = 1 → 8 ≤ hdr 8 2 → hdr 8 2 ≤ 8160 → exec (.mailboxServe none) s =
          exec (.capStage m (hdr 32 1) (hdr 34 2) (hdr 36 4)) u) ∧
        (hdr 2 1 = 7 → hdr 3 1 = 2 → 8 ≤ hdr 8 2 → hdr 8 2 ≤ 8160 → exec (.mailboxServe none) s =
          exec (.groupLeave m (hdr 32 1) (hdr 36 4)) u))) ∧
    (∀ (k : Fin 13) (m : Fin 16) (v : BitVec 32), s.coreUp k = true → ∀ c, c = Instr.mbxDone k m v ∨ c = Instr.mbxPush k m v →
      Answers (exec c s) fun t =>
        bitOf (t.fld F.MBX_PENDING.pending) m = (bitOf (s.fld F.MBX_PENDING.pending) m && !bitOf v.toNat 0) ∧
        FldsKept [F.MBX_PENDING.pending] s t ∧ t = { s with csr := t.csr, eth := t.eth } ∧
        (∀ q, bitOf v.toNat 1 = true → s.flag (F.MBX_STAT.push m) = true → s.boundQp m = some q →
          t.eth = s.ethAfter q.port (.write q.num q.pushAddr (some (s.nat (respArea m + 4) 4))
            (s.bytes (respArea m) (32 + s.nat (respArea m + 8) 2)))) ∧
        (bitOf v.toNat 1 = false ∨ s.flag (F.MBX_STAT.push m) = false ∨ s.boundQp m = none → t.eth = s.eth))

/-- The commands of class 0x01 and the delivery of a stream's records (R331, R346, R348, R349, R350, R351, R352). -/
def Obligations.PortAndStreamCommandsActAsStated : Prop :=
  ∀ (s : State) (m : Fin 16),
    let replies (c : Instr) (cmd status : Nat) : Prop := Answers (exec c s) fun t => RepliesOnly s t m 1 cmd status
    (∀ src, Served s m 1 1 src → replies (.identify m) 1 0) ∧
    (∀ src port : Nat, Served s m 1 2 src → replies (.portQuery m port) 2 (if port < 8 then 0 else 5)) ∧
    (∀ src n : Nat, Served s m 1 5 src → replies (.streamQuery m n) 5 (if n < 8 then 0 else 5)) ∧
    (∀ (port : Fin 8) (flags : Nat) (ip4 : BitVec 32) (ip6 : BitVec 128), Served s m 1 3 1 →
      let c := Instr.portCfg m port flags ip4 ip6
      let even : Bool := port.val % 2 = 0
      let phy := flags / 4 % 4
      let legal : Prop := phy ≠ 3 ∧ (even = true ∨ s.flag (F.ETH_PORT_CFG.split (port - 1)) = true)
      let split : Nat := if even then b2n (bitOf flags 1) else s.fld (F.ETH_PORT_CFG.split port)
      let same : Prop := s.fld (F.ETH_PORT_CFG.split port) = split ∧ s.fld (F.ETH_PORT_CFG.phy port) = phy
      (¬legal → replies c 3 5) ∧ (legal → s.flag F.ETH_CTL.lock = true → ¬same → replies c 3 4) ∧
      (legal → s.flag F.ETH_CTL.lock = false ∨ same → Answers (exec c s) fun t => Replied s t m 1 3 0 ∧
        t.flag (F.ETH_PORT_CFG.en port) = bitOf flags 0 ∧ t.fld (F.ETH_PORT_CFG.split port) = split ∧
        t.fld (F.ETH_PORT_CFG.phy port) = phy ∧ t.reg (R.ETH_PORT_IP4 port) = ip4 ∧
        (∀ w : Fin 4, t.reg (R.ETH_PORT_IP6 port w) = BitVec.ofNat 32 (ip6.toNat / 2 ^ (32 * w.val))) ∧
        (¬same ∨ bitOf flags 0 = false → t.flag (F.ETH_PORT_STAT.link port) = false) ∧
        (same → bitOf flags 0 = true → s.portPresent port = true →
          t.flag (F.ETH_PORT_STAT.link port) = s.flag (F.ETH_PORT_STAT.link port)) ∧
        ∀ j : Fin 8, j ≠ port → t.reg (R.ETH_PORT_CFG j) = s.reg (R.ETH_PORT_CFG j))) ∧
    (∀ (port flags : Nat) (ip4 : BitVec 32) (ip6 : BitVec 128), Served s m 1 3 1 → 8 ≤ port →
      replies (.portCfg m port flags ip4 ip6) 3 5) ∧
    (∀ cfg role : BitVec 32, Served s m 1 6 1 →
      let legal : Prop := (cfg.toNat / 16 % 16 ≤ 4 ∨ 9 ≤ cfg.toNat / 16 % 16) ∧ cfg.toNat / 4 % 4 ≤ 2 ∧ role.toNat % 4 ≤ 2
      (¬legal → replies (.ptpCfg m cfg role) 6 5) ∧
      (legal → Answers (exec (.ptpCfg m cfg role) s) fun t => Replied s t m 1 6 0 ∧ t.reg R.ETH_PTP_CFG = cfg ∧
        t.fld F.ETH_PTP_ROLE.role = role.toNat % 4 ∧
        RegsKept [R.ETH_PTP_CFG, R.ETH_PTP_ROLE, F.MBX_PENDING.pending.off] s t ∧
        t = { s with mem := t.mem, csr := t.csr, seq := t.seq, eth := t.eth })) ∧
    (∀ cfg : BitVec 32, Served s m 1 7 1 →
      let rate := cfg.toNat / 2 ^ 16 % 2 ^ 13
      let legal : Prop := 8 ≤ rate ∧ rate ≤ 4096 ∧ cfg.toNat % 16 ≤ 4
      (¬legal → replies (.upCfg m cfg) 7 5) ∧
      (legal → Answers (exec (.upCfg m cfg) s) fun t => Replied s t m 1 7 0 ∧ t.fld F.ETH_UP_CFG.rec_per_ms = rate ∧
        t.fld F.ETH_UP_CFG.fwd_sev = cfg.toNat % 16 ∧ RegsKept [R.ETH_UP_CFG, F.MBX_PENDING.pending.off] s t ∧
        t = { s with mem := t.mem, csr := t.csr, seq := t.seq, eth := t.eth })) ∧
    (∀ (src : Nat) (c : StreamReq), Served s m 1 4 src →
      let run := Instr.streamCfg m c
      (8 ≤ c.stream → replies run 4 5) ∧
      ∀ n : Fin 8, c.stream = n.val →
        let x := s.eth.streams[n]
        let mine : Prop := x.owner = 0 ∨ x.owner = src
        let legal : Prop := c.mode ≤ 2 ∧ (c.mode ≠ 0 → 1 ≤ c.periodMs ∧ c.periodMs ≤ 10000 ∧ c.minSev ≤ 4) ∧
          (c.mode = 2 → 16 ≤ c.ringRec ∧ c.ringRec ≤ 65535)
        let allowed : Prop := c.mode = 0 ∨ typesFor src c.types = true
        (¬mine → replies run 4 4) ∧ (mine → ¬legal → replies run 4 5) ∧ (mine → legal → ¬allowed → replies run 4 4) ∧
        (mine → legal → allowed → Answers (exec run s) fun t =>
          let y := t.eth.streams[n]
          y.generation = (x.generation + 1) % 2 ^ 32 ∧ y.seq = x.seq ∧ y.mode = c.mode ∧
          (c.mode = 0 → y.owner = 0) ∧
          (c.mode ≠ 0 → y.owner = src ∧ y.types = c.types ∧ y.periodMs = c.periodMs ∧ y.minSev = c.minSev ∧ y.rkey = c.rkey ∧
            y.target = c.target ∧ y.ringRec = c.ringRec ∧ y.nextAt = s.tns.tick + c.periodMs * 1000) ∧
          (∀ j : Fin 8, j ≠ n → t.eth.streams[j] = s.eth.streams[j]) ∧ Answered s t m 1 4 0)) ∧
    ∀ (n : Fin 8) (brought : Brought), Alive s 2 →
      let u : State := if s.role = 0 then s else (Act.kidsIn brought.sums).run s
      let c := Instr.streamPeriod n brought
      let x := s.eth.streams[n]
      let recs := u.streamRecs n (Config.freeWord s.free) brought.events
      let due : Prop := x.mode ≠ 0 ∧ x.nextAt ≤ s.tns.tick
      let bounded : Prop := s.role ≠ 0 ∧ x.owner = 1
      (∀ i, u.eth.kidSums.lookup i = (if s.role = 0 then s.eth.kidSums.lookup i
        else (brought.sums.lookup i).orElse fun _ => s.eth.kidSums.lookup i)) ∧
      (¬due → exec c s = .next { u with free := s.free + 1 }) ∧
      (due → x.mode = 2 → s.streamQp n = none → Answers (exec c s) fun t =>
        t.eth.streams[n].mode = 0 ∧ t.eth.streams[n].generation = x.generation ∧ t.eth.streams[n].seq = x.seq ∧
        t = { s with eth := t.eth, evr := t.evr, free := t.free } ∧ t.eth.out = s.eth.out) ∧
      (due → x.mode ≠ 2 ∨ (s.streamQp n).isSome = true → Answers (exec c s) fun t =>
        let y := t.eth.streams[n]
        ∃ sent shed, sent + shed = recs.length ∧ (¬bounded → shed = 0) ∧
          (bounded → sent * 1000 ≤ s.upBudget ∧ t.eth.budget = s.upBudget - 1000 * sent ∧ (shed ≠ 0 → s.upBudget < 1000 * (sent + 1))) ∧
          let last := if sent = 0 then x.newest else (x.seq + sent + 0xFFFFFFFF) % 2 ^ 32
          y.seq = (x.seq + recs.length) % 2 ^ 32 ∧ y.newest = last ∧ y.dropped = x.dropped + shed ∧
          y.nextAt = s.tns.tick + x.periodMs * 1000 ∧ y.evNext = s.evr.nextSeq ∧
          y.gap = (if shed = 0 then none else some (2, shed, (x.seq + sent) % 2 ^ 32)) ∧
          y.mode = x.mode ∧ y.owner = x.owner ∧
          t.fld F.ETH_UP_SHED.count = countedUp s F.ETH_UP_SHED.count shed ∧ FldsKept [F.ETH_UP_SHED.count] s t ∧
          (∀ q, x.mode = 2 → s.streamQp n = some q → t.mem = s.mem ∧
            let written : List EthTx := (recs.take sent).zipIdx.map fun p =>
              .write q.num (x.target + 64 * ((x.seq + p.2) % 2 ^ 32 % max 1 x.ringRec)) none (p.1.bytes (x.seq + p.2) s.stamp)
            let frames := (written ++ [EthTx.write q.num x.target (some last) []]).map (s.frame q.port)
            if bitOf (s.pausedAt q.port) (s.fld F.ETH_CTL.roce_pcp)
            then t.eth.out = s.eth.out ∧ t.eth.held = s.eth.held ++ frames
            else t.eth.out = s.eth.out ++ frames ∧ t.eth.held = s.eth.held) ∧
          (x.mode ≠ 2 → Unwaited s (ringBase n) 0x10000 → t.eth.out = s.eth.out ∧ BytesKept (ringBase n) 0x10000 s t ∧
            t.nat (ringBase n) 4 = last % 2 ^ 32 ∧
            (sent ≤ 1023 → x.seq + sent ≤ 2 ^ 32 → ∀ p ∈ (recs.take sent).zipIdx,
              t.bytes (ringBase n + 64 * (1 + (x.seq + p.2) % 1023)) 64 = p.1.bytes (x.seq + p.2) s.stamp)))

/-- Staging, committing and programming of images and slot flashes, update keys, and the PLDM path (R347, R384, R387, R391, R398, R399, R405, R406, R407, R408, R409). -/
def Obligations.ImagesAreStagedCheckedAndProgrammed : Prop :=
  ∀ s : State,
    let replies (m : Fin 16) (c : Instr) (cmd status : Nat) : Prop := Answers (exec c s) fun t => RepliesOnly s t m 9 cmd status
    let busy (target : Nat) : Prop := s.targetMoves target = true ∨ (s.queued target).isSome = true ∨ s.pldmHas target = true
    let ready : Prop := s.active = true ∧ s.fld F.DDR_STATUS.state = 2
    let refusal (n : Fin 8) (size : Nat) : Nat :=
      if s.efuseOn n = false ∨ s.phase n = 1 then 4
      else if size = 0 ∨ 0x4000000 < size ∨ s.fld (F.BOOT_SLOTFL_CFG.limit n) * 65536 < size then 5 else 0
    let started (t : State) (n : Fin 8) (size : Nat) : Prop :=
      t.fld (F.BOOT_SLOTFL_STAT.state n) = 1 ∧ t.inv.fwIds[n] = 0 ∧ t.flag (F.SLT_STAT.fl_sel n) = true ∧
      t.flag (F.SLT_STAT.rst n) = true ∧ t.pins[n].flashHold = true ∧ t.pins[n].rstLow = s.pins[n].rstLow ∧
      t.boot.slotFlash[n] = some ⟨size, Config.sm3 (s.bytes (stageArea (0x10 + n)) size)⟩
    let committed (t : State) (target : Nat) : Prop :=
      (target = 0 → t.boot.programming = true ∧ FlashKept [metaSpan] s t ∧ ∃ r, r.state = 0xFF ∧ r.attempts = 0xFF ∧
        r.slot ≤ 1 ∧ r.slot ≠ s.boot.running ∧ r.size = imgSize (s.stageRd 0) ∧ r.digest = imgDigest (s.stageRd 0) ∧
        (∀ x ∈ s.boot.records, x.seq < r.seq) ∧
        (s.boot.records.length < 1023 → t.boot.records = r :: s.boot.records ∧ t.boot.metaGen = s.boot.metaGen ∧
          ∀ i < 64, some (Sparse.get flashDefault (metaSector s.boot.metaGen + 64 * t.boot.records.length + i) t.flash) = r.bytes[i]?) ∧
        (1023 ≤ s.boot.records.length → t.boot.metaGen = s.boot.metaGen + 1 ∧
          t.boot.records = r :: s.boot.records.filter (fun x => s.slotRec x.slot == some x) ∧
          ∀ i < 0x10000, Sparse.get flashDefault (metaSector s.boot.metaGen + i) t.flash = 0xFF#8)) ∧
      (target = 1 → t.fld F.BOOT_STATUS.svc = 1 ∧ t.boot.staged = imgId (s.stageRd 1) ∧ t.boot.stagedBank = s.idleBank ∧
        t.boot.service = s.boot.service ∧ t.boot.svcUp = s.boot.svcUp)
    (∀ (m : Fin 16) (target off : Nat) (data : List (BitVec 8)), Served s m 9 1 1 →
      let c := Instr.stageWrite m target off data
      let n := data.length
      let legal : Prop := targetOk target = true ∧ off % 4 = 0 ∧ n % 4 = 0 ∧ 4 ≤ n ∧ n ≤ 4096 ∧ off + n ≤ 0x4000000
      (¬legal → replies m c 1 5) ∧ (legal → busy target → replies m c 1 7) ∧
      (legal → ¬busy target → s.active = false → replies m c 1 7) ∧
      (legal → ¬busy target → ready → Answers (exec c s) fun t => Answered s t m 9 1 0 ∧
        (∀ i < n, data[i]? = some (t.byte (stageArea target + off + i))) ∧
        (∀ x, x < stageArea target + off ∨ stageArea target + off + n ≤ x → x < respArea m ∨ respArea m + 0x2000 ≤ x →
          t.byte x = s.byte x) ∧ RegsKept [F.MBX_PENDING.pending.off] s t ∧
        t = { s with mem := t.mem, csr := t.csr, seq := t.seq, eth := t.eth })) ∧
    (∀ (m : Fin 16) (target size : Nat), Served s m 9 2 1 →
      let c := Instr.stageCommit m target size
      (targetOk target = false → replies m c 2 5) ∧ (targetOk target = true → busy target → replies m c 2 7) ∧
      (∀ n : Fin 8, target = 0x10 + n.val → ¬busy target → ready →
        (refusal n size ≠ 0 → replies m c 2 (refusal n size)) ∧
        (refusal n size = 0 → Answers (exec c s) fun t => started t n size ∧ Replied s t m 9 2 0)) ∧
      (target ≤ 1 → ¬busy target → ready →
        (s.stagedCheck target ≠ 0 → replies m c 2
          (if s.stagedCheck target = 6 ∨ s.stagedCheck target = 10 then 9 else if s.stagedCheck target = 7 then 3 else 6)) ∧
        (s.stagedCheck target = 0 → Answers (exec c s) fun t => committed t target ∧ Answered s t m 9 2 0 ∧
          t.fuses = s.fuses ∧ (target = 1 → t.flash = s.flash)))) ∧
    (∀ (m : Fin 16) (target : Nat), Served s m 9 5 1 →
      replies m (.updateQuery m target) 5 (if targetOk target then 0 else 5)) ∧
    (∀ (m : Fin 16) (slot : Nat) (digest : BitVec 256) (sig : BitVec 512), Served s m 9 7 1 →
      let c := Instr.imageKeyFuse m slot digest sig
      let signed : Prop := s.ownerSigned (leBytes 1 slot ++ leBytes 32 digest.toNat ++ s.uid) sig.toNat = true
      (slot = 0 ∨ 3 < slot → replies m c 7 5) ∧
      ∀ i : Fin 4, slot = i.val → i ≠ 0 →
        (s.fuses.lifecycle ≠ 2 ∨ bitOf s.fuses.keysFused i = true → replies m c 7 4) ∧
        (s.fuses.lifecycle = 2 → bitOf s.fuses.keysFused i = false → ¬signed → replies m c 7 9) ∧
        (s.fuses.lifecycle = 2 → bitOf s.fuses.keysFused i = false → signed → Answers (exec c s) fun t => Replied s t m 9 7 0 ∧
          bitOf t.fuses.keysFused i = true ∧ t.fuses =
            { s.fuses with keysFused := t.fuses.keysFused, keyDigs := s.fuses.keyDigs.set i digest.toNat })) ∧
    (∀ (m : Fin 16) (slot : Nat) (sig : BitVec 512), Served s m 9 8 1 →
      let c := Instr.imageKeyRevoke m slot sig
      let live (i : Nat) : Prop := bitOf s.fuses.keysFused i = true ∧ bitOf s.fuses.keysRevoked i = false
      let last : Prop := slot ≠ 0 ∧ live slot ∧ ∀ i, 1 ≤ i → i ≤ 3 → i ≠ slot → ¬live i
      let signed : Prop := s.ownerSigned (leBytes 1 slot ++ s.uid) sig.toNat = true
      (3 < slot → replies m c 8 5) ∧ (slot ≤ 3 → last → replies m c 8 4) ∧ (slot ≤ 3 → ¬last → ¬signed → replies m c 8 9) ∧
      (slot ≤ 3 → ¬last → signed → Answers (exec c s) fun t => Replied s t m 9 8 0 ∧
        bitOf t.fuses.keysRevoked slot = true ∧ t.fuses = { s.fuses with keysRevoked := t.fuses.keysRevoked })) ∧
    (∀ (m : Fin 16) (msg : List (BitVec 8)), Served s m 0xB 1 1 → Answers (exec (.pldmPassthrough m msg) s) fun t =>
      RepliesOnly s t m 0xB 1 (if leAt msg 1 1 % 64 = 0 ∨ leAt msg 1 1 % 64 = 5 then 0 else 11) ∧
      (leAt msg 1 1 % 64 = 0 ∨ leAt msg 1 1 % 64 = 5 → t.eth.pldmReq = pldmPending s.eth.pldmReq msg ∧
        (s.toTell 1 = false → t.byte (respArea m + 11) = BitVec.ofNat 8 (b2n t.eth.pldmReq.isSome)))) ∧
    (∀ component size : Nat,
      (componentTarget component = none → ∀ step, exec (.updateComponent component size step) s = .next s) ∧
      ∀ target, componentTarget component = some target →
        (s.pldmMay component target = false → ∀ step, exec (.updateComponent component size step) s = .next s) ∧
        (s.pldmMay component target = true →
          (∀ (off : Nat) (data : List (BitVec 8)),
            let legal : Prop := data.length ≤ 4096 ∧ off + data.length ≤ size ∧ size ≤ 0x4000000
            Answers (exec (.updateComponent component size (.write off data)) s) fun t =>
              t = { s with mem := t.mem, eth := { s.eth with pldmStaging := t.eth.pldmStaging, pldmReq := t.eth.pldmReq } } ∧
              (¬legal → t.eth.pldmStaging = none ∧ t.eth.pldmReq = some 0x16 ∧ t.mem = s.mem) ∧
              (legal → t.eth.pldmStaging = some (component, size, 0) ∧ t.eth.pldmReq = some (if off + data.length < size then 0x15 else 0x16) ∧
                (∀ i < data.length, data[i]? = some (t.byte (stageArea target + off + i))) ∧
                BytesKept (stageArea target + off) data.length s t)) ∧
          (s.eth.pldmStaging ≠ some (component, size, 0) → exec (.updateComponent component size .verify) s = .next s) ∧
          (s.eth.pldmStaging = some (component, size, 0) → Answers (exec (.updateComponent component size .verify) s) fun t =>
            (target ≤ 1 → t.eth.pldmStaging = (if s.stagedCheck target = 0 then some (component, size, 1) else none) ∧
              t = { s with eth := t.eth }) ∧
            (∀ n : Fin 8, target = 0x10 + n.val → t.eth.pldmReq = some 0x17 ∧
              (refusal n size = 0 → started t n size ∧ t.eth.pldmStaging = some (component, size, 2)) ∧
              (refusal n size ≠ 0 → t = { s with eth := t.eth } ∧ t.eth.pldmStaging = none))) ∧
          (s.eth.pldmStaging ≠ some (component, size, 1) → exec (.updateComponent component size .apply) s = .next s) ∧
          (s.eth.pldmStaging = some (component, size, 1) → target ≤ 1 →
            Answers (exec (.updateComponent component size .apply) s) fun t =>
              committed t target ∧ t.eth.pldmStaging = none ∧ t.eth.pldmApplied = s.eth.pldmApplied ++ [target]))) ∧
    (∀ ok : Bool, (s.powered = false ∨ s.coreUp 0 = false ∨ s.boot.programming = false → exec (.imageSlotWritten ok) s = .next s) ∧
      ∀ (r : MetaRec) (l : List MetaRec), s.powered = true → s.coreUp 0 = true → s.boot.programming = true →
        s.boot.records = r :: l → r.size ≤ 0x800000 → Answers (exec (.imageSlotWritten ok) s) fun t =>
          t.boot.programming = false ∧
          t.boot.records = (if ok then { r with state := r.state &&& 0x7F } else r) :: l ∧
          (∀ i < r.size, ok = true → Sparse.get flashDefault (slotOffset r.slot + i) t.flash = s.byte (stageArea 0 + i)) ∧
          FlashKept [(slotOffset r.slot, slotOffset r.slot + 0x800000), metaSpan] s t ∧
          t = { s with boot := t.boot, flash := t.flash, free := t.free }) ∧
    (∀ (n : Fin 8) (result : Fin 6), s.powered = true →
      (s.flashing n = false → exec (.slotFlashDone n result) s = .next s) ∧
      (∀ f, s.flashing n = true → s.boot.slotFlash[n] = some f → Answers (exec (.slotFlashDone n result) s) fun t =>
        t.fld (F.BOOT_SLOTFL_STAT.state n) = (if result = 0 then 4 else 5) ∧
        t.fld (F.BOOT_SLOTFL_STAT.reason n) = result ∧ t.inv.fwIds[n] = (if result = 0 then f.digest % 2 ^ 64 else 0) ∧
        t.boot.slotFlash[n] = none ∧ t.pins[n].flashHold = false ∧ t.flag (F.SLT_STAT.rst n) = s.pins[n].rstLow ∧
        (∀ x, s.eth.pldmStaging = some (0x1000 + n.val, x, 2) → t.eth.pldmStaging = none ∧ t.eth.pldmReq = some 0x18) ∧
        (∀ j : Fin 8, j ≠ n → t.boot.slotFlash[j] = s.boot.slotFlash[j] ∧ t.inv.fwIds[j] = s.inv.fwIds[j] ∧ t.pins[j] = s.pins[j])))

/-- Activation, its holds and its drop, the handover, health confirmation and fallback (R397, R398, R399, R400, R401, R402, R403, R404, R408, R409). -/
def Obligations.ActivationsHandoversAndHealthFollowTheRules : Prop :=
  ∀ s : State,
    let replies (m : Fin 16) (c : Instr) (cmd status : Nat) : Prop := Answers (exec c s) fun t => RepliesOnly s t m 9 cmd status
    let at_ (t : State) (v : Nat × Nat) : Prop :=
      (t.core 1).run = .running ∧ (t.core 1).pc = pcOf v.1 ∧ (t.core 2).run = .running ∧ (t.core 2).pc = pcOf v.2 ∧
      (t.core 1).gpr[11] = 0x11400000#64 ∧ (t.core 2).gpr[11] = 0x11400000#64 ∧
      t.flag (F.SYS_CORE_LOCK.lock 1) = true ∧ t.flag (F.SYS_CORE_LOCK.lock 2) = true ∧
      (∀ k : Fin 13, k ≠ 1 → k ≠ 2 → (t.core k).gpr = (s.core k).gpr ∧ (t.core k).pc = (s.core k).pc)
    let bankVec (b : Nat) : Nat × Nat := (s.boot.vectors[b]?).getD (0, 0)
    let fellBack (t : State) : Prop :=
      t.boot.svcUp = s.boot.prevBank.isSome ∧ t.boot.windowEnd = none ∧ t.flag F.BOOT_HEALTH.self_ok = false ∧
      t.fld F.BOOT_STATUS.svc = (if s.boot.prevBank.isSome then 5 else 0) ∧ t.boot.service = s.boot.prev ∧
      t.fld F.BOOT_STATUS.stage = (if s.boot.prevBank.isSome then 3 else 2) ∧
      t.flag F.BOOT_STATUS.transition = !s.boot.queue.isEmpty ∧ t.fuses = s.fuses ∧
      at_ t (match s.boot.prevBank with | some b => bankVec b | none => (s.resVector 1, s.resVector 2))
    let warm (t : State) (cause : Nat) : Prop := t.fld F.RST_CAUSE.cause = cause ∧ t.fld F.BOOT_STATUS.stage = 0 ∧
      t.boot.svcUp = false ∧ t.boot.queue = [] ∧ t.boot.windowEnd = none ∧
      t.fld F.BOOT_STATUS.last_cause = (if cause = 2 then 2 else 1)
    let queuedIn (t : State) (target : Nat) (manager : Bool) : Prop :=
      t.boot.queue = (s.boot.queue.filter fun q => q.target != target + 1) ++ [⟨target + 1, manager, s.tns.tick⟩] ∧
      t.flag F.BOOT_STATUS.transition = true ∧ (target = 1 → t.fld F.BOOT_STATUS.svc = 2) ∧
      t.boot = { s.boot with queue := t.boot.queue }
    let confirmed (t : State) : Prop :=
      t.boot.windowEnd = none ∧ t.flag F.BOOT_HEALTH.self_ok = false ∧ t.flag F.BOOT_STATUS.transition = !s.boot.queue.isEmpty ∧
      (s.boot.windowSvc = true → t.fld F.BOOT_STATUS.svc = 5 ∧
        t.fuses = { s.fuses with svnService := max s.fuses.svnService s.boot.service.svn }) ∧
      (s.boot.windowSvc = false → t.boot.trial = false ∧ t.flag F.BOOT_STATUS.trial = false ∧
        t.fuses = { s.fuses with svnResident := max s.fuses.svnResident s.boot.resident.svn } ∧
        (∀ r, s.slotRec s.boot.running = some r →
          t.slotRec s.boot.running = some { r with state := r.state &&& 0x1F }) ∧
        (∀ r, s.slotRec s.otherSlot = some r → t.slotRec s.otherSlot = some { r with state := r.state &&& 0x0F }))
    (∀ (m : Fin 16) (target flags : Nat), Served s m 9 3 1 →
      let c := Instr.activate m target flags
      let written (n : Nat) : Prop := s.slotState n = 0x7F
      let staged : Prop := if target = 1 then s.fld F.BOOT_STATUS.svc = 1 ∨ s.fld F.BOOT_STATUS.svc = 2
        else if s.boot.running = 2 then written 0 ∨ written 1 else written s.otherSlot
      (1 < target → replies m c 3 5) ∧ (target ≤ 1 → s.targetMoves target = true → replies m c 3 7) ∧
      (target ≤ 1 → s.targetMoves target = false → ¬staged → replies m c 3 6) ∧
      (target ≤ 1 → s.targetMoves target = false → staged → Answers (exec c s) fun t =>
        queuedIn t target (bitOf flags 0) ∧ Replied s t m 9 3 0)) ∧
    (s.powered = false ∨ s.coreUp 2 = false ∨ s.coreUp 0 = false → exec .activateFirmware s = .next s) ∧
    (s.powered = true → s.coreUp 2 = true → s.coreUp 0 = true → Answers (exec .activateFirmware s) fun t =>
      t.eth = { s.eth with pldmApplied := [] } ∧ t.mem = s.mem ∧
      (∀ target ∈ s.eth.pldmApplied, s.activateStatus target = 0 →
        ∃ q ∈ t.boot.queue, q.target = target + 1 ∧ q.manager = false ∧ q.since = s.tns.tick) ∧
      ∀ q ∈ s.boot.queue, (∀ target ∈ s.eth.pldmApplied, q.target ≠ target + 1) → q ∈ t.boot.queue) ∧
    (s.boot.queue = [] ∨ s.coreUp 0 = false ∨ s.coreUp 2 = false ∨ s.holdMask ≠ 0 → exec .activationRecheck s = .next s) ∧
    (∀ (q : Activation) (l : List Activation), s.boot.queue = q :: l → Alive s 0 → Alive s 2 → s.holdMask = 0 →
      (q.target = 2 → Answers (exec .activationRecheck s) fun t =>
        t.fld F.BOOT_STATUS.svc = 4 ∧ t.fld F.BOOT_STATUS.stage = 3 ∧ t.boot.svcUp = true ∧ t.boot.service = s.boot.staged ∧ at_ t (bankVec s.boot.stagedBank) ∧
        t.fld F.BOOT_STATUS.svc_bank = s.boot.stagedBank % 2 ∧ t.boot.windowSvc = true ∧ t.boot.needManager = q.manager ∧
        t.boot.windowEnd = some (s.tns.tick + s.fld F.BOOT_CFG.window_s * 1000000) ∧ t.boot.managerOk = false ∧
        t.boot.prevBank = (if s.boot.svcUp then some (s.fld F.BOOT_STATUS.svc_bank) else none) ∧
        t.boot.queue = (s.boot.queue.filter fun x => x.target != 2) ∧ t.flag F.BOOT_STATUS.transition = true ∧ t.fuses = s.fuses) ∧
      (q.target ≠ 2 → ∀ n r, n = (if s.boot.running = 2 then (if s.slotState 0 = 0x7F then 0 else 1) else s.otherSlot) →
        s.slotRec n = some r → Answers (exec .activationRecheck s) fun t => warm t 5 ∧
          t.slotRec n = some { r with state := r.state &&& 0x3F, flags := if q.manager then 0xFF else 0xFE })) ∧
    (s.powered = false ∨ s.coreUp 2 = false ∨ s.holdMask = 0 → exec .activationDrop s = .next s) ∧
    ((s.boot.queue.map Activation.target).Nodup → Alive s 2 → s.holdMask ≠ 0 → Answers (exec .activationDrop s) fun t =>
      t.boot = { s.boot with queue := s.boot.queue.filter fun q => s.queueLeft q ≠ 0 } ∧
      ((∃ q ∈ s.boot.queue, q.target = 2 ∧ s.queueLeft q = 0) → t.fld F.BOOT_STATUS.svc = 1) ∧
      t = { s with csr := t.csr, boot := t.boot, evr := t.evr }) ∧
    (∀ (k : Fin 13) (v : BitVec 32), Alive s k →
      let confirms : Prop := (k = 1 ∨ k = 2) ∧ bitOf v.toNat 31 = true ∧ s.boot.windowEnd.isSome = true
      (¬confirms → exec (.healthConfirm k v) s = .next s) ∧
      (confirms → s.boot.needManager = true → s.boot.managerOk = false → Answers (exec (.healthConfirm k v) s) fun t =>
        t.flag F.BOOT_HEALTH.self_ok = true ∧ FldsKept [F.BOOT_HEALTH.self_ok] s t ∧ t = { s with csr := t.csr }) ∧
      (confirms → s.boot.needManager = false ∨ s.boot.managerOk = true →
        Answers (exec (.healthConfirm k v) s) fun t => confirmed t)) ∧
    (∀ (m : Fin 16) (target : Nat), Served s m 9 4 1 →
      let running : Prop := s.boot.windowEnd.isSome = true ∧ (s.boot.windowSvc = true ↔ target = 1)
      (1 < target → replies m (.confirm m target) 4 5) ∧ (target ≤ 1 → ¬running → replies m (.confirm m target) 4 6) ∧
      (target ≤ 1 → running → Answers (exec (.confirm m target) s) fun t => Replied s t m 9 4 0 ∧ t.boot.managerOk = true ∧
        (s.flag F.BOOT_HEALTH.self_ok = true → confirmed t) ∧
        (s.flag F.BOOT_HEALTH.self_ok = false → t.boot = { s.boot with managerOk := true } ∧ t.fuses = s.fuses))) ∧
    (∀ (m : Fin 16) (target : Nat), Served s m 9 6 1 →
      let c := Instr.cancel m target
      let none_ : Prop := s.queued target = none
      (1 < target → replies m c 6 5) ∧
      (∀ q, target ≤ 1 → s.queued target = some q → Answers (exec c s) fun t => Replied s t m 9 6 0 ∧
        t.boot = { s.boot with queue := s.boot.queue.filter fun x => x.target != target + 1 } ∧
        (target = 1 → t.fld F.BOOT_STATUS.svc = 1)) ∧
      (target = 1 → none_ → s.fld F.BOOT_STATUS.svc = 4 → Answers (exec c s) fun t => fellBack t ∧ Answered s t m 9 6 0) ∧
      (target = 0 → none_ → s.boot.trial = true → Answers (exec c s) fun t => warm t 2) ∧
      (target ≤ 1 → none_ → (target = 1 → s.fld F.BOOT_STATUS.svc ≠ 4) → (target = 0 → s.boot.trial = false) → replies m c 6 6)) ∧
    (s.boot.windowEnd = none ∨ s.powered = false ∨ s.coreUp 0 = false → exec .healthWindowExpiry s = .next s) ∧
    (∀ w, s.boot.windowEnd = some w → Alive s 0 →
      (s.tns.tick < w → exec .healthWindowExpiry s = .next s) ∧
      (w ≤ s.tns.tick → s.boot.windowSvc = true → Answers (exec .healthWindowExpiry s) fellBack) ∧
      (w ≤ s.tns.tick → s.boot.windowSvc = false → Answers (exec .healthWindowExpiry s) fun t => warm t 2))

/-- Attestation, confidential mode, debug unlock, the lifecycle commands, and the TAP (R356, R358, R359, R368, R370, R371, R376, R378, R379, R380, R460, R461). -/
def Obligations.AttestationDebugAndLifecycleCommandsFollowTheRules : Prop :=
  ∀ s : State,
    let replies (m : Fin 16) (c : Instr) (cmd status : Nat) : Prop := Answers (exec c s) fun t => RepliesOnly s t m 8 cmd status
    let retries (m : Fin 16) (c : Instr) (ms : Nat) : Prop := Answers (exec c s) fun t =>
      RepliesOnly s t m 8 1 7 ∧ t.nat (respArea m + 12) 2 = ms
    let nonceIs (n : Nat) : Prop := ∃ a, s.sec.nonce = some (n, a) ∧ s.tns.tick < a + 60000000
    let noNonce : Prop := ∀ n, ¬nonceIs n
    let used (t : State) : Prop := t.sec = { s.sec with nonce := none }
    (∀ (m : Fin 16) (nonce : BitVec 256) (src : Nat), Served s m 8 1 src →
      let c := Instr.attest m nonce
      let life := s.fuses.lifecycle
      (s.sec.verified = false → retries m c 50) ∧
      (s.sec.verified = true → life = 0 ∨ life = 3 → replies m c 1 11) ∧
      (s.sec.verified = true → life ≠ 0 → life ≠ 3 → s.sec.signing.length < 64 → Answers (exec c s) fun t =>
        t = { s with sec := { s.sec with signing := s.sec.signing ++ [⟨m, nonce.toNat, none, 0⟩] } }) ∧
      (s.sec.verified = true → life ≠ 0 → life ≠ 3 → 64 ≤ s.sec.signing.length → Answers (exec c s) fun t =>
        Replied s t m 8 1 7 ∧ t.fld F.SEC_ATT_BUSY.count = countedUp s F.SEC_ATT_BUSY.count 1 ∧
        RegsKept [F.SEC_ATT_BUSY.count.off, F.MBX_PENDING.pending.off] s t ∧
        t = { s with mem := t.mem, csr := t.csr, seq := t.seq, eth := t.eth, evr := t.evr })) ∧
    (∀ (m : Fin 16) (nonce : BitVec 256), s.powered = true → s.coreUp 2 = true → s.coreUp 0 = false →
      retries m (.attest m nonce) 50) ∧
    (s.powered = false ∨ s.coreUp 0 = false ∨ s.coreUp 2 = false ∨ s.sec.verified = false ∨ s.sec.signing = [] →
      exec .signingServe s = .next s) ∧
    (∀ (q : SignReq) (l : List SignReq), s.powered = true → s.coreUp 0 = true → s.coreUp 2 = true → s.sec.verified = true →
      s.sec.signing = q :: l → Answers (exec .signingServe s) fun t =>
        let m := Fin.ofNat 16 q.mailbox
        t.sec = { s.sec with signing := l, reports := s.sec.reports + 1 } ∧
        t.fld F.SEC_ATT_CNT.count = countedUp s F.SEC_ATT_CNT.count 1 ∧
        (q.session = none → Replied s t m 8 1 0 ∧ t.bytes (respArea m + 32) 640 = s.report q) ∧
        (∀ n, q.session = some n → Replied s t m 8 7 0 ∧ t.bytes (respArea m + 32) 738 = s.sessionHead n ++ s.report q) ∧
        RegsKept [F.SEC_ATT_CNT.count.off, F.MBX_PENDING.pending.off] s t ∧
        t = { s with mem := t.mem, csr := t.csr, seq := t.seq, eth := t.eth, sec := t.sec }) ∧
    (∀ (m : Fin 16) (index off len src : Nat), Served s m 8 2 src →
      let c := Instr.certGet m index off len
      let legal : Prop := index ≤ 1 ∧ 1 ≤ len ∧ len ≤ 4096 ∧ off ≤ Config.certLen index
      (¬legal → replies m c 2 5) ∧
      (legal → Answers (exec c s) fun t => RepliesOnly s t m 8 2 0 ∧
        t.nat (respArea m + 8) 2 = min len (Config.certLen index - off) ∧
        ∀ i < min len (Config.certLen index - off), t.byte (respArea m + 32 + i) = Config.certByte index (off + i))) ∧
    (∀ (m : Fin 16) (on : Nat), Served s m 8 3 1 →
      let c := Instr.confSet m on
      let debug : Prop := s.fld F.SEC_STATUS.debug ≠ 0
      let kept (t : State) : Prop :=
        FldsKept [F.SEC_CTL.conf, F.SEC_STATUS.conf_pending, F.MBX_PENDING.pending] s t ∧
        t = { s with mem := t.mem, csr := t.csr, seq := t.seq, eth := t.eth, evr := t.evr, sec := t.sec }
      (1 < on → replies m c 3 5) ∧ (on = 1 → debug → replies m c 3 4) ∧
      (on = 1 → ¬debug → Answers (exec c s) fun t => Replied s t m 8 3 0 ∧ kept t ∧
        t.conf = true ∧ t.flag F.SEC_STATUS.conf_pending = false ∧
        t.sec = { s.sec with confSince := if s.conf then s.sec.confSince else s.tns.tick }) ∧
      (on = 0 → s.flag F.SEC_CTL.conf_force = true → replies m c 3 4) ∧
      (on = 0 → s.flag F.SEC_CTL.conf_force = false → s.conf = false → replies m c 3 0) ∧
      (on = 0 → s.flag F.SEC_CTL.conf_force = false → s.conf = true → Answers (exec c s) fun t =>
        Replied s t m 8 3 0 ∧ kept t ∧ t.conf = true ∧ t.flag F.SEC_STATUS.conf_pending = true ∧
        (∀ n < 8, bitOf t.sec.confWait n = decide (s.phase n ≠ 0)) ∧ t.sec = { s.sec with confWait := t.sec.confWait })) ∧
    (let due : Prop := s.powered = true ∧ s.coreUp 0 = true ∧ s.flag F.SEC_STATUS.conf_pending = true ∧
        s.flag F.SEC_CTL.conf_force = false ∧ ∀ n < 8, bitOf s.sec.confWait n = false ∨ s.phase n = 0;
      (¬due → exec .confExit s = .next s) ∧
      (due → Answers (exec .confExit s) fun t => t.conf = false ∧ t.flag F.SEC_STATUS.conf_pending = false ∧
        FldsKept [F.SEC_CTL.conf, F.SEC_STATUS.conf_pending] s t ∧ t = { s with csr := t.csr, evr := t.evr })) ∧
    (∀ m : Fin 16, Served s m 8 0xD 1 →
      (s.flag F.SEC_STATUS.trng_fail = true → replies m (.debugChallenge m) 0xD 7) ∧
      (s.flag F.SEC_STATUS.trng_fail = false → Answers (exec (.debugChallenge m) s) fun t => Replied s t m 8 0xD 0 ∧
        ∃ n < 2 ^ 256, t.sec = { s.sec with nonce := some (n, s.tns.tick) } ∧
          t.bytes (respArea m + 32) 32 = leBytes 32 n ∧ RegsKept [F.MBX_PENDING.pending.off] s t ∧
          t = { s with mem := t.mem, csr := t.csr, seq := t.seq, eth := t.eth, free := t.free, sec := t.sec })) ∧
    (∀ (m : Fin 16) (sig : BitVec 512) (scope : BitVec 8), Served s m 8 0xE 1 →
      let c := Instr.debugUnlock m sig scope
      let shut : Prop := s.conf = true ∨ (∃ n < 8, s.phase n = 1) ∨ s.flag F.SEC_CTL.dbg_dis = true ∨
        s.fuses.lifecycle = 0 ∨ s.fuses.lifecycle = 3
      let signed (n : Nat) : Prop :=
        Config.sm2Verify s.debugKey s.uid (leBytes 32 n ++ s.uid ++ leBytes 1 scope.toNat) sig.toNat = true
      let kept (t : State) : Prop := FldsKept [F.SEC_STATUS.debug, F.MBX_PENDING.pending] s t ∧ used t ∧
        t = { s with mem := t.mem, csr := t.csr, seq := t.seq, eth := t.eth, evr := t.evr, sec := t.sec }
      (shut ∨ noNonce → replies m c 0xE 4) ∧
      ∀ n, ¬shut → nonceIs n →
        (7 < scope.toNat → replies m c 0xE 5) ∧
        (scope.toNat ≤ 7 → ¬signed n → Answers (exec c s) fun t => Replied s t m 8 0xE 9 ∧ kept t ∧
          t.fld F.SEC_STATUS.debug = s.fld F.SEC_STATUS.debug) ∧
        (scope.toNat ≤ 7 → signed n → Answers (exec c s) fun t => Replied s t m 8 0xE 0 ∧ kept t ∧
          t.fld F.SEC_STATUS.debug = if scope = 0#8 then 0 else s.fld F.SEC_STATUS.debug ||| scope.toNat)) ∧
    (∀ (m : Fin 16) (root dbg : BitVec 512), Served s m 8 0xF 1 →
      let c := Instr.ownerProvision m root dbg
      (s.fuses.lifecycle ≠ 1 → replies m c 0xF 4) ∧
      (s.fuses.lifecycle = 1 → Answers (exec c s) fun t => Replied s t m 8 0xF 0 ∧
        t.fuses = { s.fuses with lifecycle := 2, ownerDig := Config.sm3 (beBytes 64 root.toNat),
                                 dbgDig := Config.sm3 (beBytes 64 dbg.toNat) } ∧
        RegsKept [F.MBX_PENDING.pending.off] s t ∧
        t = { s with mem := t.mem, csr := t.csr, seq := t.seq, eth := t.eth, evr := t.evr, fuses := t.fuses })) ∧
    (∀ (m : Fin 16) (sig : BitVec 512), Served s m 8 0x10 1 →
      let c := Instr.decommission m sig
      let signed (n : Nat) : Prop := s.ownerSigned (leBytes 32 n ++ s.uid ++ leBytes 1 0xDC) sig.toNat = true
      (s.fuses.lifecycle ≠ 2 ∨ noNonce → replies m c 0x10 4) ∧
      ∀ n, s.fuses.lifecycle = 2 → nonceIs n →
        (¬signed n → Answers (exec c s) fun t => Replied s t m 8 0x10 9 ∧ used t ∧ t.fuses = s.fuses ∧
          RegsKept [F.MBX_PENDING.pending.off] s t) ∧
        (signed n → Answers (exec c s) fun t => Replied s t m 8 0x10 0 ∧ used t ∧
          t.fuses = { s.fuses with lifecycle := 3, keyKill := true } ∧ t.fld F.SEC_STATUS.debug = 7 ∧
          FldsKept [F.SEC_STATUS.debug, F.MBX_PENDING.pending] s t ∧
          t = { s with mem := t.mem, csr := t.csr, seq := t.seq, eth := t.eth, evr := t.evr, fuses := t.fuses, sec := t.sec })) ∧
    ((s.powered = false ∨ (∃ n, nonceIs n) → exec .nonceExpiry s = .next s) ∧
      (s.powered = true → noNonce → Answers (exec .nonceExpiry s) fun t => t = { s with sec := { s.sec with nonce := none } })) ∧
    (∀ test : Nat, (s.powered = false → exec (.trngFail test) s = .next s) ∧
      (s.powered = true → Answers (exec (.trngFail test) s) fun t => t.flag F.SEC_STATUS.trng_fail = true ∧
        FldsKept [F.SEC_STATUS.trng_fail] s t ∧ t = { s with csr := t.csr, evr := t.evr })) ∧
    (s.powered = false → exec .idcode s = .next s ∧ exec .bypass s = .next s ∧
      ∀ b : List (BitVec 8), exec (.extest b) s = .next s ∧ exec (.sample b) s = .next s) ∧
    (s.powered = true →
      let bypassed : State := { s with tap := ⟨1, [0#8], none⟩ }
      exec .idcode s = .next { s with tap := ⟨0, leBytes 4 (0x0856 * 2 ^ 12 + Config.manufacturer % 2048 * 2 + 1), none⟩ } ∧
      exec .bypass s = .next bypassed ∧
      ∀ b : List (BitVec 8),
        (bitOf (s.fld F.SEC_STATUS.debug) 2 = false →
          exec (.extest b) s = .next bypassed ∧ exec (.sample b) s = .next bypassed) ∧
        (bitOf (s.fld F.SEC_STATUS.debug) 2 = true →
          exec (.extest b) s = .next { s with tap := ⟨2, [], if s.gateOn then none else some b⟩ } ∧
          exec (.sample b) s = .next { s with tap := ⟨3, b, none⟩ })) ∧
    (∀ (i : Fin 4) (j : Fin 2),
      let shown : Prop := s.powered = true ∧ s.flag F.TMX_CTL.en = true ∧ s.conf = false ∧ (∀ n < 8, s.phase n < 2) ∧
        (bitOf (s.fld F.SEC_STATUS.debug) 1 = true ∨ s.fuses.lifecycle = 0 ∨ s.fuses.lifecycle = 3)
      let d := s.fld (F.TMX_DSEL.sel i)
      (¬shown → s.testmux i = .low ∧ s.atest j = .vss) ∧
      (shown → (d = 1 → s.testmux i = .usTick) ∧ (d = 2 → s.testmux i = .controlTick) ∧ (d = 3 → s.testmux i = .msTick) ∧
        (∀ n : Fin 8, (d = 0x10 + n → s.testmux i = .paceStart n) ∧ (d = 0x20 + n → s.testmux i = .activityValid n)) ∧
        (d = 0x30 → s.testmux i = .waveDone) ∧ (d = 0x31 → s.testmux i = .keepAlive) ∧
        (∀ k : Fin 13, d = 0x40 + k → s.testmux i = .coreRunning k) ∧
        (d = 0 ∨ (3 < d ∧ d < 0x10) ∨ (0x18 ≤ d ∧ d < 0x20) ∨ (0x28 ≤ d ∧ d < 0x30) ∨ (0x31 < d ∧ d < 0x40) ∨ 0x4D ≤ d →
          s.testmux i = .low) ∧
        s.atest j = testLevel (s.fld (F.TMX_ASEL.sel j))))

/-- Contexts, sessions, enrolled keys, and the scrub of a slot between two contexts (R361, R362, R363, R364, R365, R367, R373, R374, R375, R376, R380). -/
def Obligations.ContextsSessionsAndScrubsFollowTheRules : Prop :=
  ∀ s : State,
    let replies (m : Fin 16) (c : Instr) (cmd status : Nat) : Prop := Answers (exec c s) fun t => RepliesOnly s t m 8 cmd status
    let refused (m : Fin 16) (c : Instr) (cmd status : Nat) : Prop := Answers (exec c s) fun t =>
      Replied s t m 8 cmd status ∧ RegsKept [F.MBX_PENDING.pending.off] s t ∧
      t = { s with mem := t.mem, csr := t.csr, seq := t.seq, eth := t.eth, evr := t.evr }
    let secOnly (t : State) : Prop :=
      t = { s with mem := t.mem, csr := t.csr, seq := t.seq, eth := t.eth, sec := t.sec, free := t.free }
    let gone (t : State) (shut : Session → Prop) : Prop :=
      (∀ x ∈ s.sec.sessions, shut x → x ∉ t.sec.sessions) ∧
      (∀ x ∈ s.sec.sessions, (∀ y ∈ s.sec.sessions, shut y → y.num ≠ x.num) → x ∈ t.sec.sessions)
    let tariff (t : State) (k : Fin 13) (n : Nat) (owner : Option Nat) : Prop :=
      let next := (s.tns.tick + 1) % 2 ^ 32
      let word (band : Nat) := 4096 + (n + 1) * 256 + tariffReg (n + 1) band owner % 64
      let later : List (Nat × Nat × Nat) := match s.its.bandNext with
        | some b => if ahead b.2 next then [(k.val, word b.1, b.2 % 2 ^ 32)] else []
        | none => []
      PortFree s k → 3 ≤ k.val →
        (s.its.linkUp = true → s.its.up = true → t.fld (F.SYS_ITS_ARG.arg k) = next ∧ t.flag (F.SYS_ITS_STAT.busy k) = true ∧
          t.its = { s.its with flying := s.its.flying ++ [(k.val, word (s.bandAt next), next)],
                               queue := s.its.queue ++ later }) ∧
        (s.its.linkUp = false ∨ s.its.up = false → t.fld (F.SYS_ITS_STAT.status k) = 5 ∧ t.its = s.its)
    let itsFields (k : Fin 13) : List Fd :=
      [F.SYS_ITS_ARG.arg k, F.SYS_ITS_STAT.busy k, F.SYS_ITS_STAT.status k, F.SYS_ITS_STAT.refused k]
    (∀ (m : Fin 16) (slot ctx : Nat) (digest : BitVec 256), Served s m 8 4 1 →
      let c := Instr.ctxOpen m slot ctx digest
      let legal : Prop := slot ≤ 7 ∧ ctx ≤ 15
      (¬legal → replies m c 4 5) ∧ (legal → s.ctxOpen slot ctx = true → replies m c 4 3) ∧
      (legal → s.ctxOpen slot ctx = false → Answers (exec c s) fun t => Replied s t m 8 4 0 ∧ secOnly t ∧
        RegsKept [F.MBX_PENDING.pending.off] s t ∧
        t.sec = { s.sec with contexts := ((slot, ctx), digest.toNat) :: s.sec.contexts })) ∧
    (∀ (m : Fin 16) (slot ctx : Nat), Served s m 8 5 1 →
      let c := Instr.ctxClose m slot ctx
      let legal : Prop := slot ≤ 7 ∧ ctx ≤ 15
      let used : Prop := s.owner slot = some ctx ∨
        (s.flag (F.SEC_SLOT.ann_valid slot) = true ∧ s.fld (F.SEC_SLOT.ann_ctx slot) = ctx)
      let its (x : Session) : Prop := x.slot = slot ∧ x.ctx = ctx
      (¬legal → replies m c 5 5) ∧ (legal → s.ctxOpen slot ctx = false → replies m c 5 6) ∧
      (legal → s.ctxOpen slot ctx = true → used → replies m c 5 7) ∧
      (legal → s.ctxOpen slot ctx = true → ¬used → Answers (exec c s) fun t => Replied s t m 8 5 0 ∧ secOnly t ∧
        t.sec.contexts = s.sec.contexts.filter (fun p => p.1 != (slot, ctx)) ∧ gone t its ∧
        t.sec.ctxLogs.lookup (slot, ctx) = none ∧
        (∀ p, p ≠ (slot, ctx) → t.sec.ctxLogs.lookup p = s.sec.ctxLogs.lookup p) ∧
        ((∃ x ∈ s.sec.sessions, its x) → bitOf (t.fld (F.SEC_SLOT.sessions slot)) ctx = false) ∧
        FldsKept [F.SEC_SLOT.sessions slot, F.MBX_PENDING.pending] s t ∧
        t.sec = { s.sec with contexts := t.sec.contexts, sessions := t.sec.sessions, ctxLogs := t.sec.ctxLogs })) ∧
    (∀ (m : Fin 16) (slot ctx src : Nat), Served s m 8 6 src →
      let c := Instr.ctxAnnounce m slot ctx
      let legal : Prop := slot ≤ 7 ∧ (ctx ≤ 15 ∨ ctx = 0xFF)
      let kept (t : State) (l : List Fd) : Prop := FldsKept (F.MBX_PENDING.pending :: l) s t ∧ secOnly t ∧ t.sec = s.sec
      (¬legal → replies m c 6 5) ∧ (legal → ctx ≠ 0xFF → s.ctxOpen slot ctx = false → replies m c 6 6) ∧
      (legal → ctx = 0xFF → Answers (exec c s) fun t => Replied s t m 8 6 0 ∧ t.flag (F.SEC_SLOT.ann_valid slot) = false ∧
        kept t [F.SEC_SLOT.ann_valid slot]) ∧
      (legal → ctx ≠ 0xFF → s.ctxOpen slot ctx = true → Answers (exec c s) fun t => Replied s t m 8 6 0 ∧
        t.flag (F.SEC_SLOT.ann_valid slot) = true ∧ t.fld (F.SEC_SLOT.ann_ctx slot) = ctx ∧
        kept t [F.SEC_SLOT.ann_valid slot, F.SEC_SLOT.ann_ctx slot])) ∧
    (∀ (m : Fin 16) (slot ctx src : Nat) (key eph : BitVec 512) (nonce : BitVec 256), Served s m 8 7 src →
      s.sec.verified = true →
      let c := Instr.sessionOpen m slot ctx key eph nonce
      let legal : Prop := slot ≤ 7 ∧ ctx ≤ 15
      let failed : Prop := s.flag F.SEC_STATUS.trng_fail = true
      let digest := s.sec.contexts.lookup (slot, ctx)
      let n := s.sec.nextSession % 65536
      let silent : Prop := s.fuses.lifecycle = 0 ∨ s.fuses.lifecycle = 3
      (src ≠ 2 → replies m c 7 4) ∧ (src = 2 → silent → replies m c 7 11) ∧ (src = 2 → ¬silent → ¬legal → replies m c 7 5) ∧
      (src = 2 → ¬silent → legal → failed → replies m c 7 7) ∧
      (src = 2 → ¬silent → legal → ¬failed → digest ≠ some (Config.sm3 (beBytes 64 key.toNat)) → refused m c 7 4) ∧
      (src = 2 → ¬silent → legal → ¬failed → digest = some (Config.sm3 (beBytes 64 key.toNat)) → s.sec.signing.length < 64 →
        Answers (exec c s) fun t => ∃ secret : Nat,
          let own := Config.kexPublic secret
          let k := Config.kexKey s.fuses.identity secret key.toNat eph.toNat
          t.sec.sessions.head? = some ⟨n, slot, ctx, false, 0, eph.toNat, own, Config.kexConfirm k eph.toNat own, k, 0⟩ ∧ t.sec.nextSession = (n + 1) % 65536 ∧
          (∀ x ∈ s.sec.sessions, (x.slot = slot ∧ x.ctx = ctx) ∨ x.num = n → x ∉ t.sec.sessions.tail) ∧
          (∀ x ∈ s.sec.sessions, (∀ y ∈ s.sec.sessions, (y.slot = slot ∧ y.ctx = ctx) ∨ y.num = n → y.num ≠ x.num) →
            x ∈ t.sec.sessions.tail) ∧
          t.sec.signing = s.sec.signing ++
            [⟨m, nonce.toNat, some n, Config.sm3 (beBytes 64 eph.toNat ++ beBytes 64 own)⟩] ∧
          t.sec.contexts = s.sec.contexts ∧
          (∀ k, (∀ x ∈ s.sec.sessions, k ≠ R.SEC_SLOT x.slot) → t.reg k = s.reg k) ∧
          t = { s with csr := t.csr, sec := t.sec, free := t.free })) ∧
    (∀ (m : Fin 16) (n src : Nat) (sA : BitVec 256), Served s m 8 8 src →
      let c := Instr.sessionConfirm m n sA
      let good (x : Session) : Prop := Config.kexAccepts x.key x.ephemeral x.own sA.toNat = true
      (src ≠ 2 → replies m c 8 4) ∧ (src = 2 → s.session n = none → replies m c 8 6) ∧
      ∀ x, src = 2 → s.session n = some x →
        (¬good x → refused m c 8 4) ∧
        (good x → Answers (exec c s) fun t => Replied s t m 8 8 0 ∧ t.session n = some { x with active := true } ∧
          (∀ j, j ≠ n → t.session j = s.session j) ∧ t.sec.contexts = s.sec.contexts ∧ secOnly t ∧
          (x.slot < 8 → x.ctx < 16 → bitOf (t.fld (F.SEC_SLOT.sessions x.slot)) x.ctx = true) ∧
          (x.slot < 8 → s.ctxOpen x.slot x.ctx = true →
            ((t.sec.ctxLogs.lookup (x.slot, x.ctx)).getD []).tail =
              ((s.sec.ctxLogs.lookup (x.slot, x.ctx)).getD []).take 255))) ∧
    (∀ (m : Fin 16) (n counter src : Nat) (tag : BitVec 128) (text : List (BitVec 8)), Served s m 8 9 src →
      let c := Instr.sessionReq m n counter tag text
      let live (x : Session) : Prop := s.session n = some x ∧ x.active = true
      let tagged (x : Session) : Prop := Config.gcmTag x.key counter (s.bytes (reqArea m) 32 ++ leBytes 2 n) text = tag.toNat
      (src ≠ 2 → replies m c 9 4) ∧ (src = 2 → (∀ x, ¬live x) → replies m c 9 6) ∧
      ∀ x, src = 2 → live x →
        (counter ≤ x.counter → refused m c 9 4) ∧
        (x.counter < counter → ¬tagged x → Answers (exec c s) fun t => Replied s t m 8 9 6 ∧
          t.session n = some { x with fails := x.fails + 1 } ∧ (∀ j, j ≠ n → t.session j = s.session j) ∧
          RegsKept [F.MBX_PENDING.pending.off] s t ∧ t.sec = { s.sec with sessions := t.sec.sessions } ∧
          t = { s with mem := t.mem, csr := t.csr, seq := t.seq, eth := t.eth, evr := t.evr, sec := t.sec }) ∧
        let req := Config.gcmOpen x.key counter text
        (x.counter < counter → tagged x → innerCommits req = true → Answers (exec c s) fun t => Answered s t m 8 9 0 ∧
          t.session n = some { x with counter := counter } ∧ (∀ j, j ≠ n → t.session j = s.session j) ∧
          (∀ i : Fin 16, leAt req 32 1 ≠ i.val → t.model i = s.model i) ∧
          (∀ i : Fin 16, leAt req 32 1 = i.val → t.model i = s.model i ∨
            ((t.model i).bound = some (x.slot, x.ctx) ∧ (t.model i).state = 2))) ∧
        (x.counter < counter → tagged x → innerCommits req = false → Answers (exec c s) fun t => Replied s t m 8 9 0 ∧
          t.session n = some { x with counter := counter } ∧ (∀ j, j ≠ n → t.session j = s.session j) ∧
          RegsKept [F.MBX_PENDING.pending.off] s t ∧ secOnly t ∧ t.free = s.free ∧
          t.sec = { s.sec with sessions := t.sec.sessions })) ∧
    (∀ (m : Fin 16) (n src : Nat), Served s m 8 0xA src →
      let c := Instr.sessionClose m n
      (src ≠ 2 → replies m c 0xA 4) ∧ (src = 2 → s.session n = none → replies m c 0xA 6) ∧
      ∀ x, src = 2 → s.session n = some x → Answers (exec c s) fun t => Replied s t m 8 0xA 0 ∧
        t.sec.sessions = s.sec.sessions.filter (fun y => y.num != n) ∧ t.sec.contexts = s.sec.contexts ∧
        RegsKept [R.SEC_SLOT x.slot, F.MBX_PENDING.pending.off] s t ∧ secOnly t) ∧
    (∀ (m : Fin 16) (slot : Nat) (key sig : BitVec 512), Served s m 8 0xB 1 →
      let c := Instr.keyEnroll m slot key sig
      let signed : Prop := s.ownerSigned (leBytes 1 slot ++ beBytes 64 key.toNat ++ s.uid) sig.toNat = true
      let under (r : Fin 4) : Prop := ∃ i : Fin 16, s.learned.roles[r].holder = some i.val ∧ (s.model i).keySlot = slot
      (8 ≤ slot → replies m c 0xB 5) ∧ (slot < 8 → ¬signed → replies m c 0xB 9) ∧
      ∀ j : Fin 8, slot = j.val → signed → Answers (exec c s) fun t => Replied s t m 8 0xB 0 ∧
        t.sec = { s.sec with modelKeys := s.sec.modelKeys.set j (if key.toNat = 0 then none else some key.toNat),
                             keySigs := s.sec.keySigs.set j (if key.toNat = 0 then 0 else sig.toNat) } ∧
        bitOf (t.fld F.SEC_MODEL_KEYS.valid) slot = decide (key.toNat ≠ 0) ∧
        FldsKept [F.SEC_MODEL_KEYS.valid, F.MBX_PENDING.pending] s t ∧ (key.toNat ≠ 0 → t.learned = s.learned) ∧
        (∀ r : Fin 4, key.toNat = 0 → under r →
          t.learned.roles[r] = { s.learned.roles[r] with holder := none, run := 0 }) ∧
        (∀ r : Fin 4, ¬under r → t.learned.roles[r] = s.learned.roles[r]) ∧
        t = { s with mem := t.mem, csr := t.csr, seq := t.seq, eth := t.eth, evr := t.evr, sec := t.sec, learned := t.learned }) ∧
    (∀ (m : Fin 16) (n fromSeq count src : Nat), Served s m 8 0xC src →
      ((∀ x, ¬(s.session n = some x ∧ x.active = true)) → replies m (.ctxLogRead m n fromSeq count) 0xC 4) ∧
      (∀ x, s.session n = some x → x.active = true → replies m (.ctxLogRead m n fromSeq count) 9 0)) ∧
    (∀ n : Fin 8,
      let i := s.sec.scrubStep[n]
      let idle : Prop := s.powered = false ∨ i = 0 ∨ 7 < i ∨ ((i = 1 ∨ i = 2 ∨ i = 6) ∧ s.servingCore n = none) ∨
        ((i = 2 ∨ i = 5 ∨ i = 7) ∧ s.coreUp 0 = false) ∨ (i = 3 ∧ s.coreUp 2 = false) ∨ (i = 4 ∧ s.coreUp 1 = false)
      let run (q : State → Prop) : Prop := Answers (exec (.scrubStepDone n) s) q
      let at_ (t : State) (j : Nat) : Prop := t.sec.scrubStep = s.sec.scrubStep.set n j
      let bound (x : Fin 16) : Prop := ∃ c, s.sec.leaving[n] = some c ∧ (s.model x).bound = some (n.val, c)
      (idle → exec (.scrubStepDone n) s = .next s) ∧
      (¬idle →
        (∀ k, i = 1 → s.servingCore n = some k → s.coreUp 0 = false → run fun t => at_ t 2 ∧ tariff t k n none ∧
          FldsKept (itsFields k) s t ∧
          t = { s with csr := t.csr, its := t.its, sec := { s.sec with scrubStep := t.sec.scrubStep } }) ∧
        (∀ k, i = 1 ∨ i = 2 → s.servingCore n = some k → s.coreUp 0 = true → run fun t => at_ t 3 ∧ t.phase n = 2 ∧
          t.flag (F.SEC_SLOT.own_valid n) = false ∧ t.flag (F.CMA_PACE_CTL.scrub n) = true ∧
          t.flag (F.CMA_CTX.exp_valid n) = false ∧ (i = 1 → tariff t k n none) ∧ (i = 2 → t.its = s.its) ∧
          t.sec.leaving = s.sec.leaving.set n ((s.owner n).or s.sec.leaving[n]) ∧
          FldsKept ([F.SEC_SLOT.phase n, F.SEC_SLOT.own_valid n, F.CMA_PACE_CTL.scrub n, F.CMA_CTX.exp_valid n] ++
            (if i = 1 then itsFields k else [])) s t ∧
          t = { s with csr := t.csr, its := t.its, sec := t.sec, evr := t.evr }) ∧
        (i = 3 → run fun t => t = { s with sec := { s.sec with scrubStep := s.sec.scrubStep.set n 4 } }) ∧
        (i = 4 → run fun t => (∀ c : Fin 4, t.reg (R.CMA_ACC n c) = 0#32) ∧ t.reg (R.CMA_ACC_FLAGS n) = 0#32 ∧
          t.reg (R.CMA_INTENT n) = 0#32 ∧
          RegsKept ([R.CMA_ACC_FLAGS n, R.CMA_INTENT n] ++ (List.range 4).map (R.CMA_ACC n)) s t ∧
          t.learned.posts = s.learned.posts.set n none ∧
          (∀ j v, s.learned.counts[j]? = some v → t.learned.counts[j]? = some (if j / 4 = n.val then 0#32 else v)) ∧
          (∀ (b : Nat) (l : List (BitVec 32)), s.learned.history[b]? = some l → ∃ l' : List (BitVec 32), t.learned.history[b]? = some l' ∧ l'.length = l.length ∧
            ∀ j v, l[j]? = some v → l'[j]? = some (if j / 8 = n.val then 0#32 else v)) ∧
          (∀ j v, s.learned.phase[j]? = some v → t.learned.phase[j]? = some (if j = n.val then (7, 0#32) else v)) ∧
          t = { s with csr := t.csr, sec := { s.sec with scrubStep := s.sec.scrubStep.set n 5 },
                       learned := { s.learned with posts := t.learned.posts, counts := t.learned.counts, history := t.learned.history,
                                                   phase := t.learned.phase, msSum := t.learned.msSum, msLast := t.learned.msLast } }) ∧
        (i = 5 → run fun t => t.sec = { s.sec with scrubStep := s.sec.scrubStep.set n 6 } ∧
          (∀ x : Fin 16, bound x → t.model x = Model.reset ∧ t.flag (F.CNJ_PART_CTL.valid x) = false ∧
            ∀ j, (s.job j).st = .queued ∨ (s.job j).st = .running → (s.job j).modeP = true → (s.job j).slot = x.val →
              (t.job j).st = .ending ∧ (t.job j).status = 2) ∧
          (∀ x : Fin 16, ¬bound x → t.model x = s.model x)) ∧
        (i = 6 → run fun t => at_ t 7 ∧
          t = { s with free := t.free, sec := { s.sec with scrubStep := t.sec.scrubStep, ctxLogs := t.sec.ctxLogs } }) ∧
        (i = 7 → run fun t => at_ t 0 ∧ t.phase n = 3 ∧
          t.fld (F.SEC_SCRUB_CNT.count n) = countedUp s (F.SEC_SCRUB_CNT.count n) 1 ∧ bitOf t.sec.confWait n = false ∧
          (∀ j : Nat, j ≠ n → bitOf t.sec.confWait j = bitOf s.sec.confWait j) ∧ t.sec.leaving = s.sec.leaving.set n none ∧
          FldsKept [F.SEC_SLOT.phase n, F.SEC_SCRUB_CNT.count n] s t ∧ t = { s with csr := t.csr, sec := t.sec, evr := t.evr }))) ∧
    ∀ n : Fin 8,
      let c := s.fld (F.SEC_SLOT.ann_ctx n)
      let ready : Prop := s.powered = true ∧ s.coreUp 0 = true ∧ s.svcRuns = true ∧ s.phase n = 3 ∧ s.sec.scrubStep[n] = 0 ∧
        s.flag (F.CMA_CTX.rep_valid n) = true ∧ s.flag (F.SEC_SLOT.ann_valid n) = true ∧
        s.fld (F.CMA_CTX.rep_ctx n) = c ∧ s.ctxOpen n c = true
      (¬ready ∨ s.servingCore n = none → exec (.ownedEntry n) s = .next s) ∧
      (∀ k, ready → s.servingCore n = some k → Answers (exec (.ownedEntry n) s) fun t =>
        t.owner n = some c ∧ t.phase n = 1 ∧ t.flag (F.CMA_PACE_CTL.scrub n) = false ∧ t.fld (F.CMA_CTX.exp_ctx n) = c ∧
        t.flag (F.CMA_CTX.exp_valid n) = true ∧ tariff t k n (some c) ∧
        FldsKept ([F.SEC_SLOT.phase n, F.SEC_SLOT.own_ctx n, F.SEC_SLOT.own_valid n, F.CMA_PACE_CTL.scrub n, F.CMA_CTX.exp_ctx n,
          F.CMA_CTX.exp_valid n] ++ itsFields k) s t ∧ t = { s with csr := t.csr, its := t.its })

/-- Core resets, watchdogs, crashed cores, spares, self-tests, and errors of SRAM rows (R370, R390, R403, R416, R418, R419, R420, R421, R424). -/
def Obligations.CoresAreResetWatchedSparedAndRepaired : Prop :=
  ∀ s : State,
    let restarted (t : State) (k : Fin 13) : Prop :=
      t.core k = (if k = 0 then { Core.reset (pcOf (s.bootVec k)) with run := .running } else Core.reset (pcOf (s.bootVec k))) ∧
      t.fld (F.RST_CORE_STAT.role k) = 3 ∧ (∀ key, ownKey k key = true → t.reg key = csrReset key) ∧
      (∀ n : Fin 8, s.slotCore n = k.val → t.flag (F.CMA_PACE_CTL.hold n) = true) ∧
      (k ≠ 0 → bitOf (t.fld F.BOOT_RELEASE.release) (k - 1) = false) ∧
      (k = 0 → t.sec = { s.sec with sessions := [], nonce := none, signing := [], verified := false }) ∧
      (∀ (x : Fin 9) (r : ClauseRun), (s.target x).run = some r → (t.target x).run = if r.core = k then none else some r) ∧
      EnablesKept s t ∧ t.fuses = s.fuses ∧ t.flash = s.flash ∧ t.its.cur = s.its.cur ∧ t.tns = s.tns
    let fellBack (t : State) : Prop := t.boot.svcUp = s.boot.prevBank.isSome ∧ t.boot.windowEnd = none ∧
      t.fld F.BOOT_STATUS.svc = (if s.boot.prevBank.isSome then 5 else 0)
    let warm (t : State) (cause : Nat) : Prop := t.fld F.RST_CAUSE.cause = cause ∧
      t.fld F.RST_WARM_CNT.count = countedUp s F.RST_WARM_CNT.count 1 ∧ t.boot.svcUp = false
    let inWindow : Bool := s.svcRuns && s.boot.windowSvc && s.boot.windowEnd.isSome
    let handled (t : State) (k : Fin 13) (i : Fin 2) (halts : Nat) : Prop :=
      (inWindow = true → s.boot.windowHalts[i] + 1 < 3 →
        restarted t k ∧ t.boot.windowHalts[i] = s.boot.windowHalts[i] + 1) ∧
      (inWindow = true → 3 ≤ s.boot.windowHalts[i] + 1 → fellBack t) ∧
      (s.svcRuns = false → 3 ≤ halts → warm t 3 ∧ t.fld F.RST_CAUSE.core = k.val) ∧
      (inWindow = false → s.svcRuns = true ∨ halts < 3 → restarted t k)
    let moved (t : State) (k : Fin 13) (n : Fin 8) (q : Fin 13) : Prop :=
      t.slotCore n = q.val ∧ (∀ j : Fin 8, j ≠ n → t.slotCore j = s.slotCore j) ∧ t.fld (F.RST_CORE_STAT.role q) = 0 ∧
      (t.core q).run = .running ∧ (t.core q).pc = pcOf (s.resVector q) ∧ bitOf (t.core q).raised 9 = true ∧
      t.flag (F.SYS_CORE_LOCK.lock q) = true ∧ t.sec.scrubStep[n] = (if s.sec.scrubStep[n] = 0 then 0 else 1) ∧
      t.fld (F.RST_CORE_STAT.role k) = 3 ∧ (t.core k).run = .held ∧ EnablesKept s t
    let serves (k : Fin 13) (n : Fin 8) : Prop := ∀ j : Fin 8, s.slotCore j = k.val ↔ j = n
    let freeOf (k : Fin 13) : Prop := ∀ j : Fin 8, s.slotCore j ≠ k.val
    let spare (k q : Fin 13) : Prop := s.spareCore = some q ∧ q ≠ 0 ∧ s.fld (F.RST_CORE_STAT.role k) = 0
    let others (k : Fin 13) : Prop := (∀ j : Fin 13, j ≠ k → (s.core j).run ≠ .halted) ∧
      ∀ j : Fin 8, s.slotCore j ≠ k.val → s.fld (F.RST_CORE_STAT.role (s.slotCore j)) < 2
    (∀ k : Fin 13, (s.powered = false → exec (.coreReset k) s = .next s) ∧
      (s.powered = true → Answers (exec (.coreReset k) s) fun t => restarted t k)) ∧
    (∀ (b : Fin 13) (v : BitVec 32), Alive s b →
      let named (k : Fin 13) : Prop := b = 0 ∧ v.getLsbD 8 = true ∧ k ≠ 0 ∧ v.toNat % 16 = k.val
      (∀ k, named k → Answers (exec (.rstCoreCmd b v) s) fun t => restarted t k) ∧
      ((∀ k, ¬named k) → Answers (exec (.rstCoreCmd b v) s) fun t =>
        RegsKept [R.RST_CORE_CMD] s t ∧ t = { s with csr := t.csr })) ∧
    (∀ (b k : Fin 13) (v : BitVec 32), Alive s b →
      (b = k → v.getLsbD 0 = true → Answers (exec (.watchdogKick b k v) s) fun t =>
        t = { s with rst := { s.rst with wdogAt := s.rst.wdogAt.set k s.tns.tick } }) ∧
      (b ≠ k ∨ v.getLsbD 0 = false → exec (.watchdogKick b k v) s = .next s)) ∧
    (∀ k : Fin 13,
      let ms := s.fld (F.RST_WDOG_CFG.ms k)
      let due : Prop := s.powered = true ∧ ms ≠ 0 ∧ s.coreUp k = true ∧ s.rst.wdogAt[k] + ms * 1000 ≤ s.tns.tick
      let counted (t : State) : Prop :=
        t.fld (F.RST_CORE_STAT.halts k) = countedUp s (F.RST_CORE_STAT.halts k) 1 ∧ (k.val, s.tns.tick) ∈ t.haltTimes
      (¬due → exec (.watchdogExpiry k) s = .next s) ∧
      (due → k = 0 ∨ s.coreUp 0 = false ∨ (3 ≤ k.val ∧ freeOf k) → Answers (exec (.watchdogExpiry k) s) fun t =>
        restarted t k ∧ counted t) ∧
      (∀ n q, due → 3 ≤ k.val → s.coreUp 0 = true → serves k n → spare k q → Answers (exec (.watchdogExpiry k) s) fun t =>
        moved t k n q ∧ counted t) ∧
      (∀ i : Fin 2, due → k.val = i.val + 1 → s.coreUp 0 = true → Answers (exec (.watchdogExpiry k) s) fun t =>
        handled t k i (s.haltsWithin k 60000000 + 1))) ∧
    (let halted (k : Fin 13) : Prop := (s.core k).run = .halted;
      (s.powered = false ∨ (¬halted 0 ∧ s.coreUp 0 = false) → exec .crashCheck s = .next s) ∧
      (s.powered = true → halted 0 → Answers (exec .crashCheck s) fun t => restarted t 0) ∧
      (Alive s 0 → (∀ k, ¬halted k) → (∀ j : Fin 8, s.fld (F.RST_CORE_STAT.role (s.slotCore j)) < 2) →
        exec .crashCheck s = .next s) ∧
      (∀ k : Fin 13, Alive s 0 → halted k → others k →
        (3 ≤ k.val → freeOf k → Answers (exec .crashCheck s) fun t => restarted t k) ∧
        (∀ n q, 3 ≤ k.val → serves k n → spare k q → Answers (exec .crashCheck s) fun t => moved t k n q) ∧
        (∀ n, 3 ≤ k.val → serves k n → s.spareCore = none → Answers (exec .crashCheck s) fun t =>
          restarted t k ∧ t.slotCore n = k.val) ∧
        (∀ i : Fin 2, k.val = i.val + 1 → freeOf k → Answers (exec .crashCheck s) fun t =>
          handled t k i (s.haltsWithin k 60000000)))) ∧
    (∀ (k : Fin 13) (pass : Bool),
      let c := Instr.selfTestDone k pass
      let due : Prop := s.powered = true ∧ s.fld (F.RST_CORE_STAT.role k) = 3
      let back (t : State) (role : Nat) : Prop := t.fld (F.RST_CORE_STAT.role k) = role ∧
        t.fld (F.RST_CORE_STAT.restarts k) = countedUp s (F.RST_CORE_STAT.restarts k) 1
      let retired (t : State) : Prop := t.fld (F.RST_CORE_STAT.role k) = 2 ∧
        t.repair = s.repair ++ [⟨4, 0x3F, k, s.tns.cycles⟩] ∧ FldsKept [F.RST_CORE_STAT.role k] s t ∧ FlashKept [repairSpan] s t ∧
        t = { s with csr := t.csr, repair := t.repair, flash := t.flash, evr := t.evr }
      (¬due → exec c s = .next s) ∧
      (due → k = 0 → pass = true → Answers (exec c s) fun t => back t 0 ∧ (t.core 0).run = .running ∧
        (t.core 0).pc = pcOf (s.resVector 0) ∧ t.sec = { s.sec with verified := true }) ∧
      (due → k = 0 → pass = false → Answers (exec c s) fun t => warm t 4) ∧
      (due → k ≠ 0 → pass = false → Answers (exec c s) retired) ∧
      (due → k = 1 ∨ k = 2 → pass = true →
        (s.coreUp 0 = false → exec c s = .next s) ∧
        (s.coreUp 0 = true → Answers (exec c s) fun t => back t 0 ∧ t.coreUp k = true ∧
          t.flag (F.SYS_CORE_LOCK.lock k) = true ∧ (k = 2 → t.fld F.MBX_PENDING.pending = 0))) ∧
      (due → 3 ≤ k.val → pass = true →
        (2 ≤ s.haltsWithin k 3600000000 → Answers (exec c s) retired) ∧
        (s.haltsWithin k 3600000000 < 2 → Answers (exec c s) fun t => back t 1 ∧ t = { s with csr := t.csr }))) ∧
    ∀ e : SramErr,
      let tensor : Bool := e.mem = 1
      let rows := if tensor then 16384 else 49152
      let kind := if tensor then 2 else 1
      let base := if e.mem = 2 then ddrBase else if tensor then tensorBase else sharedBase
      let a := base + 512 * e.row + 8 * (e.word % 64)
      let bad (t : State) : Prop := ∀ x, x ∈ t.rst.badWords ↔ x = a ∨ x ∈ s.rst.badWords
      let live : Prop := s.powered = true ∧ (tensor = true → s.active = true) ∧ e.row < rows
      let ready : Prop := s.powered = true ∧ s.active = true ∧ s.fld F.DDR_STATUS.state = 2 ∧ 512 * e.row < ddrSize
      let queued (t : State) (due : Prop) : Prop :=
        let already : Prop := ∃ x ∈ s.repair, x.kind = kind ∧ x.index = e.row ∧ x.state = 0x7F
        (due → s.coreUp 0 = true → ¬already → t.repair = s.repair ++ [⟨kind, 0x7F, e.row, s.tns.cycles⟩] ∧
          (s.repair.length < 4096 → ∀ i < 16, some (Sparse.get flashDefault (0x1900000 + 16 * s.repair.length + i) t.flash) =
            (RepairEntry.bytes ⟨kind, 0x7F, e.row, s.tns.cycles⟩)[i]?)) ∧
        (¬due ∨ s.coreUp 0 = false ∨ already → t.repair = s.repair)
      let old := (s.rst.rowErrs.lookup (tensor, e.row)).getD []
      ((if e.mem = 2 then ¬ready else ¬live) → exec (.sramError e) s = .next s) ∧
      (e.mem = 2 → ready → e.uncorrectable = true → Answers (exec (.sramError e) s) fun t => bad t ∧
        t.fld F.DDR_ECC_UNCORR.count = countedUp s F.DDR_ECC_UNCORR.count 1 ∧
        t.reg R.DDR_ERR_ADDR_LO = BitVec.ofNat 32 a ∧ t.reg R.DDR_ERR_ADDR_HI = BitVec.ofNat 32 (a / 2 ^ 32) ∧
        FldsKept [F.DDR_ECC_UNCORR.count, ⟨R.DDR_ERR_ADDR_LO, 31, 0⟩, ⟨R.DDR_ERR_ADDR_HI, 31, 0⟩] s t ∧
        t = { s with csr := t.csr, rst := { s.rst with badWords := t.rst.badWords } }) ∧
      (e.mem = 2 → ready → e.uncorrectable = false → Answers (exec (.sramError e) s) fun t =>
        t.fld F.DDR_ECC_CORR.count = countedUp s F.DDR_ECC_CORR.count 1 ∧ FldsKept [F.DDR_ECC_CORR.count] s t ∧
        t = { s with csr := t.csr }) ∧
      (e.mem ≠ 2 → live → Answers (exec (.sramError e) s) fun t => FlashKept [repairSpan] s t ∧
        t = { s with rst := t.rst, repair := t.repair, flash := t.flash, evr := t.evr } ∧
        (e.uncorrectable = true → queued t True ∧ t.rst = { s.rst with badWords := t.rst.badWords } ∧
          bad t) ∧
        (e.uncorrectable = false → t.rst = { s.rst with rowErrs := t.rst.rowErrs } ∧
          ∃ now, t.rst.rowErrs.lookup (tensor, e.row) = some now ∧ (∀ w, w ∈ now ↔ w = e.word % 64 ∨ w ∈ old) ∧
            now.length = (if e.word % 64 ∈ old then old.length else old.length + 1) ∧ queued t (3 ≤ now.length) ∧
            (∀ p, p ≠ (tensor, e.row) → t.rst.rowErrs.lookup p = s.rst.rowErrs.lookup p)))

/-- The power states, admission to the event recorder, the inventory and its queries (R35, R413, R414, R415, R431, R432, R433, R435, R443). -/
def Obligations.MainSupplyRecorderAndInventoryFollowTheRules : Prop :=
  ∀ s : State,
    let pwr : Fd := F.RST_STATUS.pwr
    let up : Prop := s.powered = true
    let wakes (c : Instr) : Prop := Answers (exec c s) fun t =>
      t.fld pwr = 2 ∧ t.flag F.RST_STATUS.main_en = true ∧ FldsKept [pwr, F.RST_STATUS.main_en] s t ∧
      t = { s with csr := t.csr, evr := t.evr,
                   rst := { s.rst with mainEnAt := s.tns.tick, retryAt := none, idleSince := none } }
    let wakeable : Prop := s.fld pwr = 1 ∧ s.rst.shed = false ∧ s.rst.lossHold = false
    let standby (t : State) : Prop :=
      t.fld pwr = 1 ∧ t.flag F.RST_STATUS.main_en = false ∧ t.flag F.RST_STATUS.main_pg = false ∧ t.jobs = [] ∧ t.threads = [] ∧
      t.fld F.DDR_STATUS.state = 0 ∧ (∀ x, tensorBase ≤ x → x < tensorBase + tensorSize → t.byte x = 0#8) ∧
      (∀ x, ddrBase ≤ x → x < ddrBase + ddrSize → t.byte x = 0#8) ∧
      (∀ m : Fin 16, t.model m = Model.reset ∧ t.flag (F.CNJ_PART_CTL.valid m) = false) ∧
      (∀ r : Fin 4, t.learned.roles[r].holder = none) ∧ t.boot = s.boot ∧ t.rst.idleSince = none ∧ Sheltered s t
    (∀ w : WakeTrigger,
      let holds : Prop := match w with
        | .trayOn => s.effOn 8 = true
        | .mainHold => s.flag F.RST_CTL.main_hold = true
        | .ddrCommand => True
      (up → holds → wakeable → wakes (.wake w)) ∧ (¬up ∨ ¬holds ∨ ¬wakeable → exec (.wake w) s = .next s)) ∧
    (let due : Prop := up ∧ ∃ a, s.rst.retryAt = some a ∧ a ≤ s.tns.tick;
      (due → wakeable → wakes .wakeRetry) ∧ (¬due ∨ ¬wakeable → exec .wakeRetry s = .next s)) ∧
    (∀ fails : List (Nat × Nat),
      (¬(up ∧ s.fld pwr = 2) → exec (.mainPgGood fails) s = .next s) ∧
      (up → s.fld pwr = 2 → Answers (exec (.mainPgGood fails) s) fun t => t.fld pwr = 3 ∧ t.flag F.RST_STATUS.main_pg = true ∧
        t.fld F.DDR_STATUS.state = (if s.flag F.DDR_STATUS.trng_off then 4 else if !s.flag F.DDR_CTL.en then 0
          else if 2 ≤ fails.length then 3 else 2) ∧
        FldsKept [pwr, F.RST_STATUS.main_pg, F.DDR_STATUS.state] s t ∧ t = { s with csr := t.csr, evr := t.evr })) ∧
    (let due : Prop := up ∧ s.fld pwr = 2 ∧ s.rst.mainEnAt + 100000 ≤ s.tns.tick;
      (¬due → exec .mainSupplyTimeout s = .next s) ∧
      (due → Answers (exec .mainSupplyTimeout s) fun t => t.fld pwr = 1 ∧ t.flag F.RST_STATUS.main_en = false ∧
        FldsKept [pwr, F.RST_STATUS.main_en] s t ∧ t = { s with csr := t.csr, evr := t.evr })) ∧
    ((¬(up ∧ s.active = true) → exec .mainPgLoss s = .next s) ∧
      (up → s.active = true → Answers (exec .mainPgLoss s) fun t => standby t ∧ t.rst.lossAt = some s.tns.tick ∧
        ((∃ a, s.rst.lossAt = some a ∧ s.tns.tick < a + 10000000) → t.rst.retryAt = none ∧ t.rst.lossHold = true) ∧
        ((∀ a, s.rst.lossAt = some a → a + 10000000 ≤ s.tns.tick) → t.rst.retryAt = some (s.tns.tick + 1000000) ∧
          t.rst.lossHold = false))) ∧
    (let due : Prop := up ∧ s.idle = true ∧
        ∃ a, s.rst.idleSince = some a ∧ a + s.fld F.RST_PWR_CFG.stby_delay_s * 1000000 ≤ s.tns.tick;
      (¬due → exec .standbyEntry s = .next s) ∧ (due → Answers (exec .standbyEntry s) standby)) ∧
    (∀ ack : Bool,
      (up → s.flag F.RST_STATUS.main_en = true → Answers (exec (.avsSetpoint ack) s) fun t =>
        t.flag F.SLT_AVS.ack = ack ∧ FldsKept [F.SLT_AVS.ack] s t ∧ t = { s with csr := t.csr, evr := t.evr } ∧
        (ack = true → t.evr = s.evr)) ∧
      (¬up ∨ s.flag F.RST_STATUS.main_en = false → exec (.avsSetpoint ack) s = .next s)) ∧
    (∀ (src code sev : Nat) (hw : Bool) (payload : List Nat),
      let c := Instr.eventAdmit src code sev hw payload
      let e := s.evr
      let r := evRecord s (src % 256) (code % 65536) sev hw payload e.nextSeq
      let few : Prop := if s.fld F.EVR_CTL.shed_sev ≤ sev then e.tokens = 0 else e.tokens < 16
      let waits : Prop := sev = 4 ∧ (e.queue ≠ [] ∨ e.tokens = 0)
      let shed : Prop := Answers (exec c s) fun t => t.evr.shedIrq = true ∧
        (∀ j : Fin 5, t.evr.shed[j] = if j.val = sev then min (e.shed[j] + 1) 0xFFFFFFFF else e.shed[j]) ∧
        t = { s with evr := { e with shed := t.evr.shed, shedIrq := true } }
      let offered : Prop := up ∧ sev < 5 ∧ s.fld F.EVR_CTL.min_sev ≤ sev
      (¬offered → exec c s = .next s) ∧
      (offered → ¬waits → ¬few → Answers (exec c s) fun t => t = { s with evr :=
        { e with tokens := e.tokens - 1, ring := (r :: e.ring).take 131072, nextSeq := (e.nextSeq + 1) % 2 ^ 32 } }) ∧
      (offered → ¬waits → few → shed) ∧
      (offered → waits → e.queue.length < 32 → Answers (exec c s) fun t =>
        t = { s with evr := { e with queue := e.queue ++ [r] } }) ∧
      (offered → waits → 32 ≤ e.queue.length → shed)) ∧
    (∀ (n : Fin 8) (id : IdRead),
      let due : Prop := up ∧ (s.servingCore n).isSome = true ∧ s.linkState n = 2
      let ok : Prop := id.ack = true ∧ s.fld (F.INV_SLOT_CFG.addr n) ≠ 0
      let serial := id.serial.toNat
      (¬due → exec (.inventoryRead n id) s = .next s) ∧
      (due → Answers (exec (.inventoryRead n id) s) fun t =>
        let now := t.inv.serials[n]
        (ok → now = serial ∧ t.inv.classes[n] = id.devClass.toNat ∧ t.flag (F.INV_SLOT_STAT.present n) = true ∧
          t.flag (F.INV_SLOT_STAT.class_mismatch n) = decide (id.devClass.toNat ≠ s.declaredClass n) ∧
          ∃ i x, t.inv.entries.lookup i = some x ∧ x.serial = serial ∧ x.cls = id.devClass.toNat ∧ x.slot = n.val ∧
            x.lastCycle = s.tns.cycles ∧ t.fld (F.INV_SLOT_STAT.entry n) = i % 256 ∧
            (∀ j, s.invFind serial = some j → i = j) ∧
            (s.invFind serial = none → (∃ j < 256, s.inv.entries.lookup j = none) → s.inv.entries.lookup i = none)) ∧
        (¬ok → now = 0 ∧ t.inv.classes[n] = s.declaredClass n ∧ t.flag (F.INV_SLOT_STAT.present n) = false ∧
          t.fld (F.INV_SLOT_STAT.entry n) = 0xFF ∧ t.flag (F.INV_SLOT_STAT.class_mismatch n) = false) ∧
        t.inv.fwIds[n] = (if now = s.inv.serials[n] then s.inv.fwIds[n] else 0) ∧
        (∀ j < 3, t.inv.modules.lookup (3 * n.val + j) = id.modules[j]?) ∧
        (∀ j : Fin 8, j ≠ n → t.inv.serials[j] = s.inv.serials[j] ∧ t.inv.fwIds[j] = s.inv.fwIds[j] ∧
          t.inv.classes[j] = s.inv.classes[j]) ∧
        FldsKept [F.INV_SLOT_STAT.present n, F.INV_SLOT_STAT.class_mismatch n, F.INV_SLOT_STAT.entry n] s t ∧
        t = { s with csr := t.csr, inv := t.inv, evr := t.evr })) ∧
    ((¬Alive s 0 → exec .inventoryCommit s = .next s) ∧
      (Alive s 0 → Answers (exec .inventoryCommit s) fun t => t.inv.saved = t.inv.entries ∧
        t.inv.entries.map (fun p => (p.1, p.2.serial)) = s.inv.entries.map (fun p => (p.1, p.2.serial)) ∧
        (∀ n : Fin 8, (s.inv.onAt[n]).isSome = true → t.inv.onAt[n] = some s.tns.tick) ∧ t = { s with inv := t.inv })) ∧
    ∀ (m : Fin 16) (src cmd : Nat), Served s m 0xA cmd src →
      let replies (c : Instr) (status : Nat) : Prop := Answers (exec c s) fun t => RepliesOnly s t m 0xA cmd status
      (∀ sec : Nat, cmd = 1 → replies (.invQuery m sec) (if src ≠ 1 ∧ sec ≠ 1 then 4 else if 2 < sec then 5 else 0)) ∧
      (∀ sec : Nat, cmd = 1 → sec = 1 → Answers (exec (.invQuery m sec) s) fun t =>
        t.bytes (respArea m + 32) 320 = (List.finRange 8).flatMap s.invSlot) ∧
      (∀ fromSeq count : Nat, cmd = 2 → replies (.recordsRead m fromSeq count)
        (if src ≠ 1 then 4 else if count = 0 ∨ 256 < count then 5 else 0)) ∧
      (cmd = 3 → replies (.repairQuery m) (if src ≠ 1 then 4 else 0)) ∧
      (∀ i : Nat, cmd = 4 → replies (.hoursRead m i)
        (if src ≠ 1 then 4 else if 255 < i then 5 else if (s.inv.entries.lookup i).isSome then 0 else 6))
end

