-- ==== Sys2Proof/Laws/Fields.lean ====
section
/-!
SUPPORT. Fields of a register: what a written field reads as, and that a write to one field leaves every other field of
the register, and every other register, as it was.
-/
namespace Sys2Proof.Machine

theorem fldPut_toNat (v : W32) (hi lo x : Nat) (h : hi < 32) (hl : lo ≤ hi) :
    (fldPut v hi lo x).toNat =
      v.toNat % 2 ^ lo + x % fldSize hi lo * 2 ^ lo + v.toNat / 2 ^ (hi + 1) * 2 ^ (hi + 1) := by
  unfold fldPut
  rw [BitVec.toNat_ofNat]
  apply Nat.mod_eq_of_lt
  have hv : v.toNat < 2 ^ (hi + 1) * 2 ^ (31 - hi) := by
    rw [← Nat.pow_add, show hi + 1 + (31 - hi) = 32 by omega]
    exact v.isLt
  have hs : 2 ^ lo * fldSize hi lo = 2 ^ (hi + 1) := by
    unfold fldSize
    rw [← Nat.pow_add, show lo + (hi + 1 - lo) = hi + 1 by omega]
  have hp : 0 < 2 ^ lo := Nat.two_pow_pos lo
  have hq : 0 < fldSize hi lo := Nat.two_pow_pos _
  have h1 : v.toNat % 2 ^ lo < 2 ^ lo := Nat.mod_lt _ hp
  have h2 : x % fldSize hi lo + 1 ≤ fldSize hi lo := Nat.mod_lt _ hq
  have h3 : v.toNat / 2 ^ (hi + 1) + 1 ≤ 2 ^ (31 - hi) := Nat.div_lt_of_lt_mul hv
  have e : (2 : Nat) ^ 32 = 2 ^ (31 - hi) * 2 ^ (hi + 1) := by
    rw [← Nat.pow_add, show 31 - hi + (hi + 1) = 32 by omega]
  have h4 := Nat.mul_le_mul_right (2 ^ lo) h2
  have h5 := Nat.mul_le_mul_right (2 ^ (hi + 1)) h3
  rw [Nat.add_mul, Nat.mul_comm (fldSize hi lo), hs] at h4
  rw [Nat.add_mul] at h5
  omega

/-- A written field reads the value, cut to its width. -/
theorem fldOf_fldPut_same (v : W32) (hi lo x : Nat) (h : hi < 32) (hl : lo ≤ hi) :
    fldOf (fldPut v hi lo x) hi lo = x % fldSize hi lo := by
  have hp : 0 < 2 ^ lo := Nat.two_pow_pos lo
  have hs : 2 ^ (hi + 1) = fldSize hi lo * 2 ^ lo := by
    unfold fldSize
    rw [← Nat.pow_add, show hi + 1 - lo + lo = hi + 1 by omega]
  unfold fldOf
  rw [fldPut_toNat v hi lo x h hl, hs, ← Nat.mul_assoc, Nat.add_mul_div_right _ _ hp, Nat.add_mul_div_right _ _ hp,
    Nat.div_eq_of_lt (Nat.mod_lt _ hp)]
  simp

/-- A write to a field leaves every other field of the register alone. -/
theorem fldOf_fldPut_other (v : W32) (hi lo x hi' lo' : Nat) (h : hi < 32) (hl : lo ≤ hi)
    (hd : hi' < lo ∨ hi < lo') : fldOf (fldPut v hi lo x) hi' lo' = fldOf v hi' lo' := by
  unfold fldOf
  rw [fldPut_toNat v hi lo x h hl]
  rcases hd with hd | hd
  · by_cases hll : lo' ≤ hi'
    · have hs : 2 ^ lo' * fldSize hi' lo' = 2 ^ (hi' + 1) := by
        unfold fldSize
        rw [← Nat.pow_add, show lo' + (hi' + 1 - lo') = hi' + 1 by omega]
      rw [← Nat.mod_mul_right_div_self, ← Nat.mod_mul_right_div_self, hs]
      congr 1
      have d1 : 2 ^ (hi' + 1) ∣ 2 ^ lo := Nat.pow_dvd_pow 2 hd
      have d2 : 2 ^ (hi' + 1) ∣ 2 ^ (hi + 1) := Nat.pow_dvd_pow 2 (by omega)
      obtain ⟨a, ha⟩ := d1
      obtain ⟨b, hb⟩ := d2
      have e1 : x % fldSize hi lo * 2 ^ lo = 2 ^ (hi' + 1) * (x % fldSize hi lo * a) := by rw [ha]; ring
      have e2 : v.toNat / 2 ^ (hi + 1) * 2 ^ (hi + 1) = 2 ^ (hi' + 1) * (v.toNat / 2 ^ (hi + 1) * b) := by
        conv_lhs => rw [hb]
        conv_rhs => rw [hb]
        ring
      rw [e1, e2, Nat.add_mul_mod_self_left, Nat.add_mul_mod_self_left, Nat.mod_mod_of_dvd]
      exact Nat.pow_dvd_pow 2 hd
    · have : fldSize hi' lo' = 1 := by
        unfold fldSize
        rw [show hi' + 1 - lo' = 0 by omega, Nat.pow_zero]
      rw [this, Nat.mod_one, Nat.mod_one]
  · have hlt : v.toNat % 2 ^ lo + x % fldSize hi lo * 2 ^ lo < 2 ^ (hi + 1) := by
      have hp : 0 < 2 ^ lo := Nat.two_pow_pos lo
      have hs : fldSize hi lo * 2 ^ lo = 2 ^ (hi + 1) := by
        unfold fldSize
        rw [← Nat.pow_add, show hi + 1 - lo + lo = hi + 1 by omega]
      have h1 : v.toNat % 2 ^ lo < 2 ^ lo := Nat.mod_lt _ hp
      have h2 : x % fldSize hi lo + 1 ≤ fldSize hi lo := Nat.mod_lt _ (Nat.two_pow_pos _)
      have h4 := Nat.mul_le_mul_right (2 ^ lo) h2
      rw [Nat.add_mul, hs] at h4
      omega
    have e : 2 ^ lo' = 2 ^ (hi + 1) * 2 ^ (lo' - (hi + 1)) := by
      rw [← Nat.pow_add, show hi + 1 + (lo' - (hi + 1)) = lo' by omega]
    rw [e, ← Nat.div_div_eq_div_mul, ← Nat.div_div_eq_div_mul, Nat.add_mul_div_right _ _ (Nat.two_pow_pos _),
      Nat.div_eq_of_lt hlt, Nat.zero_add]

/-! ## Registers after a write -/

/-- A register after a write to a register. -/
@[simp] theorem State.reg_setReg (s : State) (k j : Nat) (v : W32) :
    ((Act.setReg k v).run s).reg j = if j = k then v else s.reg j := by
  show Sparse.get csrReset j (Sparse.set csrReset k v s.csr) = _
  split
  · rename_i h
    rw [h, Sparse.get_set_same]
  · rename_i h
    exact Sparse.get_set_other csrReset h v s.csr

/-- A register after a write to a field. -/
@[simp] theorem State.reg_setF (s : State) (f : Fd) (x j : Nat) :
    ((Act.setF f x).run s).reg j = if j = f.off then fldPut (s.reg f.off) f.hi f.lo x else s.reg j :=
  State.reg_setReg s f.off j _

/-- A field that was written reads the value, cut to its width. -/
theorem State.fld_setF_same (s : State) (f : Fd) (x : Nat) (h : f.hi < 32) (hl : f.lo ≤ f.hi) :
    ((Act.setF f x).run s).fld f = x % fldSize f.hi f.lo := by
  simp [State.fld, fldOf_fldPut_same _ _ _ _ h hl]

/-- Whether two fields share no bit. -/
def Fd.apart (f g : Fd) : Bool := f.off != g.off || f.hi < g.lo || g.hi < f.lo

/-- A field reads as before once another field was written. -/
theorem State.fld_setF_other (s : State) (f g : Fd) (x : Nat) (h : f.hi < 32) (hl : f.lo ≤ f.hi)
    (ha : f.apart g = true) : ((Act.setF f x).run s).fld g = s.fld g := by
  simp only [Fd.apart, Bool.or_eq_true, bne_iff_ne, ne_eq, decide_eq_true_eq] at ha
  simp only [State.fld, State.reg_setF]
  split
  · rename_i e
    rw [fldOf_fldPut_other _ _ _ _ _ _ h hl (by omega), e]
  · rfl

end Sys2Proof.Machine
end

