-- ==== Sys2Proof/Laws/Acts.lean ====
section
/-!
SUPPORT. What an action does to the state, one lemma for each way of building an action, and what every action keeps.
-/
namespace Sys2Proof.Machine

@[simp] theorem Act.run_skip (s : State) : Act.skip.run s = s := rfl

@[simp] theorem Act.run_andThen (a b : Act) (s : State) : (a.andThen b).run s = b.run (a.run s) := rfl

@[simp] theorem Act.run_seq_nil (s : State) : (Act.seq []).run s = s := rfl

@[simp] theorem Act.run_seq_cons (a : Act) (l : List Act) (s : State) :
    (Act.seq (a :: l)).run s = (Act.seq l).run (a.run s) := rfl

@[simp] theorem Act.run_get (f : State → Act) (s : State) : (Act.get f).run s = (f s).run s := rfl

@[simp] theorem Act.run_when (b : Bool) (a : Act) (s : State) : (Act.when b a).run s = if b then a.run s else s := by
  cases b <;> rfl

@[simp] theorem Act.run_ite (p : Prop) [Decidable p] (a b : Act) (s : State) :
    (if p then a else b).run s = if p then a.run s else b.run s := by
  split <;> rfl

@[simp] theorem Act.run_each_nil {α : Type} (f : α → Act) (s : State) : (Act.each [] f).run s = s := rfl

@[simp] theorem Act.run_each_cons {α : Type} (x : α) (l : List α) (f : α → Act) (s : State) :
    (Act.each (x :: l) f).run s = (Act.each l f).run ((f x).run s) := rfl

@[simp] theorem Act.go_eq (a : Act) (s : State) : a.go s = .next (a.run s) := rfl

/-- Every action keeps the state well formed. -/
theorem Act.run_wf (a : Act) {s : State} (h : Wf s) : Wf (a.run s) := a.keeps s h

/-- Every action leaves the queue alone. -/
@[simp] theorem Act.run_pending (a : Act) (s : State) : (a.run s).pending = s.pending := a.queue s

/-- An action neither turns a powered logic die off nor changes its role (R3). -/
theorem Act.run_holds (a : Act) (s : State) (h : s.powered = true) : (a.run s).powered = true ∧ (a.run s).role = s.role :=
  a.holds s h

/-- No action unburns a fuse. -/
theorem Act.run_burns (a : Act) (s : State) : s.fuses.burnsTo (a.run s).fuses := a.burns s

/-- An induction for an action on every element of a list: what each keeps, all keep. -/
theorem Act.each_induct {α : Type} (q : State → Prop) (f : α → Act) (l : List α) (s : State)
    (h : ∀ x ∈ l, ∀ t, q t → q ((f x).run t)) (h0 : q s) : q ((Act.each l f).run s) := by
  induction l generalizing s with
  | nil => exact h0
  | cons x r ih =>
    rw [Act.run_each_cons]
    exact ih _ (fun y hy => h y (List.mem_cons_of_mem _ hy)) (h x (List.mem_cons_self ..) s h0)

end Sys2Proof.Machine
end

