-- ==== Sys2Proof/Laws/Memory.lean ====
section
/-!
SUPPORT. Memory: a write is read back, leaves every other byte alone and keeps the canonical form; likewise tags.
-/
namespace Sys2Proof.Machine

/-- A byte after a write of a byte. -/
@[simp] theorem State.byte_setByte (s : State) (a b : Nat) (v : Byte) :
    ((Act.setByte a v).run s).byte b = if b = a then v else s.byte b := by
  show Sparse.get memDefault b (Sparse.set memDefault a v s.mem) = _
  split
  · rename_i h
    rw [h, Sparse.get_set_same]
  · rename_i h
    exact Sparse.get_set_other memDefault h v s.mem

/-- A byte after a write of bytes: the byte written there, or the byte that was there. -/
theorem State.byte_setBytes (s : State) (a b : Nat) (l : List Byte) :
    ((Act.setBytes a l).run s).byte b =
      if h : a ≤ b ∧ b < a + l.length then l[b - a]'(by omega) else s.byte b := by
  induction l generalizing s a with
  | nil => simp [Act.setBytes]
  | cons v r ih =>
    simp only [Act.setBytes, Act.run_andThen]
    rw [ih]
    by_cases hb : b = a
    · subst hb
      simp
    · by_cases h1 : a + 1 ≤ b ∧ b < a + 1 + r.length
      · have h2 : a ≤ b ∧ b < a + (v :: r).length := by simp only [List.length_cons]; omega
        have e : b - a = (b - (a + 1)) + 1 := by omega
        rw [dif_pos h1, dif_pos h2]
        simp [e]
      · have h2 : ¬(a ≤ b ∧ b < a + (v :: r).length) := by simp only [List.length_cons]; omega
        rw [dif_neg h1, dif_neg h2]
        simp [hb]

/-- A byte outside the bytes written reads as before. -/
theorem State.byte_setBytes_other (s : State) (a b : Nat) (l : List Byte) (h : b < a ∨ a + l.length ≤ b) :
    ((Act.setBytes a l).run s).byte b = s.byte b := by
  rw [State.byte_setBytes, dif_neg (by omega)]

/-- A byte after bytes were set to 0. -/
theorem State.byte_zeroBytes (s : State) (a n b : Nat) :
    ((Act.zeroBytes a n).run s).byte b = if a ≤ b ∧ b < a + n then 0#8 else s.byte b := by
  show Sparse.get memDefault b (Sparse.restrict (fun x => !(a ≤ x && x < a + n)) s.mem) = _
  rw [Sparse.get_restrict]
  by_cases h : a ≤ b ∧ b < a + n
  · simp [h, memDefault]
  · rw [if_neg h, if_pos (by simp; omega)]
    rfl

/-- A write of bytes changes memory and nothing else. -/
theorem Act.setBytes_only (a : Nat) (l : List Byte) (s : State) :
    (Act.setBytes a l).run s = { s with mem := ((Act.setBytes a l).run s).mem } := by
  induction l generalizing s a with
  | nil => rfl
  | cons v r ih =>
    simp only [Act.setBytes, Act.run_andThen]
    rw [ih]
    rfl

/-- Every operation on memory keeps its canonical form: a byte written, bytes written, bytes set to 0. -/
theorem Memory.wf_setByte (s : State) (a : Nat) (v : Byte) (h : Memory.wf s.mem = true) :
    Memory.wf ((Act.setByte a v).run s).mem = true := Sparse.wf_set memDefault a v s.mem h

theorem Memory.wf_setBytes (s : State) (a : Nat) (l : List Byte) (h : Memory.wf s.mem = true) :
    Memory.wf ((Act.setBytes a l).run s).mem = true := by
  induction l generalizing s a with
  | nil => exact h
  | cons v r ih => exact ih _ _ (Memory.wf_setByte s a v h)

theorem Memory.wf_zeroBytes (s : State) (a n : Nat) (h : Memory.wf s.mem = true) :
    Memory.wf ((Act.zeroBytes a n).run s).mem = true := Sparse.wf_restrict memDefault (fun x => !(a ≤ x && x < a + n)) s.mem h

theorem Memory.wf_reset : Memory.wf State.reset.mem = true := rfl

/-- A tag after a tag was given a state. -/
@[simp] theorem State.tagFull_setTag (s : State) (w x : Nat) (b : Bool) :
    ((Act.setTag w b).run s).tagFull x = if x = w then b else s.tagFull x := by
  show Sparse.get tagDefault x (Sparse.set tagDefault w b s.tags) = _
  split
  · rename_i h
    rw [h, Sparse.get_set_same]
  · rename_i h
    exact Sparse.get_set_other tagDefault h b s.tags

end Sys2Proof.Machine
end

