-- ==== Sys2Proof/Laws/Mailbox.lean ====
section
/-!
SUPPORT. What the response to a request leaves, and what it leaves alone.
-/
namespace Sys2Proof.Machine

theorem leBytes_length (n v : Nat) : (leBytes n v).length = n := by
  induction n generalizing v with
  | zero => rfl
  | succ n ih => simp [leBytes, ih]

/-- A response changes memory, the pending bit, what the sources are to be told and what left the ports, nothing else. -/
theorem Act.respondWith_only (m : Fin 16) (cls cmd status flags retry : Nat) (p : List Byte) (s : State) :
    let t := (Act.respondWith m cls cmd status flags retry p).run s
    t = { s with mem := t.mem, csr := t.csr, seq := t.seq, eth := t.eth } := by
  intro t
  have h1 := Act.setBytes_only (respArea m) (leBytes 1 0 ++ leBytes 1 1 ++ leBytes 1 cls ++ leBytes 1 cmd) s
  simp only [t, Act.respondWith, Act.run_get, Act.run_seq_cons, Act.run_seq_nil]
  generalize (Act.setBytes (respArea m) (leBytes 1 0 ++ leBytes 1 1 ++ leBytes 1 cls ++ leBytes 1 cmd)).run s = s1 at *
  have h2 := Act.setBytes_only (respArea m + 8)
    (respHead (kindByte cls cmd status ++ p).length status (flags + if s.toTell (s.mbxSource m) = true then 2 else 0) retry
      (s.nat (reqArea m + 16) 8) ++ (kindByte cls cmd status ++ p)) s1
  generalize (Act.setBytes (respArea m + 8)
    (respHead (kindByte cls cmd status ++ p).length status (flags + if s.toTell (s.mbxSource m) = true then 2 else 0) retry
      (s.nat (reqArea m + 16) 8) ++ (kindByte cls cmd status ++ p))).run s1 = s2 at *
  have h3 := Act.setBytes_only (respArea m + 4) (s.bytes (reqArea m + 4) 4) s2
  generalize (Act.setBytes (respArea m + 4) (s.bytes (reqArea m + 4) 4)).run s2 = s3 at *
  have h4 : s3 = { s with mem := s3.mem } := by
    rw [h3, h2, h1]
  rw [h4]
  simp only [Act.mbxPush, Act.run_get]
  split
  · split <;> rfl
  · rfl

/-- A response leaves every register but MBX_PENDING alone. -/
theorem Act.respondWith_reg (m : Fin 16) (cls cmd status flags retry : Nat) (p : List Byte) (s : State) (k : Nat)
    (hk : k ≠ F.MBX_PENDING.pending.off) :
    ((Act.respondWith m cls cmd status flags retry p).run s).reg k = s.reg k := by
  have h1 := fun a l (s : State) => congrArg (fun t => State.reg t k) (Act.setBytes_only a l s)
  have hb : ∀ a l (s : State), ((Act.setBytes a l).run s).reg k = s.reg k := fun a l s => h1 a l s
  simp only [Act.respondWith, Act.run_get, Act.run_seq_cons, Act.run_seq_nil]
  have hd : ∀ (m : Fin 16) (s : State), ((Act.mbxDone m).run s).reg k = s.reg k := by
    intro m s
    simp [Act.mbxDone, Act.setFBit, hk]
  have ht : ∀ (src : Nat) (s : State), ((Act.tellDone src).run s).reg k = s.reg k := fun _ _ => rfl
  have hp : ∀ (m : Fin 16) (s : State), ((Act.mbxPush m).run s).reg k = s.reg k := by
    intro m s
    simp only [Act.mbxPush, Act.run_get]
    split
    · split <;> rfl
    · rfl
  rw [hp, hd, ht, hb, hb, hb]

/-- A cleared bit is clear. -/
theorem bitOf_clrBit (v i : Nat) : bitOf (clrBit v i) i = false := by
  unfold clrBit
  split
  · rename_i h
    simp only [bitOf, beq_iff_eq] at h
    have hp : 0 < 2 ^ i := Nat.two_pow_pos i
    have hv : 2 ^ i ≤ v := by
      by_contra hc
      rw [Nat.div_eq_of_lt (by omega)] at h
      omega
    have e : (v - 2 ^ i) / 2 ^ i = v / 2 ^ i - 1 := by
      have := Nat.sub_mul_div v (2 ^ i) 1
      simpa using this
    simp only [bitOf, beq_eq_false_iff_ne, ne_eq]
    rw [e]
    omega
  · rename_i h
    simpa using h

/-- A cut to n bits keeps the bits below n. -/
theorem bitOf_mod (v i n : Nat) (h : i < n) : bitOf (v % 2 ^ n) i = bitOf v i := by
  simp only [bitOf]
  congr 1
  obtain ⟨d, rfl⟩ := Nat.exists_eq_add_of_lt h
  rw [show i + d + 1 = i + (d + 1) by omega, Nat.pow_add, Nat.mod_mul_right_div_self, Nat.mod_mod_of_dvd]
  exact ⟨2 ^ d, by rw [Nat.pow_succ]; ring⟩

/-- A response answers the request. -/
theorem Act.respondWith_answered (m : Fin 16) (cls cmd status flags retry : Nat) (p : List Byte) (s : State) :
    Answered s ((Act.respondWith m cls cmd status flags retry p).run s) m cls cmd status := by
  have hpush : ∀ (s : State), ((Act.mbxPush m).run s).mem = s.mem ∧ ((Act.mbxPush m).run s).csr = s.csr := by
    intro s
    simp only [Act.mbxPush, Act.run_get]
    split
    · split <;> exact ⟨rfl, rfl⟩
    · exact ⟨rfl, rfl⟩
  simp only [Act.respondWith, Act.run_get, Act.run_seq_cons, Act.run_seq_nil]
  set fl := flags + if s.toTell (s.mbxSource m) = true then 2 else 0
  set s1 := (Act.setBytes (respArea m) (leBytes 1 0 ++ leBytes 1 1 ++ leBytes 1 cls ++ leBytes 1 cmd)).run s with e1
  set s2 := (Act.setBytes (respArea m + 8) (respHead (kindByte cls cmd status ++ p).length status fl retry (s.nat (reqArea m + 16) 8) ++ (kindByte cls cmd status ++ p))).run s1 with e2
  set s3 := (Act.setBytes (respArea m + 4) (s.bytes (reqArea m + 4) 4)).run s2 with e3
  have hb : ∀ b, ((Act.mbxPush m).run ((Act.mbxDone m).run ((Act.tellDone (s.mbxSource m)).run s3))).byte b = s3.byte b := by
    intro b
    show Sparse.get _ _ _ = _
    rw [(hpush _).1]
    rfl
  have l4 : (s.bytes (reqArea m + 4) 4).length = 4 := by simp [State.bytes]
  have hlen : (leBytes 1 0 ++ leBytes 1 1 ++ leBytes 1 cls ++ leBytes 1 cmd).length = 4 := by simp [leBytes_length]
  refine ⟨?_, ?_, ?_, ?_, ?_⟩
  · rw [hb, e3, State.byte_setBytes_other _ _ _ _ (by omega), e2, State.byte_setBytes_other _ _ _ _ (by omega), e1,
      State.byte_setBytes, dif_pos (by rw [hlen]; omega)]
    simp [leBytes]
  · rw [hb, e3, State.byte_setBytes_other _ _ _ _ (by omega), e2, State.byte_setBytes_other _ _ _ _ (by omega), e1,
      State.byte_setBytes, dif_pos (by rw [hlen]; omega)]
    simp [leBytes]
  · rw [hb, e3, State.byte_setBytes_other _ _ _ _ (by rw [l4]; omega), e2, State.byte_setBytes,
      dif_pos (by simp [respHead, leBytes_length]; omega)]
    simp [respHead, leBytes]
  · intro i hi
    rw [hb, e3, State.byte_setBytes, dif_pos (by rw [l4]; omega)]
    simp [State.bytes]
  · have : ∀ (s : State), bitOf (((Act.mbxDone m).run s).fld F.MBX_PENDING.pending) m = false := by
      intro s
      simp only [Act.mbxDone, Act.setFBit, Act.run_get]
      rw [State.fld_setF_same _ _ _ (by decide) (by decide)]
      show bitOf (clrBit _ m % 2 ^ 16) m = false
      rw [bitOf_mod _ _ _ m.isLt, bitOf_clrBit]
    show bitOf (fldOf (Sparse.get _ _ _) _ _) _ = _
    rw [(hpush _).2]
    exact this _
end Sys2Proof.Machine
end

