-- ==== Sys2Proof/Laws/State.lean ====
section
/-!
SUPPORT. What each change of the state leaves alone, field by field, and what each change of a part of it is.
-/
namespace Sys2Proof.Machine

variable (s : State)

/-! ## Act.setReg -/

@[simp] theorem Act.setReg_powered (k : Nat) (v : W32) : ((Act.setReg k v).run s).powered = s.powered := rfl
@[simp] theorem Act.setReg_mem (k : Nat) (v : W32) : ((Act.setReg k v).run s).mem = s.mem := rfl
@[simp] theorem Act.setReg_tags (k : Nat) (v : W32) : ((Act.setReg k v).run s).tags = s.tags := rfl
@[simp] theorem Act.setReg_free (k : Nat) (v : W32) : ((Act.setReg k v).run s).free = s.free := rfl
@[simp] theorem Act.setReg_waitSeq (k : Nat) (v : W32) : ((Act.setReg k v).run s).waitSeq = s.waitSeq := rfl
@[simp] theorem Act.setReg_tns (k : Nat) (v : W32) : ((Act.setReg k v).run s).tns = s.tns := rfl
@[simp] theorem Act.setReg_cores (k : Nat) (v : W32) : ((Act.setReg k v).run s).cores = s.cores := rfl
@[simp] theorem Act.setReg_threads (k : Nat) (v : W32) : ((Act.setReg k v).run s).threads = s.threads := rfl
@[simp] theorem Act.setReg_jobs (k : Nat) (v : W32) : ((Act.setReg k v).run s).jobs = s.jobs := rfl
@[simp] theorem Act.setReg_tiles (k : Nat) (v : W32) : ((Act.setReg k v).run s).tiles = s.tiles := rfl
@[simp] theorem Act.setReg_jobSeq (k : Nat) (v : W32) : ((Act.setReg k v).run s).jobSeq = s.jobSeq := rfl
@[simp] theorem Act.setReg_evr (k : Nat) (v : W32) : ((Act.setReg k v).run s).evr = s.evr := rfl
@[simp] theorem Act.setReg_objs (k : Nat) (v : W32) : ((Act.setReg k v).run s).objs = s.objs := rfl
@[simp] theorem Act.setReg_lines (k : Nat) (v : W32) : ((Act.setReg k v).run s).lines = s.lines := rfl
@[simp] theorem Act.setReg_grps (k : Nat) (v : W32) : ((Act.setReg k v).run s).grps = s.grps := rfl
@[simp] theorem Act.setReg_agrOut (k : Nat) (v : W32) : ((Act.setReg k v).run s).agrOut = s.agrOut := rfl
@[simp] theorem Act.setReg_dumpWin (k : Nat) (v : W32) : ((Act.setReg k v).run s).dumpWin = s.dumpWin := rfl
@[simp] theorem Act.setReg_dumpNext (k : Nat) (v : W32) : ((Act.setReg k v).run s).dumpNext = s.dumpNext := rfl
@[simp] theorem Act.setReg_targets (k : Nat) (v : W32) : ((Act.setReg k v).run s).targets = s.targets := rfl
@[simp] theorem Act.setReg_doms (k : Nat) (v : W32) : ((Act.setReg k v).run s).doms = s.doms := rfl
@[simp] theorem Act.setReg_seq (k : Nat) (v : W32) : ((Act.setReg k v).run s).seq = s.seq := rfl
@[simp] theorem Act.setReg_haltTimes (k : Nat) (v : W32) : ((Act.setReg k v).run s).haltTimes = s.haltTimes := rfl
@[simp] theorem Act.setReg_links (k : Nat) (v : W32) : ((Act.setReg k v).run s).links = s.links := rfl
@[simp] theorem Act.setReg_role (k : Nat) (v : W32) : ((Act.setReg k v).run s).role = s.role := rfl
@[simp] theorem Act.setReg_pins (k : Nat) (v : W32) : ((Act.setReg k v).run s).pins = s.pins := rfl
@[simp] theorem Act.setReg_caps (k : Nat) (v : W32) : ((Act.setReg k v).run s).caps = s.caps := rfl
@[simp] theorem Act.setReg_ramps (k : Nat) (v : W32) : ((Act.setReg k v).run s).ramps = s.ramps := rfl
@[simp] theorem Act.setReg_conv (k : Nat) (v : W32) : ((Act.setReg k v).run s).conv = s.conv := rfl
@[simp] theorem Act.setReg_sns (k : Nat) (v : W32) : ((Act.setReg k v).run s).sns = s.sns := rfl
@[simp] theorem Act.setReg_thm (k : Nat) (v : W32) : ((Act.setReg k v).run s).thm = s.thm := rfl
@[simp] theorem Act.setReg_per (k : Nat) (v : W32) : ((Act.setReg k v).run s).per = s.per := rfl
@[simp] theorem Act.setReg_ropes (k : Nat) (v : W32) : ((Act.setReg k v).run s).ropes = s.ropes := rfl
@[simp] theorem Act.setReg_quaFrac (k : Nat) (v : W32) : ((Act.setReg k v).run s).quaFrac = s.quaFrac := rfl
@[simp] theorem Act.setReg_rst (k : Nat) (v : W32) : ((Act.setReg k v).run s).rst = s.rst := rfl
@[simp] theorem Act.setReg_inv (k : Nat) (v : W32) : ((Act.setReg k v).run s).inv = s.inv := rfl
@[simp] theorem Act.setReg_repair (k : Nat) (v : W32) : ((Act.setReg k v).run s).repair = s.repair := rfl
@[simp] theorem Act.setReg_eth (k : Nat) (v : W32) : ((Act.setReg k v).run s).eth = s.eth := rfl
@[simp] theorem Act.setReg_fuses (k : Nat) (v : W32) : ((Act.setReg k v).run s).fuses = s.fuses := rfl
@[simp] theorem Act.setReg_sec (k : Nat) (v : W32) : ((Act.setReg k v).run s).sec = s.sec := rfl
@[simp] theorem Act.setReg_boot (k : Nat) (v : W32) : ((Act.setReg k v).run s).boot = s.boot := rfl
@[simp] theorem Act.setReg_flash (k : Nat) (v : W32) : ((Act.setReg k v).run s).flash = s.flash := rfl
@[simp] theorem Act.setReg_its (k : Nat) (v : W32) : ((Act.setReg k v).run s).its = s.its := rfl
@[simp] theorem Act.setReg_clauses (k : Nat) (v : W32) : ((Act.setReg k v).run s).clauses = s.clauses := rfl
@[simp] theorem Act.setReg_learned (k : Nat) (v : W32) : ((Act.setReg k v).run s).learned = s.learned := rfl
@[simp] theorem Act.setReg_tap (k : Nat) (v : W32) : ((Act.setReg k v).run s).tap = s.tap := rfl

/-! ## Act.restrictRegs -/

@[simp] theorem Act.restrictRegs_powered (f : Nat → Bool) : ((Act.restrictRegs f).run s).powered = s.powered := rfl
@[simp] theorem Act.restrictRegs_mem (f : Nat → Bool) : ((Act.restrictRegs f).run s).mem = s.mem := rfl
@[simp] theorem Act.restrictRegs_tags (f : Nat → Bool) : ((Act.restrictRegs f).run s).tags = s.tags := rfl
@[simp] theorem Act.restrictRegs_free (f : Nat → Bool) : ((Act.restrictRegs f).run s).free = s.free := rfl
@[simp] theorem Act.restrictRegs_waitSeq (f : Nat → Bool) : ((Act.restrictRegs f).run s).waitSeq = s.waitSeq := rfl
@[simp] theorem Act.restrictRegs_tns (f : Nat → Bool) : ((Act.restrictRegs f).run s).tns = s.tns := rfl
@[simp] theorem Act.restrictRegs_cores (f : Nat → Bool) : ((Act.restrictRegs f).run s).cores = s.cores := rfl
@[simp] theorem Act.restrictRegs_threads (f : Nat → Bool) : ((Act.restrictRegs f).run s).threads = s.threads := rfl
@[simp] theorem Act.restrictRegs_jobs (f : Nat → Bool) : ((Act.restrictRegs f).run s).jobs = s.jobs := rfl
@[simp] theorem Act.restrictRegs_tiles (f : Nat → Bool) : ((Act.restrictRegs f).run s).tiles = s.tiles := rfl
@[simp] theorem Act.restrictRegs_jobSeq (f : Nat → Bool) : ((Act.restrictRegs f).run s).jobSeq = s.jobSeq := rfl
@[simp] theorem Act.restrictRegs_evr (f : Nat → Bool) : ((Act.restrictRegs f).run s).evr = s.evr := rfl
@[simp] theorem Act.restrictRegs_objs (f : Nat → Bool) : ((Act.restrictRegs f).run s).objs = s.objs := rfl
@[simp] theorem Act.restrictRegs_lines (f : Nat → Bool) : ((Act.restrictRegs f).run s).lines = s.lines := rfl
@[simp] theorem Act.restrictRegs_grps (f : Nat → Bool) : ((Act.restrictRegs f).run s).grps = s.grps := rfl
@[simp] theorem Act.restrictRegs_agrOut (f : Nat → Bool) : ((Act.restrictRegs f).run s).agrOut = s.agrOut := rfl
@[simp] theorem Act.restrictRegs_dumpWin (f : Nat → Bool) : ((Act.restrictRegs f).run s).dumpWin = s.dumpWin := rfl
@[simp] theorem Act.restrictRegs_dumpNext (f : Nat → Bool) : ((Act.restrictRegs f).run s).dumpNext = s.dumpNext := rfl
@[simp] theorem Act.restrictRegs_targets (f : Nat → Bool) : ((Act.restrictRegs f).run s).targets = s.targets := rfl
@[simp] theorem Act.restrictRegs_doms (f : Nat → Bool) : ((Act.restrictRegs f).run s).doms = s.doms := rfl
@[simp] theorem Act.restrictRegs_seq (f : Nat → Bool) : ((Act.restrictRegs f).run s).seq = s.seq := rfl
@[simp] theorem Act.restrictRegs_haltTimes (f : Nat → Bool) : ((Act.restrictRegs f).run s).haltTimes = s.haltTimes := rfl
@[simp] theorem Act.restrictRegs_links (f : Nat → Bool) : ((Act.restrictRegs f).run s).links = s.links := rfl
@[simp] theorem Act.restrictRegs_role (f : Nat → Bool) : ((Act.restrictRegs f).run s).role = s.role := rfl
@[simp] theorem Act.restrictRegs_pins (f : Nat → Bool) : ((Act.restrictRegs f).run s).pins = s.pins := rfl
@[simp] theorem Act.restrictRegs_caps (f : Nat → Bool) : ((Act.restrictRegs f).run s).caps = s.caps := rfl
@[simp] theorem Act.restrictRegs_ramps (f : Nat → Bool) : ((Act.restrictRegs f).run s).ramps = s.ramps := rfl
@[simp] theorem Act.restrictRegs_conv (f : Nat → Bool) : ((Act.restrictRegs f).run s).conv = s.conv := rfl
@[simp] theorem Act.restrictRegs_sns (f : Nat → Bool) : ((Act.restrictRegs f).run s).sns = s.sns := rfl
@[simp] theorem Act.restrictRegs_thm (f : Nat → Bool) : ((Act.restrictRegs f).run s).thm = s.thm := rfl
@[simp] theorem Act.restrictRegs_per (f : Nat → Bool) : ((Act.restrictRegs f).run s).per = s.per := rfl
@[simp] theorem Act.restrictRegs_ropes (f : Nat → Bool) : ((Act.restrictRegs f).run s).ropes = s.ropes := rfl
@[simp] theorem Act.restrictRegs_quaFrac (f : Nat → Bool) : ((Act.restrictRegs f).run s).quaFrac = s.quaFrac := rfl
@[simp] theorem Act.restrictRegs_rst (f : Nat → Bool) : ((Act.restrictRegs f).run s).rst = s.rst := rfl
@[simp] theorem Act.restrictRegs_inv (f : Nat → Bool) : ((Act.restrictRegs f).run s).inv = s.inv := rfl
@[simp] theorem Act.restrictRegs_repair (f : Nat → Bool) : ((Act.restrictRegs f).run s).repair = s.repair := rfl
@[simp] theorem Act.restrictRegs_eth (f : Nat → Bool) : ((Act.restrictRegs f).run s).eth = s.eth := rfl
@[simp] theorem Act.restrictRegs_fuses (f : Nat → Bool) : ((Act.restrictRegs f).run s).fuses = s.fuses := rfl
@[simp] theorem Act.restrictRegs_sec (f : Nat → Bool) : ((Act.restrictRegs f).run s).sec = s.sec := rfl
@[simp] theorem Act.restrictRegs_boot (f : Nat → Bool) : ((Act.restrictRegs f).run s).boot = s.boot := rfl
@[simp] theorem Act.restrictRegs_flash (f : Nat → Bool) : ((Act.restrictRegs f).run s).flash = s.flash := rfl
@[simp] theorem Act.restrictRegs_its (f : Nat → Bool) : ((Act.restrictRegs f).run s).its = s.its := rfl
@[simp] theorem Act.restrictRegs_clauses (f : Nat → Bool) : ((Act.restrictRegs f).run s).clauses = s.clauses := rfl
@[simp] theorem Act.restrictRegs_learned (f : Nat → Bool) : ((Act.restrictRegs f).run s).learned = s.learned := rfl
@[simp] theorem Act.restrictRegs_tap (f : Nat → Bool) : ((Act.restrictRegs f).run s).tap = s.tap := rfl

/-! ## Act.setByte -/

@[simp] theorem Act.setByte_powered (a : Nat) (v : Byte) : ((Act.setByte a v).run s).powered = s.powered := rfl
@[simp] theorem Act.setByte_csr (a : Nat) (v : Byte) : ((Act.setByte a v).run s).csr = s.csr := rfl
@[simp] theorem Act.setByte_tags (a : Nat) (v : Byte) : ((Act.setByte a v).run s).tags = s.tags := rfl
@[simp] theorem Act.setByte_free (a : Nat) (v : Byte) : ((Act.setByte a v).run s).free = s.free := rfl
@[simp] theorem Act.setByte_waitSeq (a : Nat) (v : Byte) : ((Act.setByte a v).run s).waitSeq = s.waitSeq := rfl
@[simp] theorem Act.setByte_tns (a : Nat) (v : Byte) : ((Act.setByte a v).run s).tns = s.tns := rfl
@[simp] theorem Act.setByte_cores (a : Nat) (v : Byte) : ((Act.setByte a v).run s).cores = s.cores := rfl
@[simp] theorem Act.setByte_threads (a : Nat) (v : Byte) : ((Act.setByte a v).run s).threads = s.threads := rfl
@[simp] theorem Act.setByte_jobs (a : Nat) (v : Byte) : ((Act.setByte a v).run s).jobs = s.jobs := rfl
@[simp] theorem Act.setByte_tiles (a : Nat) (v : Byte) : ((Act.setByte a v).run s).tiles = s.tiles := rfl
@[simp] theorem Act.setByte_jobSeq (a : Nat) (v : Byte) : ((Act.setByte a v).run s).jobSeq = s.jobSeq := rfl
@[simp] theorem Act.setByte_evr (a : Nat) (v : Byte) : ((Act.setByte a v).run s).evr = s.evr := rfl
@[simp] theorem Act.setByte_objs (a : Nat) (v : Byte) : ((Act.setByte a v).run s).objs = s.objs := rfl
@[simp] theorem Act.setByte_lines (a : Nat) (v : Byte) : ((Act.setByte a v).run s).lines = s.lines := rfl
@[simp] theorem Act.setByte_grps (a : Nat) (v : Byte) : ((Act.setByte a v).run s).grps = s.grps := rfl
@[simp] theorem Act.setByte_agrOut (a : Nat) (v : Byte) : ((Act.setByte a v).run s).agrOut = s.agrOut := rfl
@[simp] theorem Act.setByte_dumpWin (a : Nat) (v : Byte) : ((Act.setByte a v).run s).dumpWin = s.dumpWin := rfl
@[simp] theorem Act.setByte_dumpNext (a : Nat) (v : Byte) : ((Act.setByte a v).run s).dumpNext = s.dumpNext := rfl
@[simp] theorem Act.setByte_targets (a : Nat) (v : Byte) : ((Act.setByte a v).run s).targets = s.targets := rfl
@[simp] theorem Act.setByte_doms (a : Nat) (v : Byte) : ((Act.setByte a v).run s).doms = s.doms := rfl
@[simp] theorem Act.setByte_seq (a : Nat) (v : Byte) : ((Act.setByte a v).run s).seq = s.seq := rfl
@[simp] theorem Act.setByte_haltTimes (a : Nat) (v : Byte) : ((Act.setByte a v).run s).haltTimes = s.haltTimes := rfl
@[simp] theorem Act.setByte_links (a : Nat) (v : Byte) : ((Act.setByte a v).run s).links = s.links := rfl
@[simp] theorem Act.setByte_role (a : Nat) (v : Byte) : ((Act.setByte a v).run s).role = s.role := rfl
@[simp] theorem Act.setByte_pins (a : Nat) (v : Byte) : ((Act.setByte a v).run s).pins = s.pins := rfl
@[simp] theorem Act.setByte_caps (a : Nat) (v : Byte) : ((Act.setByte a v).run s).caps = s.caps := rfl
@[simp] theorem Act.setByte_ramps (a : Nat) (v : Byte) : ((Act.setByte a v).run s).ramps = s.ramps := rfl
@[simp] theorem Act.setByte_conv (a : Nat) (v : Byte) : ((Act.setByte a v).run s).conv = s.conv := rfl
@[simp] theorem Act.setByte_sns (a : Nat) (v : Byte) : ((Act.setByte a v).run s).sns = s.sns := rfl
@[simp] theorem Act.setByte_thm (a : Nat) (v : Byte) : ((Act.setByte a v).run s).thm = s.thm := rfl
@[simp] theorem Act.setByte_per (a : Nat) (v : Byte) : ((Act.setByte a v).run s).per = s.per := rfl
@[simp] theorem Act.setByte_ropes (a : Nat) (v : Byte) : ((Act.setByte a v).run s).ropes = s.ropes := rfl
@[simp] theorem Act.setByte_quaFrac (a : Nat) (v : Byte) : ((Act.setByte a v).run s).quaFrac = s.quaFrac := rfl
@[simp] theorem Act.setByte_rst (a : Nat) (v : Byte) : ((Act.setByte a v).run s).rst = s.rst := rfl
@[simp] theorem Act.setByte_inv (a : Nat) (v : Byte) : ((Act.setByte a v).run s).inv = s.inv := rfl
@[simp] theorem Act.setByte_repair (a : Nat) (v : Byte) : ((Act.setByte a v).run s).repair = s.repair := rfl
@[simp] theorem Act.setByte_eth (a : Nat) (v : Byte) : ((Act.setByte a v).run s).eth = s.eth := rfl
@[simp] theorem Act.setByte_fuses (a : Nat) (v : Byte) : ((Act.setByte a v).run s).fuses = s.fuses := rfl
@[simp] theorem Act.setByte_sec (a : Nat) (v : Byte) : ((Act.setByte a v).run s).sec = s.sec := rfl
@[simp] theorem Act.setByte_boot (a : Nat) (v : Byte) : ((Act.setByte a v).run s).boot = s.boot := rfl
@[simp] theorem Act.setByte_flash (a : Nat) (v : Byte) : ((Act.setByte a v).run s).flash = s.flash := rfl
@[simp] theorem Act.setByte_its (a : Nat) (v : Byte) : ((Act.setByte a v).run s).its = s.its := rfl
@[simp] theorem Act.setByte_clauses (a : Nat) (v : Byte) : ((Act.setByte a v).run s).clauses = s.clauses := rfl
@[simp] theorem Act.setByte_learned (a : Nat) (v : Byte) : ((Act.setByte a v).run s).learned = s.learned := rfl
@[simp] theorem Act.setByte_tap (a : Nat) (v : Byte) : ((Act.setByte a v).run s).tap = s.tap := rfl

/-! ## Act.zeroBytes -/

@[simp] theorem Act.zeroBytes_powered (a n : Nat) : ((Act.zeroBytes a n).run s).powered = s.powered := rfl
@[simp] theorem Act.zeroBytes_csr (a n : Nat) : ((Act.zeroBytes a n).run s).csr = s.csr := rfl
@[simp] theorem Act.zeroBytes_tags (a n : Nat) : ((Act.zeroBytes a n).run s).tags = s.tags := rfl
@[simp] theorem Act.zeroBytes_free (a n : Nat) : ((Act.zeroBytes a n).run s).free = s.free := rfl
@[simp] theorem Act.zeroBytes_waitSeq (a n : Nat) : ((Act.zeroBytes a n).run s).waitSeq = s.waitSeq := rfl
@[simp] theorem Act.zeroBytes_tns (a n : Nat) : ((Act.zeroBytes a n).run s).tns = s.tns := rfl
@[simp] theorem Act.zeroBytes_cores (a n : Nat) : ((Act.zeroBytes a n).run s).cores = s.cores := rfl
@[simp] theorem Act.zeroBytes_threads (a n : Nat) : ((Act.zeroBytes a n).run s).threads = s.threads := rfl
@[simp] theorem Act.zeroBytes_jobs (a n : Nat) : ((Act.zeroBytes a n).run s).jobs = s.jobs := rfl
@[simp] theorem Act.zeroBytes_tiles (a n : Nat) : ((Act.zeroBytes a n).run s).tiles = s.tiles := rfl
@[simp] theorem Act.zeroBytes_jobSeq (a n : Nat) : ((Act.zeroBytes a n).run s).jobSeq = s.jobSeq := rfl
@[simp] theorem Act.zeroBytes_evr (a n : Nat) : ((Act.zeroBytes a n).run s).evr = s.evr := rfl
@[simp] theorem Act.zeroBytes_objs (a n : Nat) : ((Act.zeroBytes a n).run s).objs = s.objs := rfl
@[simp] theorem Act.zeroBytes_lines (a n : Nat) : ((Act.zeroBytes a n).run s).lines = s.lines := rfl
@[simp] theorem Act.zeroBytes_grps (a n : Nat) : ((Act.zeroBytes a n).run s).grps = s.grps := rfl
@[simp] theorem Act.zeroBytes_agrOut (a n : Nat) : ((Act.zeroBytes a n).run s).agrOut = s.agrOut := rfl
@[simp] theorem Act.zeroBytes_dumpWin (a n : Nat) : ((Act.zeroBytes a n).run s).dumpWin = s.dumpWin := rfl
@[simp] theorem Act.zeroBytes_dumpNext (a n : Nat) : ((Act.zeroBytes a n).run s).dumpNext = s.dumpNext := rfl
@[simp] theorem Act.zeroBytes_targets (a n : Nat) : ((Act.zeroBytes a n).run s).targets = s.targets := rfl
@[simp] theorem Act.zeroBytes_doms (a n : Nat) : ((Act.zeroBytes a n).run s).doms = s.doms := rfl
@[simp] theorem Act.zeroBytes_seq (a n : Nat) : ((Act.zeroBytes a n).run s).seq = s.seq := rfl
@[simp] theorem Act.zeroBytes_haltTimes (a n : Nat) : ((Act.zeroBytes a n).run s).haltTimes = s.haltTimes := rfl
@[simp] theorem Act.zeroBytes_links (a n : Nat) : ((Act.zeroBytes a n).run s).links = s.links := rfl
@[simp] theorem Act.zeroBytes_role (a n : Nat) : ((Act.zeroBytes a n).run s).role = s.role := rfl
@[simp] theorem Act.zeroBytes_pins (a n : Nat) : ((Act.zeroBytes a n).run s).pins = s.pins := rfl
@[simp] theorem Act.zeroBytes_caps (a n : Nat) : ((Act.zeroBytes a n).run s).caps = s.caps := rfl
@[simp] theorem Act.zeroBytes_ramps (a n : Nat) : ((Act.zeroBytes a n).run s).ramps = s.ramps := rfl
@[simp] theorem Act.zeroBytes_conv (a n : Nat) : ((Act.zeroBytes a n).run s).conv = s.conv := rfl
@[simp] theorem Act.zeroBytes_sns (a n : Nat) : ((Act.zeroBytes a n).run s).sns = s.sns := rfl
@[simp] theorem Act.zeroBytes_thm (a n : Nat) : ((Act.zeroBytes a n).run s).thm = s.thm := rfl
@[simp] theorem Act.zeroBytes_per (a n : Nat) : ((Act.zeroBytes a n).run s).per = s.per := rfl
@[simp] theorem Act.zeroBytes_ropes (a n : Nat) : ((Act.zeroBytes a n).run s).ropes = s.ropes := rfl
@[simp] theorem Act.zeroBytes_quaFrac (a n : Nat) : ((Act.zeroBytes a n).run s).quaFrac = s.quaFrac := rfl
@[simp] theorem Act.zeroBytes_rst (a n : Nat) : ((Act.zeroBytes a n).run s).rst = s.rst := rfl
@[simp] theorem Act.zeroBytes_inv (a n : Nat) : ((Act.zeroBytes a n).run s).inv = s.inv := rfl
@[simp] theorem Act.zeroBytes_repair (a n : Nat) : ((Act.zeroBytes a n).run s).repair = s.repair := rfl
@[simp] theorem Act.zeroBytes_eth (a n : Nat) : ((Act.zeroBytes a n).run s).eth = s.eth := rfl
@[simp] theorem Act.zeroBytes_fuses (a n : Nat) : ((Act.zeroBytes a n).run s).fuses = s.fuses := rfl
@[simp] theorem Act.zeroBytes_sec (a n : Nat) : ((Act.zeroBytes a n).run s).sec = s.sec := rfl
@[simp] theorem Act.zeroBytes_boot (a n : Nat) : ((Act.zeroBytes a n).run s).boot = s.boot := rfl
@[simp] theorem Act.zeroBytes_flash (a n : Nat) : ((Act.zeroBytes a n).run s).flash = s.flash := rfl
@[simp] theorem Act.zeroBytes_its (a n : Nat) : ((Act.zeroBytes a n).run s).its = s.its := rfl
@[simp] theorem Act.zeroBytes_clauses (a n : Nat) : ((Act.zeroBytes a n).run s).clauses = s.clauses := rfl
@[simp] theorem Act.zeroBytes_learned (a n : Nat) : ((Act.zeroBytes a n).run s).learned = s.learned := rfl
@[simp] theorem Act.zeroBytes_tap (a n : Nat) : ((Act.zeroBytes a n).run s).tap = s.tap := rfl

/-! ## Act.setTag -/

@[simp] theorem Act.setTag_powered (w : Nat) (b : Bool) : ((Act.setTag w b).run s).powered = s.powered := rfl
@[simp] theorem Act.setTag_csr (w : Nat) (b : Bool) : ((Act.setTag w b).run s).csr = s.csr := rfl
@[simp] theorem Act.setTag_mem (w : Nat) (b : Bool) : ((Act.setTag w b).run s).mem = s.mem := rfl
@[simp] theorem Act.setTag_free (w : Nat) (b : Bool) : ((Act.setTag w b).run s).free = s.free := rfl
@[simp] theorem Act.setTag_waitSeq (w : Nat) (b : Bool) : ((Act.setTag w b).run s).waitSeq = s.waitSeq := rfl
@[simp] theorem Act.setTag_tns (w : Nat) (b : Bool) : ((Act.setTag w b).run s).tns = s.tns := rfl
@[simp] theorem Act.setTag_cores (w : Nat) (b : Bool) : ((Act.setTag w b).run s).cores = s.cores := rfl
@[simp] theorem Act.setTag_threads (w : Nat) (b : Bool) : ((Act.setTag w b).run s).threads = s.threads := rfl
@[simp] theorem Act.setTag_jobs (w : Nat) (b : Bool) : ((Act.setTag w b).run s).jobs = s.jobs := rfl
@[simp] theorem Act.setTag_tiles (w : Nat) (b : Bool) : ((Act.setTag w b).run s).tiles = s.tiles := rfl
@[simp] theorem Act.setTag_jobSeq (w : Nat) (b : Bool) : ((Act.setTag w b).run s).jobSeq = s.jobSeq := rfl
@[simp] theorem Act.setTag_evr (w : Nat) (b : Bool) : ((Act.setTag w b).run s).evr = s.evr := rfl
@[simp] theorem Act.setTag_objs (w : Nat) (b : Bool) : ((Act.setTag w b).run s).objs = s.objs := rfl
@[simp] theorem Act.setTag_lines (w : Nat) (b : Bool) : ((Act.setTag w b).run s).lines = s.lines := rfl
@[simp] theorem Act.setTag_grps (w : Nat) (b : Bool) : ((Act.setTag w b).run s).grps = s.grps := rfl
@[simp] theorem Act.setTag_agrOut (w : Nat) (b : Bool) : ((Act.setTag w b).run s).agrOut = s.agrOut := rfl
@[simp] theorem Act.setTag_dumpWin (w : Nat) (b : Bool) : ((Act.setTag w b).run s).dumpWin = s.dumpWin := rfl
@[simp] theorem Act.setTag_dumpNext (w : Nat) (b : Bool) : ((Act.setTag w b).run s).dumpNext = s.dumpNext := rfl
@[simp] theorem Act.setTag_targets (w : Nat) (b : Bool) : ((Act.setTag w b).run s).targets = s.targets := rfl
@[simp] theorem Act.setTag_doms (w : Nat) (b : Bool) : ((Act.setTag w b).run s).doms = s.doms := rfl
@[simp] theorem Act.setTag_seq (w : Nat) (b : Bool) : ((Act.setTag w b).run s).seq = s.seq := rfl
@[simp] theorem Act.setTag_haltTimes (w : Nat) (b : Bool) : ((Act.setTag w b).run s).haltTimes = s.haltTimes := rfl
@[simp] theorem Act.setTag_links (w : Nat) (b : Bool) : ((Act.setTag w b).run s).links = s.links := rfl
@[simp] theorem Act.setTag_role (w : Nat) (b : Bool) : ((Act.setTag w b).run s).role = s.role := rfl
@[simp] theorem Act.setTag_pins (w : Nat) (b : Bool) : ((Act.setTag w b).run s).pins = s.pins := rfl
@[simp] theorem Act.setTag_caps (w : Nat) (b : Bool) : ((Act.setTag w b).run s).caps = s.caps := rfl
@[simp] theorem Act.setTag_ramps (w : Nat) (b : Bool) : ((Act.setTag w b).run s).ramps = s.ramps := rfl
@[simp] theorem Act.setTag_conv (w : Nat) (b : Bool) : ((Act.setTag w b).run s).conv = s.conv := rfl
@[simp] theorem Act.setTag_sns (w : Nat) (b : Bool) : ((Act.setTag w b).run s).sns = s.sns := rfl
@[simp] theorem Act.setTag_thm (w : Nat) (b : Bool) : ((Act.setTag w b).run s).thm = s.thm := rfl
@[simp] theorem Act.setTag_per (w : Nat) (b : Bool) : ((Act.setTag w b).run s).per = s.per := rfl
@[simp] theorem Act.setTag_ropes (w : Nat) (b : Bool) : ((Act.setTag w b).run s).ropes = s.ropes := rfl
@[simp] theorem Act.setTag_quaFrac (w : Nat) (b : Bool) : ((Act.setTag w b).run s).quaFrac = s.quaFrac := rfl
@[simp] theorem Act.setTag_rst (w : Nat) (b : Bool) : ((Act.setTag w b).run s).rst = s.rst := rfl
@[simp] theorem Act.setTag_inv (w : Nat) (b : Bool) : ((Act.setTag w b).run s).inv = s.inv := rfl
@[simp] theorem Act.setTag_repair (w : Nat) (b : Bool) : ((Act.setTag w b).run s).repair = s.repair := rfl
@[simp] theorem Act.setTag_eth (w : Nat) (b : Bool) : ((Act.setTag w b).run s).eth = s.eth := rfl
@[simp] theorem Act.setTag_fuses (w : Nat) (b : Bool) : ((Act.setTag w b).run s).fuses = s.fuses := rfl
@[simp] theorem Act.setTag_sec (w : Nat) (b : Bool) : ((Act.setTag w b).run s).sec = s.sec := rfl
@[simp] theorem Act.setTag_boot (w : Nat) (b : Bool) : ((Act.setTag w b).run s).boot = s.boot := rfl
@[simp] theorem Act.setTag_flash (w : Nat) (b : Bool) : ((Act.setTag w b).run s).flash = s.flash := rfl
@[simp] theorem Act.setTag_its (w : Nat) (b : Bool) : ((Act.setTag w b).run s).its = s.its := rfl
@[simp] theorem Act.setTag_clauses (w : Nat) (b : Bool) : ((Act.setTag w b).run s).clauses = s.clauses := rfl
@[simp] theorem Act.setTag_learned (w : Nat) (b : Bool) : ((Act.setTag w b).run s).learned = s.learned := rfl
@[simp] theorem Act.setTag_tap (w : Nat) (b : Bool) : ((Act.setTag w b).run s).tap = s.tap := rfl

/-! ## Act.putCore -/

@[simp] theorem Act.putCore_powered (k : Fin 13) (f : Core → Core) (hf : ∀ c, coreOk k c → coreOk k (f c)) : ((Act.putCore k f hf).run s).powered = s.powered := rfl
@[simp] theorem Act.putCore_csr (k : Fin 13) (f : Core → Core) (hf : ∀ c, coreOk k c → coreOk k (f c)) : ((Act.putCore k f hf).run s).csr = s.csr := rfl
@[simp] theorem Act.putCore_mem (k : Fin 13) (f : Core → Core) (hf : ∀ c, coreOk k c → coreOk k (f c)) : ((Act.putCore k f hf).run s).mem = s.mem := rfl
@[simp] theorem Act.putCore_tags (k : Fin 13) (f : Core → Core) (hf : ∀ c, coreOk k c → coreOk k (f c)) : ((Act.putCore k f hf).run s).tags = s.tags := rfl
@[simp] theorem Act.putCore_free (k : Fin 13) (f : Core → Core) (hf : ∀ c, coreOk k c → coreOk k (f c)) : ((Act.putCore k f hf).run s).free = s.free := rfl
@[simp] theorem Act.putCore_waitSeq (k : Fin 13) (f : Core → Core) (hf : ∀ c, coreOk k c → coreOk k (f c)) : ((Act.putCore k f hf).run s).waitSeq = s.waitSeq := rfl
@[simp] theorem Act.putCore_tns (k : Fin 13) (f : Core → Core) (hf : ∀ c, coreOk k c → coreOk k (f c)) : ((Act.putCore k f hf).run s).tns = s.tns := rfl
@[simp] theorem Act.putCore_threads (k : Fin 13) (f : Core → Core) (hf : ∀ c, coreOk k c → coreOk k (f c)) : ((Act.putCore k f hf).run s).threads = s.threads := rfl
@[simp] theorem Act.putCore_jobs (k : Fin 13) (f : Core → Core) (hf : ∀ c, coreOk k c → coreOk k (f c)) : ((Act.putCore k f hf).run s).jobs = s.jobs := rfl
@[simp] theorem Act.putCore_tiles (k : Fin 13) (f : Core → Core) (hf : ∀ c, coreOk k c → coreOk k (f c)) : ((Act.putCore k f hf).run s).tiles = s.tiles := rfl
@[simp] theorem Act.putCore_jobSeq (k : Fin 13) (f : Core → Core) (hf : ∀ c, coreOk k c → coreOk k (f c)) : ((Act.putCore k f hf).run s).jobSeq = s.jobSeq := rfl
@[simp] theorem Act.putCore_evr (k : Fin 13) (f : Core → Core) (hf : ∀ c, coreOk k c → coreOk k (f c)) : ((Act.putCore k f hf).run s).evr = s.evr := rfl
@[simp] theorem Act.putCore_objs (k : Fin 13) (f : Core → Core) (hf : ∀ c, coreOk k c → coreOk k (f c)) : ((Act.putCore k f hf).run s).objs = s.objs := rfl
@[simp] theorem Act.putCore_lines (k : Fin 13) (f : Core → Core) (hf : ∀ c, coreOk k c → coreOk k (f c)) : ((Act.putCore k f hf).run s).lines = s.lines := rfl
@[simp] theorem Act.putCore_grps (k : Fin 13) (f : Core → Core) (hf : ∀ c, coreOk k c → coreOk k (f c)) : ((Act.putCore k f hf).run s).grps = s.grps := rfl
@[simp] theorem Act.putCore_agrOut (k : Fin 13) (f : Core → Core) (hf : ∀ c, coreOk k c → coreOk k (f c)) : ((Act.putCore k f hf).run s).agrOut = s.agrOut := rfl
@[simp] theorem Act.putCore_dumpWin (k : Fin 13) (f : Core → Core) (hf : ∀ c, coreOk k c → coreOk k (f c)) : ((Act.putCore k f hf).run s).dumpWin = s.dumpWin := rfl
@[simp] theorem Act.putCore_dumpNext (k : Fin 13) (f : Core → Core) (hf : ∀ c, coreOk k c → coreOk k (f c)) : ((Act.putCore k f hf).run s).dumpNext = s.dumpNext := rfl
@[simp] theorem Act.putCore_targets (k : Fin 13) (f : Core → Core) (hf : ∀ c, coreOk k c → coreOk k (f c)) : ((Act.putCore k f hf).run s).targets = s.targets := rfl
@[simp] theorem Act.putCore_doms (k : Fin 13) (f : Core → Core) (hf : ∀ c, coreOk k c → coreOk k (f c)) : ((Act.putCore k f hf).run s).doms = s.doms := rfl
@[simp] theorem Act.putCore_seq (k : Fin 13) (f : Core → Core) (hf : ∀ c, coreOk k c → coreOk k (f c)) : ((Act.putCore k f hf).run s).seq = s.seq := rfl
@[simp] theorem Act.putCore_haltTimes (k : Fin 13) (f : Core → Core) (hf : ∀ c, coreOk k c → coreOk k (f c)) : ((Act.putCore k f hf).run s).haltTimes = s.haltTimes := rfl
@[simp] theorem Act.putCore_links (k : Fin 13) (f : Core → Core) (hf : ∀ c, coreOk k c → coreOk k (f c)) : ((Act.putCore k f hf).run s).links = s.links := rfl
@[simp] theorem Act.putCore_role (k : Fin 13) (f : Core → Core) (hf : ∀ c, coreOk k c → coreOk k (f c)) : ((Act.putCore k f hf).run s).role = s.role := rfl
@[simp] theorem Act.putCore_pins (k : Fin 13) (f : Core → Core) (hf : ∀ c, coreOk k c → coreOk k (f c)) : ((Act.putCore k f hf).run s).pins = s.pins := rfl
@[simp] theorem Act.putCore_caps (k : Fin 13) (f : Core → Core) (hf : ∀ c, coreOk k c → coreOk k (f c)) : ((Act.putCore k f hf).run s).caps = s.caps := rfl
@[simp] theorem Act.putCore_ramps (k : Fin 13) (f : Core → Core) (hf : ∀ c, coreOk k c → coreOk k (f c)) : ((Act.putCore k f hf).run s).ramps = s.ramps := rfl
@[simp] theorem Act.putCore_conv (k : Fin 13) (f : Core → Core) (hf : ∀ c, coreOk k c → coreOk k (f c)) : ((Act.putCore k f hf).run s).conv = s.conv := rfl
@[simp] theorem Act.putCore_sns (k : Fin 13) (f : Core → Core) (hf : ∀ c, coreOk k c → coreOk k (f c)) : ((Act.putCore k f hf).run s).sns = s.sns := rfl
@[simp] theorem Act.putCore_thm (k : Fin 13) (f : Core → Core) (hf : ∀ c, coreOk k c → coreOk k (f c)) : ((Act.putCore k f hf).run s).thm = s.thm := rfl
@[simp] theorem Act.putCore_per (k : Fin 13) (f : Core → Core) (hf : ∀ c, coreOk k c → coreOk k (f c)) : ((Act.putCore k f hf).run s).per = s.per := rfl
@[simp] theorem Act.putCore_ropes (k : Fin 13) (f : Core → Core) (hf : ∀ c, coreOk k c → coreOk k (f c)) : ((Act.putCore k f hf).run s).ropes = s.ropes := rfl
@[simp] theorem Act.putCore_quaFrac (k : Fin 13) (f : Core → Core) (hf : ∀ c, coreOk k c → coreOk k (f c)) : ((Act.putCore k f hf).run s).quaFrac = s.quaFrac := rfl
@[simp] theorem Act.putCore_rst (k : Fin 13) (f : Core → Core) (hf : ∀ c, coreOk k c → coreOk k (f c)) : ((Act.putCore k f hf).run s).rst = s.rst := rfl
@[simp] theorem Act.putCore_inv (k : Fin 13) (f : Core → Core) (hf : ∀ c, coreOk k c → coreOk k (f c)) : ((Act.putCore k f hf).run s).inv = s.inv := rfl
@[simp] theorem Act.putCore_repair (k : Fin 13) (f : Core → Core) (hf : ∀ c, coreOk k c → coreOk k (f c)) : ((Act.putCore k f hf).run s).repair = s.repair := rfl
@[simp] theorem Act.putCore_eth (k : Fin 13) (f : Core → Core) (hf : ∀ c, coreOk k c → coreOk k (f c)) : ((Act.putCore k f hf).run s).eth = s.eth := rfl
@[simp] theorem Act.putCore_fuses (k : Fin 13) (f : Core → Core) (hf : ∀ c, coreOk k c → coreOk k (f c)) : ((Act.putCore k f hf).run s).fuses = s.fuses := rfl
@[simp] theorem Act.putCore_sec (k : Fin 13) (f : Core → Core) (hf : ∀ c, coreOk k c → coreOk k (f c)) : ((Act.putCore k f hf).run s).sec = s.sec := rfl
@[simp] theorem Act.putCore_boot (k : Fin 13) (f : Core → Core) (hf : ∀ c, coreOk k c → coreOk k (f c)) : ((Act.putCore k f hf).run s).boot = s.boot := rfl
@[simp] theorem Act.putCore_flash (k : Fin 13) (f : Core → Core) (hf : ∀ c, coreOk k c → coreOk k (f c)) : ((Act.putCore k f hf).run s).flash = s.flash := rfl
@[simp] theorem Act.putCore_its (k : Fin 13) (f : Core → Core) (hf : ∀ c, coreOk k c → coreOk k (f c)) : ((Act.putCore k f hf).run s).its = s.its := rfl
@[simp] theorem Act.putCore_clauses (k : Fin 13) (f : Core → Core) (hf : ∀ c, coreOk k c → coreOk k (f c)) : ((Act.putCore k f hf).run s).clauses = s.clauses := rfl
@[simp] theorem Act.putCore_learned (k : Fin 13) (f : Core → Core) (hf : ∀ c, coreOk k c → coreOk k (f c)) : ((Act.putCore k f hf).run s).learned = s.learned := rfl
@[simp] theorem Act.putCore_tap (k : Fin 13) (f : Core → Core) (hf : ∀ c, coreOk k c → coreOk k (f c)) : ((Act.putCore k f hf).run s).tap = s.tap := rfl

/-! ## Act.evr -/

@[simp] theorem Act.evr_powered (f : State → Evr → Evr) (hf : ∀ s e, evrOk e → evrOk (f s e)) : ((Act.evr f hf).run s).powered = s.powered := rfl
@[simp] theorem Act.evr_csr (f : State → Evr → Evr) (hf : ∀ s e, evrOk e → evrOk (f s e)) : ((Act.evr f hf).run s).csr = s.csr := rfl
@[simp] theorem Act.evr_mem (f : State → Evr → Evr) (hf : ∀ s e, evrOk e → evrOk (f s e)) : ((Act.evr f hf).run s).mem = s.mem := rfl
@[simp] theorem Act.evr_tags (f : State → Evr → Evr) (hf : ∀ s e, evrOk e → evrOk (f s e)) : ((Act.evr f hf).run s).tags = s.tags := rfl
@[simp] theorem Act.evr_free (f : State → Evr → Evr) (hf : ∀ s e, evrOk e → evrOk (f s e)) : ((Act.evr f hf).run s).free = s.free := rfl
@[simp] theorem Act.evr_waitSeq (f : State → Evr → Evr) (hf : ∀ s e, evrOk e → evrOk (f s e)) : ((Act.evr f hf).run s).waitSeq = s.waitSeq := rfl
@[simp] theorem Act.evr_tns (f : State → Evr → Evr) (hf : ∀ s e, evrOk e → evrOk (f s e)) : ((Act.evr f hf).run s).tns = s.tns := rfl
@[simp] theorem Act.evr_cores (f : State → Evr → Evr) (hf : ∀ s e, evrOk e → evrOk (f s e)) : ((Act.evr f hf).run s).cores = s.cores := rfl
@[simp] theorem Act.evr_threads (f : State → Evr → Evr) (hf : ∀ s e, evrOk e → evrOk (f s e)) : ((Act.evr f hf).run s).threads = s.threads := rfl
@[simp] theorem Act.evr_jobs (f : State → Evr → Evr) (hf : ∀ s e, evrOk e → evrOk (f s e)) : ((Act.evr f hf).run s).jobs = s.jobs := rfl
@[simp] theorem Act.evr_tiles (f : State → Evr → Evr) (hf : ∀ s e, evrOk e → evrOk (f s e)) : ((Act.evr f hf).run s).tiles = s.tiles := rfl
@[simp] theorem Act.evr_jobSeq (f : State → Evr → Evr) (hf : ∀ s e, evrOk e → evrOk (f s e)) : ((Act.evr f hf).run s).jobSeq = s.jobSeq := rfl
@[simp] theorem Act.evr_objs (f : State → Evr → Evr) (hf : ∀ s e, evrOk e → evrOk (f s e)) : ((Act.evr f hf).run s).objs = s.objs := rfl
@[simp] theorem Act.evr_lines (f : State → Evr → Evr) (hf : ∀ s e, evrOk e → evrOk (f s e)) : ((Act.evr f hf).run s).lines = s.lines := rfl
@[simp] theorem Act.evr_grps (f : State → Evr → Evr) (hf : ∀ s e, evrOk e → evrOk (f s e)) : ((Act.evr f hf).run s).grps = s.grps := rfl
@[simp] theorem Act.evr_agrOut (f : State → Evr → Evr) (hf : ∀ s e, evrOk e → evrOk (f s e)) : ((Act.evr f hf).run s).agrOut = s.agrOut := rfl
@[simp] theorem Act.evr_dumpWin (f : State → Evr → Evr) (hf : ∀ s e, evrOk e → evrOk (f s e)) : ((Act.evr f hf).run s).dumpWin = s.dumpWin := rfl
@[simp] theorem Act.evr_dumpNext (f : State → Evr → Evr) (hf : ∀ s e, evrOk e → evrOk (f s e)) : ((Act.evr f hf).run s).dumpNext = s.dumpNext := rfl
@[simp] theorem Act.evr_targets (f : State → Evr → Evr) (hf : ∀ s e, evrOk e → evrOk (f s e)) : ((Act.evr f hf).run s).targets = s.targets := rfl
@[simp] theorem Act.evr_doms (f : State → Evr → Evr) (hf : ∀ s e, evrOk e → evrOk (f s e)) : ((Act.evr f hf).run s).doms = s.doms := rfl
@[simp] theorem Act.evr_seq (f : State → Evr → Evr) (hf : ∀ s e, evrOk e → evrOk (f s e)) : ((Act.evr f hf).run s).seq = s.seq := rfl
@[simp] theorem Act.evr_haltTimes (f : State → Evr → Evr) (hf : ∀ s e, evrOk e → evrOk (f s e)) : ((Act.evr f hf).run s).haltTimes = s.haltTimes := rfl
@[simp] theorem Act.evr_links (f : State → Evr → Evr) (hf : ∀ s e, evrOk e → evrOk (f s e)) : ((Act.evr f hf).run s).links = s.links := rfl
@[simp] theorem Act.evr_role (f : State → Evr → Evr) (hf : ∀ s e, evrOk e → evrOk (f s e)) : ((Act.evr f hf).run s).role = s.role := rfl
@[simp] theorem Act.evr_pins (f : State → Evr → Evr) (hf : ∀ s e, evrOk e → evrOk (f s e)) : ((Act.evr f hf).run s).pins = s.pins := rfl
@[simp] theorem Act.evr_caps (f : State → Evr → Evr) (hf : ∀ s e, evrOk e → evrOk (f s e)) : ((Act.evr f hf).run s).caps = s.caps := rfl
@[simp] theorem Act.evr_ramps (f : State → Evr → Evr) (hf : ∀ s e, evrOk e → evrOk (f s e)) : ((Act.evr f hf).run s).ramps = s.ramps := rfl
@[simp] theorem Act.evr_conv (f : State → Evr → Evr) (hf : ∀ s e, evrOk e → evrOk (f s e)) : ((Act.evr f hf).run s).conv = s.conv := rfl
@[simp] theorem Act.evr_sns (f : State → Evr → Evr) (hf : ∀ s e, evrOk e → evrOk (f s e)) : ((Act.evr f hf).run s).sns = s.sns := rfl
@[simp] theorem Act.evr_thm (f : State → Evr → Evr) (hf : ∀ s e, evrOk e → evrOk (f s e)) : ((Act.evr f hf).run s).thm = s.thm := rfl
@[simp] theorem Act.evr_per (f : State → Evr → Evr) (hf : ∀ s e, evrOk e → evrOk (f s e)) : ((Act.evr f hf).run s).per = s.per := rfl
@[simp] theorem Act.evr_ropes (f : State → Evr → Evr) (hf : ∀ s e, evrOk e → evrOk (f s e)) : ((Act.evr f hf).run s).ropes = s.ropes := rfl
@[simp] theorem Act.evr_quaFrac (f : State → Evr → Evr) (hf : ∀ s e, evrOk e → evrOk (f s e)) : ((Act.evr f hf).run s).quaFrac = s.quaFrac := rfl
@[simp] theorem Act.evr_rst (f : State → Evr → Evr) (hf : ∀ s e, evrOk e → evrOk (f s e)) : ((Act.evr f hf).run s).rst = s.rst := rfl
@[simp] theorem Act.evr_inv (f : State → Evr → Evr) (hf : ∀ s e, evrOk e → evrOk (f s e)) : ((Act.evr f hf).run s).inv = s.inv := rfl
@[simp] theorem Act.evr_repair (f : State → Evr → Evr) (hf : ∀ s e, evrOk e → evrOk (f s e)) : ((Act.evr f hf).run s).repair = s.repair := rfl
@[simp] theorem Act.evr_eth (f : State → Evr → Evr) (hf : ∀ s e, evrOk e → evrOk (f s e)) : ((Act.evr f hf).run s).eth = s.eth := rfl
@[simp] theorem Act.evr_fuses (f : State → Evr → Evr) (hf : ∀ s e, evrOk e → evrOk (f s e)) : ((Act.evr f hf).run s).fuses = s.fuses := rfl
@[simp] theorem Act.evr_sec (f : State → Evr → Evr) (hf : ∀ s e, evrOk e → evrOk (f s e)) : ((Act.evr f hf).run s).sec = s.sec := rfl
@[simp] theorem Act.evr_boot (f : State → Evr → Evr) (hf : ∀ s e, evrOk e → evrOk (f s e)) : ((Act.evr f hf).run s).boot = s.boot := rfl
@[simp] theorem Act.evr_flash (f : State → Evr → Evr) (hf : ∀ s e, evrOk e → evrOk (f s e)) : ((Act.evr f hf).run s).flash = s.flash := rfl
@[simp] theorem Act.evr_its (f : State → Evr → Evr) (hf : ∀ s e, evrOk e → evrOk (f s e)) : ((Act.evr f hf).run s).its = s.its := rfl
@[simp] theorem Act.evr_clauses (f : State → Evr → Evr) (hf : ∀ s e, evrOk e → evrOk (f s e)) : ((Act.evr f hf).run s).clauses = s.clauses := rfl
@[simp] theorem Act.evr_learned (f : State → Evr → Evr) (hf : ∀ s e, evrOk e → evrOk (f s e)) : ((Act.evr f hf).run s).learned = s.learned := rfl
@[simp] theorem Act.evr_tap (f : State → Evr → Evr) (hf : ∀ s e, evrOk e → evrOk (f s e)) : ((Act.evr f hf).run s).tap = s.tap := rfl

/-! ## Act.tense -/

@[simp] theorem Act.tense_powered (f : Tense → Tense) : ((Act.tense f).run s).powered = s.powered := rfl
@[simp] theorem Act.tense_csr (f : Tense → Tense) : ((Act.tense f).run s).csr = s.csr := rfl
@[simp] theorem Act.tense_mem (f : Tense → Tense) : ((Act.tense f).run s).mem = s.mem := rfl
@[simp] theorem Act.tense_tags (f : Tense → Tense) : ((Act.tense f).run s).tags = s.tags := rfl
@[simp] theorem Act.tense_free (f : Tense → Tense) : ((Act.tense f).run s).free = s.free := rfl
@[simp] theorem Act.tense_waitSeq (f : Tense → Tense) : ((Act.tense f).run s).waitSeq = s.waitSeq := rfl
@[simp] theorem Act.tense_cores (f : Tense → Tense) : ((Act.tense f).run s).cores = s.cores := rfl
@[simp] theorem Act.tense_threads (f : Tense → Tense) : ((Act.tense f).run s).threads = s.threads := rfl
@[simp] theorem Act.tense_jobs (f : Tense → Tense) : ((Act.tense f).run s).jobs = s.jobs := rfl
@[simp] theorem Act.tense_tiles (f : Tense → Tense) : ((Act.tense f).run s).tiles = s.tiles := rfl
@[simp] theorem Act.tense_jobSeq (f : Tense → Tense) : ((Act.tense f).run s).jobSeq = s.jobSeq := rfl
@[simp] theorem Act.tense_evr (f : Tense → Tense) : ((Act.tense f).run s).evr = s.evr := rfl
@[simp] theorem Act.tense_objs (f : Tense → Tense) : ((Act.tense f).run s).objs = s.objs := rfl
@[simp] theorem Act.tense_lines (f : Tense → Tense) : ((Act.tense f).run s).lines = s.lines := rfl
@[simp] theorem Act.tense_grps (f : Tense → Tense) : ((Act.tense f).run s).grps = s.grps := rfl
@[simp] theorem Act.tense_agrOut (f : Tense → Tense) : ((Act.tense f).run s).agrOut = s.agrOut := rfl
@[simp] theorem Act.tense_dumpWin (f : Tense → Tense) : ((Act.tense f).run s).dumpWin = s.dumpWin := rfl
@[simp] theorem Act.tense_dumpNext (f : Tense → Tense) : ((Act.tense f).run s).dumpNext = s.dumpNext := rfl
@[simp] theorem Act.tense_targets (f : Tense → Tense) : ((Act.tense f).run s).targets = s.targets := rfl
@[simp] theorem Act.tense_doms (f : Tense → Tense) : ((Act.tense f).run s).doms = s.doms := rfl
@[simp] theorem Act.tense_seq (f : Tense → Tense) : ((Act.tense f).run s).seq = s.seq := rfl
@[simp] theorem Act.tense_haltTimes (f : Tense → Tense) : ((Act.tense f).run s).haltTimes = s.haltTimes := rfl
@[simp] theorem Act.tense_links (f : Tense → Tense) : ((Act.tense f).run s).links = s.links := rfl
@[simp] theorem Act.tense_role (f : Tense → Tense) : ((Act.tense f).run s).role = s.role := rfl
@[simp] theorem Act.tense_pins (f : Tense → Tense) : ((Act.tense f).run s).pins = s.pins := rfl
@[simp] theorem Act.tense_caps (f : Tense → Tense) : ((Act.tense f).run s).caps = s.caps := rfl
@[simp] theorem Act.tense_ramps (f : Tense → Tense) : ((Act.tense f).run s).ramps = s.ramps := rfl
@[simp] theorem Act.tense_conv (f : Tense → Tense) : ((Act.tense f).run s).conv = s.conv := rfl
@[simp] theorem Act.tense_sns (f : Tense → Tense) : ((Act.tense f).run s).sns = s.sns := rfl
@[simp] theorem Act.tense_thm (f : Tense → Tense) : ((Act.tense f).run s).thm = s.thm := rfl
@[simp] theorem Act.tense_per (f : Tense → Tense) : ((Act.tense f).run s).per = s.per := rfl
@[simp] theorem Act.tense_ropes (f : Tense → Tense) : ((Act.tense f).run s).ropes = s.ropes := rfl
@[simp] theorem Act.tense_quaFrac (f : Tense → Tense) : ((Act.tense f).run s).quaFrac = s.quaFrac := rfl
@[simp] theorem Act.tense_rst (f : Tense → Tense) : ((Act.tense f).run s).rst = s.rst := rfl
@[simp] theorem Act.tense_inv (f : Tense → Tense) : ((Act.tense f).run s).inv = s.inv := rfl
@[simp] theorem Act.tense_repair (f : Tense → Tense) : ((Act.tense f).run s).repair = s.repair := rfl
@[simp] theorem Act.tense_eth (f : Tense → Tense) : ((Act.tense f).run s).eth = s.eth := rfl
@[simp] theorem Act.tense_fuses (f : Tense → Tense) : ((Act.tense f).run s).fuses = s.fuses := rfl
@[simp] theorem Act.tense_sec (f : Tense → Tense) : ((Act.tense f).run s).sec = s.sec := rfl
@[simp] theorem Act.tense_boot (f : Tense → Tense) : ((Act.tense f).run s).boot = s.boot := rfl
@[simp] theorem Act.tense_flash (f : Tense → Tense) : ((Act.tense f).run s).flash = s.flash := rfl
@[simp] theorem Act.tense_its (f : Tense → Tense) : ((Act.tense f).run s).its = s.its := rfl
@[simp] theorem Act.tense_clauses (f : Tense → Tense) : ((Act.tense f).run s).clauses = s.clauses := rfl
@[simp] theorem Act.tense_learned (f : Tense → Tense) : ((Act.tense f).run s).learned = s.learned := rfl
@[simp] theorem Act.tense_tap (f : Tense → Tense) : ((Act.tense f).run s).tap = s.tap := rfl

/-! ## Act.target -/

@[simp] theorem Act.target_powered (i : Fin 9) (f : Target → Target) : ((Act.target i f).run s).powered = s.powered := rfl
@[simp] theorem Act.target_csr (i : Fin 9) (f : Target → Target) : ((Act.target i f).run s).csr = s.csr := rfl
@[simp] theorem Act.target_mem (i : Fin 9) (f : Target → Target) : ((Act.target i f).run s).mem = s.mem := rfl
@[simp] theorem Act.target_tags (i : Fin 9) (f : Target → Target) : ((Act.target i f).run s).tags = s.tags := rfl
@[simp] theorem Act.target_free (i : Fin 9) (f : Target → Target) : ((Act.target i f).run s).free = s.free := rfl
@[simp] theorem Act.target_waitSeq (i : Fin 9) (f : Target → Target) : ((Act.target i f).run s).waitSeq = s.waitSeq := rfl
@[simp] theorem Act.target_tns (i : Fin 9) (f : Target → Target) : ((Act.target i f).run s).tns = s.tns := rfl
@[simp] theorem Act.target_cores (i : Fin 9) (f : Target → Target) : ((Act.target i f).run s).cores = s.cores := rfl
@[simp] theorem Act.target_threads (i : Fin 9) (f : Target → Target) : ((Act.target i f).run s).threads = s.threads := rfl
@[simp] theorem Act.target_jobs (i : Fin 9) (f : Target → Target) : ((Act.target i f).run s).jobs = s.jobs := rfl
@[simp] theorem Act.target_tiles (i : Fin 9) (f : Target → Target) : ((Act.target i f).run s).tiles = s.tiles := rfl
@[simp] theorem Act.target_jobSeq (i : Fin 9) (f : Target → Target) : ((Act.target i f).run s).jobSeq = s.jobSeq := rfl
@[simp] theorem Act.target_evr (i : Fin 9) (f : Target → Target) : ((Act.target i f).run s).evr = s.evr := rfl
@[simp] theorem Act.target_objs (i : Fin 9) (f : Target → Target) : ((Act.target i f).run s).objs = s.objs := rfl
@[simp] theorem Act.target_lines (i : Fin 9) (f : Target → Target) : ((Act.target i f).run s).lines = s.lines := rfl
@[simp] theorem Act.target_grps (i : Fin 9) (f : Target → Target) : ((Act.target i f).run s).grps = s.grps := rfl
@[simp] theorem Act.target_agrOut (i : Fin 9) (f : Target → Target) : ((Act.target i f).run s).agrOut = s.agrOut := rfl
@[simp] theorem Act.target_dumpWin (i : Fin 9) (f : Target → Target) : ((Act.target i f).run s).dumpWin = s.dumpWin := rfl
@[simp] theorem Act.target_dumpNext (i : Fin 9) (f : Target → Target) : ((Act.target i f).run s).dumpNext = s.dumpNext := rfl
@[simp] theorem Act.target_doms (i : Fin 9) (f : Target → Target) : ((Act.target i f).run s).doms = s.doms := rfl
@[simp] theorem Act.target_seq (i : Fin 9) (f : Target → Target) : ((Act.target i f).run s).seq = s.seq := rfl
@[simp] theorem Act.target_haltTimes (i : Fin 9) (f : Target → Target) : ((Act.target i f).run s).haltTimes = s.haltTimes := rfl
@[simp] theorem Act.target_links (i : Fin 9) (f : Target → Target) : ((Act.target i f).run s).links = s.links := rfl
@[simp] theorem Act.target_role (i : Fin 9) (f : Target → Target) : ((Act.target i f).run s).role = s.role := rfl
@[simp] theorem Act.target_pins (i : Fin 9) (f : Target → Target) : ((Act.target i f).run s).pins = s.pins := rfl
@[simp] theorem Act.target_caps (i : Fin 9) (f : Target → Target) : ((Act.target i f).run s).caps = s.caps := rfl
@[simp] theorem Act.target_ramps (i : Fin 9) (f : Target → Target) : ((Act.target i f).run s).ramps = s.ramps := rfl
@[simp] theorem Act.target_conv (i : Fin 9) (f : Target → Target) : ((Act.target i f).run s).conv = s.conv := rfl
@[simp] theorem Act.target_sns (i : Fin 9) (f : Target → Target) : ((Act.target i f).run s).sns = s.sns := rfl
@[simp] theorem Act.target_thm (i : Fin 9) (f : Target → Target) : ((Act.target i f).run s).thm = s.thm := rfl
@[simp] theorem Act.target_per (i : Fin 9) (f : Target → Target) : ((Act.target i f).run s).per = s.per := rfl
@[simp] theorem Act.target_ropes (i : Fin 9) (f : Target → Target) : ((Act.target i f).run s).ropes = s.ropes := rfl
@[simp] theorem Act.target_quaFrac (i : Fin 9) (f : Target → Target) : ((Act.target i f).run s).quaFrac = s.quaFrac := rfl
@[simp] theorem Act.target_rst (i : Fin 9) (f : Target → Target) : ((Act.target i f).run s).rst = s.rst := rfl
@[simp] theorem Act.target_inv (i : Fin 9) (f : Target → Target) : ((Act.target i f).run s).inv = s.inv := rfl
@[simp] theorem Act.target_repair (i : Fin 9) (f : Target → Target) : ((Act.target i f).run s).repair = s.repair := rfl
@[simp] theorem Act.target_eth (i : Fin 9) (f : Target → Target) : ((Act.target i f).run s).eth = s.eth := rfl
@[simp] theorem Act.target_fuses (i : Fin 9) (f : Target → Target) : ((Act.target i f).run s).fuses = s.fuses := rfl
@[simp] theorem Act.target_sec (i : Fin 9) (f : Target → Target) : ((Act.target i f).run s).sec = s.sec := rfl
@[simp] theorem Act.target_boot (i : Fin 9) (f : Target → Target) : ((Act.target i f).run s).boot = s.boot := rfl
@[simp] theorem Act.target_flash (i : Fin 9) (f : Target → Target) : ((Act.target i f).run s).flash = s.flash := rfl
@[simp] theorem Act.target_its (i : Fin 9) (f : Target → Target) : ((Act.target i f).run s).its = s.its := rfl
@[simp] theorem Act.target_clauses (i : Fin 9) (f : Target → Target) : ((Act.target i f).run s).clauses = s.clauses := rfl
@[simp] theorem Act.target_learned (i : Fin 9) (f : Target → Target) : ((Act.target i f).run s).learned = s.learned := rfl
@[simp] theorem Act.target_tap (i : Fin 9) (f : Target → Target) : ((Act.target i f).run s).tap = s.tap := rfl

/-! ## Act.seqx -/

@[simp] theorem Act.seqx_powered (f : Seq → Seq) : ((Act.seqx f).run s).powered = s.powered := rfl
@[simp] theorem Act.seqx_csr (f : Seq → Seq) : ((Act.seqx f).run s).csr = s.csr := rfl
@[simp] theorem Act.seqx_mem (f : Seq → Seq) : ((Act.seqx f).run s).mem = s.mem := rfl
@[simp] theorem Act.seqx_tags (f : Seq → Seq) : ((Act.seqx f).run s).tags = s.tags := rfl
@[simp] theorem Act.seqx_free (f : Seq → Seq) : ((Act.seqx f).run s).free = s.free := rfl
@[simp] theorem Act.seqx_waitSeq (f : Seq → Seq) : ((Act.seqx f).run s).waitSeq = s.waitSeq := rfl
@[simp] theorem Act.seqx_tns (f : Seq → Seq) : ((Act.seqx f).run s).tns = s.tns := rfl
@[simp] theorem Act.seqx_cores (f : Seq → Seq) : ((Act.seqx f).run s).cores = s.cores := rfl
@[simp] theorem Act.seqx_threads (f : Seq → Seq) : ((Act.seqx f).run s).threads = s.threads := rfl
@[simp] theorem Act.seqx_jobs (f : Seq → Seq) : ((Act.seqx f).run s).jobs = s.jobs := rfl
@[simp] theorem Act.seqx_tiles (f : Seq → Seq) : ((Act.seqx f).run s).tiles = s.tiles := rfl
@[simp] theorem Act.seqx_jobSeq (f : Seq → Seq) : ((Act.seqx f).run s).jobSeq = s.jobSeq := rfl
@[simp] theorem Act.seqx_evr (f : Seq → Seq) : ((Act.seqx f).run s).evr = s.evr := rfl
@[simp] theorem Act.seqx_objs (f : Seq → Seq) : ((Act.seqx f).run s).objs = s.objs := rfl
@[simp] theorem Act.seqx_lines (f : Seq → Seq) : ((Act.seqx f).run s).lines = s.lines := rfl
@[simp] theorem Act.seqx_grps (f : Seq → Seq) : ((Act.seqx f).run s).grps = s.grps := rfl
@[simp] theorem Act.seqx_agrOut (f : Seq → Seq) : ((Act.seqx f).run s).agrOut = s.agrOut := rfl
@[simp] theorem Act.seqx_dumpWin (f : Seq → Seq) : ((Act.seqx f).run s).dumpWin = s.dumpWin := rfl
@[simp] theorem Act.seqx_dumpNext (f : Seq → Seq) : ((Act.seqx f).run s).dumpNext = s.dumpNext := rfl
@[simp] theorem Act.seqx_targets (f : Seq → Seq) : ((Act.seqx f).run s).targets = s.targets := rfl
@[simp] theorem Act.seqx_doms (f : Seq → Seq) : ((Act.seqx f).run s).doms = s.doms := rfl
@[simp] theorem Act.seqx_haltTimes (f : Seq → Seq) : ((Act.seqx f).run s).haltTimes = s.haltTimes := rfl
@[simp] theorem Act.seqx_links (f : Seq → Seq) : ((Act.seqx f).run s).links = s.links := rfl
@[simp] theorem Act.seqx_role (f : Seq → Seq) : ((Act.seqx f).run s).role = s.role := rfl
@[simp] theorem Act.seqx_pins (f : Seq → Seq) : ((Act.seqx f).run s).pins = s.pins := rfl
@[simp] theorem Act.seqx_caps (f : Seq → Seq) : ((Act.seqx f).run s).caps = s.caps := rfl
@[simp] theorem Act.seqx_ramps (f : Seq → Seq) : ((Act.seqx f).run s).ramps = s.ramps := rfl
@[simp] theorem Act.seqx_conv (f : Seq → Seq) : ((Act.seqx f).run s).conv = s.conv := rfl
@[simp] theorem Act.seqx_sns (f : Seq → Seq) : ((Act.seqx f).run s).sns = s.sns := rfl
@[simp] theorem Act.seqx_thm (f : Seq → Seq) : ((Act.seqx f).run s).thm = s.thm := rfl
@[simp] theorem Act.seqx_per (f : Seq → Seq) : ((Act.seqx f).run s).per = s.per := rfl
@[simp] theorem Act.seqx_ropes (f : Seq → Seq) : ((Act.seqx f).run s).ropes = s.ropes := rfl
@[simp] theorem Act.seqx_quaFrac (f : Seq → Seq) : ((Act.seqx f).run s).quaFrac = s.quaFrac := rfl
@[simp] theorem Act.seqx_rst (f : Seq → Seq) : ((Act.seqx f).run s).rst = s.rst := rfl
@[simp] theorem Act.seqx_inv (f : Seq → Seq) : ((Act.seqx f).run s).inv = s.inv := rfl
@[simp] theorem Act.seqx_repair (f : Seq → Seq) : ((Act.seqx f).run s).repair = s.repair := rfl
@[simp] theorem Act.seqx_eth (f : Seq → Seq) : ((Act.seqx f).run s).eth = s.eth := rfl
@[simp] theorem Act.seqx_fuses (f : Seq → Seq) : ((Act.seqx f).run s).fuses = s.fuses := rfl
@[simp] theorem Act.seqx_sec (f : Seq → Seq) : ((Act.seqx f).run s).sec = s.sec := rfl
@[simp] theorem Act.seqx_boot (f : Seq → Seq) : ((Act.seqx f).run s).boot = s.boot := rfl
@[simp] theorem Act.seqx_flash (f : Seq → Seq) : ((Act.seqx f).run s).flash = s.flash := rfl
@[simp] theorem Act.seqx_its (f : Seq → Seq) : ((Act.seqx f).run s).its = s.its := rfl
@[simp] theorem Act.seqx_clauses (f : Seq → Seq) : ((Act.seqx f).run s).clauses = s.clauses := rfl
@[simp] theorem Act.seqx_learned (f : Seq → Seq) : ((Act.seqx f).run s).learned = s.learned := rfl
@[simp] theorem Act.seqx_tap (f : Seq → Seq) : ((Act.seqx f).run s).tap = s.tap := rfl

/-! ## Act.ethx -/

@[simp] theorem Act.ethx_powered (f : Eth → Eth) : ((Act.ethx f).run s).powered = s.powered := rfl
@[simp] theorem Act.ethx_csr (f : Eth → Eth) : ((Act.ethx f).run s).csr = s.csr := rfl
@[simp] theorem Act.ethx_mem (f : Eth → Eth) : ((Act.ethx f).run s).mem = s.mem := rfl
@[simp] theorem Act.ethx_tags (f : Eth → Eth) : ((Act.ethx f).run s).tags = s.tags := rfl
@[simp] theorem Act.ethx_free (f : Eth → Eth) : ((Act.ethx f).run s).free = s.free := rfl
@[simp] theorem Act.ethx_waitSeq (f : Eth → Eth) : ((Act.ethx f).run s).waitSeq = s.waitSeq := rfl
@[simp] theorem Act.ethx_tns (f : Eth → Eth) : ((Act.ethx f).run s).tns = s.tns := rfl
@[simp] theorem Act.ethx_cores (f : Eth → Eth) : ((Act.ethx f).run s).cores = s.cores := rfl
@[simp] theorem Act.ethx_threads (f : Eth → Eth) : ((Act.ethx f).run s).threads = s.threads := rfl
@[simp] theorem Act.ethx_jobs (f : Eth → Eth) : ((Act.ethx f).run s).jobs = s.jobs := rfl
@[simp] theorem Act.ethx_tiles (f : Eth → Eth) : ((Act.ethx f).run s).tiles = s.tiles := rfl
@[simp] theorem Act.ethx_jobSeq (f : Eth → Eth) : ((Act.ethx f).run s).jobSeq = s.jobSeq := rfl
@[simp] theorem Act.ethx_evr (f : Eth → Eth) : ((Act.ethx f).run s).evr = s.evr := rfl
@[simp] theorem Act.ethx_objs (f : Eth → Eth) : ((Act.ethx f).run s).objs = s.objs := rfl
@[simp] theorem Act.ethx_lines (f : Eth → Eth) : ((Act.ethx f).run s).lines = s.lines := rfl
@[simp] theorem Act.ethx_grps (f : Eth → Eth) : ((Act.ethx f).run s).grps = s.grps := rfl
@[simp] theorem Act.ethx_agrOut (f : Eth → Eth) : ((Act.ethx f).run s).agrOut = s.agrOut := rfl
@[simp] theorem Act.ethx_dumpWin (f : Eth → Eth) : ((Act.ethx f).run s).dumpWin = s.dumpWin := rfl
@[simp] theorem Act.ethx_dumpNext (f : Eth → Eth) : ((Act.ethx f).run s).dumpNext = s.dumpNext := rfl
@[simp] theorem Act.ethx_targets (f : Eth → Eth) : ((Act.ethx f).run s).targets = s.targets := rfl
@[simp] theorem Act.ethx_doms (f : Eth → Eth) : ((Act.ethx f).run s).doms = s.doms := rfl
@[simp] theorem Act.ethx_seq (f : Eth → Eth) : ((Act.ethx f).run s).seq = s.seq := rfl
@[simp] theorem Act.ethx_haltTimes (f : Eth → Eth) : ((Act.ethx f).run s).haltTimes = s.haltTimes := rfl
@[simp] theorem Act.ethx_links (f : Eth → Eth) : ((Act.ethx f).run s).links = s.links := rfl
@[simp] theorem Act.ethx_role (f : Eth → Eth) : ((Act.ethx f).run s).role = s.role := rfl
@[simp] theorem Act.ethx_pins (f : Eth → Eth) : ((Act.ethx f).run s).pins = s.pins := rfl
@[simp] theorem Act.ethx_caps (f : Eth → Eth) : ((Act.ethx f).run s).caps = s.caps := rfl
@[simp] theorem Act.ethx_ramps (f : Eth → Eth) : ((Act.ethx f).run s).ramps = s.ramps := rfl
@[simp] theorem Act.ethx_conv (f : Eth → Eth) : ((Act.ethx f).run s).conv = s.conv := rfl
@[simp] theorem Act.ethx_sns (f : Eth → Eth) : ((Act.ethx f).run s).sns = s.sns := rfl
@[simp] theorem Act.ethx_thm (f : Eth → Eth) : ((Act.ethx f).run s).thm = s.thm := rfl
@[simp] theorem Act.ethx_per (f : Eth → Eth) : ((Act.ethx f).run s).per = s.per := rfl
@[simp] theorem Act.ethx_ropes (f : Eth → Eth) : ((Act.ethx f).run s).ropes = s.ropes := rfl
@[simp] theorem Act.ethx_quaFrac (f : Eth → Eth) : ((Act.ethx f).run s).quaFrac = s.quaFrac := rfl
@[simp] theorem Act.ethx_rst (f : Eth → Eth) : ((Act.ethx f).run s).rst = s.rst := rfl
@[simp] theorem Act.ethx_inv (f : Eth → Eth) : ((Act.ethx f).run s).inv = s.inv := rfl
@[simp] theorem Act.ethx_repair (f : Eth → Eth) : ((Act.ethx f).run s).repair = s.repair := rfl
@[simp] theorem Act.ethx_fuses (f : Eth → Eth) : ((Act.ethx f).run s).fuses = s.fuses := rfl
@[simp] theorem Act.ethx_sec (f : Eth → Eth) : ((Act.ethx f).run s).sec = s.sec := rfl
@[simp] theorem Act.ethx_boot (f : Eth → Eth) : ((Act.ethx f).run s).boot = s.boot := rfl
@[simp] theorem Act.ethx_flash (f : Eth → Eth) : ((Act.ethx f).run s).flash = s.flash := rfl
@[simp] theorem Act.ethx_its (f : Eth → Eth) : ((Act.ethx f).run s).its = s.its := rfl
@[simp] theorem Act.ethx_clauses (f : Eth → Eth) : ((Act.ethx f).run s).clauses = s.clauses := rfl
@[simp] theorem Act.ethx_learned (f : Eth → Eth) : ((Act.ethx f).run s).learned = s.learned := rfl
@[simp] theorem Act.ethx_tap (f : Eth → Eth) : ((Act.ethx f).run s).tap = s.tap := rfl

/-! ## Changes of one part -/

@[simp] theorem Act.link_run (i : Fin 8) (f : Link → Link) : (Act.link i f).run s = { s with links := s.links.set i (f s.links[i]) } := rfl

@[simp] theorem Act.ramp_run (i : Fin 8) (f : Ramp → Ramp) : (Act.ramp i f).run s = { s with ramps := s.ramps.set i (f s.ramps[i]) } := rfl

@[simp] theorem Act.slotPins_run (i : Fin 8) (f : SlotPins → SlotPins) : (Act.slotPins i f).run s = { s with pins := s.pins.set i (f s.pins[i]) } := rfl

@[simp] theorem Act.dom_run (i : Fin 48) (f : Dom → Dom) : (Act.dom i f).run s = { s with doms := s.doms.set i (f s.doms[i]) } := rfl

@[simp] theorem Act.rope_run (i : Fin 8) (f : Rope → Rope) : (Act.rope i f).run s = { s with ropes := s.ropes.set i (f s.ropes[i]) } := rfl

@[simp] theorem Act.clause_run (i : Fin 32) (f : ClauseSlot → ClauseSlot) : (Act.clause i f).run s = { s with clauses := s.clauses.set i (f s.clauses[i]) } := rfl

@[simp] theorem Act.line_run (i : Fin 32) (f : LineX → LineX) : (Act.line i f).run s = { s with lines := s.lines.set i (f s.lines[i]) } := rfl

@[simp] theorem Act.capsx_run (f : Caps → Caps) : (Act.capsx f).run s = { s with caps := f s.caps } := rfl

@[simp] theorem Act.convx_run (f : Conv → Conv) : (Act.convx f).run s = { s with conv := f s.conv } := rfl

@[simp] theorem Act.thmx_run (f : Thm → Thm) : (Act.thmx f).run s = { s with thm := f s.thm } := rfl

@[simp] theorem Act.perx_run (f : Per → Per) : (Act.perx f).run s = { s with per := f s.per } := rfl

@[simp] theorem Act.rstx_run (f : Rst → Rst) : (Act.rstx f).run s = { s with rst := f s.rst } := rfl

@[simp] theorem Act.invx_run (f : Inv → Inv) : (Act.invx f).run s = { s with inv := f s.inv } := rfl

@[simp] theorem Act.secx_run (f : Sec → Sec) : (Act.secx f).run s = { s with sec := f s.sec } := rfl

@[simp] theorem Act.bootx_run (f : Boot → Boot) : (Act.bootx f).run s = { s with boot := f s.boot } := rfl

@[simp] theorem Act.itsx_run (f : Its → Its) : (Act.itsx f).run s = { s with its := f s.its } := rfl

@[simp] theorem Act.learnedx_run (f : Learned → Learned) : (Act.learnedx f).run s = { s with learned := f s.learned } := rfl

@[simp] theorem Act.tapx_run (f : Tap → Tap) : (Act.tapx f).run s = { s with tap := f s.tap } := rfl

theorem Act.sensor_run (i : Nat) (f : Sensor → Sensor) : (Act.sensor i f).run s = { s with sns := Sparse.set (fun _ => Sensor.reset) i (f (s.sensor i)) s.sns } := rfl

theorem Act.thread_run (i : Nat) (f : Thread → Thread) : (Act.thread i f).run s = { s with threads := Sparse.set (fun _ => Thread.reset) i (f (s.thread i)) s.threads } := rfl

@[simp] theorem Act.modObjs_run (f : List (Nat × Obj) → List (Nat × Obj)) : (Act.modObjs f).run s = { s with objs := f s.objs } := rfl

@[simp] theorem Act.agrSend_run (x : AgrTx) : (Act.agrSend x).run s = { s with agrOut := s.agrOut ++ [x] } := rfl

@[simp] theorem Act.setDumpNext_run (x : List DumpReq) : (Act.setDumpNext x).run s = { s with dumpNext := x } := rfl

@[simp] theorem Act.haltMark_run (k : Fin 13) : (Act.haltMark k).run s = { s with haltTimes := (k.val, s.tns.tick) :: s.haltTimes } := rfl

/-! ## Cores -/

/-- A core after a core was replaced. -/
@[simp] theorem State.core_putCore (k j : Fin 13) (f : Core → Core) (hf : ∀ c, coreOk k c → coreOk k (f c)) :
    ((Act.putCore k f hf).run s).core j = if j = k then f (s.core k) else s.core j := by
  show (s.cores.set k (f s.cores[k]))[j] = _
  by_cases h : j = k
  · subst h
    simp [State.core]
  · have : (k : Nat) ≠ j := fun e => h (Fin.ext e.symm)
    simp [State.core, h, Vector.getElem_set_ne, this]

/-- A general register of a core after one was written: g0 ignores it. -/
theorem State.gpr_setGpr (k : Fin 13) (d r : Reg) (v : Word) :
    (((Act.setGpr k d v).run s).core k).gpr[r] = if r = d ∧ d ≠ 0 then v else (s.core k).gpr[r] := by
  rw [Act.setGpr, State.core_putCore]
  by_cases h0 : d = 0
  · simp [h0]
  · by_cases h : r = d
    · subst h
      simp [h0]
    · have : (d : Nat) ≠ r := fun e => h (Fin.ext e.symm)
      simp [h0, h, Vector.getElem_set_ne, this]

/-- A thread context after one was changed. -/
@[simp] theorem State.thread_thread (i j : Nat) (f : Thread → Thread) :
    ((Act.thread i f).run s).thread j = if j = i then f (s.thread i) else s.thread j := by
  show Sparse.get (fun _ => Thread.reset) j (Sparse.set (fun _ => Thread.reset) i (f (s.thread i)) s.threads) = _
  split
  · rename_i h
    rw [h, Sparse.get_set_same]
  · rename_i h
    exact Sparse.get_set_other _ h _ s.threads

/-- A sensor after one was changed. -/
@[simp] theorem State.sensor_sensor (i j : Nat) (f : Sensor → Sensor) :
    ((Act.sensor i f).run s).sensor j = if j = i then f (s.sensor i) else s.sensor j := by
  show Sparse.get (fun _ => Sensor.reset) j (Sparse.set (fun _ => Sensor.reset) i (f (s.sensor i)) s.sns) = _
  split
  · rename_i h
    rw [h, Sparse.get_set_same]
  · rename_i h
    exact Sparse.get_set_other _ h _ s.sns

end Sys2Proof.Machine
end

