-- ==== Sys2Proof/Machine/Pins.lean ====
section
/-!
DEFINITION. The pins that the controller drives: their levels as functions of the state, and those that they have while the
always-on supply is absent (R279, R440, R445, R453). Boundary scan is State.scanDrive, and the test pins are in TestMux.
-/
namespace Sys2Proof.Machine

/-- The digital output pins whose level follows from the state (R440). -/
inductive OutPin where
  | domEn (d : Fin 48)
  | efuseEn (n : Fin 8)
  | slotRstN (n : Fin 8)
  | slotAbortN (n : Fin 8)
  | flSel (n : Fin 8)
  | pumpEn (p : Fin 4)
  | bufDrvEn | mainEn | rflWpN
deriving DecidableEq, Repr

/-- The level of a pin at cold start and while the always-on supply is absent (R445); RFL_WP_N is low (R453). -/
def OutPin.rest : OutPin → Bool
  | .slotAbortN _ => true
  | _ => false

/-- Whether a pin is high. The stage drivers are enabled in the modes in which phases may switch (R121; DEDUCED, log entry
101); of the writes to the resident-image flash only the programming of an image slot takes time in this model, and RFL_WP_N
is high for it. -/
def State.pinHigh (s : State) (p : OutPin) : Bool :=
  if !s.powered then p.rest
  else match p with
    | .domEn d => s.domOn d
    | .efuseEn n => s.efuseOn n
    | .slotRstN n => !s.flag (F.SLT_STAT.rst n)
    | .slotAbortN n => !bitOf (s.fld F.RST_ABORT.asserted) n
    | .flSel n => s.flag (F.SLT_STAT.fl_sel n)
    | .pumpEn _ => s.pumpsOn
    | .bufDrvEn => 2 ≤ s.fld F.BUF_STATUS.mode && s.fld F.BUF_STATUS.mode ≤ 4
    | .mainEn => s.flag F.RST_STATUS.main_en
    | .rflWpN => s.boot.programming

/-- FAN_PWM i and PUMP_PWM p in 0.1 %: the applied value of channels 16 + i and 32 + p, or without the always-on supply the
minimum of R279. -/
def State.fanPwm (s : State) (i : Fin 16) : Nat := if s.powered then s.applied (16 + i) else 200
def State.pumpPwm (s : State) (p : Fin 4) : Nat := if s.powered then s.applied (32 + p) else 300

/-- VALVE_DRV v in %: 0 is off. -/
def State.valvePin (s : State) (v : Fin 8) : Nat := if s.powered then s.valveDrive v else 0

end Sys2Proof.Machine
end

