-- ==== Sys2Proof/WellFormed.lean ====
section
/-!
DEFINITION. Well-formed commands: every operand lies within the field, the pin or the message that carries it.  A number
that the manual itself calls out of range stays well formed, since the command answers it.
-/
namespace Sys2Proof

/-- A sample: a sensor of R130, a code and a ratio of 16 bits. -/
def Sample.wf (x : Sample) : Bool := x.index < 280 && x.code < 2 ^ 16 && x.ratio < 2 ^ 32

/-- A wave: the monitors of PER_MON. -/
def WaveIn.wf (w : WaveIn) : Bool := w.vbus < 2 ^ 16 && w.iin < 2 ^ 16

/-- A peer entry (R309). -/
def Peer.wf (p : Peer) : Bool := p.mac < 2 ^ 48 && p.ports < 2 ^ 8

/-- An Agreement frame's fields (R319). -/
def AgrFrame.wf (f : AgrFrame) : Bool :=
  f.src < 2 ^ 48 && f.ethertype < 2 ^ 16 && f.version < 2 ^ 8 && f.typ < 2 ^ 8 && f.domain < 2 ^ 16 && f.flags < 2 ^ 8 && f.sender < 2 ^ 16 &&
    f.generation < 2 ^ 32 && f.dtime < 2 ^ 64 && f.body.length ≤ 5 && f.body.all (· < 2 ^ 64)

/-- A connection request (R328, R334). -/
def CmReq.wf (q : CmReq) : Bool := q.qp < 4096 && q.pushAddr < 2 ^ 64 && q.pushLen < 2 ^ 32

/-- The payload of STREAM_CFG (R346). -/
def StreamReq.wf (c : StreamReq) : Bool :=
  c.stream < 2 ^ 8 && c.mode < 2 ^ 8 && c.types < 2 ^ 16 && c.periodMs < 2 ^ 32 && c.minSev < 2 ^ 8 && c.rkey < 2 ^ 32 &&
    c.target < 2 ^ 64 && c.ringRec < 2 ^ 16

/-- The fields of the messages that the coordinator's orders stand for (R78, R108, R338). -/
def OwnOrder.wf : OwnOrder → Bool
  | .power t st w => t < 2 ^ 8 && st < 2 ^ 8 && w < 2 ^ 16
  | .clearFault t => t < 2 ^ 8
  | .abortRelease m => m < 2 ^ 8
  | .stage g w e => g < 2 ^ 8 && w < 2 ^ 16 && e < 2 ^ 32
  | .floor n c w => n < 2 ^ 8 && c < 2 ^ 8 && w < 2 ^ 16
  | .capCfg g f d => g < 2 ^ 8 && f < 2 ^ 8 && d < 2 ^ 16
  | .send child cls cmd data => child < 64 && cls < 2 ^ 8 && cmd < 2 ^ 8 && data.length ≤ 8160

/-- The fields of a SUMMARY entry (R351). -/
def SumEntry.wf (x : SumEntry) : Bool :=
  x.watts10 < 2 ^ 16 && -128 ≤ x.hottest && x.hottest < 128 && x.level < 16 && x.tray < 16 && x.flags < 2 ^ 8 && x.on < 2 ^ 8 &&
    x.applied < 2 ^ 16

/-- The fields of a child's event (R348, R429). -/
def KidEvent.wf (x : KidEvent) : Bool :=
  x.origin < 2 ^ 16 && x.slot < 2 ^ 8 && x.seq < 2 ^ 32 && x.src < 2 ^ 8 && x.code < 2 ^ 16 && x.sev ≤ 4

/-- What children bring in: at most 64 children, each with at most the 64 entries of its own children. -/
def Brought.wf (b : Brought) : Bool :=
  (b.sums.all fun p => p.1 < 64 && p.2.length ≤ 64 && p.2.all SumEntry.wf) && b.events.all KidEvent.wf

/-- A step of the PLDM flow. -/
def PldmStep.wf : PldmStep → Bool
  | .write off data => off < 2 ^ 32 && data.length ≤ 8160
  | .verify => true
  | .apply => true

/-- A row of 512 bytes of one of the memories, and a word of it (R424). -/
def SramErr.wf (e : SramErr) : Bool :=
  e.row < (match e.mem with | 0 => 49152 | 1 => 16384 | 2 => 33554432) && e.word < 64

/-- Whether a command is well formed. -/
def Instr.wf : Instr → Bool
  | .coldStart _ _ => true
  | .alwaysOnLoss => true
  | .warmReset _ => true
  | .bootStage0 _ => true
  | .coreRelease _ _ => true
  | .coreLock _ _ => true
  | .csrWrite _ off _ => off < 0x170000
  | .tnsCounterLoRead _ _ => true
  | .tenseTick _ => true
  | .logicSlowClear => true
  | .tnsAdjWrite _ _ => true
  | .domainTimeStep _ _ => true
  | .epochDeadlineArm _ _ _ => true
  | .epochDeadline _ => true
  | .paceRoundBoundary _ _ => true
  | .xtalLost => true
  | .xtalRestored => true
  | .ethFrameReceive _ _ len taken _ _ => len < 2 ^ 32 && taken < 2 ^ 32
  | .pfcPauseReceived _ _ => true
  | .powerOrder _ target st capW => target < 2 ^ 8 && st < 2 ^ 8 && capW < 2 ^ 16
  | .query _ target => target < 2 ^ 8
  | .clearFault _ target => target < 2 ^ 8
  | .gateRequestOn => true
  | .inputGood => true
  | .gateTimeout => true
  | .efuseFault _ => true
  | .domPgGood _ => true
  | .domPgLost _ => true
  | .clauseStart _ => true
  | .domOn _ d => d < 2 ^ 64
  | .dischargeWaitEnd _ => true
  | .domOff _ d => d < 2 ^ 64
  | .waitPg _ d => d < 2 ^ 64
  | .efuseOn _ => true
  | .efuseOff _ => true
  | .waitEfuse _ => true
  | .pmicOn _ p => p < 2 ^ 64
  | .pmicOff _ p => p < 2 ^ 64
  | .pmicVset _ p rail mv => p < 2 ^ 64 && rail < 2 ^ 64 && mv < 2 ^ 64
  | .regOn _ d => d < 2 ^ 64
  | .regOff _ d => d < 2 ^ 64
  | .regVset _ d mv => d < 2 ^ 64 && mv < 2 ^ 64
  | .rstAssert _ => true
  | .rstRelease _ => true
  | .waitSlotPg _ => true
  | .flashMux _ owner => owner < 2 ^ 64
  | .waitTime _ us => us < 2 ^ 64
  | .waitTimeExpiry _ => true
  | .event _ _ => true
  | .clauseEnd _ => true
  | .pgTimeout _ => true
  | .sidebandTransferDone _ _ => true
  | .rbCapStep => true
  | .paceFrame _ => true
  | .activityFrame _ _ _ => true
  | .characterLockLoss _ _ => true
  | .commaLinkLost _ => true
  | .commaLinkDead _ => true
  | .controlTick => true
  | .demotedProbe _ => true
  | .capStage _ group capW epoch => group < 2 ^ 8 && capW < 2 ^ 16 && epoch < 2 ^ 32
  | .floorSet _ slot ctx watts => slot < 2 ^ 8 && ctx < 2 ^ 8 && watts < 2 ^ 16
  | .capQuery _ => true
  | .capCfg _ group flags deadlineUs => group < 2 ^ 8 && flags < 2 ^ 8 && deadlineUs < 2 ^ 16
  | .groupCap _ group mode epoch total shares => group < 2 ^ 8 && mode < 2 ^ 8 && epoch < 2 ^ 32 && total < 2 ^ 32 && shares.all (· < 2 ^ 64)
  | .commitLimit _ => true
  | .rampStep _ => true
  | .rampAbandon _ => true
  | .bufReady => true
  | .limiterUpdate iinMv dt vbank _ => iinMv < 2 ^ 16 && dt < 2 ^ 32 && vbank < 2 ^ 16
  | .dischargeEnd => true
  | .phaseOvercurrent _ => true
  | .bankFault => true
  | .bankOvervoltage vbank10mv => vbank10mv < 2 ^ 16
  | .senseFault => true
  | .marginWrite _ => true
  | .controlSetSample samples => samples.all Sample.wf
  | .fastRound _ _ samples => samples.all Sample.wf
  | .slowRound _ samples => samples.all Sample.wf
  | .rateUpdate => true
  | .moduleSensorRead _ i _ _ _ => i < 280
  | .sensorStale i => i < 280
  | .stuckSensor i => i < 280
  | .thmBrokenSet _ _ _ => true
  | .thmBrokenClear _ _ _ => true
  | .throttleUpdate => true
  | .fanFail _ period ms => period < 2 ^ 20 && ms < 2 ^ 32
  | .fanRecover _ period => period < 2 ^ 20
  | .pumpFail _ _ period ms => period < 2 ^ 20 && ms < 2 ^ 32
  | .flowLost _ rate => rate < 2 ^ 32
  | .flowRestored _ rate => rate < 2 ^ 32
  | .valveCommand _ _ => true
  | .valvePullEnd _ => true
  | .thermalPredictorTick => true
  | .zonePredWrite _ _ _ => true
  | .fanCurveUpdate => true
  | .periodWave w => w.wf
  | .tickAbsent => true
  | .keepaliveExpiry _ => true
  | .proofTest failPath => failPath < 2 ^ 8
  | .periodArm _ _ => true
  | .inputOvercurrentCut iin => iin < 2 ^ 16
  | .inputOvercurrentPace iin => iin < 2 ^ 16
  | .busOvervoltage vbus => vbus < 2 ^ 16
  | .busUndervoltageCut vbus => vbus < 2 ^ 16
  | .busUndervoltagePace vbus => vbus < 2 ^ 16
  | .slotThermtrip _ => true
  | .paceCauseClear _ => true
  | .perCauseClear _ _ _ => true
  | .levelRegisterWrite _ _ _ => true
  | .leakSample _ meas => meas.length ≤ 8
  | .ropeSelfTest _ _ => true
  | .perHb _ _ => true
  | .fallbackEntry => true
  | .frameStrobe _ meas => meas.length ≤ 9
  | .exportRefresh vin56 temps => vin56 < 2 ^ 32 && temps.length ≤ 8
  | .commandLinkLost silentMs => silentMs < 2 ^ 32
  | .commandLinkRestored silentMs => silentMs < 2 ^ 32
  | .intervalBoundary _ => true
  | .referenceCheck _ => true
  | .nvCommit => true
  | .powerDown => true
  | .powerUp _ => true
  | .sealOpened => true
  | .sealClosed => true
  | .readI ch _ _ _ => ch < 2 ^ 8
  | .readV ch _ _ _ => ch < 2 ^ 8
  | .setIGain ch _ _ => ch < 2 ^ 8
  | .setIOfs ch _ _ => ch < 2 ^ 8
  | .setVGain ch _ _ => ch < 2 ^ 8
  | .setVOfs ch _ _ => ch < 2 ^ 8
  | .commit ch _ _ => ch < 2 ^ 8
  | .readConst ch _ _ => ch < 2 ^ 8
  | .tariff _ channel reg => channel < 2 ^ 4 && reg < 2 ^ 6
  | .intervalLen _ => true
  | .intervalAlign _ => true
  | .logFetch _ => true
  | .itsCommandAck _ => true
  | .meterQuery _ channel => channel < 2 ^ 8
  | .logRead _ fromSeq count => fromSeq < 2 ^ 32 && count < 2 ^ 16
  | .intervalSet _ lengthMin align tickAt => lengthMin < 2 ^ 8 && align < 2 ^ 8 && tickAt < 2 ^ 32
  | .bandSet _ band tickAt => band < 2 ^ 8 && tickAt < 2 ^ 32
  | .attribQuery _ slot => slot < 2 ^ 8
  | .logEventRecord => true
  | .attributionRun => true
  | .add _ _ _ _ => true
  | .sub _ _ _ _ => true
  | .and _ _ _ _ => true
  | .or _ _ _ _ => true
  | .xor _ _ _ _ => true
  | .andn _ _ _ _ => true
  | .sll _ _ _ _ => true
  | .srl _ _ _ _ => true
  | .sra _ _ _ _ => true
  | .slt _ _ _ _ => true
  | .sltu _ _ _ _ => true
  | .min _ _ _ _ => true
  | .max _ _ _ _ => true
  | .minu _ _ _ _ => true
  | .maxu _ _ _ _ => true
  | .addw _ _ _ _ => true
  | .subw _ _ _ _ => true
  | .sllw _ _ _ _ => true
  | .srlw _ _ _ _ => true
  | .sraw _ _ _ _ => true
  | .clz _ _ _ => true
  | .ctz _ _ _ => true
  | .popc _ _ _ => true
  | .sadd _ _ _ _ => true
  | .ssub _ _ _ _ => true
  | .addi _ _ _ _ => true
  | .andi _ _ _ _ => true
  | .ori _ _ _ _ => true
  | .xori _ _ _ _ => true
  | .shi _ _ _ _ => true
  | .slti _ _ _ _ => true
  | .lup _ _ _ => true
  | .aup _ _ _ => true
  | .load _ _ _ _ _ => true
  | .store _ _ _ _ _ => true
  | .br _ _ _ _ _ => true
  | .jal _ _ _ => true
  | .jalr _ _ _ _ => true
  | .mul _ _ _ _ => true
  | .mulh _ _ _ _ => true
  | .mulhu _ _ _ _ => true
  | .div _ _ _ _ => true
  | .divu _ _ _ _ => true
  | .rem _ _ _ _ => true
  | .remu _ _ _ _ => true
  | .ldw _ _ _ => true
  | .lde _ _ _ => true
  | .stf _ _ _ => true
  | .tclr _ _ => true
  | .tget _ _ _ => true
  | .cadd _ _ _ _ => true
  | .tinite _ _ _ => true
  | .tinitf _ _ _ => true
  | .tagWaitComplete _ => true
  | .waitTimeout _ => true
  | .fence _ _ => true
  | .ifence _ => true
  | .arv _ _ _ => true
  | .bwt _ _ _ _ => true
  | .barrierWaitComplete _ => true
  | .wfe _ => true
  | .wfeWake _ => true
  | .wtick _ _ => true
  | .wtickExpiry _ => true
  | .svc _ _ => true
  | .brk _ _ => true
  | .eret _ => true
  | .crd _ _ _ => true
  | .cwr _ _ _ => true
  | .cset _ _ _ _ => true
  | .cclr _ _ _ _ => true
  | .illegal _ _ => true
  | .interrupt _ => true
  | .clauseWrite _ slot off data => slot < 2 ^ 8 && off < 2 ^ 16 && data.length ≤ 8160
  | .clauseCommit _ slot => slot < 2 ^ 8
  | .clauseBind _ target flags up down => target < 2 ^ 8 && flags < 2 ^ 8 && up < 2 ^ 8 && down < 2 ^ 8
  | .clauseQuery _ slot => slot < 2 ^ 8
  | .clauseFree _ slot => slot < 2 ^ 8
  | .tdld _ _ _ _ => true
  | .tdst _ _ _ _ => true
  | .tdrd _ _ _ _ => true
  | .tdwr _ _ _ _ => true
  | .tdadd _ _ _ _ => true
  | .tmma _ _ _ _ => true
  | .tmm _ _ _ _ => true
  | .tewAdd _ _ _ _ => true
  | .tewSub _ _ _ _ => true
  | .tewMul _ _ _ _ => true
  | .tewMax _ _ _ _ => true
  | .tewMin _ _ _ _ => true
  | .scale _ _ _ _ => true
  | .relu _ _ _ => true
  | .clamp _ _ _ _ => true
  | .sigm _ _ _ => true
  | .tanh _ _ _ => true
  | .exp _ _ _ => true
  | .recip _ _ _ => true
  | .rsqrt _ _ _ => true
  | .gelu _ _ _ => true
  | .softplus _ _ _ => true
  | .log _ _ _ => true
  | .rsum _ _ _ => true
  | .rmax _ _ _ => true
  | .rmin _ _ _ => true
  | .tacc _ _ _ => true
  | .tamax _ _ _ => true
  | .tcpy _ _ _ => true
  | .tzero _ _ => true
  | .ttrn _ _ _ => true
  | .twait _ => true
  | .tend _ => true
  | .tflags _ _ => true
  | .jobLaunch _ _ => true
  | .jobStart => true
  | .jobEnd _ => true
  | .jobTimeout _ => true
  | .jobAbort _ _ => true
  | .tileFail _ reason => reason < 2 ^ 8
  | .partitionZero _ _ _ => true
  | .zeroComplete _ => true
  | .qualifierTick => true
  | .quaTgtWrite _ _ _ => true
  | .modelWrite _ slot off data => slot < 2 ^ 8 && off < 2 ^ 32 && data.length ≤ 8160
  | .modelCommit _ slot => slot < 2 ^ 8
  | .modelAssign _ slot role => slot < 2 ^ 8 && role < 2 ^ 8
  | .modelQuery _ slot => slot < 2 ^ 8
  | .modelFree _ slot => slot < 2 ^ 8
  | .modelRun _ slot data => slot < 2 ^ 8 && data.length ≤ 8160
  | .modelRead _ slot => slot < 2 ^ 8
  | .modelCfg _ role failLimit => role < 2 ^ 8 && failLimit < 2 ^ 16
  | .read _ => true
  | .register _ => true
  | .unregister _ => true
  | .claim _ => true
  | .setOwner _ => true
  | .lineCfgWrite _ _ _ => true
  | .lineFail _ => true
  | .groupCommit _ _ _ => true
  | .groupJoin _ group role member generation periodUs phaseUs children peers => group < 2 ^ 8 && role < 2 ^ 8 && member < 2 ^ 16 && generation < 2 ^ 32 && periodUs < 2 ^ 16 && phaseUs < 2 ^ 16 && children < 2 ^ 8 && peers.all Peer.wf
  | .groupLeave _ group generation => group < 2 ^ 8 && generation < 2 ^ 32
  | .groupQuery _ group => group < 2 ^ 8
  | .objQuery _ kind index => kind < 2 ^ 8 && index < 2 ^ 16
  | .dumpRead _ off length flags => off < 2 ^ 32 && length < 2 ^ 16 && flags < 2 ^ 8
  | .dumpRequest _ _ => true
  | .dumpWrite _ core => core < 2 ^ 8
  | .relayRound _ => true
  | .roundExamine _ => true
  | .round _ f => f.wf
  | .staged _ f => f.wf
  | .agrCommit _ f => f.wf
  | .arrive _ f => f.wf
  | .release _ f => f.wf
  | .stagedRetry _ => true
  | .arriveRetry _ => true
  | .childLost _ _ => true
  | .orphaned _ => true
  | .portDown _ => true
  | .portUp _ => true
  | .cnp qp => qp < 2 ^ 12
  | .rateRecovery qp => qp < 2 ^ 12
  | .mkaSecured _ peer => peer < 2 ^ 64
  | .mkaLost _ reason => reason < 2 ^ 8
  | .ptpMessage _ _ _ _ _ => true
  | .cmReq q => q.wf
  | .rdmaWrite qp rkey addr data _ => qp < 2 ^ 12 && rkey < 2 ^ 32 && addr < 2 ^ 64 && data.length ≤ 8160
  | .rdmaRead qp rkey addr len _ => qp < 2 ^ 12 && rkey < 2 ^ 32 && addr < 2 ^ 64 && len < 2 ^ 32
  | .writeWithImmediate qp rkey addr data _ _ => qp < 2 ^ 12 && rkey < 2 ^ 32 && addr < 2 ^ 64 && data.length ≤ 8160
  | .mailboxServe own => own.all OwnOrder.wf
  | .mbxDone _ _ _ => true
  | .mbxPush _ _ _ => true
  | .identify _ => true
  | .portQuery _ port => port < 2 ^ 8
  | .portCfg _ port flags _ _ => port < 2 ^ 8 && flags < 2 ^ 8
  | .streamCfg _ c => c.wf
  | .streamQuery _ stream => stream < 2 ^ 8
  | .ptpCfg _ _ _ => true
  | .upCfg _ _ => true
  | .reset _ kind => kind < 2 ^ 8
  | .pldmPassthrough _ msg => msg.length ≤ 8160
  | .updateComponent component size step => component < 2 ^ 16 && size < 2 ^ 32 && step.wf
  | .activateFirmware => true
  | .streamPeriod _ brought => brought.wf
  | .attest _ _ => true
  | .signingServe => true
  | .certGet _ index off length => index < 2 ^ 8 && off < 2 ^ 32 && length < 2 ^ 16
  | .confSet _ on => on < 2 ^ 8
  | .confExit => true
  | .ctxOpen _ slot ctx _ => slot < 2 ^ 8 && ctx < 2 ^ 8
  | .ctxClose _ slot ctx => slot < 2 ^ 8 && ctx < 2 ^ 8
  | .ctxAnnounce _ slot ctx => slot < 2 ^ 8 && ctx < 2 ^ 8
  | .sessionOpen _ slot ctx _ _ _ => slot < 2 ^ 8 && ctx < 2 ^ 8
  | .sessionConfirm _ session _ => session < 2 ^ 16
  | .sessionReq _ session counter _ cipher => session < 2 ^ 16 && counter < 2 ^ 64 && cipher.length ≤ 8160
  | .sessionClose _ session => session < 2 ^ 16
  | .keyEnroll _ slot _ _ => slot < 2 ^ 8
  | .ctxLogRead _ session fromSeq count => session < 2 ^ 16 && fromSeq < 2 ^ 32 && count < 2 ^ 16
  | .debugChallenge _ => true
  | .debugUnlock _ _ _ => true
  | .ownerProvision _ _ _ => true
  | .decommission _ _ => true
  | .nonceExpiry => true
  | .trngFail test => test < 2 ^ 8
  | .scrubStepDone _ => true
  | .ownedEntry _ => true
  | .idcode => true
  | .bypass => true
  | .extest drive => drive.length ≤ 8160
  | .sample capture => capture.length ≤ 8160
  | .stageWrite _ target off data => target < 2 ^ 8 && off < 2 ^ 32 && data.length ≤ 8160
  | .stageCommit _ target size => target < 2 ^ 8 && size < 2 ^ 32
  | .activate _ target flags => target < 2 ^ 8 && flags < 2 ^ 8
  | .confirm _ target => target < 2 ^ 8
  | .updateQuery _ target => target < 2 ^ 8
  | .cancel _ target => target < 2 ^ 8
  | .imageKeyFuse _ slot _ _ => slot < 2 ^ 8
  | .imageKeyRevoke _ slot _ => slot < 2 ^ 8
  | .activationRecheck => true
  | .activationDrop => true
  | .healthConfirm _ _ => true
  | .healthWindowExpiry => true
  | .slotFlashDone _ _ => true
  | .coreReset _ => true
  | .rstCoreCmd _ _ => true
  | .watchdogKick _ _ _ => true
  | .watchdogExpiry _ => true
  | .crashCheck => true
  | .selfTestDone _ _ => true
  | .abortRelease _ mask => mask < 2 ^ 8
  | .sramError e => e.wf
  | .wake _ => true
  | .mainPgGood _ => true
  | .mainSupplyTimeout => true
  | .mainPgLoss => true
  | .wakeRetry => true
  | .standbyEntry => true
  | .thermalShedExit => true
  | .avsSetpoint _ => true
  | .eventAdmit src code sev _ payload => src < 2 ^ 8 && code < 2 ^ 16 && sev ≤ 4 && payload.all (· < 2 ^ 64)
  | .inventoryRead _ id => id.modules.length ≤ 3
  | .inventoryCommit => true
  | .invQuery _ section_ => section_ < 2 ^ 8
  | .recordsRead _ fromSeq count => fromSeq < 2 ^ 32 && count < 2 ^ 16
  | .repairQuery _ => true
  | .hoursRead _ index => index < 2 ^ 8
  | .pumpRecover _ period => period < 2 ^ 20
  | .qpDisconnect qp => qp < 2 ^ 12
  | .readyHoldTimeout => true
  | .imageSlotWritten _ => true
  | .sakRekey _ => true

end Sys2Proof
end

