-- ==== Sys2Proof/Tests/Slice0.lean ====
section
/-!
SUPPORT. Tests: an ill-formed command for each check of WellFormed, which it refuses; results of single steps, taken from
the manual; and for each statement concrete states and operands that meet its hypotheses (witness_<statement>).  A condition
that turns on an opaque constant of Config (a signature, a free value) has no witness of either sign that Lean can evaluate;
where such a condition stands beside others, the witness is of the others.
-/
namespace Sys2Proof.Tests

open Sys2Proof Sys2Proof.Machine

/-! ## States to start from -/

/-- A state with fields set. -/
def put (s : State) (l : List (Fd × Nat)) : State := (Act.each l fun p => Act.setF p.1 p.2).run s

/-- A state with bytes of memory written. -/
def poke (s : State) (a : Nat) (l : List Byte) : State := (Act.setBytes a l).run s

/-- A state with core k changed. -/
def withCore (s : State) (k : Fin 13) (f : Core → Core) : State := { s with cores := s.cores.set k (f s.cores[k]) }

/-- A state with core k running. -/
def running (s : State) (k : Fin 13) : State := withCore s k fun c => { c with run := .running }

/-- A state with a general register of core k set. -/
def withG (s : State) (k : Fin 13) (r : Fin 32) (v : Nat) : State :=
  withCore s k fun c => { c with gpr := c.gpr.set r (BitVec.ofNat 64 v) }

/-- Cores 0 to 2 run, mailbox 0 is the manager's and mailbox 1 the tray host's, and a service image runs. -/
def live : State :=
  let s := put (running (running State.reset 1) 2) [(F.MBX_ASSIGN.source 0, 1), (F.MBX_ASSIGN.source 1, 2)]
  { s with boot := { s.boot with svcUp := true } }

/-! ## Ill-formed commands, which WellFormed refuses -/

/-- Ill-formed commands, one for each check, part 1. -/
theorem test_ill_formed_1 : (([
  .csrWrite 0 0x170000 0#32,
  .ethFrameReceive 0 0 (2 ^ 32) 0 false .plain,
  .ethFrameReceive 0 0 0 (2 ^ 32) false .plain,
  .powerOrder 0 (2 ^ 8) 0 0,
  .powerOrder 0 0 (2 ^ 8) 0,
  .powerOrder 0 0 0 (2 ^ 16),
  .query 0 (2 ^ 8),
  .clearFault 0 (2 ^ 8),
  .domOn 0 (2 ^ 64),
  .domOff 0 (2 ^ 64),
  .waitPg 0 (2 ^ 64),
  .pmicOn 0 (2 ^ 64),
  .pmicOff 0 (2 ^ 64),
  .pmicVset 0 (2 ^ 64) 0 0,
  .pmicVset 0 0 (2 ^ 64) 0,
  .pmicVset 0 0 0 (2 ^ 64),
  .regOn 0 (2 ^ 64),
  .regOff 0 (2 ^ 64),
  .regVset 0 (2 ^ 64) 0,
  .regVset 0 0 (2 ^ 64),
  .flashMux 0 (2 ^ 64),
  .waitTime 0 (2 ^ 64),
  .capStage 0 (2 ^ 8) 0 0,
  .capStage 0 0 (2 ^ 16) 0,
  .capStage 0 0 0 (2 ^ 32),
  .floorSet 0 (2 ^ 8) 0 0,
  .floorSet 0 0 (2 ^ 8) 0,
  .floorSet 0 0 0 (2 ^ 16),
  .capCfg 0 (2 ^ 8) 0 0,
  .capCfg 0 0 (2 ^ 8) 0,
  .capCfg 0 0 0 (2 ^ 16),
  .groupCap 0 (2 ^ 8) 0 0 0 [],
  .groupCap 0 0 (2 ^ 8) 0 0 [],
  .groupCap 0 0 0 (2 ^ 32) 0 [],
  .groupCap 0 0 0 0 (2 ^ 32) [],
  .groupCap 0 0 0 0 0 [2 ^ 64]] : List Instr).all fun i => !i.wf) = true := by decide +kernel

/-- Ill-formed commands, one for each check, part 2. -/
theorem test_ill_formed_2 : (([
  .limiterUpdate (2 ^ 16) 0 0 0,
  .limiterUpdate 0 (2 ^ 32) 0 0,
  .limiterUpdate 0 0 (2 ^ 16) 0,
  .bankOvervoltage (2 ^ 16),
  .controlSetSample [⟨280, 0, 0, true⟩],
  .fastRound false 0#5 [⟨280, 0, 0, true⟩],
  .slowRound false [⟨280, 0, 0, true⟩],
  .moduleSensorRead 0 280 false false 0,
  .sensorStale 280,
  .stuckSensor 280,
  .fanFail 0 (2 ^ 20) 0,
  .fanFail 0 0 (2 ^ 32),
  .fanRecover 0 (2 ^ 20),
  .pumpFail 0 false (2 ^ 20) 0,
  .pumpFail 0 false 0 (2 ^ 32),
  .flowLost 0 (2 ^ 32),
  .flowRestored 0 (2 ^ 32),
  .periodWave ⟨false, false, 65536, 0, 0#8, 0#8⟩,
  .proofTest (2 ^ 8),
  .inputOvercurrentCut (2 ^ 16),
  .inputOvercurrentPace (2 ^ 16),
  .busOvervoltage (2 ^ 16),
  .busUndervoltageCut (2 ^ 16),
  .busUndervoltagePace (2 ^ 16),
  .leakSample false (List.replicate 9 ⟨0, 0, 0⟩),
  .frameStrobe true (List.replicate 10 ⟨[], false⟩),
  .exportRefresh (2 ^ 32) [],
  .exportRefresh 0 (List.replicate 9 (0, false)),
  .commandLinkLost (2 ^ 32),
  .commandLinkRestored (2 ^ 32),
  .readI (2 ^ 8) 0#32 0 0#16,
  .readV (2 ^ 8) 0#32 0 0#16,
  .setIGain (2 ^ 8) 0#32 0#16,
  .setIOfs (2 ^ 8) 0#32 0#16,
  .setVGain (2 ^ 8) 0#32 0#16,
  .setVOfs (2 ^ 8) 0#32 0#16,
  .commit (2 ^ 8) 0#32 0#16,
  .readConst (2 ^ 8) 0#32 0#16,
  .tariff 0 (2 ^ 4) 0,
  .tariff 0 0 (2 ^ 6)] : List Instr).all fun i => !i.wf) = true := by decide +kernel

/-- Ill-formed commands, one for each check, part 3. -/
theorem test_ill_formed_3 : (([
  .meterQuery 0 (2 ^ 8),
  .logRead 0 (2 ^ 32) 0,
  .logRead 0 0 (2 ^ 16),
  .intervalSet 0 (2 ^ 8) 0 0,
  .intervalSet 0 0 (2 ^ 8) 0,
  .intervalSet 0 0 0 (2 ^ 32),
  .bandSet 0 (2 ^ 8) 0,
  .bandSet 0 0 (2 ^ 32),
  .attribQuery 0 (2 ^ 8),
  .clauseWrite 0 (2 ^ 8) 0 [],
  .clauseWrite 0 0 (2 ^ 16) [],
  .clauseWrite 0 0 0 (List.replicate 8161 0#8),
  .clauseCommit 0 (2 ^ 8),
  .clauseBind 0 (2 ^ 8) 0 0 0,
  .clauseBind 0 0 (2 ^ 8) 0 0,
  .clauseBind 0 0 0 (2 ^ 8) 0,
  .clauseBind 0 0 0 0 (2 ^ 8),
  .clauseQuery 0 (2 ^ 8),
  .clauseFree 0 (2 ^ 8),
  .tileFail 0 (2 ^ 8),
  .modelWrite 0 (2 ^ 8) 0 [],
  .modelWrite 0 0 (2 ^ 32) [],
  .modelWrite 0 0 0 (List.replicate 8161 0#8),
  .modelCommit 0 (2 ^ 8),
  .modelAssign 0 (2 ^ 8) 0,
  .modelAssign 0 0 (2 ^ 8),
  .modelQuery 0 (2 ^ 8),
  .modelFree 0 (2 ^ 8),
  .modelRun 0 (2 ^ 8) [],
  .modelRun 0 0 (List.replicate 8161 0#8),
  .modelRead 0 (2 ^ 8),
  .modelCfg 0 (2 ^ 8) 0,
  .modelCfg 0 0 (2 ^ 16),
  .groupJoin 0 (2 ^ 8) 0 0 0 0 0 0 [],
  .groupJoin 0 0 (2 ^ 8) 0 0 0 0 0 [],
  .groupJoin 0 0 0 (2 ^ 16) 0 0 0 0 [],
  .groupJoin 0 0 0 0 (2 ^ 32) 0 0 0 [],
  .groupJoin 0 0 0 0 0 (2 ^ 16) 0 0 [],
  .groupJoin 0 0 0 0 0 0 (2 ^ 16) 0 []] : List Instr).all fun i => !i.wf) = true := by decide +kernel

/-- Ill-formed commands, one for each check, part 4. -/
theorem test_ill_formed_4 : (([
  .groupJoin 0 0 0 0 0 0 0 (2 ^ 8) [],
  .groupJoin 0 0 0 0 0 0 0 0 [⟨2 ^ 48, 0, false⟩],
  .groupLeave 0 (2 ^ 8) 0,
  .groupLeave 0 0 (2 ^ 32),
  .groupQuery 0 (2 ^ 8),
  .objQuery 0 (2 ^ 8) 0,
  .objQuery 0 0 (2 ^ 16),
  .dumpRead 0 (2 ^ 32) 0 0,
  .dumpRead 0 0 (2 ^ 16) 0,
  .dumpRead 0 0 0 (2 ^ 8),
  .dumpWrite 0 (2 ^ 8),
  .round 0 ⟨2 ^ 48, 0, 0, 0, 0, 0, 0, 0, 0, 0, []⟩,
  .staged 0 ⟨2 ^ 48, 0, 0, 0, 0, 0, 0, 0, 0, 0, []⟩,
  .agrCommit 0 ⟨2 ^ 48, 0, 0, 0, 0, 0, 0, 0, 0, 0, []⟩,
  .arrive 0 ⟨2 ^ 48, 0, 0, 0, 0, 0, 0, 0, 0, 0, []⟩,
  .release 0 ⟨2 ^ 48, 0, 0, 0, 0, 0, 0, 0, 0, 0, []⟩,
  .cnp (2 ^ 12),
  .rateRecovery (2 ^ 12),
  .mkaSecured 0 (2 ^ 64),
  .mkaLost 0 (2 ^ 8),
  .cmReq ⟨0, none, 4096, none, none, false, 0, 0, false⟩,
  .rdmaWrite (2 ^ 12) 0 0 [] false,
  .rdmaWrite 0 (2 ^ 32) 0 [] false,
  .rdmaWrite 0 0 (2 ^ 64) [] false,
  .rdmaWrite 0 0 0 (List.replicate 8161 0#8) false,
  .rdmaRead (2 ^ 12) 0 0 0 false,
  .rdmaRead 0 (2 ^ 32) 0 0 false,
  .rdmaRead 0 0 (2 ^ 64) 0 false,
  .rdmaRead 0 0 0 (2 ^ 32) false,
  .writeWithImmediate (2 ^ 12) 0 0 [] 0#32 false,
  .writeWithImmediate 0 (2 ^ 32) 0 [] 0#32 false,
  .writeWithImmediate 0 0 (2 ^ 64) [] 0#32 false,
  .writeWithImmediate 0 0 0 (List.replicate 8161 0#8) 0#32 false,
  .portQuery 0 (2 ^ 8),
  .portCfg 0 (2 ^ 8) 0 0#32 0#128,
  .portCfg 0 0 (2 ^ 8) 0#32 0#128,
  .streamCfg 0 ⟨256, 0, 0, 0, 0, 0, 0, 0⟩,
  .streamQuery 0 (2 ^ 8),
  .reset 0 (2 ^ 8),
  .pldmPassthrough 0 (List.replicate 8161 0#8),
  .updateComponent (2 ^ 16) 0 .verify] : List Instr).all fun i => !i.wf) = true := by decide +kernel

/-- Ill-formed commands, one for each check, part 5. -/
theorem test_ill_formed_5 : (([
  .updateComponent 0 (2 ^ 32) .verify,
  .updateComponent 0 0 (.write 0 (List.replicate 8161 0#8)),
  .certGet 0 (2 ^ 8) 0 0,
  .certGet 0 0 (2 ^ 32) 0,
  .certGet 0 0 0 (2 ^ 16),
  .confSet 0 (2 ^ 8),
  .ctxOpen 0 (2 ^ 8) 0 0#256,
  .ctxOpen 0 0 (2 ^ 8) 0#256,
  .ctxClose 0 (2 ^ 8) 0,
  .ctxClose 0 0 (2 ^ 8),
  .ctxAnnounce 0 (2 ^ 8) 0,
  .ctxAnnounce 0 0 (2 ^ 8),
  .sessionOpen 0 (2 ^ 8) 0 0#512 0#512 0#256,
  .sessionOpen 0 0 (2 ^ 8) 0#512 0#512 0#256,
  .sessionConfirm 0 (2 ^ 16) 0#256,
  .sessionReq 0 (2 ^ 16) 0 0#128 [],
  .sessionReq 0 0 (2 ^ 64) 0#128 [],
  .sessionReq 0 0 0 0#128 (List.replicate 8161 0#8),
  .sessionClose 0 (2 ^ 16),
  .keyEnroll 0 (2 ^ 8) 0#512 0#512,
  .ctxLogRead 0 (2 ^ 16) 0 0,
  .ctxLogRead 0 0 (2 ^ 32) 0,
  .ctxLogRead 0 0 0 (2 ^ 16),
  .trngFail (2 ^ 8),
  .extest (List.replicate 8161 0#8),
  .sample (List.replicate 8161 0#8),
  .stageWrite 0 (2 ^ 8) 0 [],
  .stageWrite 0 0 (2 ^ 32) [],
  .stageWrite 0 0 0 (List.replicate 8161 0#8),
  .stageCommit 0 (2 ^ 8) 0,
  .stageCommit 0 0 (2 ^ 32),
  .activate 0 (2 ^ 8) 0,
  .activate 0 0 (2 ^ 8),
  .confirm 0 (2 ^ 8),
  .updateQuery 0 (2 ^ 8),
  .cancel 0 (2 ^ 8),
  .imageKeyFuse 0 (2 ^ 8) 0#256 0#512,
  .imageKeyRevoke 0 (2 ^ 8) 0#512,
  .abortRelease 0 (2 ^ 8),
  .sramError ⟨0, 49152, 0, false⟩,
  .mailboxServe (some (.clearFault (2 ^ 8))),
  .streamPeriod 0 ⟨[(64, [])], []⟩] : List Instr).all fun i => !i.wf) = true := by decide +kernel

/-- Ill-formed commands, one for each check, part 6. -/
theorem test_ill_formed_6 : (([
  .eventAdmit (2 ^ 8) 0 0 false [],
  .eventAdmit 0 (2 ^ 16) 0 false [],
  .eventAdmit 0 0 5 false [],
  .eventAdmit 0 0 0 false [2 ^ 64],
  .inventoryRead 0 ⟨false, 0#32, 0#128, List.replicate 4 (0, 0, 0)⟩,
  .invQuery 0 (2 ^ 8),
  .recordsRead 0 (2 ^ 32) 0,
  .recordsRead 0 0 (2 ^ 16),
  .hoursRead 0 (2 ^ 8),
  .pumpRecover 0 (2 ^ 20),
  .qpDisconnect (2 ^ 12)] : List Instr).all fun i => !i.wf) = true := by decide +kernel

/-! ## Instructions of K32 -/

theorem witness_StepRunsTheFrontCommand : ({ State.reset with pending := [.xtalLost, .idcode] } : State).pending = .xtalLost :: [.idcode] :=
  rfl

/-- A die without power. -/
def dark : State := { State.reset with powered := false }

theorem witness_AMisStrappedTrayRunsAsWorker : dark.powered = false := rfl

theorem witness_EveryStepKeepsTheStateWellFormed : Wf State.reset ∧ step State.reset = .next State.reset :=
  ⟨⟨rfl, ⟨rfl, rfl⟩, rfl, ⟨by decide, by decide, by decide, by decide⟩, by unfold coreOk; decide⟩, rfl⟩

theorem witness_NoRunUnburnsAFuse : Reaches State.reset { State.reset with powered := false } :=
  .after .alwaysOnLoss .here rfl

theorem witness_TheRoleHoldsFromOneColdStartToTheNext :
    (State.reset.powered = true ∧ exec .alwaysOnLoss State.reset = .next dark) ∧ dark.powered = false := ⟨⟨rfl, rfl⟩, rfl⟩

/-- The security core after reset executes, as a core whose instruction completes. -/
theorem witness_Fetches : Fetches State.reset (.core 0) ∧ InBudget State.reset (.core 0) := by
  unfold Fetches InBudget; (try dsimp only); (repeat' apply And.intro) <;> first | decide | rfl

/-- So does a thread of the mode F job 0. -/
def threaded : State :=
  { State.reset with
      jobs := [(0, { Job.reset with st := .running, threads := 2 })],
      threads := [(0, { Thread.reset with st := .running, pc := 0x10000000 }),
                  (1, { Thread.reset with st := .running, num := 1, pc := 0x10000000 })] }

theorem witness_Fetches_thread : Fetches threaded (.thread 0) ∧ InBudget threaded (.thread 0) := by
  unfold Fetches InBudget; (try dsimp only); (repeat' apply And.intro) <;> first | decide | rfl

/-- The hypotheses of Computes3 and ComputesI: the same ones, and where there is one an immediate that is legal. -/
theorem witness_RegisterArithmeticComputes : Fetches State.reset (.core 0) ∧ InBudget State.reset (.core 0) := witness_Fetches
theorem witness_DivisionNeverTraps : Fetches threaded (.thread 0) ∧ InBudget threaded (.thread 0) := witness_Fetches_thread
theorem witness_ImmediateAndCountingInstructionsCompute :
    Fetches State.reset (.core 0) ∧ InBudget State.reset (.core 0) ∧
    (0x15F#17).toNat < 2 ^ 9 ∧ (0x15F#17).getLsbD 8 = true ∧ (0x15F#17).getLsbD 5 = false ∧ (0xFF#17).getLsbD 8 = false :=
  ⟨witness_Fetches.1, witness_Fetches.2, by decide⟩

/-- g1 and g2 of the security core. -/
def two (x y : Nat) : State := withG (withG State.reset 0 1 x) 0 2 y

theorem witness_BranchesAndJumpsGoWhereTheyShould :
    Fetches (two 5 7) (.core 0) ∧ InBudget (two 5 7) (.core 0) ∧
    (let x := (two 5 7).gprOf (.core 0) 1
     let y := (two 5 7).gprOf (.core 0) 2
     false = decide (x = y) ∧ true = decide (x ≠ y) ∧ true = decide (x.toInt < y.toInt) ∧ false = decide (y.toInt ≤ x.toInt) ∧
     true = decide (x.toNat < y.toNat) ∧ false = decide (y.toNat ≤ x.toNat)) ∧
    ((two 8 0).gprOf (.core 0) 1 + (4#17).signExtend 64).toNat % 4 = 0 := by
  unfold Fetches InBudget; (try dsimp only); (repeat' apply And.intro) <;> first | decide | rfl

theorem witness_LoadsAndStoresReachMemory :
    let s := two 0x10000000 0
    Fetches s (.core 0) ∧ InBudget s (.core 0) ∧ inMemory 0x10000000 = true ∧ csrOffset 0x10000000 = none ∧
    s.memoryUp 0x10000000 = true ∧ s.dataExc 0 0x10000000 8 false = none ∧ s.wordBad 0x10000000 = false ∧
    s.dataExc 0 0x10000000 8 true = none ∧ s.waitersOn (wordNo 0x10000000) = [] ∧
    (s.gprOf (.core 0) 1 + (0#14).signExtend 64).toNat = 0x10000000 := by
  unfold Fetches InBudget; (try dsimp only); (repeat' apply And.intro) <;> first | decide | rfl

/-- A word of shared SRAM, usable, FULL or EMPTY. -/
theorem witness_TagInstructionsActOnTheWord :
    let s := two 0x10000000 0
    let f : State := { s with tags := [(0, true)] }
    Fetches s (.core 0) ∧ InBudget s (.core 0) ∧ s.isPoisoned 0 = false ∧ s.wordBad (wordAddr 0) = false ∧ s.waitersOn 0 = [] ∧
    s.tagFull 0 = false ∧ s.tagAddr (.core 0) (s.gprOf (.core 0) 1).toNat 4 = .ok 0 ∧ s.tagAddr (.core 0) 0x10000000 6 = .ok 0 ∧
    f.tagFull 0 = true ∧ f.waitersOn 0 = [] ∧ f.isPoisoned 0 = false ∧ f.tagAddr (.core 0) (f.gprOf (.core 0) 1).toNat 2 = .ok 0 ∧
    Fetches f (.core 0) ∧ InBudget f (.core 0) ∧ f.wordBad (wordAddr 0) = false := by
  unfold Fetches InBudget; (try dsimp only); (repeat' apply And.intro) <;> first | decide | rfl

/-- Cores 1 and 2 wait on word 0, core 1 to read it and core 2 to take it. -/
def waitingTwo : State :=
  withCore (withCore (two 0x10000000 9) 1 fun c => { c with run := .waiting, wait := some ⟨.load false 0x10000000 3, 0, 0, none⟩ })
    2 fun c => { c with run := .waiting, wait := some ⟨.load true 0x10000000 3, 0, 1, none⟩ }

theorem witness_OneFillReleasesOneLdeAndEveryLdw :
    let s := waitingTwo
    Fetches s (.core 0) ∧ InBudget s (.core 0) ∧ (s.threads.map Prod.fst).Nodup ∧
    s.tagAddr (.core 0) (s.gprOf (.core 0) 1).toNat 4 = .ok 0 ∧ s.isPoisoned 0 = false ∧ s.tagFull 0 = false ∧
    s.waitersOn 0 = [(.core 1, ⟨.load false 0x10000000 3, 0, 0, none⟩), (.core 2, ⟨.load true 0x10000000 3, 0, 1, none⟩)] := by
  unfold Fetches InBudget; (try dsimp only); (repeat' apply And.intro) <;> first | decide | rfl

/-- Line 0 with the security core as its member. -/
def lined : State := put (two 0x10000000 0) [(F.AGR_LINE_CFG.members 0, 1)]

/-- The security core waits. -/
def waitingFor (x : WaitFor) (g : Option (Nat × Word)) : State :=
  withCore State.reset 0 fun c => { c with run := .waiting, wait := some ⟨x, 0, 0, g⟩ }

theorem witness_WaitsBeginAndEndAsStated :
    let s := two 0x10000000 0
    let f : State := { s with tags := [(0, true)] }
    (Fetches s (.core 0) ∧ InBudget s (.core 0) ∧ s.isPoisoned 0 = false ∧ s.tagFull 0 = false ∧
      s.tagAddr (.core 0) (s.gprOf (.core 0) 1).toNat 2 = .ok 0 ∧ s.tagAddr (.core 0) 0x10000000 6 = .ok 0 ∧
      (s.core 0).p = false ∧ s.irqs 0 = 0 ∧ s.tns.tick < (s.gprOf (.core 0) 1).toNat) ∧
    (Fetches f (.core 0) ∧ f.isPoisoned 0 = false ∧ f.tagFull 0 = true ∧ f.tagAddr (.core 0) (f.gprOf (.core 0) 1).toNat 4 = .ok 0) ∧
    (lineNo (lined.gprOf (.core 0) 2) = 0 ∧ Fetches lined (.core 0) ∧ lined.flag (F.AGR_LINE_STAT.poisoned 0) = false ∧
      bitOf (lined.members 0) (0 : Fin 13) = true ∧ bitOf (lined.arrived 0) (0 : Fin 13) = false ∧
      lined.flag (F.AGR_LINE_STAT.sense 0) = bitOf (lined.gprOf (.core 0) 2).toNat 0 ∧
      lined.flag (F.AGR_LINE_STAT.sense 0) ≠ bitOf (withG lined 0 2 1 |>.gprOf (.core 0) 2).toNat 0) ∧
    (let e := withCore State.reset 0 fun c => { c with ien := 0xFFFF, raised := 1 }
     e.irqs 0 ≠ 0 ∧ Fetches e (.core 0) ∧ (State.reset.gprOf (.core 0) 1).toNat ≤ State.reset.tns.tick) ∧
    (waitingFor (.load true 0x10000000 3) (some (0, 5#64))).waitOf (.core 0) = some ⟨.load true 0x10000000 3, 0, 0, some (0, 5#64)⟩ ∧
    (waitingFor (.fill 0x10000000 7#64) (some (2, 0#64))).waitOf (.core 0) = some ⟨.fill 0x10000000 7#64, 0, 0, some (2, 0#64)⟩ ∧
    (waitingFor (.barrier 0 true 3) (some (0, 1#64))).waitOf (.core 0) = some ⟨.barrier 0 true 3, 0, 0, some (0, 1#64)⟩ ∧
    (waitingFor (.tick 0) none).waitOf (.core 0) = some ⟨.tick 0, 0, 0, none⟩ ∧
    (let e := withCore (waitingFor .event none) 0 fun c => { c with ien := 0xFFFF, raised := 1 }
     e.waitOf (.core 0) = some ⟨.event, 0, 0, none⟩ ∧ e.irqs 0 ≠ 0 ∧ InBudget e (.core 0)) ∧
    (let w := withCore (waitingFor (.load false 0x10000000 3) none) 0 fun c => { c with waitlim := 4 }
     let late : State := { w with tns := { w.tns with tick := 4 } }
     late.waitOf (.core 0) = some ⟨.load false 0x10000000 3, 0, 0, none⟩ ∧ (WaitFor.load false 0x10000000 3).limited = true ∧
     (late.core 0).waitlim ≠ 0 ∧ 0 + (late.core 0).waitlim ≤ late.tns.tick) := by
  unfold Fetches InBudget; (try dsimp only); (repeat' apply And.intro) <;> first | decide | rfl

theorem witness_ExceptionsAndInterruptsEnterTheHandler :
    (Fetches State.reset (.core 0) ∧ (State.reset.core 0).exl = false ∧ (State.reset.core 0).p = false) ∧
    decodeWord (.core 0) 0xFFFFFFFF = none ∧
    (let e := withCore State.reset 0 fun c => { c with ien := 0xFFFF, raised := 8, ie := true }
     e.powered = true ∧ (e.core 0).run = .running ∧ (e.core 0).ie = true ∧ bitOf (e.irqs 0) 3 = true ∧
     ∀ i < 3, bitOf (e.irqs 0) i = false) := by
  unfold Fetches; (try dsimp only); (repeat' apply And.intro) <;> first | decide | rfl

/-- The security core in its handler. -/
def handling : State := withCore State.reset 0 fun c => { c with exl := true }

theorem witness_AnExceptionInAHandlerHaltsTheCore :
    Fetches handling (.core 0) ∧ (handling.core 0).exl = true ∧ (handling.core 0).p = false := by
  unfold Fetches; (try dsimp only); (repeat' apply And.intro) <;> first | decide | rfl

/-- Core 3 executes in mode P, with a region of its own. -/
def inP : State :=
  withCore State.reset 3 fun c =>
    { c with run := .running, p := true, pc := 0x10000000, pbudget := 9, regions := c.regions.set 0 ⟨0x10000, 0x117FF, 31⟩ }

theorem witness_CoreRegistersAreReadAndWritten :
    (Fetches State.reset (.core 0) ∧ (State.reset.core 0).p = false) ∧
    (Fetches inP (.core 3) ∧ (inP.core 3).p = true ∧ (inP.core 3).exl = false ∧ inP.clauseOn 3 = none) ∧
    crKnown 0x010 = true ∧ crKnown 0x000 = true := by
  unfold Fetches; (try dsimp only); (repeat' apply And.intro) <;> first | decide | rfl
/-! ## Threads, jobs and the units beside them -/

/-- A descriptor of a row of n binary32 elements at an address. -/
def row32 (base n : Nat) : TDesc := ⟨base, 0, 3, 1, ⟨#[n, 1, 1, 1], rfl⟩, Vector.replicate 3 0, Vector.replicate 3 0⟩

/-- Thread 0 of two with rows of 1 element in its descriptors, and g1 at an address of shared SRAM. -/
def rowed : State :=
  let tds := ((Thread.reset.tds.set 0 (row32 0x20000000 1)).set 1 (row32 0x20000040 1)).set 2 (row32 0x20000080 1)
  let first := { Thread.reset with st := .running, pc := 0x10000000, gpr := Thread.reset.gpr.set 1 0x10001000#64, tds := tds }
  { threaded with threads := [(0, first), (1, { Thread.reset with st := .running, num := 1, pc := 0x10000000 })] }

theorem witness_DescriptorInstructionsActOnTheirDescriptor :
    Fetches rowed (.thread 0) ∧ (rowed.gprOf (.thread 0) 1 + 64#64 * (0#8).signExtend 64).toNat % 64 = 0 ∧
    rowed.reach 0 0x10001000 64 = true ∧ rowed.threadDataExc 0x10001000 = none ∧ rowed.waits = [] ∧
    (∃ p ∈ rowed.jobThreads (rowed.thread 0).job, p.1 ≠ (0 : Fin 1024).val ∧ p.2.st ≠ .ended) ∧ Sparse.sorted rowed.threads = true := by
  unfold Fetches; (try dsimp only); (repeat' apply And.intro) <;> first | decide +kernel | rfl

theorem witness_TensorInstructionsWriteOnlyTheirDestination :
    Fetches rowed (.thread 0) ∧ rowed.confine (.thread 0) = none ∧
    ∀ e : Fin 3, (rowed.td 0 ⟨e, by omega⟩).usable = true ∧ (rowed.td 0 ⟨e, by omega⟩).inTs = true := by
  unfold Fetches; (try dsimp only); (repeat' apply And.intro) <;> first | decide +kernel | rfl

theorem witness_ElementwiseResultsAreRoundedOnce :
    Fetches rowed (.thread 0) ∧ rowed.confine (.thread 0) = none ∧ Row32 (rowed.td 0 0) 1 ∧ Row32 (rowed.td 0 1) 1 ∧
    Row32 (rowed.td 0 2) 1 := by
  unfold Fetches Row32; (try dsimp only); (repeat' apply And.intro) <;> first | decide +kernel | rfl

/-- The row holds 0, at which RECIP, RSQRT and LOG saturate. -/
theorem witness_ActivationsAndReductionsStayFinite :
    Fetches rowed (.thread 0) ∧ rowed.confine (.thread 0) = none ∧ Row32 (rowed.td 0 0) 1 ∧ Row32 (rowed.td 0 2) 1 ∧
    (laneAt rowed (rowed.td 0 0) 0).m = 0 := by
  unfold Fetches Row32; (try dsimp only); (repeat' apply And.intro) <;> first | decide +kernel | rfl

/-- The Conjugator is on, and shared SRAM holds a job record of one thread at 0x1000_1000. -/
def launching : State :=
  poke (put (running live 1) [(F.CNJ_CTL.en, 1), (F.RST_STATUS.pwr, 3)]) 0x10001000
    (leBytes 8 0x10000000 ++ leBytes 8 0 ++ leBytes 8 0x10002000 ++ leBytes 2 1 ++ leBytes 1 1)

/-- One job waits, another runs with two threads and has used its time. -/
def busyJobs : State :=
  let s := put threaded [(F.RST_STATUS.pwr, 3)]
  { s with jobs := [(0, { Job.reset with st := .running, issuer := 1, threads := 2, limitUs := 5, done := 0x10002000 }),
                    (1, { Job.reset with st := .queued, issuer := 1, threads := 1, prio := 1, entry := 0x10000000 })],
           tns := { s.tns with tick := 5 } }

theorem witness_JobsAreLaunchedStartedStoppedAndEnded :
    (let s := launching
     let r := s.jobRecord 1 0x10001000
     s.powered = true ∧ s.coreUp 1 = true ∧ s.launchStatus 1 0x10001000 r = 1 ∧ s.launchStatus 1 0x10001010 r = 2 ∧
     (0x10001000#32).toNat / 64 * 64 = 0x10001000) ∧
    (busyJobs.powered = true ∧ busyJobs.active = true ∧ (busyJobs.nextJob.map Prod.fst) = some 1) ∧
    ((busyJobs.job 0).st = .running ∧ (busyJobs.job 0).limitUs ≠ 0 ∧
      (busyJobs.job 0).accepted + (busyJobs.job 0).limitUs ≤ busyJobs.tns.tick) ∧
    ((busyJobs.job (64 % 64)).st = .running ∧ busyJobs.coreUp 0 = true) ∧
    (let e : State := { busyJobs with jobs := [(0, { Job.reset with st := .ending, done := 0x10002000 })] }
     e.powered = true ∧ (e.job 0).st = .ending ∧ (e.job 0).done % 8 = 0 ∧ inShared (e.job 0).done = true ∧ e.waits = []) := by
  (try dsimp only); (repeat' apply And.intro) <;> first | decide +kernel | rfl

theorem witness_FailedTilesAndZeroedWindows :
    (let s := busyJobs
     s.powered = true ∧ s.active = true ∧ s.tileFailed 0 = false ∧ s.tiles.idxOf? 0 = some 0 ∧ s.tiles.idxOf? 17 = none ∧
     s.jobsOn 0 = [0] ∧ s.tileSpares = [16, 17] ∧ { s with tiles := List.range 18 }.tileSpares = [] ∧ s.coreUp 0 = true ∧
     s.slotBusy 0 = false) ∧
    (let s : State := { put busyJobs [(F.CNJ_PART_CTL.zero 0, 1), (F.CNJ_PART_TS.size 0, 1)] with
        jobs := [(0, { Job.reset with st := .running, modeP := true, slot := 0 })] }
     s.powered = true ∧ s.slotBusy 0 = true ∧ s.flag (F.CNJ_PART_CTL.zero 0) = true ∧ s.coreUp 0 = true ∧
     inWindow (s.winTs 0) 0x20000000 1 = true) := by
  (try dsimp only); (repeat' apply And.intro) <;> first | decide +kernel | rfl

/-- Channel 5 far below its target, with a slew of 1000 LSB per 1 ms, channel 6 above its envelope and channel 7 without a slew
limit. -/
def slewing : State :=
  put live [(F.QUA_ENV.max 5, 60000), (F.QUA_TGT.target 5, 500), (F.QUA_SLEW.up 5, 1024), (F.QUA_ENV.max 6, 8), (F.QUA_OUT.out 6, 9),
    (F.QUA_ENV.max 7, 60000), (F.QUA_TGT.target 7, 500), (F.QUA_SLEW.up 7, 0), (F.QUA_SLEW.dn 8, 0)]

theorem witness_QualifierChannelsKeepTheirEnvelope :
    let s := slewing
    s.powered = true ∧ s.coreUp 1 = true ∧ s.coreUp 2 = true ∧ s.quaMax 6 < s.quaOut 6 ∧
    (s.quaMin 5 ≤ s.quaOut 5 ∧ s.quaOut 5 ≤ s.quaMax 5 ∧ s.quaFrac.lookup 5 = none ∧ s.quaOut 5 < s.quaGoal 5 ∧
      s.fld (F.QUA_SLEW.up 5) ≠ 0) ∧
    (s.quaMin 7 ≤ s.quaOut 7 ∧ s.quaOut 7 ≤ s.quaMax 7 ∧ s.quaPos 7 < s.quaGoal 7 * 1024 ∧ s.fld (F.QUA_SLEW.up 7) = 0) ∧
    (s.quaMin 8 ≤ s.quaOut 8 ∧ s.quaOut 8 ≤ s.quaMax 8 ∧ s.quaGoal 8 * 1024 ≤ s.quaPos 8 ∧ s.fld (F.QUA_SLEW.dn 8) = 0) ∧
    (let u := put s [(F.QUA_ENV.min 9, 1)]
     u.powered = true ∧ u.quaOut 9 < u.quaMin 9) ∧
    (70000#32).toNat % 65536 < s.quaMax 5 ∧ s.quaMax 5 < (60001#32).toNat % 65536 := by
  (try dsimp only); (repeat' apply And.intro) <;> first | decide +kernel | rfl

/-- Slot 3 holds a service-rail clause of the manager, and slot 8's clause is a tray clause. -/
def claused : State :=
  let three := { ClauseSlot.reset with loaded := true, owner := 1 }
  let eight := { ClauseSlot.reset with loaded := true, owner := 1, kind := 1 }
  { live with clauses := (live.clauses.set 3 three).set 8 eight }

theorem witness_ClauseSlotsAreLoadedBoundAndFreed :
    (∀ c ∈ [1, 2, 3, 4, 5], Served claused 0 6 c 1) ∧ Served claused 1 6 1 2 ∧
    (claused.clauseOthers 1 3 = false ∧ claused.bankRuns 3 1 = false ∧ claused.clauseCheck (clauseBank 3 1) = 1 ∧
      8192 + 4096 ≤ 12288 ∧ claused.waits = []) ∧
    (claused.bindable 0 3 = true ∧ claused.bindable 8 8 = true ∧ claused.clauseOthers 1 8 = false ∧ bitOf 3 0 = true ∧
      bitOf 3 1 = true) ∧
    (claused.clauseTargets 3 = [] ∧ claused.clauseRuns 3 = false) := by
  unfold Served; (try dsimp only); (repeat' apply And.intro) <;> first | decide +kernel | rfl

/-- DDR5 is up, and model slot 2 holds an advisory model of cadence 2 of the manager with some output. -/
def modelled : State :=
  let s := put claused [(F.RST_STATUS.pwr, 3), (F.DDR_STATUS.state, 2), (F.CNJ_PART_CTL.valid 2, 1), (F.CNJ_PART_TS.size 2, 1),
    (F.CNJ_PART_SH.base 2, 2), (F.CNJ_PART_SH.size 2, 2), (F.CNJ_CTL.en, 1)]
  let two := { Model.reset with owner := 1, state := 2, cadence := 2, threads := 1, out := [1#8, 2#8] }
  let three := { Model.reset with owner := 1, state := 2, role := 3 }
  { s with learned := { s.learned with models := (s.learned.models.set 2 two).set 3 three } }

theorem witness_ModelSlotsAreCommittedAssignedRunAndFreed :
    (∀ c ∈ [0x10, 0x11, 0x12, 0x13, 0x14, 0x15, 0x16, 0x17], Served modelled 0 6 c 1) ∧ Served modelled 1 6 0x11 2 ∧
    (modelled.modelOthers 1 2 = false ∧ modelled.slotBusy 2 = false ∧ modelled.active = true ∧ modelled.fld F.DDR_STATUS.state = 2 ∧
      modelled.modelCheck (modelStage 2) = 1 ∧ modelled.modelSigned (modelStage 2) = false ∧
      modelled.modelOthers 2 5 = false ∧ modelled.hdr (modelStage 5) 6 1 = 0 ∧ 0x3FFFFFC + 4 ≤ 0x4000000) ∧
    ((modelled.model 3).state = 2 ∧ (modelled.model 3).role = (3 : Fin 4).val ∧ modelled.modelOthers 1 3 = false) ∧
    ((modelled.model 2).state = 2 ∧ (modelled.model 2).role = 0 ∧ (modelled.model 2).cadence = 2 ∧ modelled.conf = false ∧
      (modelled.model 2).out.length ≤ 4096 ∧ modelled.waits = [] ∧
      (let off := put modelled [(F.CNJ_CTL.en, 0)]
       modelled.launchStatus 2 sharedBase (launched modelled 2 (modelled.modelJob 2 1 0)) = 1 ∧
       off.launchStatus 2 sharedBase (launched off 2 (off.modelJob 2 1 0)) = 7)) := by
  unfold Served; (try dsimp only); (repeat' apply And.intro) <;> first | decide +kernel | rfl

/-! ## Itsal -/

/-- Itsal is up, and interval 4 is closed on every channel. -/
def metered : State :=
  let x := modelled.its
  let close (c : Nat) : ItsRec := ⟨c + 1, 2, c, 0, 0, 0, 0, 4, 0, 0, 0⟩
  { modelled with its := { x with
      up := true, nextSeq := 10, cur := { x.cur with interval := 5, len := 1, elapsed := 60000 },
      log := (List.range 9).map close, handled := 9, mirror := { x.mirror with lastSeq := 10 } } }

theorem witness_MeteringIsAnsweredAndAttributed :
    (∀ c ∈ [1, 2, 3, 4, 5], Served metered 0 5 c 1) ∧ Served metered 1 5 2 2 ∧ metered.conf = false ∧
    (put metered [(F.SEC_CTL.conf, 1)]).conf = true ∧ (metered.attribPayload 7 fun _ => true).length < 8160 ∧
    (metered.its.up = true ∧ metered.its.linkUp = true) ∧ PortFree metered 1 ∧ PortFree metered 2 ∧ Alive metered 2 ∧ metered.its.handled < metered.its.mirror.lastSeq ∧
    metered.its.mirror.lastSeq < metered.its.handled + 513 ∧ metered.learns = true ∧ metered.closedInterval = some 4 ∧
    metered.unmetered 4 = 0 ∧ metered.learned.attribInterval ≠ some 4 ∧ metered.learned.attrib = none ∧
    metered.launchStatus 2 sharedBase (launched metered 2 (metered.learned.svc[(2 : Fin 3)].job 1 0)) ≠ 1 ∧
    (let v : State := { metered with its := { metered.its with log := metered.its.log.map fun r => { r with flags := 1 } } }
     v.closedInterval = some 4 ∧ v.unmetered 4 ≠ 0) := by
  unfold Served Alive PortFree; (try dsimp only); (repeat' apply And.intro) <;> first | decide +kernel | rfl

theorem witness_FramesAccumulateAndIntervalsDrain :
    (let x := metered.its
     x.up = true ∧ x.naturalDue = true ∧ x.cur.closing = none ∧ State.reset.its.naturalDue = false ∧ State.reset.its.align = none ∧
     bitOf (0x100#9).toNat 8 = true ∧ bitOf (0x100#9).toNat 7 = false) ∧
    (let x := { State.reset.its with up := true, align := some (7, true), switches := [(1, 9, 5, false), (2, 9, 6, true)] }
     x.cur.closing = none ∧ x.align = some (7, true) ∧ ahead 7 3 = true ∧ (1, 9, 5, false) ∈ x.switches ∧
     ahead 9 9 = false ∧ ahead 9 8 = true ∧ ahead 0x80000000 0 = false) ∧
    (let k : ItsClosing := ⟨metered.its.cur.chans, 4, true, none, 9, false, false⟩
     let x := { metered.its with cur := { metered.its.cur with closing := some k } }
     x.cur.closing = some k ∧ x.saturated = false ∧ x.nextSeq + 400 ≤ logMax ∧
     (∀ ch : Fin 9, k.chans[ch].regs.length ≤ 33)) := by
  (try dsimp only); (repeat' apply And.intro) <;> first | decide +kernel | rfl

/-- 25 A at 56 V over one sample of 1/1.024 us is forward energy of 1,400 W / 1,024,000 s, in 1/128 aJ (R176); the same current
the other way is reverse energy. -/
theorem test_sample_energy :
    energyOf 1 true [(25000000, 56000000)] = 1400 * 128 * 10 ^ 18 / 1024000 ∧ energyOf 1 false [(25000000, 56000000)] = 0 ∧
    energyOf 1 false [(-25000000, 56000000)] = 1400 * 128 * 10 ^ 18 / 1024000 := by
  (try dsimp only); (repeat' apply And.intro) <;> first | decide +kernel | rfl

theorem witness_ItsalKeepsItsTotalsOverPowerLossAndSealsItsConstants :
    let x := metered.its
    x.up = true ∧ State.reset.its.up = false ∧ x.linkUp = true ∧ 10 < 11 ∧ { x with linkUp := false }.linkUp = false ∧
    x.sealOpen = false ∧ { x with sealOpen := true }.sealOpen = true ∧ x.saturated = false ∧
    (∀ cmd ∈ List.range' 1 8, crc16 (calRequest cmd 2 3#32) = (BitVec.ofNat 16 (crc16 (calRequest cmd 2 3#32))).toNat ∧
      crc16 (calRequest cmd 2 3#32) ≠ (BitVec.ofNat 16 (crc16 (calRequest cmd 2 3#32) + 1)).toNat) ∧
    constsLegal 0 x.staged[0] = true ∧ constsLegal 0 (x.staged[0].set 0 0) = false := by
  (try dsimp only); (repeat' apply And.intro) <;> first | decide +kernel | rfl

/-- Core 1 has two commands in flight, one that Itsal accepts and one that it discards. -/
def flown (word arg : Nat) : State := { metered with its := { metered.its with flying := [(1, word, arg)] } }

theorem witness_ItsalCommandsTakeThePortAndAreAnswered :
    Alive metered 1 ∧ Alive metered 2 ∧ metered.flag (F.SYS_ITS_STAT.busy 1) = false ∧
    (put metered [(F.SYS_ITS_STAT.busy 1, 1)]).flag (F.SYS_ITS_STAT.busy 1) = true ∧
    metered.itsMay 1 false (itsWord 1 8 32) = true ∧ metered.itsMay 1 false 0x2000 = false ∧ metered.itsMay 2 false 0x3000 = true ∧
    metered.itsMay 1 true (itsWord 1 8 32) = false ∧ ((withCore metered 1 fun c => { c with p := true }).core 1).p = true ∧
    (flown 0x1108 5).its.queue.find? (fun c => c.1 = 1) = none ∧
    { metered.its with queue := [(1, 0x1208, 5)] }.queue.find? (fun c => c.1 = 1) = some (1, 0x1208, 5) ∧
    metered.its.linkUp = true ∧ metered.its.up = true ∧ modelled.its.up = false ∧ Alive modelled 1 ∧
    (flown 0x1108 5).its.flying.find? (fun c => c.1 = (1 : Fin 13).val) = some (1, 0x1108, 5) ∧
    itsDiscards 0x1108 5 = false ∧ itsDiscards 0x1900 5 = true ∧ itsDiscards 0x2000 61 = true ∧ itsDiscards 0x2000 60 = false := by
  unfold Alive; (try dsimp only); (repeat' apply And.intro) <;> first | decide +kernel | rfl
/-! ## Orders, links, the buffer, temperatures and Period -/

theorem witness_ReduceOrdersAlwaysWin :
    let s : State := put { live with targets := live.targets.set 0 { Target.reset with stH := 2, capM := some 5 } } [(F.SEQ_PREC.raise_auth, 2)]
    Served s 0 2 1 1 ∧ Served s 1 2 1 2 ∧ (s.target 0).st (otherSource 1) = 2 ∧ s.fld F.SEQ_PREC.raise_auth ≠ 1 ∧
    s.effOn 0 = false ∧ s.effCap 0 = some 5 := by
  unfold Served; (try dsimp only); (repeat' apply And.intro) <;> first | decide +kernel | rfl

theorem witness_PowerOrdersAreKeptPerSource :
    (∀ c ∈ [1, 2, 3, 4], Served live 0 2 c 1 ∧ Served live 1 2 c 2) ∧ 3 < 4 ∧ 65535 < 65536 ∧ live.bindState 0 ≠ 3 ∧
    (put live [(F.SEQ_CLAUSE_STAT.state 0, 3)]).bindState 0 = 3 := by
  unfold Served; (try dsimp only); (repeat' apply And.intro) <;> first | decide +kernel | rfl

/-- The predictor is demoted, after n good probes. -/
def demoted (n : Nat) : State :=
  let r := { metered.learned.roles[(3 : Fin 4)] with demoted := true, probes := n }
  { metered with learned := { metered.learned with roles := metered.learned.roles.set 3 r } }

/-- Job 0 is about to end with a status, 20 ticks after it was accepted.  Job 0 is the tick job's, and its second output block lies
at the base of tensor SRAM, or the thermal job's. -/
def ending (s : State) (status : Nat) (chain thermal : Bool) : State :=
  let svc : SvcJob := { SvcJob.reset with done := sharedBase + 64, outs := [sharedBase + 4096, sharedBase + 4096] }
  { s with
    tns := { s.tns with tick := 20 }
    jobs := [(0, { Job.reset with st := .ending, status := status, done := sharedBase + 64 })]
    learned := { s.learned with
      svc := (s.learned.svc.set 0 svc).set 1 svc
      chain := if chain then some ⟨0, some (0, 0), none, []⟩ else none
      thermal := if thermal then some ((0, 0), 0) else none } }

/-- The predictor is demoted and probed, and its job is about to end. -/
def probed (n status : Nat) : State :=
  let s := ending (demoted n) status false true
  let r := { s.learned.roles[(3 : Fin 4)] with probing := true }
  { s with learned := { s.learned with roles := s.learned.roles.set 3 r } }

theorem witness_ControlEvaluationsAreAppliedOrDiscarded :
    (Alive live 1 ∧ live.fallsBack 1 = true ∧ live.learns = false ∧ live.chainRuns = false) ∧
    (Alive metered 1 ∧ metered.fallsBack 1 = false ∧ metered.fallsBack 3 = false ∧ metered.learns = true ∧
      metered.chainRuns = false ∧ metered.learned.thermal = none ∧ metered.learned.roles[(3 : Fin 4)].holder = none) ∧
    (let s := ending metered 0 true false
     Alive s 1 ∧ s.chainRuns = true ∧ s.fallsBack 1 = false ∧ s.learned.chain = some ⟨0, some (0, (s.job 0).order), none, []⟩ ∧
     s.learned.svc[(0 : Fin 3)].outs[1]? = some (sharedBase + 4096) ∧ s.learned.roles[(1 : Fin 4)].holder = none ∧
     s.learned.roles[(2 : Fin 4)].holder = none ∧ JobEnds s 0 (sharedBase + 4096) 64 ∧
     evalOk ((s.job 0).result (0 + 20 < s.tns.tick) []) = true) ∧
    evalOk (((ending metered 1 true false).job 0).result false []) = false ∧
    (let s := ending metered 0 false true
     s.learned.thermal = some ((0, (s.job 0).order), 0) ∧ s.jobLives (0, 0) = true ∧ s.learns = true ∧ (s.job 0).modeP = false ∧
     s.learned.chain = none ∧ JobEnds s 0 (s.learned.svc[(1 : Fin 3)].outs.getD 0 0) 1328 ∧
     evalOk ((s.job 0).result false []) = true) ∧
    (∀ p ∈ [(38, 0), (39, 0), (38, 1)],
      let s := probed p.1 p.2
      let x := s.learned.roles[(3 : Fin 4)]
      s.fallsBack 3 = true ∧ x.demoted = true ∧ x.probing = true ∧ x.probes = p.1 ∧
      s.learned.thermal = some ((0, (s.job 0).order), 0) ∧ JobEnds s 0 (s.learned.svc[(1 : Fin 3)].outs.getD 0 0) 1328 ∧
      evalOk ((s.job 0).result (0 + 800 < s.tns.tick) []) = decide (p.2 = 0)) ∧
    (Alive (demoted 38) 1 ∧ (demoted 38).learns = true ∧ (demoted 38).learned.roles[(3 : Fin 4)].demoted = true) := by
  unfold Alive JobEnds; (try dsimp only); (repeat' apply And.intro) <;> first | decide +kernel | rfl

/-- Link 0 is DOWN, 1 trains, 2 is up, and 3 is lost. -/
def linked : State :=
  let s := put live [(F.CMA_STATUS.state 1, 1), (F.CMA_STATUS.state 2, 2), (F.CMA_STATUS.state 3, 3), (F.CMA_LINK_CFG.loss_frames, 8),
    (F.CMA_LINK_CFG.dead_ms, 5), (F.CMA_RAMP.valid 1, 1), (F.CMA_RAMP.ramp_start 1, 1), (F.CMA_RAMP.valid 3, 1)]
  let two := { Link.reset with missRun := 8, sent := 1 }
  { s with links := (s.links.set 2 two).set 1 { Link.reset with validRun := 15 }, tns := { s.tns with tick := 5000 } }

theorem witness_CommaLinksCarryPaceAndActivity :
    let s := linked
    s.powered = true ∧ s.linkState 0 = 0 ∧ s.linkState 1 = 1 ∧ s.linkState 2 = 2 ∧ s.linkState 3 = 3 ∧
    s.flag (F.CMA_RAMP.valid 2) = false ∧ s.stairs 2 = false ∧ s.flag (F.CMA_RAMP.valid 1) = true ∧
    s.fld (F.CMA_RAMP.ramp_start 1) ≠ 0 ∧ s.flag (F.CMA_RAMP.valid 3) = true ∧ s.fld (F.CMA_RAMP.ramp_start 3) = 0 ∧
    bitOf (s.fld (F.CMA_STATUS.lane_fail 2)) 2 = false ∧ s.fld F.CMA_LINK_CFG.loss_frames ≤ s.links[(2 : Fin 8)].missRun ∧
    s.links[(3 : Fin 8)].lostAt + 1000 * s.fld F.CMA_LINK_CFG.dead_ms ≤ s.tns.tick ∧ frameValid (2 ^ 255) = false ∧ frameValid (10821 * 2 ^ 240) = true ∧ frameField (10821 * 2 ^ 240) 3 0 = 0 := by
  (try dsimp only); (repeat' apply And.intro) <;> first | decide +kernel | rfl

theorem witness_TheLimiterKeepsItsCeilings : live.powered = true := rfl

/-- The converter in a mode, with its input good. -/
def buffered (mode : Nat) (c : Conv) : State := { put live [(F.BUF_STATUS.mode, mode)] with conv := c }

theorem witness_TheBufferChangesModesAsStated :
    (let s := put live [(F.BUF_RAMP_STAT.active 1, 1), (F.BUF_RAMP_STAT.duty 1, 500)]
     let r : State := { s with ramps := s.ramps.set 1 { Ramp.reset with awaits := true, zeroAt := some 0, stair := some 4, frames := 4 } }
     r.powered = true ∧ r.stairs 1 = true ∧ r.ramps[(1 : Fin 8)].stair = some 4 ∧ 4 ≤ r.ramps[(1 : Fin 8)].frames ∧
     { r with tns := { r.tns with tick := 1000000 } }.rampOverdue 1 = true) ∧
    (let s := buffered 1 { Conv.reset with plans := [⟨2, 0, 9, false, 0, 0, 0⟩] }
     s.coreUp 1 = true ∧ s.conv.plans.any s.readyDue = true ∧ s.fld F.BUF_STATUS.mode = 1) ∧
    ((buffered 3 Conv.reset).fld F.BUF_STATUS.mode = 3 ∧ (buffered 3 Conv.reset).conv.plans = [] ∧
      (let s := buffered 3 { Conv.reset with plans := [⟨2, 0, 9, true, 0, 0, 0⟩] }
       s.fld F.BUF_STATUS.mode = 3 ∧ ⟨2, 0, 9, true, 0, 0, 0⟩ ∈ s.conv.plans ∧ s.tns.tick < 9)) ∧
    ((buffered 4 { Conv.reset with zeroFor := 160 }).fld F.BUF_STATUS.mode = 4) ∧
    (bitOf (live.fld F.BUF_STATUS.phase_fail) 3 = false ∧ live.fld F.BUF_STATUS.phase_fail = 0 ∧
      (let p := put live [(F.BUF_STATUS.phase_fail, 1)]
       bitOf (p.fld F.BUF_STATUS.phase_fail) 3 = false ∧ p.fld F.BUF_STATUS.phase_fail ≠ 0)) ∧
    live.bankVmax + 100 < live.bankVmax + 101 ∧
    (let s : State := put live [(F.BUF_MARGIN_MAP0.map, 16), (F.SEQ_DOM_CFG.kind 4, 1), (F.SEQ_DOM_EN.en 0, 16)]
     s.mapped 4 = true ∧ s.domOn 4 = true) := by
  (try dsimp only); (repeat' apply And.intro) <;> first | decide +kernel | rfl
/-- Sensors of each kind, of which 160 is the stuck one and 161 moved. -/
def sensed : State :=
  let s := put live [(F.SEQ_STATUS.gate_req, 1), (F.THM_ZONE_CFG.target 0, 8), (F.THM_BROKEN_CFG.stuck_s, 4),
    (F.RST_SLOT_MAP.map, 0xA9876542),
    (F.THM_SNS_CFG.en 3, 1), (F.PRS_AIN_CFG.kind 3, 2), (F.PRS_AIN_CFG.band_hi 3, 255), (F.THM_SNS_CFG.en 160, 1),
    (F.THM_SNS_CFG.zone 160, 0), (F.THM_SNS_CFG.en 161, 1), (F.THM_SNS_CFG.zone 161, 0), (F.THM_SNS_CFG.en 232, 1),
    (F.THM_SNS_CFG.zone 232, 0), (F.THM_SNS_CFG.zone 3, 0), (F.CAP_SLOT_CFG.en 0, 1), (F.CAP_SLOT_CFG.ain 0, 3),
    (F.CAP_SLOT_CFG.en 1, 0), (F.THM_SNS_CFG.en 233, 0), (F.THM_BROKEN.broken 7, 512)]
  let stuck := { Sensor.reset with has := true, promoted := true, trail := [(4000000, 7, 7), (0, 7, 7)] }
  let mover := { Sensor.reset with has := true, trail := [(4000000, 9, 100), (2000000, 8, 16)] }
  { s with sns := [(160, stuck), (161, mover)], tns := { s.tns with tick := 5000000 } }

theorem witness_SensorsAreConvertedRatedAndBroken :
    let s := sensed
    s.powered = true ∧
    (let l : List Sample := [⟨160, 7, 9, true⟩, ⟨161, 7, 9, false⟩]
     (l.map Sample.index).Nodup ∧ s.inFast 160 = true ∧ s.inFast 161 = false ∧ s.evaluated 160 = true ∧ s.evaluated 161 = true ∧
     s.plausible ⟨160, 7, 9, true⟩ = true ∧ s.plausible ⟨161, 7, 9, false⟩ = false ∧ 161 < 224 ∧ s.snsEnabled 161 = true ∧
     (s.sensor 161).promoted = false ∧ s.inSet 161 = false ∧ s.inSet 3 = true ∧ ∀ x ∈ l, x.index ≠ 3) ∧
    (s.snsEnabled 3 = true ∧ s.flag (F.CAP_SLOT_CFG.en 0) = true ∧ s.flag (F.CAP_SLOT_CFG.en 1) = false ∧
      ([⟨3, 7, 0, true⟩] : List Sample).find? (fun x => x.index == s.fld (F.CAP_SLOT_CFG.ain 0)) = some ⟨3, 7, 0, true⟩) ∧
    ((s.sensor 160).has = true ∧ s.snsEnabled 233 = false ∧
      (let o := put s [(F.SEQ_STATUS.gate_req, 0)]
       o.powered = true ∧ o.evaluated 232 = false ∧ o.snsEnabled 232 = true)) ∧ s.snsBroken 233 = true ∧
    (s.slotCore 0 = (2 : Fin 13) ∧ s.coreUp 2 = true ∧ s.evaluated (232 + 6 * 0 + 0) = true) ∧
    (s.sensor 232).lastAt + 100000 ≤ s.tns.tick ∧
    (s.fld (F.THM_SNS_CFG.zone 160) < 16 ∧ s.rawStands 160 = true ∧ s.neighbour 160 161 = true ∧ s.moved 161 = true) := by
  (try dsimp only); (repeat' apply And.intro) <;> first | decide +kernel | rfl

/-- Fans, pumps, flow meters and valves before and after their faults. -/
def cooled : State :=
  let fans := put live [(F.THM_FAN_CFG.min_rpm 0, 900), (F.QUA_OUT.out 16, 500), (F.THM_FAN_STAT.failed 1, 1),
    (F.THM_FAN_CFG.min_rpm 1, 900)]
  let s := put fans [(F.THM_CTL.mode, 1), (F.THM_PUMP_STAT.failed 1, 1), (F.THM_PUMP_CFG.tach_en 1, 0),
    (F.THM_PUMP_CFG.tach_en 2, 1), (F.THM_PUMP_CFG.tach 2, 3), (F.THM_PUMP_CFG.min_rpm 2, 900), (F.QUA_OUT.out 34, 500),
    (F.THM_FLOW_CFG.kfactor 0, 1), (F.THM_FLOW_CFG.groups 0, 1), (F.THM_GROUP.pumps 0, 1), (F.THM_GROUP.fans 0, 1),
    (F.THM_FLOW_CFG.min_flow 0, 10), (F.THM_FLOW_CFG.kfactor 1, 5), (F.THM_FLOW_STAT.lost 1, 1), (F.THM_FLOW_CFG.min_flow 1, 10), (F.SEQ_STATUS.gate_req, 1),
    (F.THM_VALVE_CTL.on, 1)]
  { s with targets := s.targets.set 8 { s.targets[(8 : Fin 9)] with stM := 1 },
           thm := { s.thm with pullEnd := s.thm.pullEnd.set 0 (some 0) },
           rst := { s.rst with shed := true, coolSince := some 0 }, tns := { s.tns with tick := 10000000 } }

theorem witness_CoolingIsMeasuredAndDriven :
    let s := cooled
    s.powered = true ∧
    (s.flag (F.THM_FAN_STAT.failed 0) = false ∧ s.tachRpm 0 75000 < s.fld (F.THM_FAN_CFG.min_rpm 0) ∧ 300 ≤ s.applied (16 + 0) ∧
      s.fld (F.THM_FAN_CFG.fail_100ms 0) * 100 ≤ 30000) ∧
    (s.flag (F.THM_FAN_STAT.failed 1) = true ∧ s.fld (F.THM_FAN_CFG.min_rpm 1) ≤ s.tachRpm 1 20000) ∧
    (s.fld F.THM_CTL.mode ≠ 0 ∧ s.flag (F.THM_PUMP_STAT.failed 0) = false ∧ s.pumpSlow 0 75000 30000 = false ∧ s.pumpSlow 2 75000 30000 = true) ∧
    (let o := put s [(F.THM_CTL.mode, 0)]
     o.powered = true ∧ o.fld F.THM_CTL.mode = 0) ∧
    (s.flag (F.THM_PUMP_STAT.failed 1) = true ∧ s.flag (F.THM_PUMP_CFG.tach_en 1) = false) ∧
    (s.fld (F.THM_FLOW_CFG.kfactor 0) ≠ 0 ∧ s.flowPumped 0 = true ∧ s.flag (F.THM_FLOW_STAT.lost 0) = false ∧
      s.flowOf 0 1 < s.fld (F.THM_FLOW_CFG.min_flow 0) * 10) ∧
    (s.flag (F.THM_FLOW_STAT.lost 1) = true ∧ s.fld (F.THM_FLOW_CFG.min_flow 1) * 10 ≤ s.flowOf 1 9) ∧
    s.coreUp 1 = true ∧ s.valveDriven 0 = true ∧ s.valveDriven 1 = false ∧ s.thm.pullEnd[(0 : Fin 8)] = some 0 ∧ 0 ≤ s.tns.tick ∧
    (s.curveRules = true ∧ (s.curveOf (16 + 0) ((List.range 8).filter fun g => bitOf (s.fld (F.THM_GROUP.fans g)) 0)).isSome = true) ∧
    (s.rst.coolSince = some 0 ∧ s.rst.shed = true ∧ 0 + 10000000 ≤ s.tns.tick) := by
  (try dsimp only); (repeat' apply And.intro) <;> first | decide +kernel | rfl

/-- Period with levels set. -/
def leveled : State :=
  put live [(F.PER_IIN_LVL.oc_cut, 1200), (F.PER_IIN_LVL.oc_pace, 1000), (F.PER_VBUS_LVL.ov, 120), (F.PER_VBUS_LVL.uv_cut, 80),
    (F.PER_VBUS_LVL.uv_pace, 90), (F.SEQ_EFUSE_STATUS.en, 1)]

/-- The same with every cause latched. -/
def latched : State :=
  let s := put leveled [(F.PER_CAUSE.self_fault, 1), (F.PER_CAUSE.iin_oc, 1), (F.PER_CAUSE.vbus_ov, 1), (F.PER_CAUSE.vbus_uv, 1),
    (F.PER_CAUSE.oc_pace, 1), (F.PER_CAUSE.uv_pace, 1), (F.PER_CAUSE.leak_conf, 1), (F.PER_SLOT_CAUSE.thermtrip 0, 1)]
  { s with per := { s.per with ocClear := some 0, uvClear := some 0 }, tns := { s.tns with tick := 5000 } }

theorem witness_PeriodCutsOnItsCauses :
    let s := leveled
    s.powered = true ∧ s.flag F.PER_CAUSE.self_fault = false ∧ s.fld F.PER_IIN_LVL.oc_cut < 1201 ∧
    s.flag F.PER_CAUSE.iin_oc = false ∧ s.fld F.PER_VBUS_LVL.ov * 5 < 601 ∧ s.flag F.PER_CAUSE.vbus_ov = false ∧
    399 < s.fld F.PER_VBUS_LVL.uv_cut * 5 ∧ s.flag F.PER_CAUSE.vbus_uv = false ∧ s.fld F.PER_IIN_LVL.oc_pace ≠ 0 ∧
    s.fld F.PER_IIN_LVL.oc_pace < 1001 ∧ 449 < s.fld F.PER_VBUS_LVL.uv_pace * 5 ∧ s.efuseOn (0 : Fin 8) = true ∧
    s.flag (F.PER_SLOT_CAUSE.thermtrip 0) = false ∧
    (let s := latched
     s.powered = true ∧ s.flag F.PER_CAUSE.self_fault = true ∧ s.fld F.PER_IIN_LVL.oc_cut < 1201 ∧
     s.flag F.PER_CAUSE.iin_oc = true ∧ s.fld F.PER_VBUS_LVL.ov * 5 < 601 ∧ s.flag F.PER_CAUSE.vbus_ov = true ∧
     399 < s.fld F.PER_VBUS_LVL.uv_cut * 5 ∧ s.flag F.PER_CAUSE.vbus_uv = true ∧ s.flag (F.PER_SLOT_CAUSE.thermtrip 0) = true) := by
  (try dsimp only); (repeat' apply And.intro) <;> first | decide +kernel | rfl

/-- Leak zone 0 is enabled, and one more wet sample or failed test confirms it. -/
def roped : State :=
  let s := put leveled [(F.LKD_CTL.zone_en, 3), (F.LKD_ZONE_CFG.wet_kohm 0, 40), (F.LKD_ZONE_CFG.dry_kohm 0, 80)]
  { s with ropes := s.ropes.set 0 { Rope.reset with wetRun := 2, failRun := 2 }, tns := { s.tns with tick := 5000 } }

theorem witness_PeriodIsArmedClearedAndWatchesForLeaks :
    (let s := leveled
     s.powered = true ∧ s.coreUp 2 = true ∧ levelsAgree .iin 0x03840320#32 = true ∧ admitsAll (levelOff .iin) 0x03840320#32 = true ∧
     s.armed = false ∧ levelsAgree .iin 0x000A0063#32 = false ∧ admitsAll (levelOff .iin) 0#32 = false ∧
     (put s [(F.PER_CTL.lock, 1)]).armed = true ∧
     (put s [(F.PER_CTL.lock, 1)]).powered = true ∧ levelsAgree .vbus 0x00965051#32 = false ∧
     bitOf (1#32).toNat 0 = true ∧ s.flag F.PER_CAUSE.self_fault = false ∧ bitOf (0#32).toNat 0 = false) ∧
    (let s := latched
     let c (b : Nat) : Bool := bitOf (s.reg R.PER_CAUSE).toNat b
     s.powered = true ∧ s.flag F.PER_CAUSE.self_fault = true ∧ bitOf (32#32).toNat 4 = false ∧ bitOf (32#32).toNat 5 = true ∧
     c 5 = true ∧ s.trayClearSide 5 = true ∧
     s.flag F.PER_CAUSE.oc_pace = true ∧ ocClearSide (s.fld F.PER_IIN_LVL.oc_pace) 950 = true ∧ s.since s.per.ocClear 1000 = true ∧
     s.flag F.PER_CAUSE.uv_pace = true ∧ uvClearSide (s.fld F.PER_VBUS_LVL.uv_pace) 460 = true ∧ s.since s.per.uvClear 1000 = true) ∧
    (let s := roped
     s.powered = true ∧ s.zoneOn (0 : Fin 8) = true ∧ s.ropeWet (0 : Fin 8) ⟨399, 100, 100⟩ = true ∧
     2 ≤ s.ropes[(0 : Fin 8)].wetRun ∧ s.zoneConfirmed (0 : Fin 8) = false ∧ s.flag F.PER_CAUSE.leak_wet = false ∧
     s.zoneOn (2 : Fin 8) = false ∧ s.zoneOn (1 : Fin 8) = true ∧ ([⟨399, 100, 100⟩] : List RopeMeas)[1]? = none ∧
     s.ropeWet (0 : Fin 8) ⟨401, 100, 100⟩ = false ∧ ([(0, 500), (1, 100)].map Prod.fst).Nodup ∧ risePasses 500 = true ∧
     risePasses 100 = false ∧ s.ropes[(1 : Fin 8)].failRun < 2 ∧ 2 ≤ s.ropes[(0 : Fin 8)].failRun ∧
     s.flag F.PER_CAUSE.fallback = false ∧ s.per.hbAt + 5000 ≤ s.tns.tick) := by
  (try dsimp only); (repeat' apply And.intro) <;> first | decide +kernel | rfl

/-- Logic is slow and the crystal lost, and port 0 is up. -/
def slowed : State :=
  let s := put live [(F.TNS_STATUS.slow, 1), (F.TNS_STATUS.xtal_lost, 1), (F.ETH_PORT_STAT.link 0, 1)]
  { s with tns := { s.tns with goodTicks := 10000, tick := 999 } }

theorem witness_TimeAdvancesAndIsAdjustedAsStated :
    let s := slowed
    s.powered = true ∧ (s.tns.tick + 1) % 1000 = 0 ∧ s.flag F.TNS_STATUS.slow = true ∧ 10000 ≤ s.tns.goodTicks ∧ s.coreUp 0 = true ∧
    s.flag F.TNS_STATUS.xtal_lost = true ∧ s.portUp (0 : Fin 8) = true ∧
    live.powered = true ∧ live.flag F.TNS_STATUS.xtal_lost = false := by
  (try dsimp only); (repeat' apply And.intro) <;> first | decide +kernel | rfl
/-- A peer. -/
def peerAt (host : Nat) : Peer := ⟨host, 1, true⟩

/-- Group 0 is the cap group, has a boundary due and holds a COMMIT of epoch 7 for it; a share of epoch 7 is staged, and its
deadline has come. -/
def staging : State :=
  let s := put live [(F.CAP_CTL.group_valid, 1), (F.CAP_STATUS.staged, 1), (F.CAP_EPOCH_STAGED.epoch, 7), (F.CAP_STAGED_W.watts, 900),
    (F.AGR_GRP_ROUND.period_us 0, 1000), (F.TNS_EPOCH_DL_HI.arm 0, 1), (F.TNS_CTL.step_en, 1), (F.TNS_STEP_LIMIT.limit, 5000000),
    (F.TNS_STEP_LO.lo, 3000000)]
  let x := { Grp.fresh (peerAt 1) [] (peerAt 2) 0 with held := some (7, 1000000) }
  { s with grps := [(0, x)], tns := { s.tns with dtime := 1500000, deadlines := [(0, 1400000)] } }

theorem witness_BoundariesDeadlinesAndStepsFollowDomainTime :
    let s := staging
    s.powered = true ∧ s.boundaryDue (0 : Fin 256) = some 1000000 ∧ (s.grp 0).isSome = true ∧ 1000000 ≤ 1000000 ∧ s.stagedFor 0 7 = true ∧
    s.stagedFor 0 8 = false ∧ s.boundaryDue (1 : Fin 256) = none ∧ s.coreUp 1 = true ∧ s.deadlineDue (0 : Fin 256) = true ∧ s.capGroup (0 : Fin 256) = true ∧
    s.flag F.CAP_STATUS.staged = true ∧ s.capGroup (1 : Fin 256) = false ∧ s.flag F.TNS_CTL.step_en = true ∧
    s.stepNs.natAbs ≤ s.fld F.TNS_STEP_LIMIT.limit ∧ 0 < s.stepNs ∧
    s.boundaryAt (0 : Fin 256) (unsignedOf 64 ((s.tns.dtime : Int) + s.stepNs)) = some 4000000 ∧ s.tns.deadlines.lookup 0 = some 1400000 ∧
    (put s [(F.TNS_STEP_LO.lo, 0)]).stepNs ≤ 0 ∧ (put s [(F.TNS_CTL.step_en, 0)]).flag F.TNS_CTL.step_en = false := by
  (try dsimp only); (repeat' apply And.intro) <;> first | decide +kernel | rfl

theorem witness_ResetsKeepAndLoseWhatTheyShould :
    live.powered = true ∧ { live with powered := false }.powered = false ∧ warmCode .health = some 2 ∧
    warmCode .resetMessage = some 1 ∧ { live with rst := { live.rst with warmDue := true } }.rst.warmDue = true ∧
    live.rst.warmDue = false ∧ Served live 0 1 8 1 ∧ live.holdMask = 0 ∧
    Served (put live [(F.CAP_STATUS.staged, 1)]) 0 1 8 1 ∧ (put live [(F.CAP_STATUS.staged, 1)]).holdMask ≠ 0 := by
  unfold Served; (try dsimp only); (repeat' apply And.intro) <;> first | decide +kernel | rfl

/-- Slot 0 is on trial.  Whether an image verifies turns on constants of Config; a slot of erased flash does not. -/
def trying : State :=
  { live with boot := { live.boot with records := [⟨0, 0x3F, 0xFE, 0xFF, 1, 1, 4096, 0⟩] } }

theorem witness_BootLoadsTheFirstImageThatVerifies :
    live.powered = true ∧ live.fld F.BOOT_STATUS.stage = 0 ∧ live.trialSlot = none ∧ live.candidates = [2] ∧
    live.imgCheck (live.slotRd 2) 1 0 (2 == 2) ≠ 0 ∧ trying.powered = true ∧
    trying.fld F.BOOT_STATUS.stage = 0 ∧ trying.trialSlot = some 0 ∧ (trying.slotRec 0).isSome = true ∧ (0xFE : Nat) ≠ 0xF8 ∧
    trying.fld F.BOOT_STATUS.last_cause ≠ 2 ∧ (put live [(F.BOOT_STATUS.stage, 1)]).fld F.BOOT_STATUS.stage ≠ 0 ∧
    live.coreUp 0 = true ∧ bitOf (live.fld F.BOOT_RELEASE.release) ((3 : Fin 13) - 1) = false ∧
    live.flag (F.SYS_CORE_LOCK.lock 3) = false ∧ (put live [(F.SYS_CORE_LOCK.lock 3, 1)]).flag (F.SYS_CORE_LOCK.lock 3) = true ∧
    live.coreUp 1 = true ∧ findReg 3 = none ∧ (live.core 1).p = false := by
  (try dsimp only); (repeat' apply And.intro) <;> first | decide +kernel | rfl

/-- The down-clause of target t runs on core 3, with fields set and a wait. -/
def clausing (t : Fin 9) (l : List (Fd × Nat)) (w : Option ClauseWait) : State :=
  let r : ClauseRun := ⟨3, 0, 0, false, false, false, 0, w, 0, [(0, 5000)], false⟩
  let s := put (running live 3) l
  { s with targets := s.targets.set t { Target.reset with run := some r },
           doms := s.doms.set 0 { Dom.reset with wasOff := true },
           tns := { s.tns with tick := 60 }, evr := { s.evr with tokens := 16 } }

theorem witness_ClauseInstructionsActAsStated_runs :
    let own := (F.SEQ_DOM_CFG.owner 0, 0)
    let lock := (F.PER_CTL.lock, 1)
    let slow := (F.SEQ_DOM_CFG.discharge 0, 5)
    let fast := (F.SEQ_DOM_CFG.discharge 0, 0)
    let a := clausing 0 [own] none
    let b := clausing 0 [own, lock, slow, (F.SEQ_DOM_CFG.pg_timeout 0, 1)] none
    let c := clausing 0 [own, lock, fast, (F.SEQ_DOM_CFG.pg_timeout 0, 9), (F.SEQ_DOM_PG.pg 0, 1), (F.SEQ_DOM_CFG.kind 0, 1),
      (F.SEQ_DOM_BUS.vset_min 0, 50), (F.SEQ_DOM_BUS.vset_max 0, 100), (F.SEQ_EFUSE_STATUS.pg, 1), (F.SLT_STAT.pg 0, 1),
      (F.SEQ_PMIC_LIM.vmin, 500), (F.SEQ_PMIC_LIM.vmax, 1000)] none
    let d := clausing 0 [own, (F.SEQ_DOM_CFG.pg_timeout 0, 9), (F.SEQ_DOM_CFG.kind 0, 1), (F.PER_CAUSE.self_fault, 1)] none
    let h : State := { c with pins := c.pins.set 0 { c.pins[(0 : Fin 8)] with flashHold := true } }
    (calm a = true ∧ (a.clauseLive 0).isSome = true ∧ a.domOwner 1 ≠ 0 ∧ a.domOwner 0 = 0 ∧ a.domBarred 0 = true ∧ a.domPg 0 = false ∧
      a.domCause 0 = false ∧ a.fld (F.SEQ_DOM_CFG.kind 0) ≠ 1 ∧ a.efuseBarred 0 = true ∧
      bitOf (a.fld F.SEQ_EFUSE_STATUS.pg) 0 = false ∧ a.efuseCause 0 = false ∧ a.flag (F.SLT_STAT.pg 0) = false ∧
      a.pins[(0 : Fin 8)].flashHold = false ∧ a.fld F.EVR_CTL.min_sev ≤ 1 ∧ 16 ≤ a.evr.tokens ∧ (a.target 0).lift = false) ∧
    (calm b = true ∧ (b.clauseLive 0).isSome = true ∧ b.domOwner 0 = 0 ∧ b.domBarred 0 = false ∧ b.discharging 0 = true ∧
      b.pgTimeout 0 < 5000) ∧
    (calm c = true ∧ (c.clauseLive 0).isSome = true ∧ c.domOwner 0 = 0 ∧ c.domBarred 0 = false ∧ c.discharging 0 = false ∧
      5000 ≤ c.pgTimeout 0 ∧ c.domPg 0 = true ∧ c.fld (F.SEQ_DOM_CFG.kind 0) = 1 ∧
      (c.fld (F.SEQ_DOM_BUS.vset_min 0) * 10 ≤ 500 ∧ 500 ≤ c.fld (F.SEQ_DOM_BUS.vset_max 0) * 10) ∧
      ¬(c.fld (F.SEQ_DOM_BUS.vset_min 0) * 10 ≤ 499 ∧ 499 ≤ c.fld (F.SEQ_DOM_BUS.vset_max 0) * 10) ∧
      c.efuseBarred 0 = false ∧ bitOf (c.fld F.SEQ_EFUSE_STATUS.pg) 0 = true ∧ c.flag (F.SLT_STAT.pg 0) = true ∧
      (c.fld F.SEQ_PMIC_LIM.vmin ≤ 1000 ∧ 1000 ≤ c.fld F.SEQ_PMIC_LIM.vmax) ∧
      ¬(c.fld F.SEQ_PMIC_LIM.vmin ≤ 1001 ∧ 1001 ≤ c.fld F.SEQ_PMIC_LIM.vmax)) ∧
    (calm d = true ∧ (d.clauseLive 0).isSome = true ∧ d.domOwner 0 = 0 ∧ 5000 ≤ d.pgTimeout 0 ∧ d.domPg 0 = false ∧
      d.domCause 0 = true ∧ d.efuseCause 0 = true ∧ bitOf (d.fld F.SEQ_EFUSE_STATUS.pg) 0 = false ∧ d.domBarred 0 = true ∧
      d.fld (F.SEQ_DOM_CFG.kind 0) = 1) ∧
    (calm h = true ∧ (h.clauseLive 0).isSome = true ∧ h.pins[(0 : Fin 8)].flashHold = true) ∧
    (let e := clausing 8 [] none
     calm e = true ∧ (e.clauseLive 8).isSome = true ∧ (e.target 8).lift = false) := by
  (try dsimp only); (repeat' apply And.intro) <;> first | decide +kernel | rfl

theorem witness_ClauseInstructionsActAsStated_waits :
    (∀ w ∈ [ClauseWait.discharge 0, .time 60, .pg 0, .efuse, .slotPg, .pmicVset 0 0 0, .pmicOn 0, .pmicOff 0, .regOn 0, .regOff 0,
      .regVset 0 0], calm (clausing 0 [] (some w)) = true ∧ ((clausing 0 [] (some w)).clauseLive 0).isSome = true) ∧
    (let s := clausing 0 [(F.PER_CTL.lock, 1), (F.SEQ_DOM_CFG.discharge 0, 0), (F.SEQ_DOM_CFG.pg_timeout 0, 1)] (some (.discharge 0))
     calm s = true ∧ (s.clauseLive 0).isSome = true ∧ s.discharging 0 = false ∧ s.domBarred 0 = false ∧
     0 + (s.pgTimeout 0 - 5000) ≤ s.tns.tick) ∧
    (let s := clausing 0 [(F.SEQ_DOM_CFG.discharge 0, 0)] (some (.discharge 0))
     calm s = true ∧ (s.clauseLive 0).isSome = true ∧ s.discharging 0 = false ∧ s.domBarred 0 = true) ∧
    (let s := clausing 0 [(F.SEQ_EFUSE_CFG.pg_timeout 0, 1)] (some .efuse)
     let u : State := { s with tns := { s.tns with tick := 1000000 } }
     calm u = true ∧ (u.clauseLive 0).isSome = true ∧ 0 + u.fld (F.SEQ_EFUSE_CFG.pg_timeout 0) * 1000 ≤ u.tns.tick ∧ 0 + 1000000 ≤ u.tns.tick) ∧
    ClauseWait.isTransfer (.pmicOn 0) = true ∧
    (let s := clausing 0 [] none
     let r : ClauseRun := ⟨3, 0, 0, false, false, false, 0, some (.pmicOn 0), 0, [], true⟩
     let u : State := { s with targets := s.targets.set 0 { Target.reset with run := some r } }
     calm u = true ∧ u.clauseLive 0 = some r) := by
  (try dsimp only); (repeat' apply And.intro) <;> first | decide +kernel | rfl

/-- The tray is ordered ON, the input within its limits. -/
def fed : State :=
  let s := put live [(F.PER_CTL.lock, 1), (F.SEQ_BIND.up_valid 8, 1)]
  { s with its := { s.its with mirror := { s.its.mirror with vin56 := 54000 } }, targets := s.targets.set 8 { Target.reset with stM := 1 } }

theorem witness_TheGateTheFeedsAndTheClausesStart :
    (fed.powered = true ∧ fed.gateMay = true ∧ live.powered = true ∧ live.gateMay = false) ∧
    (let s := put fed [(F.SEQ_STATUS.gate_req, 1)]
     s.powered = true ∧ s.gateOn = true ∧ s.seq.inputGood = false ∧ s.effOn 8 = true ∧ s.quiet 8 = true ∧ s.bindState 8 = 0 ∧
     s.flag (F.SEQ_BIND.up_valid 8) = true ∧
     (let q : State := { s with its := { s.its with mirror := { s.its.mirror with vin56 := 1000 } } }
      q.inputNear = true ∧ q.gateOn = true ∧ q.effOn 8 = true ∧ q.quiet 8 = true) ∧
     (let o : State := { s with tns := { s.tns with tick := 10000000 } }
      o.powered = true ∧ o.gateOn = true ∧ o.seq.inputGood = false ∧
      o.seq.gateAt + o.fld F.SEQ_INPUT_CFG.gate_timeout * 10000 ≤ o.tns.tick)) ∧
    (let c := clausing 0 [(F.SEQ_DOM_EN.en 0, 1), (F.SEQ_DOM_CFG.owner 0, 0), (F.SEQ_EFUSE_STATUS.en, 1)]
     (c (some (.pg 0))).powered = true ∧ calm (c (some (.pg 0))) = true ∧ (c (some (.pg 0))).domOn 0 = true ∧
     (c (some (.pg 0))).domOwner 0 = 0 ∧ ((c (some (.pg 0))).clauseLive 0).isSome = true ∧
     calm (c (some .efuse)) = true ∧ (c (some .efuse)).efuseOn (0 : Fin 8) = true ∧ ((c (some .efuse)).clauseLive 0).isSome = true ∧
     calm (c (some .slotPg)) = true ∧ ((c (some .slotPg)).clauseLive 0).isSome = true) ∧
    (∀ a ∈ [0, 1, 2, 3],
      let p := put live [(F.SEQ_DOM_EN.en 0, 1), (F.SEQ_DOM_PG.pg 0, 1), (F.SEQ_DOM_CFG.owner 0, 0), (F.SEQ_DOM_CFG.fault_action 0, a)]
      let s : State := { p with doms := p.doms.set 0 { Dom.reset with pgSeen := true } }
      s.powered = true ∧ s.domOn 0 = true ∧ s.doms[(0 : Fin 48)].pgSeen = true ∧ s.domPg 0 = true ∧ s.domOwner 0 = 0 ∧
      s.fld (F.SEQ_DOM_CFG.fault_action 0) = a) ∧
    (∀ d ∈ [Due.up, .down, .downFault],
      let p := put (running live 3) [(F.SEQ_BIND.up 0, 5), (F.SEQ_BIND.down 0, 5), (F.SEQ_BIND.down_valid 0, 1)]
      let s : State := { p with clauses := p.clauses.set 5 { ClauseSlot.reset with loaded := true, owner := 1 },
                                targets := p.targets.set 0 { Target.reset with due := d } }
      s.powered = true ∧ s.clauseCore 0 = (3 : Fin 13) ∧ s.coreUp 3 = true ∧ s.clauseFree 3 = true ∧ s.dueFirst 0 = true ∧ (s.target 0).run = none ∧
      (s.clauseSlot 5).loaded = true ∧ (s.target 0).due = d ∧ s.fld (F.SEQ_BIND.up 0) = 5 ∧ s.fld (F.SEQ_BIND.down 0) = 5 ∧
      s.flag (F.SEQ_BIND.down_valid 0) = true ∧ (put s [(F.SEQ_BIND.down_valid 0, 0)]).flag (F.SEQ_BIND.down_valid 0) = false) := by
  (try dsimp only); (repeat' apply And.intro) <;> first | decide +kernel | rfl
/-- Group 0 with one child, in a role and a state of generation 5. -/
def grouped (role : Nat) (l : List (Fd × Nat)) (f : Grp → Grp) : State :=
  let s := put live ([(F.AGR_GRP_CFG.role 0, role), (F.AGR_GRP_CFG.children 0, 1), (F.AGR_GRP_GEN.generation 0, 5), (F.AGR_GRP_STAT.state 0, 1),
    (F.CAP_CTL.group_valid, 1), (F.CAP_CTL.deadline_us, 2000), (F.AGR_CTL.net_en, 1), (F.ETH_PORT_STAT.link 0, 1),
    (F.ETH_PORT_CFG.macsec_req 0, 0), (F.AGR_LINE_CFG.net 0, 1), (F.AGR_LINE_CFG.group 0, 0)] ++ l)
  { s with grps := [(0, f (Grp.fresh (peerAt 1) [peerAt 3] (peerAt 2) 0))], tns := { s.tns with dtime := 1000000, tick := 60000 } }

theorem witness_CapsAndGroupsFollowTheManager :
    (let s := grouped 2 [(F.CAP_EPOCH_STAGED.epoch, 4)] id
     (∀ c ∈ [1, 2, 3, 4, 5], Served s 0 3 c 1) ∧ (∀ c ∈ [1, 2, 3], Served s 0 7 c 1) ∧ s.stageStatus 0 100 5 = 0 ∧ s.stageStatus 0 100 4 = 3 ∧
     s.capGroup 1 = false ∧ s.capGroup 0 = true ∧ 65534 < 65535 ∧
     ((s.grp 0).isSome = true ∧ s.fld (F.AGR_GRP_STAT.state 0) = 1 ∧ s.grpRole 0 ≠ 0) ∧
     max (s.fld F.CAP_EPOCH_STAGED.epoch) (s.fld F.CAP_EPOCH_APPLIED.epoch) < 5 ∧
     ¬ max (s.fld F.CAP_EPOCH_STAGED.epoch) (s.fld F.CAP_EPOCH_APPLIED.epoch) < 4 ∧
     ([100, 200].length = min 64 (s.fld (F.AGR_GRP_CFG.children 0)) + 1 ∧ [100, 200].foldl (· + ·) 0 = 300 ∧
       ∀ p ∈ [100, 200].zipIdx, 0 < p.1 ∧ p.1 ≤ 65534) ∧ [100, 200].foldl (· + ·) 0 ≠ 301 ∧ ¬ s.grpRole 1 ≠ 0 ∧
     Alive s 2 ∧ s.grp 1 = none ∧ s.rolePermitted 0 = true ∧ s.rolePermitted 3 = false ∧
     s.fld (F.AGR_GRP_GEN.generation 0) < 6 ∧ ¬ s.fld (F.AGR_GRP_GEN.generation 0) < 5 ∧ s.fld (F.AGR_GRP_GEN.generation 0) = 5) ∧
    (let s := grouped 0 [] id
     Served s 0 3 1 1 ∧ s.stageStatus 0 100 5 = 0 ∧ ∀ x, s.grp 0 = some x → s.grpRole 0 = 0 ∧ x.held = none) ∧
    (let s := grouped 2 [] fun x => { x with ordered := 7, limit := 900000 }
     s.powered = true ∧ s.grpRole 0 = 2 ∧ ∃ x, s.grp 0 = some x ∧ x.committed < x.ordered ∧ x.limit ≤ s.tns.dtime) := by
  unfold Served Alive
  (try dsimp only); (repeat' apply And.intro) <;> first | decide +kernel | rfl

/-- A frame of a type from a sender, with flags and body, for generation gen. -/
def framed (src flags gen : Nat) (body : List Nat) (typ : Nat := 1) : AgrFrame :=
  ⟨src, live.fld F.AGR_NET_CFG.ethertype, 16, typ, live.fld F.AGR_NET_CFG.domain, 0, flags, 0, gen, 0, body⟩

theorem witness_AgreementFramesAreTakenAsStated :
    (∀ r ∈ [0, 1, 2], let s := grouped r [(F.CAP_STATUS.staged, 1), (F.CAP_EPOCH_STAGED.epoch, 7)] fun x => { x with upTo := 900000 }
      s.powered = true ∧ s.flag F.AGR_CTL.net_en = true ∧ s.portOpen (0 : Fin 8) = true ∧
      (framed 1 0 5 []).ethertype = s.fld F.AGR_NET_CFG.ethertype ∧ (framed 1 0 5 []).version / 16 = 1 ∧
      (framed 1 0 5 []).domain = s.fld F.AGR_NET_CFG.domain ∧ (∀ n ∈ [1, 2, 3, 4, 5, 6], (framed 1 0 5 [] n).typ = n) ∧ (framed 1 0 5 []).generation = s.fld (F.AGR_GRP_GEN.generation 0) ∧
      (framed 1 0 4 []).generation ≠ s.fld (F.AGR_GRP_GEN.generation 0) ∧
      (s.grp 0).map (fun x => x.sender (0 : Fin 8) 1) = some (some none) ∧ (s.grp 0).map (fun x => x.sender (0 : Fin 8) 3) = some (some (some 0)) ∧
      (s.grp 0).map (fun x => x.sender (0 : Fin 8) 9) = some none ∧ s.grpRole 0 = r ∧ s.fld (F.AGR_GRP_STAT.state 0) ≠ 2 ∧
      s.capGroup 0 = true ∧ AgrFrameWord (framed 1 0 5 [6]) 0 % 2 ^ 32 < s.fld F.CAP_EPOCH_STAGED.epoch ∧ s.stagedFor 0 7 = true ∧
      s.stagedFor 0 8 = false ∧ s.fld F.CAP_EPOCH_APPLIED.epoch < 7 ∧ (s.grp 0).map (fun x => decide (800000 ≤ x.upTo)) = some true ∧
      s.netLine 0 (framed 1 0 5 [0, 0]) = some 0 ∧ s.netLine 0 (framed 1 0 5 [1, 0]) = none ∧
      AgrFrameWord (framed 1 0 5 [0, 0]) 1 = s.lines[(0 : Fin 32)].round ∧ AgrFrameWord (framed 1 0 5 [0, 1]) 1 ≠ s.lines[(0 : Fin 32)].round ∧
      s.flag (F.AGR_LINE_STAT.poisoned 0) = false ∧ bitOf 2 1 = true ∧ (s.grp 0).bind (fun x => x.kids[0]?) = some (peerAt 3) ∧
      s.allArrived 0 = true ∧ (∀ (i : Fin 1) (q : Peer), [peerAt 3][i]? = some q → q.valid = true → bitOf (setBit s.lines[(0 : Fin 32)].kids 0) i = true) ∧
      s.lines[(0 : Fin 32)].sentArrive = false ∧ s.peerPort (peerAt 3) = some 0) ∧
    (let s := grouped 0 [(F.AGR_GRP_STAT.state 0, 2), (F.AGR_LINE_STAT.poisoned 0, 1)] id
     s.powered = true ∧ s.fld (F.AGR_GRP_STAT.state 0) = 2 ∧ s.flag (F.AGR_LINE_STAT.poisoned 0) = true) ∧
    (let p := grouped 0 [] id
     let s : State := { p with lines := p.lines.set 0 { LineX.reset with round := 3 } }
     s.powered = true ∧ AgrFrameWord (framed 3 0 5 [0, 2]) 1 < s.lines[(0 : Fin 32)].round ∧
     s.lines[(0 : Fin 32)].round < AgrFrameWord (framed 3 0 5 [0, 4]) 1) ∧
    (let s := grouped 1 [] fun x => { x with lastBoundary := 900000, stagedAt := 59998 }
     AgrFrameWord (framed 3 0 5 [900000]) 0 = 900000 ∧ AgrFrameWord (framed 3 0 5 [800000]) 0 < 900000 ∧
     900000 < AgrFrameWord (framed 3 0 5 [1000000]) 0 ∧ (s.grp 0).map (fun x => decide (x.stagedAt ≠ 0 ∧ s.tns.tick < x.stagedAt + 5)) = some true) ∧
    (let s := grouped 2 [(F.CAP_STATUS.staged, 1), (F.CAP_EPOCH_STAGED.epoch, 7)] fun x => { x with kids := [peerAt 3, { peerAt 4 with valid := false }], kidStaged := 0 }
     s.powered = true ∧ (s.grp 0).map (fun x => x.kidMap) = some 1 ∧ s.stagedFor 0 7 = true) := by
  (try dsimp only); (repeat' apply And.intro) <;> first | decide +kernel | rfl

theorem witness_GroupDutiesFallDueAsStated :
    (let s := grouped 1 [(F.AGR_NET_TIME.relay_us, 5), (F.AGR_NET_TIME.retry_us, 50), (F.AGR_NET_TIME.lost_rounds, 3)] fun x =>
       { x with examDue := true, stagedOpen := true, missed := [3], beaconMissed := 3, committed := 7, named := 0 }
     let y : State := { s with lines := s.lines.set 0 { LineX.reset with sentArrive := true } }
     s.powered = true ∧ s.grpRole 0 = 1 ∧ (s.grp 0).any (fun x => x.examDue && decide (x.lastBoundary + s.fld F.AGR_NET_TIME.relay_us * 1000 ≤ s.tns.dtime) &&
       x.stagedOpen && decide (x.stagedTries < 8) && decide (x.stagedAt + s.fld F.AGR_NET_TIME.retry_us ≤ s.tns.tick) &&
       x.kids[0]?.any (·.valid) && x.missed[0]?.any (fun n => decide (s.fld F.AGR_NET_TIME.lost_rounds ≤ n)) &&
       decide (s.fld F.AGR_NET_TIME.lost_rounds ≤ x.beaconMissed) && bitOf x.heard 0 && x.kidApplied[0]?.any (fun n => decide (n < x.committed))) = true ∧
     bitOf (s.lostMap 0) 0 = false ∧ s.fld (F.AGR_GRP_STAT.state 0) = 1 ∧ y.flag (F.AGR_LINE_CFG.net 0) = true ∧ y.grpRole 0 ≠ 2 ∧
     y.lines[(0 : Fin 32)].sentArrive = true ∧ y.flag (F.AGR_LINE_STAT.poisoned 0) = false ∧
     y.lines[(0 : Fin 32)].sentAt + y.fld F.AGR_NET_TIME.retry_us ≤ y.tns.tick ∧ y.fld (F.AGR_LINE_CFG.group (0 : Fin 32)) = (0 : Fin 256)) ∧
    (let s := grouped 2 [(F.AGR_NET_TIME.collect_us, 40)] fun x => { x with examDue := true }
     s.powered = true ∧ s.grpRole 0 = 2 ∧ (s.grp 0).any (fun x => x.examDue && decide (x.lastBoundary + s.fld F.AGR_NET_TIME.collect_us * 1000 ≤ s.tns.dtime)) = true) ∧
    (let s := grouped 0 [] id
     s.powered = true ∧ s.grpRole 0 ≠ 1 ∧ s.grpRole 0 ≠ 2 ∧ (s.grp 0).any (fun x => !x.examDue && !x.stagedOpen) = true ∧ s.fld F.AGR_NET_TIME.lost_rounds ≠ 0) := by
  (try dsimp only); (repeat' apply And.intro) <;> first | decide +kernel | rfl

/-- Core 1 asks for object entry idx of 16 words, and entry 3 is registered to core o. -/
def objected (idx base : Nat) (o : Obj) : State :=
  { put live [(F.AGR_OBJ_IDX.idx 1, idx), (F.AGR_OBJ_BASE.word 1, base), (F.AGR_OBJ_LEN.words 1, 16)] with objs := [(3, o)] }

theorem witness_ObjectsLinesAndDumpsFollowTheirRules :
    (let o : Obj := ⟨8, 8, 1, 0, 0, false, [], none⟩
     let p : Obj := { o with poisoned := true }
     let heir : Obj := { p with owner := 2, heirs := 2 }
     Alive (objected 5 64 o) 1 ∧ (objected 5 64 o).objs.lookup ((objected 5 64 o).fld (F.AGR_OBJ_IDX.idx 1)) = none ∧
     (let q := (objected 5 64 o).objAsked 1
      0 < q.len ∧ q.len ≤ 65536 ∧ q.base + q.len ≤ sharedSize / 8 ∧ ∀ p ∈ [(3, o)], ¬(p.2.base < q.base + q.len ∧ q.base < p.2.base + p.2.len)) ∧
     (let q := (objected 5 10 o).objAsked 1
      ∃ p ∈ [(3, o)], p.2.base < q.base + q.len ∧ q.base < p.2.base + p.2.len) ∧
     ¬((objected 5 4194303 o).objAsked 1).base + ((objected 5 4194303 o).objAsked 1).len ≤ sharedSize / 8 ∧
     (objected 3 64 o).objs.lookup ((objected 3 64 o).fld (F.AGR_OBJ_IDX.idx 1)) = some o ∧ o.owner = 1 ∧ o.poisoned = false ∧
     (objected 3 64 o).waitersOnObj o = 0 ∧ p.poisoned = true ∧ heir.owner ≠ 1 ∧ bitOf heir.heirs 1 = true ∧
     bitOf { heir with heirs := 0 }.heirs 1 = false) ∧
    (let s := put live [(F.AGR_LINE_CFG.owner 0, 1), (F.AGR_LINE_CFG.owner 1, 2)]
     Alive s 1 ∧ s.lines[(0 : Fin 32)].dead = false ∧ s.fld (F.AGR_LINE_CFG.owner 0) = 1 ∧ s.flag (F.AGR_LINE_STAT.poisoned 0) = false ∧
     s.arrived 0 = 0 ∧ s.fld (F.AGR_LINE_STAT.parked 0) = 0 ∧ s.fld (F.AGR_LINE_CFG.owner 1) ≠ 1 ∧
     { s with lines := s.lines.set 0 { LineX.reset with dead := true } }.lines[(0 : Fin 32)].dead = true) ∧
    (∀ n ∈ [0, 1, 2], (put live [(F.AGR_LINE_MAP.spares_left, n)]).fld F.AGR_LINE_MAP.spares_left = n) ∧
    (Served live 0 7 4 1 ∧ (live.dbgEntry 1 0).isSome = true ∧ live.dbgEntry 0 0 = none) ∧
    (bitOf (1#32).toNat 0 = true ∧ live.flag F.AGR_DUMP_CTL.freeze = false ∧ (put live [(F.AGR_DUMP_CTL.freeze, 1)]).flag F.AGR_DUMP_CTL.freeze = true) ∧
    (let r : DumpReq := ⟨3, 1, 0, []⟩
     { live with dumpNext := [r] }.dumpNext = r :: [] ∧ r.trigger = (3 : Fin 6).val ∧ r.core = 1 ∧ r.core ≠ 2 ∧ live.dumpNext = []) ∧
    (Served live 0 7 5 1 ∧ 0 % 4 = 0 ∧ 4 ≤ 4 ∧ bitOf 4 2 = true ∧ bitOf 0 2 = false) := by
  unfold Alive Served; (try dsimp only); (repeat' apply And.intro) <;> first | decide +kernel | rfl
/-- Port 0 is up and secured, port 2 up; QP 1 belongs to mailbox 1 over port 0 with port 2 as its alternate path, QP 2 to stream 0
over port 0 without one, QP 3 in error. -/
def meshed : State :=
  let s := put live [(F.ETH_CTL.en, 1), (F.ETH_PORT_CFG.en 0, 1), (F.ETH_PORT_CFG.en 2, 1), (F.ETH_PORT_CFG.en 4, 1), (F.RST_STATUS.pwr, 3),
    (F.ETH_PORT_STAT.link 0, 1), (F.ETH_PORT_STAT.link 2, 1), (F.ETH_PORT_CFG.macsec_req 0, 1), (F.ETH_PORT_STAT.macsec 0, 2),
    (F.ETH_PORT_CFG.mgmt 0, 1), (F.ETH_PORT_CFG.macsec_req 2, 0), (F.MBX_CTL.en, 1), (F.MBX_STAT.bound 1, 1), (F.MBX_STAT.push 1, 1),
    (F.MBX_STAT.qp 1, 1), (F.ETH_PTP_CFG.ports, 1), (F.ETH_PTP_ROLE.role, 1), (F.MBX_ASSIGN.source 2, 2)]
  let q : Qp := ⟨1, 2, 0, some 2, some 1, none, true, 4096, 4096, [(0, 1, 77), (1, 0, 78)], 32768, some 0, some 0, some 0, false⟩
  let x : Stream := { Stream.reset with owner := 1, mode := 2, types := 8 }
  { s with eth := { s.eth with qps := [q, { q with num := 2, alt := none, mailbox := none, stream := some 0, halvedAt := none, cnpAt := none, rate := 65536 },
                                        { q with num := 3, error := true }],
                               streams := (s.eth.streams.set 0 x).set 1 x },
           tns := { s.tns with tick := 100 } }

theorem witness_PortsFailOverAndQueuePairsPaceThemselves :
    let s := meshed
    s.powered = true ∧ (s.eth.qps.map Qp.num).Nodup ∧ s.portUp (0 : Fin 8) = true ∧ s.portUp (1 : Fin 8) = false ∧
    (s.portMay (4 : Fin 8) = true ∧ s.portUp (4 : Fin 8) = false) ∧
    (let u := put s [(F.ETH_PORT_STAT.macsec 0, 1)]
     u.powered = true ∧ u.portUp (0 : Fin 8) = true ∧ u.flag (F.ETH_PORT_CFG.macsec_req 0) = true ∧ u.fuses.keyKill = false ∧
     u.fld (F.ETH_PORT_STAT.macsec 0) ≠ 2) ∧
    s.fld (F.ETH_PORT_STAT.macsec 0) = 2 ∧ s.fld (F.ETH_PORT_STAT.macsec 1) ≠ 2 ∧
    (put s [(F.ETH_PORT_STAT.link 0, 0)]).portUp (0 : Fin 8) = false ∧ (put s [(F.ETH_PORT_STAT.link 0, 0)]).fld (F.ETH_PORT_STAT.macsec 0) = 2 ∧
    (s.portOpen (0 : Fin 8) = true ∧ s.coreUp 2 = true ∧ s.ptpOn (0 : Fin 8) = true ∧ s.ptpOn (1 : Fin 8) = false) ∧
    s.coreUp 1 = true ∧ s.flag F.TNS_STATUS.xtal_lost = false ∧
    (∃ q ∈ s.eth.qps, q.num = 1 ∧ q.error = false ∧ q.cnpAt = some 0 ∧ 0 + 100 ≤ s.tns.tick ∧ q.rate < 65536) ∧
    (∃ q ∈ s.eth.qps, q.num = 2 ∧ q.cnpAt = none) ∧ s.qpOf 9 = none ∧ (s.qpOf 1).any (fun q => q.mailbox == some 1) = true ∧
    (s.qpOf 2).any (fun q => q.mailbox == none) = true := by
  (try dsimp only); (repeat' apply And.intro) <;> first | decide +kernel | rfl

theorem witness_PeersReachOnlyTheirWindows :
    (let s := meshed
     let q : CmReq := ⟨0, none, 5, some 2, none, false, 0, 0, false⟩
     s.powered = true ∧ s.portOpen q.port = true ∧ s.portPowered q.port = true ∧ s.coreUp 0 = true ∧
     (s.cmSource { q with mailbox := none } ≠ 1 ∧ s.cmSource { q with mailbox := none } ≠ 2) ∧ (s.qpOf 1).isSome = true ∧
     s.flag (F.MBX_STAT.bound 1) = true ∧ s.eth.streams[(2 : Fin 8)].mode = 0 ∧
     (∃ x ∈ s.eth.qps, x.stream = some 0 ∧ x.error = false) ∧
     (s.cmSource { q with port := 2, mailbox := some 0 } = 1 ∧ s.portOpen 2 = true ∧ s.portPowered 2 = true ∧ s.mgmtPort 2 = false) ∧
     (s.cmSource q = 2 ∧ q.qp < 4096 ∧ s.qpOf q.qp = none ∧ s.flag F.MBX_CTL.en = true ∧ s.flag (F.MBX_STAT.bound 2) = false) ∧
     (s.cmSource { q with mailbox := some 0 } = 1 ∧ s.mgmtPort 0 = true ∧ s.flag (F.MBX_STAT.bound 0) = false) ∧
     (s.cmSource { q with mailbox := none, stream := some 1 } = 1 ∧ s.eth.streams[(1 : Fin 8)].mode ≠ 0 ∧
       (∀ x ∈ s.eth.qps, x.stream = some 1 → x.error = true) ∧ s.eth.rkeysUsed.length < 2 ^ 31)) ∧
    (let s := meshed
     (s.qpOf 1).any (fun q => s.portOpen q.port && s.portPowered q.port && (q.window 77 (reqArea 1) 32 == some (0, 1)) &&
       (q.window 77 0 32 == none) && (q.window 78 (windowOf 1 0).1 4 == some (1, 0)) &&
       (q.cnpSentAt == some 0)) = true ∧ 0 + 50 ≤ s.tns.tick ∧
     bitOf (s.fld F.MBX_PENDING.pending) 1 = false ∧ s.waitersOn (wordNo (reqWord 1)) = [] ∧ s.isPoisoned (wordNo (reqWord 1)) = false ∧
     bitOf ((put s [(F.MBX_PENDING.pending, 2)]).fld F.MBX_PENDING.pending) 1 = true ∧ s.qpOf 9 = none) ∧
    (live.powered = true ∧ live.nextMailbox = none ∧ live.role = 0 ∧
      (let s : State := { live with role := 1 }
       s.role ≠ 0 ∧ s.coreUp 2 = true ∧ s.coreUp 0 = true ∧ floorOk 0 0 9 = true ∧ floorOk 8 0 9 = false)) ∧
    (∀ h ∈ [[0x20#8, 1, 0, 0, 9, 0, 0, 0], [0, 0, 1, 1, 0, 0, 0, 0], [0, 1, 4, 1, 0, 0, 0, 0], [0, 1, 1, 1, 0, 0, 0, 0], [0, 1, 2, 1, 0, 0, 0, 0, 4, 0],
        [0, 1, 3, 1, 0, 0, 0, 0, 8, 0], [0, 1, 7, 2, 0, 0, 0, 0, 8, 0]],
      let s := poke (put live [(F.MBX_PENDING.pending, 1)]) (reqArea 0) h
      s.powered = true ∧ s.nextMailbox = some 0 ∧ s.coreUp 2 = true ∧ s.nat (reqArea 0 + 1) 1 = (h[1]?.getD 0).toNat ∧
      (s.nat (reqWord 0) 4 = s.nat (reqArea 0 + 4) 4 ↔ h[4]? = some 0#8)) ∧
    (let s := meshed
     s.coreUp 2 = true ∧ bitOf (3#32).toNat 1 = true ∧ s.flag (F.MBX_STAT.push 1) = true ∧ (s.boundQp 1).isSome = true ∧
     bitOf (1#32).toNat 1 = false) := by
  (try dsimp only); (repeat' apply And.intro) <;> first | decide +kernel | rfl

/-- Stream 0 is due in a mode over a ring or a QP, for a worker with a budget of upstream records or not. -/
def streaming (mode role : Nat) (qps : List Qp) : State :=
  let x : Stream := { Stream.reset with owner := 1, mode := mode, types := 8 }
  { meshed with role := role, eth := { meshed.eth with qps := qps, streams := meshed.eth.streams.set 0 x, budget := 5000 } }

theorem witness_PortAndStreamCommandsActAsStated :
    (∀ c ∈ [1, 2, 3, 4, 5, 6, 7], Served live 0 1 c 1) ∧
    (live.flag (F.ETH_PORT_CFG.split (1 - 1)) = false ∧ (0 / 4 % 4 ≠ 3) ∧ (put live [(F.ETH_CTL.lock, 0)]).flag F.ETH_CTL.lock = false ∧
      (let s := put live [(F.ETH_CTL.lock, 1), (F.ETH_CTL.en, 1)]
       s.flag F.ETH_CTL.lock = true ∧ Served s 0 1 3 1 ∧ s.fld (F.ETH_PORT_CFG.split 0) = b2n (bitOf 1 1) ∧
       s.fld (F.ETH_PORT_CFG.split 0) ≠ b2n (bitOf 2 1) ∧ s.portPresent (0 : Fin 8) = true)) ∧
    ((live.eth.streams[(0 : Fin 8)].owner = 0) ∧ typesFor 2 8 = false ∧ typesFor 1 8 = true ∧ Served live 1 1 4 2 ∧
      meshed.eth.streams[(0 : Fin 8)].owner = 1) ∧
    Alive live 2 ∧ live.eth.streams[(0 : Fin 8)].mode = 0 ∧
    (∀ r ∈ [0, 1], (let s := streaming 2 r []
       Alive s 2 ∧ s.eth.streams[(0 : Fin 8)].mode = 2 ∧ s.eth.streams[(0 : Fin 8)].nextAt ≤ s.tns.tick ∧ s.streamQp 0 = none ∧ s.role = r) ∧
      (let s := streaming 2 r meshed.eth.qps
       Alive s 2 ∧ s.eth.streams[(0 : Fin 8)].nextAt ≤ s.tns.tick ∧ (s.streamQp 0).isSome = true) ∧
      (let s := streaming 1 r []
       Alive s 2 ∧ s.eth.streams[(0 : Fin 8)].mode ≠ 2 ∧ s.eth.streams[(0 : Fin 8)].nextAt ≤ s.tns.tick ∧ s.waits = [])) := by
  unfold Alive Served; (try dsimp only); (repeat' apply And.intro) <;> first | decide +kernel | rfl
/-- ACTIVE with DDR5 ready, slot 0's eFuse on and a limit on its flash. -/
def updating : State :=
  put live [(F.RST_STATUS.pwr, 3), (F.DDR_STATUS.state, 2), (F.SEQ_EFUSE_STATUS.en, 1), (F.BOOT_SLOTFL_CFG.limit 0, 16)]

/-- Whether an image passes its checks or a signature verifies turns on constants of Config; an empty staging area fails. -/
theorem witness_ImagesAreStagedCheckedAndProgrammed :
    let s := updating
    (∀ c ∈ [1, 2, 5, 7, 8], Served s 0 9 c 1) ∧ Served s 0 0xB 1 1 ∧ targetOk 0 = true ∧ targetOk 0x18 = false ∧
    (∀ t ∈ [0, 1, 0x10], s.targetMoves t = false ∧ s.queued t = none ∧ s.pldmHas t = false) ∧ s.active = true ∧
    s.fld F.DDR_STATUS.state = 2 ∧ live.active = false ∧ live.targetMoves 0 = false ∧ live.queued 0 = none ∧
    live.pldmHas 0 = false ∧ Served live 0 9 1 1 ∧
    { s with boot := { s.boot with programming := true } }.targetMoves 0 = true ∧
    ¬(s.efuseOn (0 : Fin 8) = false ∨ s.phase (0 : Fin 8) = 1) ∧ (s.efuseOn (1 : Fin 8) = false) ∧
    ¬(0x1000 = 0 ∨ 0x4000000 < 0x1000 ∨ s.fld (F.BOOT_SLOTFL_CFG.limit (0 : Fin 8)) * 65536 < 0x1000) ∧
    s.fld (F.BOOT_SLOTFL_CFG.limit (0 : Fin 8)) * 65536 < 0x200000 ∧ s.stagedCheck 0 ≠ 0 ∧ s.stagedCheck 1 ≠ 0 ∧
    s.fuses.lifecycle ≠ 2 ∧
    (let u : State := { s with fuses := { s.fuses with lifecycle := 2, keysFused := 2 } }
     Served u 0 9 7 1 ∧ Served u 0 9 8 1 ∧ u.fuses.lifecycle = 2 ∧ bitOf u.fuses.keysFused (1 : Fin 4) = true ∧ bitOf u.fuses.keysFused (2 : Fin 4) = false ∧
     bitOf u.fuses.keysRevoked 1 = false ∧ (∀ i ∈ [2, 3], ¬(bitOf u.fuses.keysFused i = true ∧ bitOf u.fuses.keysRevoked i = false))) ∧
    componentTarget 9 = none ∧ componentTarget 1 = some 0 ∧ componentTarget 0x1000 = some 0x10 ∧ live.pldmMay 1 0 = false ∧ s.pldmMay 1 0 = true ∧
    s.pldmMay 0x1000 0x10 = true ∧ s.eth.pldmStaging ≠ some (1, 64, 0) ∧
    (∀ i ∈ [0, 1], let u : State := { s with eth := { s.eth with pldmStaging := some (1, 64, i) } }
      u.pldmMay 1 0 = true ∧ u.eth.pldmStaging = some (1, 64, i)) ∧
    (let u : State := { s with eth := { s.eth with pldmStaging := some (0x1000, 64, 0) } }
     u.pldmMay 0x1000 0x10 = true ∧ u.eth.pldmStaging = some (0x1000, 64, 0)) ∧
    (let u : State := { s with boot := { s.boot with programming := true, records := [⟨1, 0xFF, 0xFF, 0xFF, 1, 1, 0x1000, 0⟩] } }
     u.powered = true ∧ u.coreUp 0 = true ∧ u.boot.programming = true ∧ u.boot.records.head?.isSome = true ∧ 0x1000 ≤ 0x800000) ∧
    s.boot.programming = false ∧ s.flashing (0 : Fin 8) = false ∧
    (let p := put s [(F.BOOT_SLOTFL_STAT.state 0, 1)]
     let u : State := { p with boot := { p.boot with slotFlash := p.boot.slotFlash.set 0 (some ⟨64, 5⟩) } }
     u.powered = true ∧ u.flashing (0 : Fin 8) = true ∧ u.boot.slotFlash[(0 : Fin 8)] = some ⟨64, 5⟩) ∧
    (let u : State := { s with eth := { s.eth with pldmStaging := some (0x1000, 64, 2) } }
     u.eth.pldmStaging = some (0x1000 + (0 : Fin 8).val, 64, 2)) ∧
    s.boot.records.length < 1023 ∧
    (let u : State := { s with boot := { s.boot with records := List.replicate 1023 ⟨1, 0xFF, 0xFF, 0xFF, 1, 1, 0x1000, 0⟩ } }
     1023 ≤ u.boot.records.length) := by
  unfold Served; (try dsimp only); (repeat' apply And.intro) <;> first | decide +kernel | rfl

/-- A service activation is queued, of a service image that is staged. -/
def queued : State :=
  let s := put updating [(F.BOOT_STATUS.svc, 2)]
  { s with boot := { s.boot with queue := [⟨2, true, 0⟩], staged := ⟨5, 1, 1⟩ } }

/-- The health window of a service image, or of a resident one on trial, runs. -/
def windowed (svc : Bool) : State :=
  let s := put updating [(F.BOOT_STATUS.svc, 4), (F.BOOT_HEALTH.self_ok, 1)]
  { s with boot := { s.boot with windowEnd := some 1000, windowSvc := svc, needManager := true, trial := !svc, prevBank := some 0 } }

theorem witness_ActivationsHandoversAndHealthFollowTheRules :
    (let s := put updating [(F.BOOT_STATUS.svc, 1)]
     (∀ c ∈ [3, 4, 6], Served s 0 9 c 1) ∧ s.targetMoves 1 = false ∧ s.targetMoves 0 = false ∧ s.fld F.BOOT_STATUS.svc = 1 ∧
     s.slotState s.otherSlot ≠ 0x7F ∧ s.boot.running ≠ 2 ∧ s.boot.windowEnd.isSome = false ∧ s.queued 1 = none ∧ s.queued 0 = none ∧
     s.fld F.BOOT_STATUS.svc ≠ 4 ∧ s.boot.trial = false ∧ s.boot.queue = []) ∧
    ((windowed true).targetMoves 1 = true ∧ Served (windowed true) 0 9 3 1) ∧
    (let s := { put updating [(F.BOOT_STATUS.svc, 1)] with eth := { updating.eth with pldmApplied := [1] } }
     s.powered = true ∧ s.coreUp 2 = true ∧ s.coreUp 0 = true ∧ (∃ t ∈ s.eth.pldmApplied, s.activateStatus t = 0)) ∧
    (let s := queued
     Alive s 0 ∧ Alive s 2 ∧ s.holdMask = 0 ∧ s.boot.queue = [⟨2, true, 0⟩] ∧ (s.queued 1).isSome = true ∧ Served s 0 9 6 1 ∧
     s.powered = true) ∧
    (let s : State := { updating with boot := { updating.boot with queue := [⟨1, false, 0⟩], records := [⟨1, 0x7F, 0xFF, 0xFF, 1, 1, 64, 0⟩] } }
     Alive s 0 ∧ Alive s 2 ∧ s.holdMask = 0 ∧ s.boot.queue = [⟨1, false, 0⟩] ∧ s.boot.running = 0 ∧ s.otherSlot = 1 ∧ (s.slotRec 1).isSome = true) ∧
    (let s := put queued [(F.CAP_STATUS.staged, 1), (F.BOOT_CFG.queue_min, 1)]
     let u : State := { s with tns := { s.tns with tick := 60000000 } }
     (u.boot.queue.map Activation.target).Nodup ∧ Alive u 2 ∧ u.holdMask ≠ 0 ∧ u.queueLeft ⟨2, true, 0⟩ = 0 ∧ s.queueLeft ⟨2, true, 0⟩ ≠ 0) ∧
    (∀ b ∈ [true, false], let s := windowed b
     Alive s 1 ∧ Alive s 0 ∧ bitOf (0x80000000#32).toNat 31 = true ∧ s.boot.windowEnd = some 1000 ∧ s.boot.needManager = true ∧
     s.boot.managerOk = false ∧ Served s 0 9 4 1 ∧ Served s 0 9 6 1 ∧ s.boot.windowSvc = b ∧ s.flag F.BOOT_HEALTH.self_ok = true ∧
     (put s [(F.BOOT_HEALTH.self_ok, 0)]).flag F.BOOT_HEALTH.self_ok = false ∧ s.queued 1 = none ∧ s.queued 0 = none ∧
     s.fld F.BOOT_STATUS.svc = 4 ∧ s.boot.trial = !b ∧ s.tns.tick < 1000 ∧
     1000 ≤ { s with tns := { s.tns with tick := 1000 } }.tns.tick ∧
     { s with boot := { s.boot with managerOk := true } }.boot.managerOk = true) := by
  unfold Alive Served; (try dsimp only); (repeat' apply And.intro) <;> first | decide +kernel | rfl

/-- A state with the lifecycle and fields set, its image verified. -/
def secured (life : Nat) (l : List (Fd × Nat)) : State :=
  let s := put live l
  { s with sec := { s.sec with verified := true }, fuses := { s.fuses with lifecycle := life } }

/-- Whether a signature verifies turns on a constant of Config. -/
theorem witness_AttestationDebugAndLifecycleCommandsFollowTheRules :
    (∀ c ∈ [1, 2, 3, 0xD, 0xE, 0xF, 0x10], Served live 0 8 c 1) ∧ live.sec.verified = false ∧
    (∀ n ∈ [0, 1, 2, 3], (secured n []).sec.verified = true ∧ (secured n []).fuses.lifecycle = n ∧ Served (secured n []) 0 8 1 1 ∧
      (secured n []).sec.signing.length < 64) ∧
    64 ≤ ({ secured 1 [] with sec := { (secured 1 []).sec with signing := List.replicate 64 ⟨0, 0, none, 0⟩ } } : State).sec.signing.length ∧
    (let s := withCore (secured 1 []) 0 fun c => { c with run := .held }
     s.powered = true ∧ s.coreUp 2 = true ∧ s.coreUp 0 = false) ∧
    (∀ x ∈ [none, some 3], let s := { secured 1 [] with sec := { (secured 1 []).sec with signing := [⟨0, 0, x, 0⟩] } }
      s.powered = true ∧ s.coreUp 0 = true ∧ s.coreUp 2 = true ∧ s.sec.verified = true ∧ s.sec.signing = [⟨0, 0, x, 0⟩]) ∧
    live.sec.signing = [] ∧ (1 ≤ 1 ∧ 1 ≤ 4096 ∧ 0 ≤ Config.certLen 1) ∧
    (live.fld F.SEC_STATUS.debug = 0 ∧ (put live [(F.SEC_STATUS.debug, 1)]).fld F.SEC_STATUS.debug ≠ 0 ∧ live.flag F.SEC_CTL.conf_force = false ∧
      (put live [(F.SEC_CTL.conf_force, 1)]).flag F.SEC_CTL.conf_force = true ∧ live.conf = false ∧ (put live [(F.SEC_CTL.conf, 1)]).conf = true) ∧
    (let s := put live [(F.SEC_STATUS.conf_pending, 1)]
     s.powered = true ∧ s.coreUp 0 = true ∧ s.flag F.SEC_STATUS.conf_pending = true ∧ s.flag F.SEC_CTL.conf_force = false ∧
     ∀ n < 8, bitOf s.sec.confWait n = false ∨ s.phase n = 0) ∧
    live.flag F.SEC_STATUS.conf_pending = false ∧ live.flag F.SEC_STATUS.trng_fail = false ∧
    (put live [(F.SEC_STATUS.trng_fail, 1)]).flag F.SEC_STATUS.trng_fail = true ∧
    (let s := { secured 2 [] with sec := { (secured 2 []).sec with nonce := some (9, 0) } }
     s.conf = false ∧ (∀ n < 8, ¬ s.phase n = 1) ∧ s.flag F.SEC_CTL.dbg_dis = false ∧ s.fuses.lifecycle = 2 ∧ s.sec.nonce = some (9, 0) ∧
     s.tns.tick < 0 + 60000000 ∧ Served s 0 8 0xE 1 ∧ Served s 0 8 0x10 1) ∧
    live.sec.nonce = none ∧ (secured 1 []).fuses.lifecycle = 1 ∧ { live with powered := false }.powered = false ∧ live.powered = true ∧
    bitOf (live.fld F.SEC_STATUS.debug) 2 = false ∧ bitOf ((put live [(F.SEC_STATUS.debug, 4)]).fld F.SEC_STATUS.debug) 2 = true ∧
    (let s := secured 0 [(F.TMX_CTL.en, 1)]
     s.powered = true ∧ s.flag F.TMX_CTL.en = true ∧ s.conf = false ∧ (∀ n < 8, s.phase n < 2) ∧ s.fuses.lifecycle = 0 ∧
     s.fld (F.TMX_DSEL.sel (0 : Fin 4)) = 0 ∧ live.flag F.TMX_CTL.en = false) := by
  unfold Served; (try dsimp only); (repeat' apply And.intro) <;> first | decide +kernel | rfl

/-- Context 3 of slot 0 is open with an active session 4, and mailbox 1 belongs to the host. -/
def sessioned : State :=
  let s := secured 2 [(F.SEC_SLOT.ann_valid 1, 1), (F.SEC_SLOT.ann_ctx 1, 5)]
  { s with sec := { s.sec with contexts := [((0, 3), 7), ((1, 5), 7)], sessions := [⟨4, 0, 3, true, 9, 0, 0, 0, 0, 0⟩, ⟨5, 0, 4, false, 0, 0, 0, 0, 0, 0⟩] } }

/-- Slot 0 is in step i of its scrub, served by core 3. -/
def scrubbing (i : Nat) : State :=
  let s := put (running live 3) [(F.SEC_SLOT.phase 0, 2)]
  { s with sec := { s.sec with scrubStep := s.sec.scrubStep.set 0 i } }

/-- A key exchange or an authentication tag turns on constants of Config. -/
theorem witness_ContextsSessionsAndScrubsFollowTheRules :
    (let s := sessioned
     (∀ c ∈ [4, 5, 6, 0xB], Served s 0 8 c 1) ∧ (∀ c ∈ [7, 8, 9, 0xA, 0xC], Served s 1 8 c 2) ∧ s.ctxOpen 0 3 = true ∧ s.ctxOpen 0 2 = false ∧
     s.ctxOpen 1 5 = true ∧ s.flag (F.SEC_SLOT.ann_valid 1) = true ∧ s.fld (F.SEC_SLOT.ann_ctx 1) = 5 ∧ s.owner 0 ≠ some 3 ∧
     s.fuses.lifecycle = 2 ∧ (∀ n ∈ [0, 3], Served (secured n []) 1 8 7 2 ∧ (secured n []).fuses.lifecycle = n) ∧
     s.flag (F.SEC_SLOT.ann_valid 0) = false ∧ (∃ x ∈ s.sec.sessions, x.slot = 0 ∧ x.ctx = 3) ∧ s.sec.verified = true ∧
     s.flag F.SEC_STATUS.trng_fail = false ∧ s.sec.contexts.lookup (0, 2) = none ∧ s.sec.signing.length < 64 ∧ s.session 9 = none ∧
     s.session 4 = some ⟨4, 0, 3, true, 9, 0, 0, 0, 0, 0⟩ ∧ 9 ≤ 9 ∧ 9 < 10 ∧ s.session 5 = some ⟨5, 0, 4, false, 0, 0, 0, 0, 0, 0⟩ ∧
     (put s [(F.SEC_STATUS.trng_fail, 1)]).flag F.SEC_STATUS.trng_fail = true) ∧
    (let s := withCore (scrubbing 1) 0 fun c => { c with run := .held }
     s.powered = true ∧ s.sec.scrubStep[(0 : Fin 8)] = 1 ∧ s.servingCore (0 : Fin 8) = some 3 ∧ s.coreUp 0 = false) ∧
    PortFree (scrubbing 1) 3 ∧ 3 ≤ (3 : Fin 13).val ∧ (scrubbing 1).its.up = false ∧
    (let x := (scrubbing 1).its
     { x with up := true }.linkUp = true) ∧
    (∀ i ∈ [1, 2, 3, 4, 5, 6, 7], let s := scrubbing i
      s.powered = true ∧ s.sec.scrubStep[(0 : Fin 8)] = i ∧ s.servingCore (0 : Fin 8) = some 3 ∧ s.coreUp 0 = true ∧ s.coreUp 1 = true ∧
      s.coreUp 2 = true) ∧
    live.sec.scrubStep[(0 : Fin 8)] = 0 ∧ live.phase (0 : Fin 8) ≠ 3 ∧
    (let s := put (running sessioned 3) [(F.SEC_SLOT.phase 0, 3), (F.SEC_SLOT.ann_valid 0, 1), (F.SEC_SLOT.ann_ctx 0, 3), (F.CMA_CTX.rep_valid 0, 1),
       (F.CMA_CTX.rep_ctx 0, 3)]
     s.powered = true ∧ s.coreUp 0 = true ∧ s.svcRuns = true ∧ s.phase (0 : Fin 8) = 3 ∧ s.sec.scrubStep[(0 : Fin 8)] = 0 ∧
     s.flag (F.CMA_CTX.rep_valid 0) = true ∧ s.flag (F.SEC_SLOT.ann_valid 0) = true ∧ s.fld (F.CMA_CTX.rep_ctx 0) = 3 ∧
     s.fld (F.SEC_SLOT.ann_ctx 0) = 3 ∧ s.ctxOpen 0 3 = true ∧ s.servingCore (0 : Fin 8) = some 3) := by
  unfold Served PortFree; (try dsimp only); (repeat' apply And.intro) <;> first | decide +kernel | rfl

/-- Selection 0x43 of a test output is the running state of core 3; selection 0x4D selects nothing (R461). -/
theorem test_testmux_selects :
    let s := secured 0 [(F.TMX_CTL.en, 1), (F.TMX_DSEL.sel (0 : Fin 4), 0x43), (F.TMX_DSEL.sel (1 : Fin 4), 0x4D)]
    s.testmux 0 = .coreRunning 3 ∧ s.testmux 1 = .low ∧ live.testmux 0 = .low := by
  (try dsimp only); (repeat' apply And.intro) <;> first | decide +kernel | rfl

/-- Debug bit 1 opens the test outputs in the field as well; a slot in phase 2 closes them (R461). -/
theorem test_testmux_gated :
    let s := secured 2 [(F.TMX_CTL.en, 1), (F.TMX_DSEL.sel (0 : Fin 4), 1)]
    s.testmux 0 = .low ∧ (put s [(F.SEC_STATUS.debug, 2)]).testmux 0 = .usTick ∧
    (put s [(F.SEC_STATUS.debug, 2), (F.SEC_SLOT.phase 0, 2)]).testmux 0 = .low := by
  (try dsimp only); (repeat' apply And.intro) <;> first | decide +kernel | rfl
/-- Core k in a run state, with a role, its watchdog's time and what the lists hold. -/
def cored (k : Fin 13) (r : RunState) (l : List (Fd × Nat)) : State :=
  withCore (put (running live 3) l) k fun c => { c with run := r }

theorem witness_CoresAreResetWatchedSparedAndRepaired :
    (live.powered = true ∧ { live with powered := false }.powered = false) ∧
    (Alive live 0 ∧ Alive live 1 ∧ (0x103#32).getLsbD 8 = true ∧ (0x103#32).toNat % 16 = (3 : Fin 13).val ∧ (3 : Fin 13) ≠ 0 ∧
      (1#32).getLsbD 0 = true ∧ (0#32).getLsbD 0 = false) ∧
    (∀ k ∈ [(0 : Fin 13), 1, 2, 3], let s := cored k .running [(F.RST_WDOG_CFG.ms k, 1)]
      let u : State := { s with tns := { s.tns with tick := 1000 } }
      u.powered = true ∧ u.fld (F.RST_WDOG_CFG.ms k) ≠ 0 ∧ u.coreUp k = true ∧ u.rst.wdogAt[k] + 1 * 1000 ≤ u.tns.tick ∧
      u.fld (F.RST_WDOG_CFG.ms k) = 1 ∧ u.coreUp 0 = true) ∧
    (let s := put (running live 11) [(F.RST_WDOG_CFG.ms 11, 1), (F.RST_CORE_STAT.role 11, 1)]
     let u : State := { s with tns := { s.tns with tick := 1000 } }
     u.powered = true ∧ u.coreUp 11 = true ∧ u.fld (F.RST_WDOG_CFG.ms 11) ≠ 0 ∧ ∀ j : Fin 8, u.slotCore j ≠ (11 : Fin 13).val) ∧
    (let s := cored 3 .halted [(F.RST_CORE_STAT.role 11, 1)]
     Alive s 0 ∧ (s.core 3).run = .halted ∧ (∀ j : Fin 13, j ≠ 3 → (s.core j).run ≠ .halted) ∧
     (∀ j : Fin 8, s.slotCore j ≠ (3 : Fin 13).val → s.fld (F.RST_CORE_STAT.role (s.slotCore j)) < 2) ∧
     (∀ j : Fin 8, s.slotCore j = (3 : Fin 13).val ↔ j = 0) ∧ s.spareCore = some 11 ∧ s.fld (F.RST_CORE_STAT.role 3) = 0 ∧
     (put s [(F.RST_CORE_STAT.role 11, 2), (F.RST_CORE_STAT.role 12, 2)]).spareCore = none) ∧
    (let s := cored 3 .held []
     s.powered = true ∧ (∀ k, (s.core k).run ≠ .halted) ∧ ∀ j : Fin 8, s.fld (F.RST_CORE_STAT.role (s.slotCore j)) < 2) ∧
    (cored 0 .halted []).powered = true ∧ ((cored 0 .halted []).core 0).run = .halted ∧
    (∀ k ∈ [(1 : Fin 13), 2], let s := cored k .halted []
      let n : State := { s with boot := { s.boot with svcUp := false } }
      let w : State := { s with boot := { s.boot with windowSvc := true, windowEnd := some 9 } }
      let o : State := { w with boot := { w.boot with windowHalts := ⟨#[2, 2], rfl⟩ } }
      let h : State := { n with haltTimes := [(k.val, 0), (k.val, 0), (k.val, 0)] }
      Alive s 0 ∧ (s.core k).run = .halted ∧ (∀ j : Fin 13, j ≠ k → (s.core j).run ≠ .halted) ∧ (∀ j : Fin 8, s.slotCore j ≠ k.val) ∧
      s.svcRuns = true ∧ n.svcRuns = false ∧ 3 ≤ h.haltsWithin k 60000000 ∧ n.haltsWithin k 60000000 < 3 ∧
      (w.svcRuns && w.boot.windowSvc && w.boot.windowEnd.isSome) = true ∧ w.boot.windowHalts[(0 : Fin 2)] + 1 < 3 ∧
      3 ≤ o.boot.windowHalts[(0 : Fin 2)] + 1) ∧
    (∀ k ∈ [(0 : Fin 13), 1, 2, 3], let s := cored k .held [(F.RST_CORE_STAT.role k, 3)]
      s.powered = true ∧ s.fld (F.RST_CORE_STAT.role k) = 3 ∧ s.haltsWithin k 3600000000 < 2 ∧
      2 ≤ ({ s with haltTimes := [(k.val, 0), (k.val, 0)] } : State).haltsWithin k 3600000000) ∧ (cored 1 .held [(F.RST_CORE_STAT.role 1, 3)]).coreUp 0 = true ∧
    (let s := put live [(F.RST_STATUS.pwr, 3)]
     s.active = true ∧ s.powered = true ∧ 5 < 16384 ∧ 512 * 5 < ddrSize ∧ (put s [(F.DDR_STATUS.state, 2)]).fld F.DDR_STATUS.state = 2 ∧
     s.fld F.DDR_STATUS.state ≠ 2 ∧ s.coreUp 0 = true ∧ (s.rst.rowErrs.lookup (true, 5)).getD [] = [] ∧
     (∀ x ∈ s.repair, ¬(x.kind = 2 ∧ x.index = 5 ∧ x.state = 0x7F))) := by
  unfold Alive; (try dsimp only); (repeat' apply And.intro) <;> first | decide +kernel | rfl

/-- The main supply in a state, with times in the reset block. -/
def supplied (pwr tick : Nat) (l : List (Fd × Nat)) (f : Rst → Rst) : State :=
  let s := put live ([(F.RST_STATUS.pwr, pwr)] ++ l)
  { s with rst := f s.rst, tns := { s.tns with tick := tick } }

theorem witness_MainSupplyRecorderAndInventoryFollowTheRules :
    (let s := supplied 1 0 [(F.RST_CTL.main_hold, 1)] fun r => { r with retryAt := some 0 }
     let u : State := { s with targets := s.targets.set 8 { Target.reset with stM := 1 } }
     s.powered = true ∧ s.fld F.RST_STATUS.pwr = 1 ∧ s.rst.shed = false ∧ s.rst.lossHold = false ∧ s.flag F.RST_CTL.main_hold = true ∧ u.effOn 8 = true ∧
     u.fld F.RST_STATUS.pwr = 1 ∧ s.rst.retryAt = some 0 ∧ s.effOn 8 = false) ∧
    (let s := supplied 2 100000 [(F.RST_STATUS.main_en, 1)] id
     s.powered = true ∧ s.fld F.RST_STATUS.pwr = 2 ∧ s.rst.mainEnAt + 100000 ≤ s.tns.tick ∧ s.flag F.RST_STATUS.main_en = true) ∧
    (let s := supplied 3 20000000 [(F.RST_PWR_CFG.stby_delay_s, 20)] fun r => { r with lossAt := some 0, idleSince := some 0 }
     s.powered = true ∧ s.active = true ∧ s.idle = true ∧ 0 + s.fld F.RST_PWR_CFG.stby_delay_s * 1000000 ≤ s.tns.tick ∧ 0 + 10000000 ≤ s.tns.tick ∧
     (let u := supplied 3 9999999 [] fun r => { r with lossAt := some 0 }
      u.active = true ∧ u.tns.tick < 0 + 10000000)) ∧
    (live.fld F.RST_STATUS.pwr ≠ 2 ∧ live.active = false ∧ live.flag F.RST_STATUS.main_en = false) ∧
    (let s := live
     s.powered = true ∧ s.fld F.EVR_CTL.min_sev ≤ 3 ∧ s.evr.queue = [] ∧
     (let e := { s with evr := { s.evr with tokens := 20 } }
      e.evr.tokens ≠ 0 ∧ ¬(if e.fld F.EVR_CTL.shed_sev ≤ 3 then e.evr.tokens = 0 else e.evr.tokens < 16)) ∧
     (let z : State := { s with evr := { s.evr with tokens := 0 } }
      z.evr.tokens = 0 ∧ (if z.fld F.EVR_CTL.shed_sev ≤ 3 then z.evr.tokens = 0 else z.evr.tokens < 16) ∧ z.evr.queue.length < 32)) ∧
    (let r : EvRec := evRecord live 2 3 4 true [] 0
     32 ≤ ({ live with evr := { live.evr with queue := List.replicate 32 r } } : State).evr.queue.length) ∧
    (let s := put (running live 3) [(F.CMA_STATUS.state 0, 2), (F.INV_SLOT_CFG.addr 0, 8)]
     s.powered = true ∧ (s.servingCore (0 : Fin 8)).isSome = true ∧ s.linkState (0 : Fin 8) = 2 ∧ s.fld (F.INV_SLOT_CFG.addr 0) ≠ 0 ∧
     live.linkState (0 : Fin 8) ≠ 2 ∧ s.invFind 77 = none ∧ (∃ j ∈ [0], s.inv.entries.lookup j = none)) ∧
    Alive live 0 ∧ (∀ c ∈ [1, 2, 3, 4], Served live 0 0xA c 1 ∧ Served live 1 0xA c 2) := by
  unfold Alive Served; (try dsimp only); (repeat' apply And.intro) <;> first | decide +kernel | rfl
/-! ## Results of the manual's own examples and rules -/

/-- Whether a command answers a next state of which something holds. -/
def gives (c : Instr) (s : State) (f : State → Bool) : Bool :=
  match exec c s with
  | .next t => f t
  | _ => false

/-- The words of the example under R233, and TMMA 3, 1, 2 written out in format T (R204, R205, R255, R256): a KT word is a thread's
alone. -/
theorem test_words_name_their_instructions :
    decodeWord (.core 3) 0x12400002 = some (.k32 (.addi (.core 3) 9 0 2)) ∧
    decodeWord (.core 3) 0x12C00015 = some (.k32 (.addi (.core 3) 11 0 21)) ∧
    decodeWord (.core 3) 0x90000001 = some (.k32 (.svc (.core 3) 1)) ∧
    decodeWord (.core 3) 0x62804077 = some (.k32 (.br (.core 3) 10 0 1 119)) ∧
    decodeWord (.thread 7) 0xCB280000 = some (.kt 7 (.tmma 3 1 2)) ∧ decodeWord (.core 3) 0xCB280000 = none ∧
    decodeWord (.thread 7) 0xCB280001 = none := by
  decide +kernel

/-- LUP with imm22 0x1800 yields 0x0000_3000_0000, the base of CSR space (the example under R203). -/
theorem test_lup_reaches_csr_space :
    gives (.lup (.core 0) 5 0x1800#22) State.reset (fun t => t.gprOf (.core 0) 5 == 0x30000000#64) = true := by decide +kernel

/-- The most negative number over -1 is itself (R210). -/
theorem test_div_of_the_most_negative :
    gives (.div (.core 0) 3 1 2) (two (2 ^ 63) (2 ^ 64 - 1)) (fun t => t.gprOf (.core 0) 3 == 0x8000000000000000#64) = true := by decide +kernel

/-- ADD wraps, and its destination may be a source (R207). -/
theorem test_add_wraps :
    gives (.add (.core 0) 1 1 2) (two (2 ^ 64 - 1) 2) (fun t => t.gprOf (.core 0) 1 == 1#64 && t.gprOf (.core 0) 2 == 2#64) = true := by
  decide +kernel

/-- CLZ of 0 is 64 (R207). -/
theorem test_clz_of_zero : gives (.clz (.core 0) 3 1) (two 0 0) (fun t => t.gprOf (.core 0) 3 == 64#64) = true := by decide +kernel

/-- The example of R56 and R57: the step passes two boundaries and produces one stepped boundary, and the deadline fires. -/
theorem test_step_of_domain_time :
    let p := put live [(F.TNS_CTL.step_en, 1), (F.TNS_STEP_LIMIT.limit, 1000000), (F.TNS_STEP_LO.lo, 500000), (F.AGR_GRP_ROUND.period_us 5, 250),
      (F.TNS_EPOCH_DL_HI.arm 5, 1)]
    let s : State := { p with grps := [(5, Grp.fresh (peerAt 1) [] (peerAt 2) 1000000000)],
                              tns := { p.tns with dtime := 1000000000, deadlines := [(5, 1000300000)] } }
    gives (.domainTimeStep 0 1#32) s (fun t => t.tns.dtime == 1000500000 && !t.flag (F.TNS_EPOCH_DL_HI.arm 5) &&
      bitOf (t.fld (F.TNS_EPOCH_PEND.pend 0)) 5 && (t.grp 5).any fun x => x.stepped && x.lastBoundary == 1000500000) = true := by decide +kernel

/-- Step 6 of the barrier example under R304: the round completes, and the parked arrival counts for the next. -/
theorem test_barrier_round_completes :
    let p := put (running live 3) [(F.AGR_LINE_CFG.members 5, 14), (F.AGR_LINE_STAT.arrived 5, 6), (F.AGR_LINE_STAT.parked 5, 4)]
    gives (.arv (.core 3) 4 1) (withG p 3 1 5) (fun t => t.flag (F.AGR_LINE_STAT.sense 5) && t.lines[(5 : Fin 32)].round == 1 &&
      t.arrived 5 == 4 && t.fld (F.AGR_LINE_STAT.parked 5) == 0 && t.gprOf (.core 3) 4 == 0#64) = true := by decide +kernel

/-- The example of the re-loaded Qualifier: from 512 towards 90 at 2.048 per us, 25 ticks later 460.8 shown as 460 (R280).  Here one
tick: 509.952, shown as 509. -/
theorem test_qualifier_slews :
    gives .qualifierTick (put live [(F.QUA_TGT.target 6, 90), (F.QUA_OUT.out 6, 512), (F.QUA_SLEW.dn 6, 2048), (F.QUA_ENV.max 6, 1023)])
      (fun t => t.quaOut 6 == 509) = true := by decide +kernel

/-- The leak example: the third wet sample of zone 3 confirms it; eFuse 3 and DOM23 go off, and valve 3 is forced closed (R162, R166). -/
theorem test_third_wet_sample_confirms :
    let p := put live [(F.LKD_CTL.zone_en, 8), (F.LKD_ZONE_CFG.wet_kohm 3, 50), (F.LKD_ZONE_CFG.valves 3, 8), (F.SEQ_EFUSE_CFG.zone 3, 3),
      (F.SEQ_EFUSE_STATUS.en, 12), (F.SEQ_DOM_CFG.zone 23, 3), (F.SEQ_DOM_EN.en 0, 0xC00000), (F.PER_CAUSE.leak_wet, 1)]
    let s : State := { p with ropes := p.ropes.set 3 { Rope.reset with wetRun := 2 } }
    gives (.leakSample false (List.replicate 8 ⟨30, 1000, 1000⟩)) s (fun t => t.zoneConfirmed 3 && !t.efuseOn 3 && t.efuseOn 2 && !t.domOn 23 && t.domOn 22 &&
      bitOf (t.fld F.THM_VALVE_CTL.forced) 3 && t.flag F.PER_CAUSE.leak_conf) = true := by decide +kernel

/-- The load-step example: T_L is 2,360 us and step_frames 159 (R114, R115, R128). -/
theorem test_plan_of_a_barrier_release :
    let s := put live [(F.BUF_BUS_STEP.w6, 1500), (F.BUF_BUS_STEP.w10, 2400), (F.BUF_MARGIN_CFG.achieved, 60), (F.BUF_BANK_CFG.cap, 1500),
      (F.BUF_BANK_V.vbank, 3000), (F.BUF_BANK_V.vfloor, 36), (F.QUA_ENV.max 36, 8000), (F.QUA_OUT.out 36, 8000), (F.BUF_STATUS.mode, 2),
      (F.BUF_RAMP_CFG.stagger_us, 20), (F.BUF_RAMP_CFG2.min_frames, 25), (F.BUF_LIM.dis_w, 8000), (F.SEQ_STATUS.gate_req, 1), (F.THM_SNS_CFG.en 0, 1), (F.PRS_AIN_CFG.kind 0, 2),
      (F.THM_SNS_CFG.zone 0, 31), (F.BUF_TEMP_SRC.src0, 0)]
    let s : State := { s with sns := [(0, { Sensor.reset with has := true, value := 400 })] }
    s.rampSteps = 14 ∧ s.framesMin 8 = 141 ∧ s.bufUsable 8000 = true ∧ s.loadTime 8 8000 = 2360 ∧ s.stepFrames 8 8000 = 159 := by
  decide +kernel

/-- The thermal example: at THROTTLE with a rate that is not negative, the duty rises by thr_step (R142); 95 degC is 1520 in 1/16 degC. -/
theorem test_throttle_duty_rises :
    let p := put live [(F.THM_SNS_CFG.en 141, 1), (F.THM_SNS_CFG.zone 141, 3), (F.THM_ZONE_CFG.target 3, 3), (F.SEQ_EFUSE_STATUS.en, 8),
      (F.THM_ZONE_CFG.thr_step 3, 16), (F.THM_ZONE_THR.thr_max 3, 768)]
    let s : State := { p with sns := [(141, { Sensor.reset with has := true, value := 1520, level := 2 })] }
    gives .throttleUpdate s (fun t => t.fld (F.THM_THR_DUTY.duty 3) == 16) = true := by decide +kernel

end Sys2Proof.Tests
end

section
/-!
SUPPORT. What every command of the table is: an action, but for ALWAYS_ON_LOSS.  Relations that every run of an action keeps
between the state before it and the state after it.
-/
namespace Sys2Proof.Machine

/-- Every command but ALWAYS_ON_LOSS is an action, so that what every action keeps every such command keeps. -/
theorem exec_eq_go (c : Instr) (h : c ≠ .alwaysOnLoss) : ∃ a : Act, ∀ s, exec c s = a.go s := by
  cases c
  case alwaysOnLoss => exact absurd rfl h
  all_goals exact ⟨_, fun _ => rfl⟩

theorem exec_alwaysOnLoss (s : State) : exec .alwaysOnLoss s = .next { s with powered := false } := rfl

theorem exec_coldStart (s : State) (role : BitVec 2) (ok : Bool) :
    exec (.coldStart role ok) s = .next ((Act.coldStart role.toNat ok).run s) := rfl

theorem exec_warmReset (s : State) (c : WarmCause) :
    exec (.warmReset c) s =
      .next ((Act.when (s.powered && (c ≠ .resetMessage || s.rst.warmDue)) (Act.warmReset c)).run s) := rfl

theorem exec_reset (s : State) (m : Fin 16) (kind : Nat) :
    exec (.reset m kind) s = .next ((Act.resetCommand m kind).run s) := rfl

/-! ## Frames -/

/-- A relation that holds of a state and itself and goes on from state to state. -/
structure FrameRel (R : State → State → Prop) : Prop where
  refl : ∀ s, R s s
  trans : ∀ {s t u}, R s t → R t u → R s u

/-- Every run of the action leads to a state in the relation to the one before it. -/
def Act.Within (R : State → State → Prop) (a : Act) : Prop := ∀ s, R s (a.run s)

section
variable {R : State → State → Prop} (hR : FrameRel R)
include hR

theorem FrameRel.skip : Act.skip.Within R := hR.refl

theorem FrameRel.andThen {a b : Act} (ha : a.Within R) (hb : b.Within R) : (a.andThen b).Within R := fun s =>
  hR.trans (ha s) (hb _)

theorem FrameRel.seq {l : List Act} (h : ∀ a ∈ l, a.Within R) : (Act.seq l).Within R := by
  induction l with
  | nil => exact hR.skip
  | cons a r ih =>
    exact hR.andThen (h a (List.mem_cons_self ..)) (ih fun b hb => h b (List.mem_cons_of_mem _ hb))

theorem FrameRel.each {α : Type} {l : List α} {f : α → Act} (h : ∀ x ∈ l, (f x).Within R) : (Act.each l f).Within R :=
  hR.seq fun a ha => by
    obtain ⟨x, hx, rfl⟩ := List.mem_map.mp ha
    exact h x hx

theorem FrameRel.when {b : Bool} {a : Act} (h : b = true → a.Within R) : (Act.when b a).Within R := by
  cases b with
  | false => exact hR.skip
  | true => exact h rfl

/-- What one action of a list brings about and the later ones keep stands at the end. -/
theorem FrameRel.seq_establishes {q : State → Prop} (hq : ∀ s t, R s t → q s → q t) {l r : List Act} {a : Act}
    (ha : ∀ s, q (a.run s)) (hr : ∀ b ∈ r, b.Within R) (s : State) : q ((Act.seq (l ++ a :: r)).run s) := by
  induction l generalizing s with
  | nil => exact hq _ _ (hR.seq hr _) (ha s)
  | cons b l ih => exact ih _

omit hR

theorem Act.Within.get {f : State → Act} (h : ∀ s, (f s).Within R) : (Act.get f).Within R := fun s => h s s

theorem Act.Within.ite {p : Prop} [Decidable p] {a b : Act} (ha : p → a.Within R) (hb : ¬p → b.Within R) :
    (if p then a else b).Within R := by
  split
  · exact ha ‹_›
  · exact hb ‹_›

end

/-- What each action of a list brings about for its own element, and no other takes away, stands at the end for all. -/
theorem Act.each_establishes {α : Type} {q : α → State → Prop} {f : α → Act} {l : List α}
    (hq : ∀ x s, q x ((f x).run s)) (hk : ∀ x y s, q x s → q x ((f y).run s)) (s : State) :
    ∀ x ∈ l, q x ((Act.each l f).run s) := by
  induction l generalizing s with
  | nil => simp
  | cons a r ih =>
    intro x hx
    rw [Act.run_each_cons]
    rcases List.mem_cons.mp hx with rfl | hx
    · exact Act.each_induct (q x) f r _ (fun y _ t ht => hk x y t ht) (hq x s)
    · exact ih _ x hx

/-! ## Reading registers after a change of a part -/

/-- A register after a return of registers to their defaults. -/
@[simp] theorem State.reg_restrictRegs (s : State) (keep : Nat → Bool) (k : Nat) :
    ((Act.restrictRegs keep).run s).reg k = if keep k then s.reg k else csrReset k :=
  Sparse.get_restrict csrReset keep k s.csr

theorem State.fld_congr {s t : State} {f : Fd} (h : t.reg f.off = s.reg f.off) : t.fld f = s.fld f := by
  simp only [State.fld, h]

/-! ## Events -/

/-- A record is there after another was offered to a recorder that is not full. -/
theorem Evr.mem_ring_offer {e : Evr} {r x : EvRec} {a b : Nat} (h : r ∈ e.ring) (hl : e.ring.length < 131072) :
    r ∈ (e.offer a b x).ring := by
  have haccept : r ∈ (e.accept x).ring := by
    simp only [Evr.accept]
    rw [List.take_of_length_le (by simp only [List.length_cons]; omega)]
    exact List.mem_cons_of_mem _ h
  have henqueue : r ∈ (e.enqueue x).ring := by
    unfold Evr.enqueue
    split <;> exact h
  unfold Evr.offer
  split_ifs
  exacts [h, henqueue, haccept, henqueue, h, haccept, henqueue, h]

end Sys2Proof.Machine
end

section
/-!
SUPPORT. Cold start and the loss of the always-on supply: the role, the strap 0b11, and what a cold start leaves (R3, R4, R53,
R356, R413).
-/
namespace Sys2Proof.Machine

/-- What a cold start loads into the state that power-good leaves, s being the state before. -/
def Act.coldLoads (s : State) : Act :=
  Act.seq [
    Act.itsx fun x => { x with handled := x.handledAtStart },
    Act.loadTiles, Act.loadLines, Act.loadCores,
    Act.setF F.SEC_MODEL_KEYS.valid (maskOf ((List.finRange 8).filterMap fun i =>
      if (s.sec.modelKeys[i]).isSome then some i.val else none))]

/-- In BLANK and DECOMMISSIONED every debug scope is unlocked. -/
def Act.coldDebug (s : State) : Act :=
  Act.when (s.fuses.lifecycle = 0 || s.fuses.lifecycle = 3) (Act.setF F.SEC_STATUS.debug 7)

/-- The DDR5 keys of a cold start are drawn. -/
def Act.drawDdrKeys : Act :=
  Act.fresh fun a => Act.fresh fun b => Act.secx fun x =>
    { x with ddrKeys := some (Config.random a.toNat % 2 ^ 128, Config.random b.toNat % 2 ^ 128) }

/-- The random source has failed (R358). -/
def Act.trngFailed : Act :=
  Act.seq [
    Act.setB F.SEC_STATUS.trng_fail true,
    Act.setB F.DDR_STATUS.trng_off true,
    Act.setF F.DDR_STATUS.state 4,
    Act.fresh fun w => Act.emit 0x01 0x0E05 3 [w.toNat]]

/-- The state of a cold start after its loads. -/
def State.coldLoaded (s : State) (role : Nat) : State := (Act.coldLoads s).run (s.reborn role)

/-- The state of a cold start before its keys are drawn. -/
def State.coldReady (s : State) (role : Nat) : State := (Act.coldDebug s).run (s.coldLoaded role)

theorem Act.coldStart_powered (s : State) (role : Nat) (ok : Bool) (h : s.powered = true) :
    (Act.coldStart role ok).run s = s := by
  simp [Act.coldStart, h]

theorem Act.coldStart_run (s : State) (role : Nat) (ok : Bool) (h : s.powered = false) :
    (Act.coldStart role ok).run s =
      (Act.seq [Act.when ok Act.drawDdrKeys, Act.when (role = 3) (Act.emit 0x29 0x0F0F 3 []),
        Act.when (!ok) Act.trngFailed]).run (s.coldReady role) := by
  simp [Act.coldStart, State.coldReady, State.coldLoaded, Act.coldDebug, Act.coldLoads, Act.drawDdrKeys, Act.trngFailed, Act.reborn, h]

/-- The strap 0b11 gives the state that WORKER gives. -/
theorem State.coldReady_three (s : State) : s.coldReady 3 = s.coldReady 0 := rfl

/-! ## What the loads change -/

/-- The registers that the loads of a cold start write. -/
def coldKey (k : Nat) : Prop :=
  k = R.CNJ_TILE_FAIL ∨ k = R.AGR_LINE_MAP ∨ k = R.SEC_MODEL_KEYS ∨
    (R.RST_CORE_STAT 0 ≤ k ∧ k < R.RST_CORE_STAT 13)

/-- The loads of a cold start change tiles, lines, what Itsal's scheduler core starts from, and the registers that show
them. -/
def ColdKept (s t : State) : Prop :=
  (∃ csr tiles lines handled,
    t = { s with csr := csr, tiles := tiles, lines := lines, its := { s.its with handled := handled } }) ∧
  ∀ k, ¬coldKey k → t.reg k = s.reg k

theorem ColdKept.frame : FrameRel ColdKept where
  refl s := ⟨⟨s.csr, s.tiles, s.lines, s.its.handled, rfl⟩, fun _ _ => rfl⟩
  trans := by
    rintro s _ _ ⟨⟨_, _, _, _, rfl⟩, h1⟩ ⟨⟨_, _, _, _, rfl⟩, h2⟩
    exact ⟨⟨_, _, _, _, rfl⟩, fun k hk => (h2 k hk).trans (h1 k hk)⟩

theorem ColdKept.setF (f : Fd) (x : Nat) (hf : coldKey f.off) : (Act.setF f x).Within ColdKept := fun s => by
  refine ⟨⟨_, s.tiles, s.lines, s.its.handled, rfl⟩, fun k hk => ?_⟩
  rw [State.reg_setF, if_neg]
  rintro rfl
  exact hk hf

theorem ColdKept.loadTiles : Act.loadTiles.Within ColdKept :=
  .get fun _ => frame.andThen (setF _ _ (.inl rfl)) fun t => ⟨⟨t.csr, _, t.lines, t.its.handled, rfl⟩, fun _ _ => rfl⟩

theorem ColdKept.loadLines : Act.loadLines.Within ColdKept := by
  have hmap : coldKey R.AGR_LINE_MAP := .inr (.inl rfl)
  refine .get fun _ => frame.each fun i _ => .get fun s => ?_
  split
  · refine .ite (fun _ t => ⟨⟨t.csr, t.tiles, _, t.its.handled, rfl⟩, fun _ _ => rfl⟩) fun _ => ?_
    exact frame.andThen (.ite (fun _ => setF _ _ hmap) fun _ => setF _ _ hmap) (setF _ _ hmap)
  · exact frame.skip

theorem ColdKept.loadCores : Act.loadCores.Within ColdKept := by
  refine .get fun s => frame.each fun e he => setF _ _ ?_
  obtain ⟨-, hi⟩ := List.mem_filter.mp he
  simp only [Bool.and_eq_true, beq_iff_eq, decide_eq_true_eq] at hi
  obtain ⟨-, hi⟩ := hi
  refine .inr (.inr (.inr ?_))
  show 0x30200 + 4 * 0 ≤ 0x30200 + 4 * e.index ∧ 0x30200 + 4 * e.index < 0x30200 + 4 * 13
  omega

theorem ColdKept.coldLoads (s : State) : (Act.coldLoads s).Within ColdKept := by
  refine frame.seq ?_
  simp only [List.forall_mem_cons, List.not_mem_nil, false_imp_iff, implies_true, and_true]
  exact ⟨fun t => ⟨⟨t.csr, t.tiles, t.lines, _, rfl⟩, fun _ _ => rfl⟩, loadTiles, loadLines, loadCores,
    setF _ _ (.inr (.inr (.inl rfl)))⟩

/-- Before its keys are drawn a cold start leaves what power-good does, but for what the loads change and SEC_STATUS.debug;
the random source has not failed. -/
theorem State.coldReady_kept (s : State) (role : Nat) : let t := s.coldReady role
    (∃ csr tiles lines handled, t = { s.reborn role with
      csr := csr, tiles := tiles, lines := lines, its := { (s.reborn role).its with handled := handled } }) ∧
    (∀ k, ¬coldKey k → k ≠ R.SEC_STATUS → t.reg k = csrReset k) ∧ t.fld F.SEC_STATUS.trng_fail = 0 := by
  obtain ⟨⟨csr, tiles, lines, handled, hload⟩, hreg⟩ := ColdKept.coldLoads s (s.reborn role)
  have htrng : (s.coldLoaded role).fld F.SEC_STATUS.trng_fail = 0 := by
    rw [State.fld, State.coldLoaded, hreg R.SEC_STATUS (by unfold coldKey; decide)]
    show fldOf (csrReset R.SEC_STATUS) 7 7 = 0
    decide +kernel
  simp only [State.coldReady, Act.coldDebug, Act.run_when]
  split
  · refine ⟨⟨_, tiles, lines, handled, by rw [State.coldLoaded, hload]; rfl⟩, fun k hk hs => ?_, ?_⟩
    · rw [State.reg_setF, if_neg hs]
      exact hreg k hk
    · rw [State.fld_setF_other _ _ _ _ (by decide) (by decide) (by decide), htrng]
  · exact ⟨⟨csr, tiles, lines, handled, hload⟩, fun k hk _ => hreg k hk, htrng⟩

/-! ## The record of a boot -/

theorem Act.emit_run (s : State) (src code sev : Nat) (p : List Nat) :
    (Act.emit src code sev p).run s =
      { s with
        evr := s.evr.offer (s.fld F.EVR_CTL.min_sev) (s.fld F.EVR_CTL.shed_sev)
          (evRecord s src code sev false p s.evr.nextSeq) } := rfl

/-- The recorder after reset takes a record of severity error. -/
theorem Evr.offer_reset (r : EvRec) (h : r.sev = 3) : Evr.reset.offer 1 3 r = Evr.reset.accept r := by
  simp [Evr.offer, Evr.reset, h]

/-- With nothing recorded and EVR_CTL as after reset, an event of severity error is the first record. -/
theorem Act.emit_first (s : State) (src code : Nat) (p : List Nat) (he : s.evr = Evr.reset)
    (hr : s.reg R.EVR_CTL = csrReset R.EVR_CTL) :
    ((Act.emit src code 3 p).run s).evr.ring = [evRecord s src code 3 false p 0] := by
  have hmin : s.fld F.EVR_CTL.min_sev = 1 := by
    rw [State.fld, hr]
    decide +kernel
  have hshed : s.fld F.EVR_CTL.shed_sev = 3 := by
    rw [State.fld, hr]
    decide +kernel
  rw [Act.emit_run, hmin, hshed, he]
  show (Evr.reset.offer 1 3 _).ring = _
  rw [Evr.offer_reset _ rfl]
  rfl

/-- A cold start before its keys are drawn: nothing recorded, EVR_CTL as after reset. -/
theorem State.coldReady_evr (s : State) (role : Nat) :
    (s.coldReady role).evr = Evr.reset ∧ (s.coldReady role).reg R.EVR_CTL = csrReset R.EVR_CTL := by
  obtain ⟨⟨_, _, _, _, h⟩, hreg, -⟩ := s.coldReady_kept role
  exact ⟨by rw [h]; rfl, hreg _ (by unfold coldKey; decide) (by decide)⟩

/-- With a good random source a cold start as WORKER draws the DDR5 keys. -/
theorem Act.coldStart_worker (s : State) (h : s.powered = false) :
    (Act.coldStart 0 true).run s = Act.drawDdrKeys.run (s.coldReady 0) := by
  simp [Act.coldStart_run s 0 true h]

/-- The strap 0b11 adds an event to the cold start of a WORKER. -/
theorem Act.coldStart_three (s : State) (h : s.powered = false) :
    (Act.coldStart 3 true).run s = (Act.emit 0x29 0x0F0F 3 []).run ((Act.coldStart 0 true).run s) := by
  simp [Act.coldStart_run s 3 true h, Act.coldStart_worker s h, State.coldReady_three]

end Sys2Proof.Machine

open Sys2Proof Sys2Proof.Machine

/-- Settles O7: every command but ALWAYS_ON_LOSS is an action, and no action turns a powered die off or changes its role; a
cold start is an action on a state that has power. -/
theorem theRoleHoldsFromOneColdStartToTheNext : Obligations.TheRoleHoldsFromOneColdStartToTheNext := by
  unfold Obligations.TheRoleHoldsFromOneColdStartToTheNext
  constructor
  · intro c s t hs ht
    by_cases hc : c = .alwaysOnLoss
    · subst hc
      rw [exec_alwaysOnLoss] at ht
      injection ht with ht
      subst ht
      exact ⟨rfl, .inr ⟨rfl, rfl⟩⟩
    · obtain ⟨a, ha⟩ := exec_eq_go c hc
      rw [ha, Act.go_eq] at ht
      injection ht with ht
      subst ht
      obtain ⟨hpow, hrole⟩ := a.run_holds s hs
      exact ⟨hrole, .inl hpow⟩
  · intro s role ok hs
    have hrun := Act.coldStart_run s role.toNat ok hs
    obtain ⟨hpow, hrole⟩ := (((Act.coldLoads s).andThen (Act.coldDebug s)).andThen (Act.seq [Act.when ok Act.drawDdrKeys,
      Act.when (role.toNat = 3) (Act.emit 0x29 0x0F0F 3 []), Act.when (!ok) Act.trngFailed])).run_holds
      (s.reborn role.toNat) rfl
    refine ⟨_, exec_coldStart s role ok, hrun ▸ hpow, ?_⟩
    have h3 : role.toNat = 3 ↔ role = 3 := BitVec.toNat_inj (x := role) (y := 3)
    calc ((Act.coldStart role.toNat ok).run s).role = (s.reborn role.toNat).role := hrun ▸ hrole
      _ = if role = 3 then 0 else role.toNat := by simp only [State.reborn, h3]

/-- Settles O2: with the strap 0b11 the state is that of WORKER with one event more, the first that the recorder takes. -/
theorem aMisStrappedTrayRunsAsWorker : Obligations.AMisStrappedTrayRunsAsWorker := by
  unfold Obligations.AMisStrappedTrayRunsAsWorker
  intro s hs
  obtain ⟨⟨csr, tiles, lines, handled, hload⟩, -, -⟩ := s.coldReady_kept 0
  obtain ⟨hevr, hctl⟩ := s.coldReady_evr 0
  have ht := Act.coldStart_worker s hs
  refine ⟨_, _, exec_coldStart s 0#2 true, exec_coldStart s 3#2 true, ?_⟩
  show let t := (Act.coldStart 0 true).run s
    let u := (Act.coldStart 3 true).run s
    u = { t with evr := u.evr } ∧ t.role = 0 ∧ t.powered = true ∧ t.coreUp 0 = true ∧ t.evr.ring = [] ∧
      ∃ r, u.evr.ring = [r] ∧ r.src = 0x29 ∧ r.code = 0x0F0F ∧ r.sev = 3 ∧ r.seq = 0
  intro t u
  have hu : u = (Act.emit 0x29 0x0F0F 3 []).run t := Act.coldStart_three s hs
  have hring := Act.emit_first t 0x29 0x0F0F [] ((congrArg State.evr ht).trans hevr)
    ((congrArg (State.reg · R.EVR_CTL) ht).trans hctl)
  refine ⟨by rw [hu, Act.emit_run], ?_, ?_, ?_, ?_, _, hu ▸ hring, rfl, rfl, rfl, rfl⟩ <;>
    · show _ = _
      simp only [t]
      rw [ht, hload]
      rfl

end

section
/-!
SUPPORT. What a cold start leaves once its keys are drawn: the state, the registers, the random source and the record of a
boot (R3, R4, R356, R358, R413).
-/
namespace Sys2Proof.Machine

/-- Once the loads of a cold start are done only SEC_STATUS and DDR_STATUS, the DDR5 keys and the recorder change. -/
def ColdEnds (s t : State) : Prop :=
  (∃ csr free keys evr, t = { s with csr := csr, free := free, sec := { s.sec with ddrKeys := keys }, evr := evr }) ∧
  ∀ k, k ≠ R.SEC_STATUS → k ≠ R.DDR_STATUS → t.reg k = s.reg k

theorem ColdEnds.frame : FrameRel ColdEnds where
  refl s := ⟨⟨s.csr, s.free, s.sec.ddrKeys, s.evr, rfl⟩, fun _ _ _ => rfl⟩
  trans := by
    rintro s _ _ ⟨⟨_, _, _, _, rfl⟩, h1⟩ ⟨⟨_, _, _, _, rfl⟩, h2⟩
    exact ⟨⟨_, _, _, _, rfl⟩, fun k hs hd => (h2 k hs hd).trans (h1 k hs hd)⟩

theorem ColdEnds.setF {f : Fd} {x : Nat} (hf : f.off = R.SEC_STATUS ∨ f.off = R.DDR_STATUS) :
    (Act.setF f x).Within ColdEnds := fun s => by
  refine ⟨⟨_, s.free, s.sec.ddrKeys, s.evr, rfl⟩, fun k hs hd => ?_⟩
  rw [State.reg_setF, if_neg]
  rintro rfl
  exact hf.elim hs hd

theorem ColdEnds.drawDdrKeys : Act.drawDdrKeys.Within ColdEnds := fun s => ⟨⟨s.csr, _, _, s.evr, rfl⟩, fun _ _ _ => rfl⟩

theorem ColdEnds.emit {src code sev : Nat} {p : List Nat} : (Act.emit src code sev p).Within ColdEnds := fun s =>
  ⟨⟨s.csr, s.free, s.sec.ddrKeys, _, rfl⟩, fun _ _ _ => rfl⟩

theorem ColdEnds.trngFailed : Act.trngFailed.Within ColdEnds := by
  refine frame.seq ?_
  simp only [List.forall_mem_cons, List.not_mem_nil, false_imp_iff, implies_true, and_true]
  exact ⟨setF (.inl rfl), setF (.inr rfl), setF (.inr rfl), fun s => ⟨⟨s.csr, _, s.sec.ddrKeys, _, rfl⟩, fun _ _ _ => rfl⟩⟩

/-- What a cold start leaves of the state that power-good leaves. -/
theorem Act.coldStart_leaves (s : State) (role : Nat) (ok : Bool) (h : s.powered = false) :
    let t := (Act.coldStart role ok).run s
    (∃ csr tiles lines handled free keys evr, t = { s.reborn role with
      csr := csr, tiles := tiles, lines := lines, its := { (s.reborn role).its with handled := handled }, free := free,
      sec := { (s.reborn role).sec with ddrKeys := keys }, evr := evr }) ∧
    ∀ k, ¬(coldKey k ∨ k = R.SEC_STATUS ∨ k = R.DDR_STATUS) → t.reg k = csrReset k := by
  obtain ⟨⟨_, _, _, _, hready⟩, hreg, -⟩ := s.coldReady_kept role
  have hends : ColdEnds (s.coldReady role) ((Act.coldStart role ok).run s) := by
    rw [Act.coldStart_run s role ok h]
    refine ColdEnds.frame.seq ?_ _
    simp only [List.forall_mem_cons, List.not_mem_nil, false_imp_iff, implies_true, and_true]
    exact ⟨ColdEnds.frame.when fun _ => ColdEnds.drawDdrKeys, ColdEnds.frame.when fun _ => ColdEnds.emit,
      ColdEnds.frame.when fun _ => ColdEnds.trngFailed⟩
  obtain ⟨⟨_, _, _, _, hend⟩, hreg'⟩ := hends
  rw [hready] at hend
  refine ⟨⟨_, _, _, _, _, _, _, hend⟩, fun k hk => ?_⟩
  simp only [not_or] at hk
  obtain ⟨hk, hs, hd⟩ := hk
  exact (hreg' k hs hd).trans (hreg k hk hs)

/-- The event of a strap 0b11 changes the recorder alone. -/
theorem Act.strapEvent_run (role : Nat) (s : State) :
    ∃ evr, (Act.when (role = 3) (Act.emit 0x29 0x0F0F 3 [])).run s = { s with evr := evr } := by
  rw [Act.run_when]
  split
  · exact ⟨_, Act.emit_run s _ _ _ _⟩
  · exact ⟨s.evr, rfl⟩

/-- A failed random source is marked, and draws no keys. -/
theorem Act.trngFailed_leaves (s : State) :
    (Act.trngFailed.run s).fld F.SEC_STATUS.trng_fail = 1 ∧ (Act.trngFailed.run s).sec = s.sec := by
  refine ⟨?_, rfl⟩
  have hcsr : (Act.trngFailed.run s).fld F.SEC_STATUS.trng_fail = ((Act.setF F.DDR_STATUS.state 4).run
      ((Act.setF F.DDR_STATUS.trng_off 1).run ((Act.setF F.SEC_STATUS.trng_fail 1).run s))).fld F.SEC_STATUS.trng_fail := rfl
  rw [hcsr, State.fld_setF_other _ _ _ _ (by decide) (by decide) (by decide),
    State.fld_setF_other _ _ _ _ (by decide) (by decide) (by decide), State.fld_setF_same _ _ _ (by decide) (by decide)]
  rfl

/-- A cold start draws DDR5 keys where the random source is good; otherwise it marks the source as failed (R356, R358). -/
theorem Act.coldStart_random (s : State) (role : Nat) (ok : Bool) (h : s.powered = false) :
    let t := (Act.coldStart role ok).run s
    t.flag F.SEC_STATUS.trng_fail = !ok ∧ t.sec.ddrKeys.isSome = ok := by
  obtain ⟨⟨_, _, _, _, hready⟩, -, htrng⟩ := s.coldReady_kept role
  have hrun := Act.coldStart_run s role ok h
  cases ok with
  | true =>
    obtain ⟨evr, hstrap⟩ := Act.strapEvent_run role (Act.drawDdrKeys.run (s.coldReady role))
    have ht : (Act.coldStart role true).run s = { Act.drawDdrKeys.run (s.coldReady role) with evr := evr } := hrun.trans hstrap
    rw [ht]
    exact ⟨beq_eq_false_iff_ne.mpr fun h1 => absurd (htrng.symm.trans h1) (by decide), rfl⟩
  | false =>
    obtain ⟨evr, hstrap⟩ := Act.strapEvent_run role (s.coldReady role)
    have ht : (Act.coldStart role false).run s = Act.trngFailed.run { s.coldReady role with evr := evr } :=
      hrun.trans (congrArg Act.trngFailed.run hstrap)
    obtain ⟨hflag, hsec⟩ := Act.trngFailed_leaves { s.coldReady role with evr := evr }
    rw [ht]
    refine ⟨beq_iff_eq.mpr hflag, ?_⟩
    rw [hsec, hready]
    rfl

/-- With the strap 0b11 a cold start records the event of the boot (R4). -/
theorem Act.coldStart_records (s : State) (ok : Bool) (h : s.powered = false) :
    ∃ r ∈ ((Act.coldStart 3 ok).run s).evr.ring, r.src = 0x29 ∧ r.code = 0x0F0F ∧ r.sev = 3 := by
  obtain ⟨hevr, hctl⟩ := s.coldReady_evr 3
  set u := (Act.when ok Act.drawDdrKeys).run (s.coldReady 3) with hu
  have hu' : u.evr = (s.coldReady 3).evr ∧ u.reg R.EVR_CTL = (s.coldReady 3).reg R.EVR_CTL := by
    rw [hu, Act.run_when]
    split <;> exact ⟨rfl, rfl⟩
  have hring := Act.emit_first u 0x29 0x0F0F [] (hu'.1.trans hevr) (hu'.2.trans hctl)
  set v := (Act.emit 0x29 0x0F0F 3 []).run u with hv
  have hrun : (Act.coldStart 3 ok).run s = (Act.when (!ok) Act.trngFailed).run v := Act.coldStart_run s 3 ok h
  refine ⟨evRecord u 0x29 0x0F0F 3 false [] 0, ?_, rfl, rfl, rfl⟩
  have hv : evRecord u 0x29 0x0F0F 3 false [] 0 ∈ v.evr.ring := hring ▸ List.mem_singleton_self _
  have hlen : v.evr.ring.length < 131072 := by rw [hring]; exact Nat.one_lt_ofNat
  rw [hrun, Act.run_when]
  split
  · exact Evr.mem_ring_offer (e := v.evr) hv hlen
  · exact hv

/-- With the registers of power at reset Period is not armed and every enable is off. -/
theorem State.enables_off (s : State) (h1 : s.reg R.PER_CTL = csrReset R.PER_CTL) (h2 : s.reg R.SEQ_STATUS = csrReset R.SEQ_STATUS)
    (h3 : s.reg R.SEQ_EFUSE_STATUS = csrReset R.SEQ_EFUSE_STATUS)
    (h4 : ∀ i < 2, s.reg (R.SEQ_DOM_EN i) = csrReset (R.SEQ_DOM_EN i)) :
    s.armed = false ∧ s.gateOn = false ∧ (∀ n : Fin 8, s.efuseOn n = false) ∧ ∀ d : Fin 48, s.domOn d = false := by
  refine ⟨?_, ?_, fun n => ?_, fun d => ?_⟩
  · rw [State.armed, State.flag, State.fld, h1]
    decide +kernel
  · rw [State.gateOn, State.flag, State.fld, h2]
    decide +kernel
  · have hz : fldOf (csrReset R.SEQ_EFUSE_STATUS) 7 0 = 0 := by decide +kernel
    rw [State.efuseOn, State.fld, h3]
    show bitOf (fldOf (csrReset R.SEQ_EFUSE_STATUS) 7 0) n = false
    rw [hz]
    simp [bitOf]
  · have hz : ∀ i < 2, fldOf (csrReset (R.SEQ_DOM_EN i)) 31 0 = 0 := by decide +kernel
    have hd : d.val / 32 < 2 := by omega
    rw [State.domOn, State.fld, h4 _ hd]
    show bitOf (fldOf (csrReset (R.SEQ_DOM_EN (d / 32))) 31 0) (d % 32) = false
    rw [hz _ hd]
    simp [bitOf]

/-- After a cold start Period is not armed, every enable is off and stage 0 is to come. -/
theorem Act.coldStart_off (s : State) (role : Nat) (ok : Bool) (h : s.powered = false) :
    let t := (Act.coldStart role ok).run s
    (t.armed = false ∧ t.gateOn = false ∧ (∀ n : Fin 8, t.efuseOn n = false) ∧ ∀ d : Fin 48, t.domOn d = false) ∧
      t.fld F.BOOT_STATUS.stage = 0 := by
  obtain ⟨-, hreg⟩ := Act.coldStart_leaves s role ok h
  have hdom : ∀ i < 2, ¬(coldKey (R.SEQ_DOM_EN i) ∨ R.SEQ_DOM_EN i = R.SEC_STATUS ∨ R.SEQ_DOM_EN i = R.DDR_STATUS) := by
    unfold coldKey
    decide
  refine ⟨State.enables_off _ (hreg _ (by unfold coldKey; decide)) (hreg _ (by unfold coldKey; decide))
    (hreg _ (by unfold coldKey; decide)) fun i hi => hreg _ (hdom i hi), ?_⟩
  rw [State.fld, hreg _ (by unfold coldKey; decide)]
  decide +kernel

/-- The cores after reset: the security core runs its mask ROM, the others are held. -/
theorem coresReset_run (k : Fin 13) : coresReset[k].run = if k = 0 then .running else .held := by
  revert k
  decide

end Sys2Proof.Machine
end

section
/-!
SUPPORT. Commands that are served, and that a response writes its own area only (R334, R338, R343); RESET (R434).
-/
namespace Sys2Proof.Machine

/-- A served request of a source reaches its command. -/
theorem Act.command_served {s : State} {m : Fin 16} {cls cmd src : Nat} (h : Served s m cls cmd src) (body : Nat → Act) :
    (Act.command m cls cmd body).run s = (body src).run s := by
  obtain ⟨hp, h2, h0, hs, hsrc, hne⟩ := h
  simp [Act.command, hp, h2, h0, hs, hsrc, hne]

/-- A served request of the manager reaches a command that is the manager's alone. -/
theorem Act.managerCommand_served {s : State} {m : Fin 16} {cls cmd : Nat} (h : Served s m cls cmd 1) (body : Act) :
    (Act.managerCommand m cls cmd body).run s = body.run s := by
  rw [Act.managerCommand, Act.command_served h, if_pos rfl]

/-- A push sends a frame, and changes no memory. -/
theorem Act.mbxPush_byte (m : Fin 16) (s : State) (b : Nat) : ((Act.mbxPush m).run s).byte b = s.byte b := by
  simp only [Act.mbxPush, Act.run_get]
  split
  · split <;> rfl
  · rfl

theorem Act.mbxDone_byte (m : Fin 16) (s : State) (b : Nat) : ((Act.mbxDone m).run s).byte b = s.byte b := rfl

theorem Act.tellDone_byte (src : Nat) (s : State) (b : Nat) : ((Act.tellDone src).run s).byte b = s.byte b := rfl

/-- A response whose payload fits writes no byte outside its response area (R334). -/
theorem Act.respondWith_bytesKept (m : Fin 16) (cls cmd status flags retry : Nat) (p : List Byte) (s : State)
    (hp : (kindByte cls cmd status ++ p).length ≤ 8160) :
    BytesKept (respArea m) 0x2000 s ((Act.respondWith m cls cmd status flags retry p).run s) := by
  intro b hb
  simp only [Act.respondWith, Act.run_get, Act.run_seq_cons, Act.run_seq_nil]
  rw [Act.mbxPush_byte, Act.mbxDone_byte, Act.tellDone_byte, State.byte_setBytes_other, State.byte_setBytes_other,
    State.byte_setBytes_other]
  · simp only [List.length_append, leBytes_length]
    omega
  · simp only [List.length_append] at hp
    simp only [respHead, List.length_append, leBytes_length]
    omega
  · simp only [State.bytes, List.length_map, List.length_range]
    omega

/-- A response whose payload fits answers the request and does nothing else. -/
theorem Act.respondWith_repliesOnly (m : Fin 16) (cls cmd status flags retry : Nat) (p : List Byte) (s : State)
    (hp : (kindByte cls cmd status ++ p).length ≤ 8160) :
    RepliesOnly s ((Act.respondWith m cls cmd status flags retry p).run s) m cls cmd status := by
  refine ⟨⟨Act.respondWith_answered m cls cmd status flags retry p s,
    Act.respondWith_bytesKept m cls cmd status flags retry p s hp⟩, fun k hk => ?_,
    Act.respondWith_only m cls cmd status flags retry p s⟩
  exact Act.respondWith_reg m cls cmd status flags retry p s k (fun h => hk (List.mem_singleton.mpr h))

/-- Whether a request is answered is seen in memory and MBX_PENDING, and of the request only its seq counts. -/
theorem Answered.congr {s s' t t' : State} {m : Fin 16} {cls cmd status : Nat} (h : Answered s t m cls cmd status)
    (hs : s'.mem = s.mem) (ht : t'.mem = t.mem) (hc : t'.csr = t.csr) : Answered s' t' m cls cmd status := by
  simpa only [Answered, State.byte, State.fld, State.reg, hs, ht, hc] using h

/-! ## RESET (R434) -/

/-- A change of the reset block around a response is not seen in the answer. -/
theorem Act.respond_rstx_answered (m : Fin 16) (g : Rst → Rst) (s : State) :
    Answered s ((Act.rstx g).run ((Act.respond m 1 8 0 []).run s)) m 1 8 0 :=
  Answered.congr (Act.respondWith_answered m 1 8 0 0 0 [] s) rfl rfl rfl

theorem Act.resetCommand_run {s : State} {m : Fin 16} (h : Served s m 1 8 1) (kind : Nat) :
    (Act.resetCommand m kind).run s =
      if kind = 1 then
        if s.holdMask ≠ 0 then (Act.respondBusy m 1 8 1000).run s
        else (Act.rstx fun r => { r with warmDue := true, lossHold := false }).run ((Act.respond m 1 8 0 []).run s)
      else if kind = 2 ∨ kind = 3 then
        (Act.respond m 1 8 0 []).run ((Act.rstx fun r => { r with lossHold := false }).run
          ((Act.setB F.RST_CTL.main_hold (kind = 2)).run s))
      else (Act.respond m 1 8 5 []).run s := by
  simp [Act.resetCommand, Act.managerCommand_served h]

/-- RESET of kind 2 or 3 sets or clears main_hold and is answered. -/
theorem Act.resetCommand_hold {s : State} {m : Fin 16} (h : Served s m 1 8 1) {kind : Nat} (hk : kind = 2 ∨ kind = 3) :
    let t := (Act.resetCommand m kind).run s
    Answered s t m 1 8 0 ∧ t.flag F.RST_CTL.main_hold = decide (kind = 2) ∧
      RegsKept [R.RST_CTL, F.MBX_PENDING.pending.off] s t := by
  intro t
  set u := (Act.rstx fun r => { r with lossHold := false }).run ((Act.setB F.RST_CTL.main_hold (kind = 2)).run s) with hu
  have ht : t = (Act.respond m 1 8 0 []).run u := by
    simp only [t]
    rw [Act.resetCommand_run h, if_neg (by omega), if_pos hk]
  have hreg : ∀ k, k ≠ F.MBX_PENDING.pending.off → t.reg k = u.reg k := fun k hk => by
    rw [ht]
    exact Act.respondWith_reg m 1 8 0 0 0 [] u k hk
  have hureg : ∀ k, u.reg k = ((Act.setB F.RST_CTL.main_hold (kind = 2)).run s).reg k := fun _ => rfl
  refine ⟨?_, ?_, fun k hk => ?_⟩
  · rw [ht]
    exact Answered.congr (Act.respondWith_answered m 1 8 0 0 0 [] u) rfl rfl rfl
  · have hfld : t.fld F.RST_CTL.main_hold = b2n (kind = 2) % 2 := by
      rw [State.fld, hreg _ (by decide), hureg]
      exact State.fld_setF_same s F.RST_CTL.main_hold _ (by decide) (by decide)
    rw [State.flag, hfld]
    rcases hk with rfl | rfl <;> rfl
  · simp only [List.mem_cons, List.not_mem_nil, or_false, not_or] at hk
    rw [hreg k hk.2, hureg, Act.setB, State.reg_setF, if_neg hk.1]

end Sys2Proof.Machine
end

section
/-!
SUPPORT. What the parts of a warm reset keep: registers that it does not return, where cores stand, caps, memory, jobs, fuses,
flash and Itsal (R417, R427, R428).
-/
namespace Sys2Proof.Machine

/-- Registers that a warm reset keeps. -/
def keptKeys : List Nat :=
  [R.PER_CTL, R.PER_CAUSE, R.CAP_EPOCH_APPLIED, R.SEQ_STATUS, R.SEQ_EFUSE_STATUS, R.SEQ_DOM_EN 0, R.SEQ_DOM_EN 1]

/-- With them, the registers in which a warm reset shows itself once its parts are done. -/
def warmKeys : List Nat := R.BOOT_STATUS :: R.RST_WARM_CNT :: keptKeys

/-- The memory that a warm reset empties: tensor SRAM, the service banks and the mailboxes. -/
def warmLost (a : Nat) : Prop :=
  (tensorBase ≤ a ∧ a < tensorBase + tensorSize) ∨ (0x10400000 ≤ a ∧ a < 0x10400000 + 0x1000000) ∨
    (0x40000000 ≤ a ∧ a < 0x40000000 + 0x40000)

/-- What a part of a warm reset keeps from s to t: the registers of keys, where the cores that K holds of stand, the caps in
force, every byte outside warmLost and every byte that is 0, the absence of jobs, fuses, flash, Itsal's totals and the
tick. -/
structure WarmKept (keys : List Nat) (K : Fin 13 → Prop) (s t : State) : Prop where
  regs : ∀ k ∈ keys, t.reg k = s.reg k
  cores : ∀ j, K j → (t.core j).run = (s.core j).run ∧ (t.core j).pc = (s.core j).pc
  caps : ∀ x, (t.target x).capM = (s.target x).capM ∧ (t.target x).capH = (s.target x).capH
  bytes : ∀ a, ¬warmLost a → t.byte a = s.byte a
  blank : ∀ a, s.byte a = 0#8 → t.byte a = 0#8
  idle : s.jobs = [] ∧ s.threads = [] → t.jobs = [] ∧ t.threads = []
  fuses : t.fuses = s.fuses
  flash : t.flash = s.flash
  cur : t.its.cur = s.its.cur
  tick : t.tns.tick = s.tns.tick

/-- The parts of the state that WarmKept speaks of. -/
def State.warmParts (s : State) :=
  (s.csr, s.cores, s.targets, s.mem, s.jobs, s.threads, s.fuses, s.flash, s.its.cur, s.tns.tick)

section
variable {keys : List Nat} {K : Fin 13 → Prop}

theorem WarmKept.of_parts {s t : State} (h : t.warmParts = s.warmParts) : WarmKept keys K s t := by
  simp only [State.warmParts, Prod.mk.injEq] at h
  obtain ⟨hcsr, hcores, htargets, hmem, hjobs, hthreads, hfuses, hflash, hcur, htick⟩ := h
  constructor <;>
    simp only [State.reg, State.core, State.target, State.byte, hcsr, hcores, htargets, hmem, hjobs, hthreads, hfuses, hflash,
      hcur, htick, implies_true, and_self, imp_self]

theorem WarmKept.frame : FrameRel (WarmKept keys K) where
  refl _ := .of_parts rfl
  trans a b := {
    regs := fun k hk => (b.regs k hk).trans (a.regs k hk)
    cores := fun j hj => ⟨(b.cores j hj).1.trans (a.cores j hj).1, (b.cores j hj).2.trans (a.cores j hj).2⟩
    caps := fun x => ⟨(b.caps x).1.trans (a.caps x).1, (b.caps x).2.trans (a.caps x).2⟩
    bytes := fun x hx => (b.bytes x hx).trans (a.bytes x hx)
    blank := fun x hx => b.blank x (a.blank x hx)
    idle := fun h => b.idle (a.idle h)
    fuses := b.fuses.trans a.fuses
    flash := b.flash.trans a.flash
    cur := b.cur.trans a.cur
    tick := b.tick.trans a.tick }

theorem WarmKept.mono {keys' : List Nat} {K' : Fin 13 → Prop} {s t : State} (h : WarmKept keys K s t)
    (hk : ∀ k ∈ keys', k ∈ keys) (hK : ∀ j, K' j → K j) : WarmKept keys' K' s t :=
  { h with regs := fun k hk' => h.regs k (hk k hk'), cores := fun j hj => h.cores j (hK j hj) }

/-! ## Changes of one part -/

/-- An action that leaves the parts of WarmKept alone. -/
theorem WarmKept.apart {a : Act} (h : ∀ s, (a.run s).warmParts = s.warmParts) : a.Within (WarmKept keys K) :=
  fun s => .of_parts (h s)

theorem WarmKept.setReg {k : Nat} {v : W32} (hk : k ∉ keys) : (Act.setReg k v).Within (WarmKept keys K) := fun s =>
  { (WarmKept.frame.refl s : WarmKept keys K s s) with
    regs := fun j hj => by
      rw [State.reg_setReg, if_neg]
      rintro rfl
      exact hk hj }

theorem WarmKept.setF {f : Fd} {x : Nat} (hf : f.off ∉ keys) : (Act.setF f x).Within (WarmKept keys K) :=
  .get fun _ => setReg hf

theorem WarmKept.setFBit {f : Fd} {i : Nat} {b : Bool} (hf : f.off ∉ keys) : (Act.setFBit f i b).Within (WarmKept keys K) :=
  .get fun _ => setF hf

theorem WarmKept.setB {f : Fd} {b : Bool} (hf : f.off ∉ keys) : (Act.setB f b).Within (WarmKept keys K) := setF hf

theorem WarmKept.restrictRegs {keep : Nat → Bool} (hk : ∀ k ∈ keys, keep k = true) :
    (Act.restrictRegs keep).Within (WarmKept keys K) := fun s =>
  { (WarmKept.frame.refl s : WarmKept keys K s s) with
    regs := fun j hj => by rw [State.reg_restrictRegs, if_pos (hk j hj)] }

theorem WarmKept.putCore {k : Fin 13} {f : Core → Core} {hf : ∀ c, coreOk k c → coreOk k (f c)}
    (h : K k → ∀ c, (f c).run = c.run ∧ (f c).pc = c.pc) : (Act.putCore k f hf).Within (WarmKept keys K) := fun s =>
  { (WarmKept.frame.refl s : WarmKept keys K s s) with
    cores := fun j hj => by
      rw [State.core_putCore]
      split
      · subst j
        exact h hj _
      · exact ⟨rfl, rfl⟩ }

theorem WarmKept.core {k : Fin 13} {f : Core → Core}
    (h : K k → ∀ c, (f c).run = c.run)
    (hf : ∀ c, (f c).pc = c.pc ∧ (f c).gpr = c.gpr ∧ (f c).vec = c.vec ∧ (f c).p = c.p ∧ (f c).ppm = c.ppm := by
      intro c; exact ⟨rfl, rfl, rfl, rfl, rfl⟩) : (Act.core k f hf).Within (WarmKept keys K) :=
  putCore fun hk c => ⟨h hk c, (hf c).1⟩

theorem WarmKept.target {x : Fin 9} {f : Target → Target} (h : ∀ y, (f y).capM = y.capM ∧ (f y).capH = y.capH) :
    (Act.target x f).Within (WarmKept keys K) := fun s =>
  { (WarmKept.frame.refl s : WarmKept keys K s s) with
    caps := fun y => by
      show ((s.targets.set x (f s.targets[x]))[y]).capM = _ ∧ ((s.targets.set x (f s.targets[x]))[y]).capH = _
      by_cases hy : y = x
      · subst hy
        simpa [State.target] using h s.targets[y]
      · have hne : (x : Nat) ≠ y := fun e => hy (Fin.ext e.symm)
        simp [State.target, Vector.getElem_set_ne, hne] }

theorem WarmKept.zeroBytes {a n : Nat} (h : ∀ x, a ≤ x ∧ x < a + n → warmLost x) :
    (Act.zeroBytes a n).Within (WarmKept keys K) := fun s =>
  { (WarmKept.frame.refl s : WarmKept keys K s s) with
    bytes := fun x hx => by rw [State.byte_zeroBytes, if_neg (fun hl => hx (h x hl))]
    blank := fun x hx => by
      rw [State.byte_zeroBytes]
      split
      · rfl
      · exact hx }

theorem WarmKept.jobsGone : Act.jobsGone.Within (WarmKept keys K) := fun s =>
  { (WarmKept.frame.refl s : WarmKept keys K s s) with idle := fun _ => ⟨rfl, rfl⟩ }

/-- A context that is free has no wait to end, so that no thread comes into being. -/
theorem WarmKept.grantThread {t : Fin 1024} {status : Nat} {v : Word} :
    (Act.grant (.thread t) status v).Within (WarmKept keys K) := fun s =>
  { (WarmKept.frame.refl s : WarmKept keys K s s) with
    idle := fun ⟨hj, ht⟩ => by
      refine ⟨hj, ?_⟩
      simp only [Act.grant, Act.thread_run, State.thread, ht, Sparse.get]
      rfl }

theorem WarmKept.grant {a : Agent} {status : Nat} {v : Word} : (Act.grant a status v).Within (WarmKept keys K) := by
  cases a with
  | core k => exact WarmKept.core (by intros; rfl)
  | thread t => exact grantThread

theorem WarmKept.raiseLine {k : Fin 13} {n : Nat} : (Act.raiseLine k n).Within (WarmKept keys K) :=
  core (by intros; rfl)

theorem WarmKept.emit {src code sev : Nat} {p : List Nat} : (Act.emit src code sev p).Within (WarmKept keys K) :=
  apart fun _ => rfl

/-! ## Objects, lines and cores (R297, R306, R416) -/

theorem WarmKept.dumpTrigger {trigger core : Nat} : (Act.dumpTrigger trigger core).Within (WarmKept keys K) :=
  .get fun _ => .ite (fun _ => apart fun _ => rfl) fun _ => frame.skip

theorem WarmKept.releaseObj {o : Obj} : (Act.releaseObj o).Within (WarmKept keys K) :=
  .get fun _ => frame.each fun _ _ => grant

theorem WarmKept.poisonObj {i : Nat} : (Act.poisonObj i).Within (WarmKept keys K) := by
  refine .get fun s => ?_
  split
  · exact frame.skip
  · refine .ite (fun _ => frame.skip) fun _ => frame.seq ?_
    simp only [List.forall_mem_cons, List.not_mem_nil, false_imp_iff, implies_true, and_true]
    exact ⟨apart fun _ => rfl, releaseObj, emit, dumpTrigger⟩

theorem WarmKept.poisonOwned {strikes : Nat → Bool} : (Act.poisonOwned strikes).Within (WarmKept keys K) :=
  .get fun _ => frame.each fun _ _ => poisonObj

theorem WarmKept.sendTo {g : Nat} {p : Peer} {typ flags : Nat} {body : List Nat} :
    (Act.sendTo g p typ flags body).Within (WarmKept keys K) := by
  refine .get fun s => ?_
  split
  · exact apart fun _ => rfl
  · exact frame.skip

theorem WarmKept.sendUp {g typ flags : Nat} {body : List Nat} : (Act.sendUp g typ flags body).Within (WarmKept keys K) := by
  refine .get fun s => ?_
  split
  · exact sendTo
  · exact frame.skip

theorem WarmKept.sendDown {g typ flags : Nat} {body : List Nat} :
    (Act.sendDown g typ flags body).Within (WarmKept keys K) := by
  refine .get fun s => ?_
  split
  · exact .ite (fun _ => sendTo) fun _ => frame.each fun _ _ => sendTo
  · exact frame.skip

theorem WarmKept.poisonReport {l : Fin 32} : (Act.poisonReport l).Within (WarmKept keys K) :=
  .get fun _ => .ite (fun _ => frame.andThen (apart fun _ => rfl) sendDown) fun _ =>
    frame.andThen (apart fun _ => rfl) sendUp

theorem WarmKept.releaseLine {l : Fin 32} {status : Nat} {v : Word} {keep : Bool → Bool} :
    (Act.releaseLine l status v keep).Within (WarmKept keys K) :=
  .get fun _ => frame.each fun _ _ => grant

end

section
variable {K : Fin 13 → Prop}

theorem not_mem_warmKeys {k : Nat} (h : k ≠ 0x20004 ∧ k ≠ 0x3000C ∧ k ≠ 0x50000 ∧ k ≠ 0x50008 ∧ k ≠ 0x90004 ∧ k ≠ 0x90024 ∧
    k ≠ 0x90030 ∧ k ≠ 0x90034 ∧ k ≠ 0xC0010) : k ∉ warmKeys := by
  simp only [warmKeys, keptKeys, List.mem_cons, List.not_mem_nil, or_false, not_or]
  tauto

theorem WarmKept.poisonHere {l : Fin 32} {cause : Nat} : (Act.poisonHere l cause).Within (WarmKept warmKeys K) := by
  refine .get fun s => .ite (fun _ => frame.skip) fun _ => frame.seq ?_
  simp only [List.forall_mem_cons, List.not_mem_nil, false_imp_iff, implies_true, and_true]
  exact ⟨setB (not_mem_warmKeys (by simp only [R.AGR_LINE_STAT]; omega)), releaseLine, emit, dumpTrigger⟩

theorem WarmKept.poisonLine {l : Fin 32} {cause : Nat} : (Act.poisonLine l cause).Within (WarmKept warmKeys K) :=
  .get fun _ => .ite (fun _ => frame.skip) fun _ => frame.andThen poisonHere (frame.when fun _ => poisonReport)

theorem WarmKept.poisonLinesOf {k cause : Nat} : (Act.poisonLinesOf k cause).Within (WarmKept warmKeys K) :=
  .get fun _ => frame.each fun l _ => frame.andThen poisonLine (setFBit (not_mem_warmKeys (by simp only [R.AGR_LINE_STAT]; omega)))

theorem WarmKept.coreLost {k : Fin 13} {cause : Nat} : (Act.coreLost k cause).Within (WarmKept warmKeys K) :=
  .get fun _ => frame.andThen poisonOwned poisonLinesOf

theorem WarmKept.endRun {t : Fin 9} : (Act.endRun t).Within (WarmKept warmKeys K) := by
  refine frame.andThen (target fun _ => ⟨rfl, rfl⟩) ?_
  split
  · exact setB (not_mem_warmKeys (by simp only [R.SLT_STAT]; omega))
  · exact frame.skip

theorem WarmKept.due {t : Fin 9} {d : Due} : (Act.due t d).Within (WarmKept warmKeys K) :=
  .get fun _ => .ite (fun _ => target fun _ => ⟨rfl, rfl⟩) fun _ =>
    frame.andThen (target fun _ => ⟨rfl, rfl⟩) (apart fun _ => rfl)

theorem WarmKept.abandonClauses {k : Fin 13} : (Act.abandonClauses k).Within (WarmKept warmKeys K) := by
  refine frame.each fun t _ => .get fun s => ?_
  split
  · exact .ite (fun _ => frame.andThen endRun due) fun _ => frame.skip
  · exact frame.skip

/-- The registers of warmKeys are no core's own. -/
theorem ownKey_warmKeys (k : Fin 13) : ∀ j ∈ warmKeys, (!ownKey k j) = true := by
  intro j hj
  simp only [warmKeys, keptKeys, List.mem_cons, List.not_mem_nil, or_false] at hj
  have hk := k.isLt
  rcases hj with rfl | rfl | rfl | rfl | rfl | rfl | rfl | rfl | rfl <;>
    simp [ownKey, R.PER_CTL, R.PER_CAUSE, R.CAP_EPOCH_APPLIED, R.SEQ_STATUS, R.SEQ_EFUSE_STATUS, R.SEQ_DOM_EN, R.RST_WARM_CNT,
      R.BOOT_STATUS] <;> omega

theorem WarmKept.holdCore {k : Fin 13} : (Act.holdCore k).Within (WarmKept warmKeys (· ≠ k)) := by
  refine .get fun s => frame.seq ?_
  simp only [List.forall_mem_cons, List.not_mem_nil, false_imp_iff, implies_true, and_true]
  exact ⟨abandonClauses, putCore fun h => absurd rfl h, restrictRegs (ownKey_warmKeys k), apart fun _ => rfl,
    frame.when fun _ => setFBit (not_mem_warmKeys (by decide)),
    frame.each fun n _ => setB (not_mem_warmKeys (by simp only [R.CMA_PACE_CTL]; omega))⟩

theorem WarmKept.coreReset {k : Fin 13} : (Act.coreReset k).Within (WarmKept warmKeys (· ≠ k)) := by
  refine frame.seq ?_
  simp only [List.forall_mem_cons, List.not_mem_nil, false_imp_iff, implies_true, and_true]
  refine ⟨coreLost, holdCore, frame.when fun hk => frame.seq ?_⟩
  simp only [List.forall_mem_cons, List.not_mem_nil, false_imp_iff, implies_true, and_true]
  refine ⟨apart fun _ => rfl, frame.each fun n hn => setF (not_mem_warmKeys ?_), core fun h => ?_⟩
  · have := List.mem_range.mp hn
    simp only [R.SEC_SLOT]
    omega
  · exact absurd (of_decide_eq_true hk).symm h

/-- Core k stands as its reset leaves it: held, the security core in its mask ROM (R416). -/
def AtReset (k : Fin 13) (s : State) : Prop :=
  (s.core k).run = (if k = 0 then .running else .held) ∧ (k = 0 → (s.core k).pc = 0)

/-- What keeps where core k stands keeps it as its reset leaves it. -/
theorem WarmKept.atReset {keys : List Nat} {s t : State} {k : Fin 13} (h : WarmKept keys K s t) (hk : K k)
    (hs : AtReset k s) : AtReset k t := by
  obtain ⟨hrun, hpc⟩ := h.cores k hk
  obtain ⟨hr, hp⟩ := hs
  exact ⟨hrun.trans hr, fun e => hpc.trans (hp e)⟩

/-- Core k is held at its boot vector. -/
theorem Act.holdCore_core (k : Fin 13) (s : State) :
    (((Act.holdCore k).run s).core k).run = .held ∧ (((Act.holdCore k).run s).core k).pc = pcOf (s.bootVec k) := by
  simp only [Act.holdCore, Act.run_get]
  refine WarmKept.frame.seq_establishes (R := WarmKept [] fun _ => True) (l := [Act.abandonClauses k])
    (q := fun u => (u.core k).run = .held ∧ (u.core k).pc = pcOf (s.bootVec k)) ?_ ?_ ?_ s
  · intro u t h hu
    obtain ⟨hrun, hpc⟩ := h.cores k trivial
    exact ⟨hrun.trans hu.1, hpc.trans hu.2⟩
  · intro u
    have hcore : ((Act.resetCore k (s.bootVec k)).run u).core k = Core.reset (pcOf (s.bootVec k)) :=
      (State.core_putCore u k k _ _).trans (if_pos rfl)
    rw [hcore]
    exact ⟨rfl, rfl⟩
  · simp only [List.forall_mem_cons, List.not_mem_nil, false_imp_iff, implies_true, and_true]
    exact ⟨WarmKept.restrictRegs (by simp), WarmKept.apart fun _ => rfl,
      WarmKept.frame.when fun _ => WarmKept.setFBit (by simp),
      WarmKept.frame.each fun n _ => WarmKept.setB (by simp)⟩

/-- The reset of core k leaves it as AtReset says. -/
theorem Act.coreReset_atReset (k : Fin 13) (s : State) : AtReset k ((Act.coreReset k).run s) := by
  set u := (Act.holdCore k).run ((Act.coreLost k 0).run s) with hu
  obtain ⟨hrun, hpc⟩ : (u.core k).run = .held ∧ (u.core k).pc = pcOf (((Act.coreLost k 0).run s).bootVec k) :=
    Act.holdCore_core k _
  by_cases hk : k = 0
  · subst hk
    set v := (Act.secx fun x => { x with sessions := [], nonce := none, signing := [], verified := false }).run u with hv
    set w := (Act.each (List.range 8) fun n => Act.setF (F.SEC_SLOT.sessions n) 0).run v with hw
    have hlast : (Act.coreReset 0).run s = (Act.core 0 fun c => { c with run := .running }).run w := rfl
    have huv : WarmKept [] (fun _ => True) u v := .of_parts rfl
    have hvw : WarmKept [] (fun _ => True) v w := WarmKept.frame.each (fun _ _ => WarmKept.setF (by simp)) v
    have hcore : ((Act.coreReset 0).run s).core 0 = { w.core 0 with run := .running } := by
      rw [hlast]
      exact (State.core_putCore w 0 0 _ _).trans (if_pos rfl)
    rw [AtReset, hcore]
    exact ⟨rfl, fun _ => ((hvw.cores 0 trivial).2.trans (huv.cores 0 trivial).2).trans (hpc.trans (by simp [State.bootVec, pcOf]))⟩
  · have hrun' : (Act.coreReset k).run s = u := by simp [Act.coreReset, hk, hu]
    rw [hrun']
    exact ⟨by rw [if_neg hk, hrun], fun h => absurd h hk⟩

/-- The reset of one core leaves another as its own reset left it. -/
theorem Act.coreReset_keeps_atReset (k j : Fin 13) (s : State) (h : AtReset j s) : AtReset j ((Act.coreReset k).run s) := by
  by_cases hj : j = k
  · subst hj
    exact coreReset_atReset j s
  · exact (WarmKept.coreReset s).atReset hj h

/-! ## The rest of a warm reset -/

theorem WarmKept.linkDown {n : Fin 8} : (Act.linkDown n).Within (WarmKept warmKeys K) :=
  frame.andThen (setF (not_mem_warmKeys (by simp only [R.CMA_STATUS]; omega))) (apart fun _ => rfl)

theorem WarmKept.linkTrain {n : Fin 8} : (Act.linkTrain n).Within (WarmKept warmKeys K) := by
  have hn : R.CMA_STATUS n ∉ warmKeys := not_mem_warmKeys (by simp only [R.CMA_STATUS]; omega)
  refine frame.seq ?_
  simp only [List.forall_mem_cons, List.not_mem_nil, false_imp_iff, implies_true, and_true]
  exact ⟨setF hn, setF hn, apart fun _ => rfl⟩

theorem WarmKept.rstPin {n : Fin 8} : (Act.rstPin n).Within (WarmKept warmKeys K) :=
  .get fun _ => frame.andThen (setB (not_mem_warmKeys (by simp only [R.SLT_STAT]; omega)))
    (.ite (fun _ => linkDown) fun _ => .ite (fun _ => linkTrain) fun _ => frame.skip)

theorem WarmKept.flashEnd {n : Fin 8} {reason : Nat} : (Act.flashEnd n reason).Within (WarmKept warmKeys K) := by
  have hn : R.BOOT_SLOTFL_STAT n ∉ warmKeys := not_mem_warmKeys (by simp only [R.BOOT_SLOTFL_STAT]; omega)
  refine .get fun s => .ite (fun _ => frame.skip) fun _ => frame.seq ?_
  simp only [List.forall_mem_cons, List.not_mem_nil, false_imp_iff, implies_true, and_true]
  exact ⟨setF hn, setF hn, frame.when fun _ => setF hn, apart fun _ => rfl, apart fun _ => rfl, apart fun _ => rfl,
    apart fun _ => rfl, rstPin, emit⟩

theorem WarmKept.returned {setting n : Nat} : (Act.returned setting n).Within (WarmKept warmKeys K) :=
  frame.when fun _ => emit

theorem WarmKept.activationLost : Act.activationLost.Within (WarmKept warmKeys K) :=
  .get fun _ => frame.andThen (frame.each fun _ _ => emit) (frame.when fun _ => emit)

theorem WarmKept.unbind {m q src : Nat} : (Act.unbind m q src).Within (WarmKept warmKeys K) := by
  have hm : R.MBX_STAT m ∉ warmKeys := not_mem_warmKeys (by simp only [R.MBX_STAT]; omega)
  refine frame.seq ?_
  simp only [List.forall_mem_cons, List.not_mem_nil, false_imp_iff, implies_true, and_true]
  exact ⟨setB hm, setB hm, setF hm, emit⟩

theorem WarmKept.qpError {num : Nat} : (Act.qpError num).Within (WarmKept warmKeys K) := by
  refine .get fun s => ?_
  split
  · exact frame.skip
  · refine frame.seq ?_
    simp only [List.forall_mem_cons, List.not_mem_nil, false_imp_iff, implies_true, and_true]
    refine ⟨apart fun _ => rfl, ?_⟩
    split
    · exact unbind
    · exact frame.skip

theorem WarmKept.portDown {l : Fin 8} {cause : Nat} : (Act.portDown l cause).Within (WarmKept warmKeys K) := by
  have hl : R.ETH_PORT_STAT l ∉ warmKeys := not_mem_warmKeys (by simp only [R.ETH_PORT_STAT]; omega)
  refine .get fun s => .ite (fun _ => frame.skip) fun _ => frame.seq ?_
  simp only [List.forall_mem_cons, List.not_mem_nil, false_imp_iff, implies_true, and_true]
  exact ⟨setB hl, setB hl, apart fun _ => rfl, frame.each fun _ _ => apart fun _ => rfl,
    .get fun _ => frame.andThen (apart fun _ => rfl) (frame.each fun _ _ => apart fun _ => rfl),
    frame.each fun _ _ => qpError, frame.when fun _ => setB hl, emit, frame.when fun _ => emit, raiseLine⟩

theorem WarmKept.portsDown {keep : Nat → Bool} {cause : Nat} : (Act.portsDown keep cause).Within (WarmKept warmKeys K) :=
  frame.each fun _ _ => frame.when fun _ => portDown

theorem WarmKept.modelsGone : Act.modelsGone.Within (WarmKept warmKeys K) := by
  refine .get fun s => frame.seq ?_
  simp only [List.forall_mem_cons, List.not_mem_nil, false_imp_iff, implies_true, and_true]
  exact ⟨apart fun _ => rfl,
    frame.each fun m _ => setB (not_mem_warmKeys (by simp only [R.CNJ_PART_CTL]; omega)), frame.when fun _ => emit⟩

theorem WarmKept.ctxLogsGone : Act.ctxLogsGone.Within (WarmKept warmKeys K) := by
  refine .get fun s => frame.seq ?_
  simp only [List.forall_mem_cons, List.not_mem_nil, false_imp_iff, implies_true, and_true]
  exact ⟨frame.each fun _ _ => apart fun _ => rfl, frame.when fun _ => emit⟩

/-- A warm reset returns no register of warmKeys to its default (R428). -/
theorem csrWarm_warmKeys : ∀ k ∈ warmKeys, (!csrWarm k) = true := by decide +kernel

theorem WarmKept.volatileRegs : Act.volatileRegs.Within (WarmKept warmKeys K) := by
  refine .get fun s => frame.seq ?_
  simp only [List.forall_mem_cons, List.not_mem_nil, false_imp_iff, implies_true, and_true]
  have hcnj : R.CNJ_CTL ∉ warmKeys := not_mem_warmKeys (by decide)
  have hcap : R.CAP_STATUS ∉ warmKeys := not_mem_warmKeys (by decide)
  refine ⟨restrictRegs csrWarm_warmKeys, setB hcnj, setF hcnj, setB (not_mem_warmKeys (by decide)), setB hcap, setB hcap,
    frame.each fun l _ => setB (not_mem_warmKeys (by simp only [R.ETH_PORT_CFG]; omega)),
    frame.each fun t ht => frame.seq ?_⟩
  have hstat : R.SEQ_CLAUSE_STAT t ∉ warmKeys := not_mem_warmKeys (by
    have := List.mem_range.mp ht
    simp only [R.SEQ_CLAUSE_STAT]
    omega)
  simp only [List.forall_mem_cons, List.not_mem_nil, false_imp_iff, implies_true, and_true]
  exact ⟨setF hstat, setF hstat, setF hstat⟩

theorem WarmKept.clauseRecheck : Act.clauseRecheck.Within (WarmKept warmKeys K) := by
  refine .get fun s => frame.andThen (frame.each fun n _ => frame.seq ?_) returned
  simp only [List.forall_mem_cons, List.not_mem_nil, false_imp_iff, implies_true, and_true]
  refine ⟨apart fun _ => rfl, frame.each fun t ht => frame.seq ?_⟩
  have hbind : R.SEQ_BIND t ∉ warmKeys := not_mem_warmKeys (by
    have := List.mem_range.mp ht
    simp only [R.SEQ_BIND]
    omega)
  simp only [List.forall_mem_cons, List.not_mem_nil, false_imp_iff, implies_true, and_true]
  exact ⟨frame.when fun _ => setB hbind, frame.when fun _ => setB hbind⟩

end
end Sys2Proof.Machine
end

section
/-!
SUPPORT. A warm reset as a whole (R417, R427, R428): its parts one after another, and what each brings about.
-/
namespace Sys2Proof.Machine

/-- What a warm reset does before jobs stop. -/
def Act.warmBefore (code core : Nat) : Act :=
  Act.seq [
    Act.emit 0x29 0x1003 2 [code, core],
    Act.dumpTrigger 5 core,
    Act.each (List.finRange 8) fun (n : Fin 8) => Act.flashEnd n 5,
    Act.activationLost]

/-- Jobs stop, tensor SRAM is emptied and every core is reset. -/
def Act.warmCores : Act :=
  Act.seq [Act.jobsGone, Act.zeroBytes tensorBase tensorSize,
    Act.each (List.finRange 13) fun (k : Fin 13) => Act.coreReset k]

/-- What else loses its contents, s being the state before the warm reset. -/
def Act.warmAfter (s : State) : Act :=
  Act.seq [
    Act.poisonOwned fun o => o != 0xFF,
    Act.portsDown (fun _ => false) 0,
    Act.ethx fun e => { Eth.reset with out := e.out, rkeysUsed := e.rkeysUsed },
    Act.zeroBytes 0x40000000 0x40000,
    Act.modelsGone,
    Act.learnedx fun _ => Learned.reset,
    Act.ctxLogsGone,
    Act.secx fun x => { x with scrubStep := x.scrubStep.map fun i => if i = 0 then 0 else 1 },
    Act.returned 0 s.tns.deadlines.length,
    Act.returned 1 (s.fld F.CAP_STATUS.staged),
    Act.tense fun t => { t with deadlines := [] },
    Act.volatileRegs]

/-- The halts so far count no more. -/
def Act.forgetHalts : Act :=
  ⟨fun s => { s with haltTimes := [] }, fun _ h => h, fun _ => rfl, fun _ => .refl _, fun _ h => ⟨h, rfl⟩⟩

/-- How a warm reset shows itself. -/
def Act.warmShown (s : State) (code core : Nat) : Act :=
  Act.seq [
    Act.setF F.BOOT_STATUS.last_cause (if code = 2 then 2 else 1),
    Act.setF F.RST_CAUSE.cause code, Act.setF F.RST_CAUSE.core core,
    Act.bump F.RST_WARM_CNT.count,
    Act.rstx fun r => { r with wdogAt := Vector.replicate 13 s.tns.tick, warmDue := false, idleSince := none },
    Act.forgetHalts]

theorem Act.warmAs_run (code core : Nat) (s : State) :
    (Act.warmAs code core).run s = (Act.warmShown s code core).run (Act.clauseRecheck.run (Act.serviceGone.run
      ((Act.warmAfter s).run (Act.warmCores.run ((Act.warmBefore code core).run s))))) := by
  simp only [Act.warmAs, Act.warmShown, Act.forgetHalts, Act.warmAfter, Act.warmCores, Act.warmBefore, Act.run_get, Act.run_seq_cons,
    Act.run_seq_nil]

section
variable {K : Fin 13 → Prop}

theorem WarmKept.warmBefore {code core : Nat} : (Act.warmBefore code core).Within (WarmKept warmKeys K) := by
  refine frame.seq ?_
  simp only [List.forall_mem_cons, List.not_mem_nil, false_imp_iff, implies_true, and_true]
  exact ⟨emit, dumpTrigger, frame.each fun _ _ => flashEnd, activationLost⟩

theorem WarmKept.warmAfter {s : State} : (Act.warmAfter s).Within (WarmKept warmKeys K) := by
  refine frame.seq ?_
  simp only [List.forall_mem_cons, List.not_mem_nil, false_imp_iff, implies_true, and_true]
  exact ⟨poisonOwned, portsDown, apart fun _ => rfl, zeroBytes fun _ h => .inr (.inr h), modelsGone, apart fun _ => rfl,
    ctxLogsGone, apart fun _ => rfl, returned, returned, apart fun _ => rfl, volatileRegs⟩

theorem WarmKept.coreResets : (Act.each (List.finRange 13) Act.coreReset).Within (WarmKept warmKeys fun _ => False) :=
  frame.each fun _ _ s => (coreReset s).mono (fun _ h => h) fun _ h => h.elim

theorem WarmKept.warmCores : Act.warmCores.Within (WarmKept warmKeys fun _ => False) := by
  refine frame.seq ?_
  simp only [List.forall_mem_cons, List.not_mem_nil, false_imp_iff, implies_true, and_true]
  exact ⟨jobsGone, zeroBytes fun _ h => .inl h, coreResets⟩

theorem WarmKept.serviceGone : Act.serviceGone.Within (WarmKept (R.RST_WARM_CNT :: keptKeys) K) := by
  refine frame.seq ?_
  have hstat : R.BOOT_STATUS ∉ R.RST_WARM_CNT :: keptKeys := by decide
  simp only [List.forall_mem_cons, List.not_mem_nil, false_imp_iff, implies_true, and_true]
  exact ⟨zeroBytes fun _ h => .inr (.inl h), apart fun _ => rfl, setF hstat, setB hstat, setB hstat, setB hstat,
    setB (by decide), setF hstat⟩

theorem WarmKept.warmShown {s : State} {code core : Nat} : (Act.warmShown s code core).Within (WarmKept keptKeys K) := by
  refine frame.seq ?_
  simp only [List.forall_mem_cons, List.not_mem_nil, false_imp_iff, implies_true, and_true]
  exact ⟨setF (by decide), setF (by decide), setF (by decide), .get fun _ => setF (by decide), apart fun _ => rfl,
    apart fun _ => rfl⟩

end

/-! ## What the parts bring about -/

/-- After the cores are reset no job runs, tensor SRAM is empty, and every core stands as its reset leaves it. -/
theorem Act.warmCores_leaves (s : State) :
    let t := Act.warmCores.run s
    (t.jobs = [] ∧ t.threads = []) ∧ (∀ x, tensorBase ≤ x → x < tensorBase + tensorSize → t.byte x = 0#8) ∧
      ∀ k, AtReset k t := by
  intro t
  set u := (Act.zeroBytes tensorBase tensorSize).run (Act.jobsGone.run s) with hu
  have ht : t = (Act.each (List.finRange 13) Act.coreReset).run u := by
    simp only [t, hu, Act.warmCores, Act.run_seq_cons, Act.run_seq_nil]
  have hkept : WarmKept warmKeys (fun _ => False) u t := ht ▸ WarmKept.coreResets u
  refine ⟨hkept.idle ⟨rfl, rfl⟩, fun x hlo hhi => hkept.blank x ?_, fun k => ?_⟩
  · rw [hu, State.byte_zeroBytes, if_pos ⟨hlo, hhi⟩]
  · rw [ht]
    exact Act.each_establishes (q := AtReset) Act.coreReset_atReset (fun x y s h => Act.coreReset_keeps_atReset y x s h) u k
      (List.mem_finRange k)

/-- Once the service image is gone its banks are empty and BOOT_STATUS shows stage 0 and NONE. -/
theorem Act.serviceGone_leaves (s : State) :
    let t := Act.serviceGone.run s
    t.fld F.BOOT_STATUS.stage = 0 ∧ t.fld F.BOOT_STATUS.svc = 0 ∧ ∀ x, 0x10400000 ≤ x → x < 0x11400000 → t.byte x = 0#8 := by
  intro t
  have hbank : ∀ x, 0x10400000 ≤ x → x < 0x11400000 → t.byte x = 0#8 := by
    refine (WarmKept.frame (keys := []) (K := fun _ => True)).seq_establishes (l := [])
      (q := fun u => ∀ x, 0x10400000 ≤ x → x < 0x11400000 → u.byte x = 0#8)
      (fun u v h hu x hlo hhi => h.blank x (hu x hlo hhi)) (fun u x hlo hhi => ?_) ?_ s
    · rw [State.byte_zeroBytes, if_pos ⟨hlo, hhi⟩]
    · simp only [List.forall_mem_cons, List.not_mem_nil, false_imp_iff, implies_true, and_true]
      exact ⟨WarmKept.apart fun _ => rfl, WarmKept.setF (by simp), WarmKept.setB (by simp), WarmKept.setB (by simp),
        WarmKept.setB (by simp), WarmKept.setB (by simp), WarmKept.setF (by simp)⟩
  refine ⟨?_, ?_, hbank⟩
  all_goals simp only [t, Act.serviceGone, Act.run_seq_cons, Act.run_seq_nil, Act.setB]
  · rw [State.fld_setF_same _ _ _ (by decide) (by decide)]
    rfl
  · rw [State.fld_setF_other _ _ _ _ (by decide) (by decide) (by decide),
      State.fld_setF_other _ _ _ _ (by decide) (by decide) (by decide),
      State.fld_setF_other _ _ _ _ (by decide) (by decide) (by decide),
      State.fld_setF_other _ _ _ _ (by decide) (by decide) (by decide),
      State.fld_setF_other _ _ _ _ (by decide) (by decide) (by decide),
      State.fld_setF_same _ _ _ (by decide) (by decide)]
    rfl

theorem State.fld_rstx (s : State) (g : Rst → Rst) (f : Fd) : ((Act.rstx g).run s).fld f = s.fld f := rfl

theorem State.fld_forgetHalts (s : State) (f : Fd) : (Act.forgetHalts.run s).fld f = s.fld f := rfl

/-- What a field reads after the last part of a warm reset, by the writes of that part. -/
theorem Act.warmShown_fld (s u : State) (code core : Nat) (f : Fd) :
    ((Act.warmShown s code core).run u).fld f = ((Act.addF F.RST_WARM_CNT.count 1).run ((Act.setF F.RST_CAUSE.core core).run
      ((Act.setF F.RST_CAUSE.cause code).run
        ((Act.setF F.BOOT_STATUS.last_cause (if code = 2 then 2 else 1)).run u)))).fld f := by
  rw [Act.warmShown]
  iterate 6 rw [Act.run_seq_cons]
  rw [Act.run_seq_nil, State.fld_forgetHalts, State.fld_rstx, Act.bump]

/-- A field of another register than those in which a warm reset shows itself, or apart from last_cause in BOOT_STATUS. -/
theorem Act.warmShown_fld_other (s u : State) (code core : Nat) (f : Fd) (h1 : F.BOOT_STATUS.last_cause.apart f = true)
    (h2 : F.RST_CAUSE.cause.apart f = true) (h3 : F.RST_CAUSE.core.apart f = true)
    (h4 : F.RST_WARM_CNT.count.apart f = true) : ((Act.warmShown s code core).run u).fld f = u.fld f := by
  rw [Act.warmShown_fld, Act.addF, Act.run_get, State.fld_setF_other _ _ _ _ (by decide) (by decide) h4,
    State.fld_setF_other _ _ _ _ (by decide) (by decide) h3, State.fld_setF_other _ _ _ _ (by decide) (by decide) h2,
    State.fld_setF_other _ _ _ _ (by decide) (by decide) h1]

theorem Act.warmShown_cause (s u : State) (code core : Nat) (hc : code < 8) :
    ((Act.warmShown s code core).run u).fld F.RST_CAUSE.cause = code := by
  rw [Act.warmShown_fld, Act.addF, Act.run_get, State.fld_setF_other _ _ _ _ (by decide) (by decide) (by decide),
    State.fld_setF_other _ _ _ _ (by decide) (by decide) (by decide), State.fld_setF_same _ _ _ (by decide) (by decide)]
  exact Nat.mod_eq_of_lt hc

theorem State.fld_addF_same (s : State) (f : Fd) (n : Nat) (h : f.hi < 32) (hl : f.lo ≤ f.hi) :
    ((Act.addF f n).run s).fld f = countedUp s f n := by
  rw [Act.addF, Act.run_get, State.fld_setF_same _ _ _ h hl, countedUp]
  have hp : 0 < fldSize f.hi f.lo := Nat.two_pow_pos _
  exact Nat.mod_eq_of_lt (by omega)

theorem Act.warmShown_count (s u : State) (code core : Nat) :
    ((Act.warmShown s code core).run u).fld F.RST_WARM_CNT.count = countedUp u F.RST_WARM_CNT.count 1 := by
  rw [Act.warmShown_fld, State.fld_addF_same _ _ _ (by decide) (by decide), countedUp, countedUp,
    State.fld_setF_other _ _ _ _ (by decide) (by decide) (by decide),
    State.fld_setF_other _ _ _ _ (by decide) (by decide) (by decide),
    State.fld_setF_other _ _ _ _ (by decide) (by decide) (by decide)]

/-! ## The whole -/

theorem WarmKept.warmAs {code core : Nat} : (Act.warmAs code core).Within (WarmKept keptKeys fun _ => False) := fun s => by
  have hkeys : ∀ k ∈ keptKeys, k ∈ warmKeys := fun k hk => List.mem_cons_of_mem _ (List.mem_cons_of_mem _ hk)
  rw [Act.warmAs_run]
  exact frame.trans ((warmBefore s).mono hkeys fun _ h => h) <|
    frame.trans ((warmCores _).mono hkeys fun _ h => h) <|
    frame.trans ((warmAfter _).mono hkeys fun _ h => h) <|
    frame.trans ((serviceGone _).mono (fun k hk => List.mem_cons_of_mem _ hk) fun _ h => h) <|
    frame.trans ((clauseRecheck _).mono hkeys fun _ h => h) (warmShown _)

/-- After a warm reset: its cause and count, the stage of boot, no jobs, empty tensor SRAM and service banks, and every core
as its reset leaves it. -/
theorem Act.warmAs_leaves (s : State) (code core : Nat) (hc : code < 8) : let t := (Act.warmAs code core).run s
    (t.fld F.RST_CAUSE.cause = code ∧ t.fld F.RST_WARM_CNT.count = countedUp s F.RST_WARM_CNT.count 1) ∧
    (t.fld F.BOOT_STATUS.stage = 0 ∧ t.fld F.BOOT_STATUS.svc = 0) ∧ (t.jobs = [] ∧ t.threads = []) ∧ t.rst.warmDue = false ∧
    (∀ x, tensorBase ≤ x → x < tensorBase + tensorSize → t.byte x = 0#8) ∧
    (∀ x, 0x10400000 ≤ x → x < 0x11400000 → t.byte x = 0#8) ∧ ∀ k, AtReset k t := by
  intro t
  set u₁ := (Act.warmBefore code core).run s
  set u₂ := Act.warmCores.run u₁
  set u₃ := (Act.warmAfter s).run u₂
  set u₄ := Act.serviceGone.run u₃
  set u₅ := Act.clauseRecheck.run u₄
  have ht : t = (Act.warmShown s code core).run u₅ := by
    show (Act.warmAs code core).run s = _
    rw [Act.warmAs_run]
  have k₁ : WarmKept warmKeys (fun _ => False) s u₁ := WarmKept.warmBefore s
  have k₂ : WarmKept warmKeys (fun _ => False) u₁ u₂ := WarmKept.warmCores u₁
  have k₃ : WarmKept warmKeys (fun _ => True) u₂ u₃ := WarmKept.warmAfter u₂
  have k₄ : WarmKept (R.RST_WARM_CNT :: keptKeys) (fun _ => True) u₃ u₄ := WarmKept.serviceGone u₃
  have k₅ : WarmKept warmKeys (fun _ => True) u₄ u₅ := WarmKept.clauseRecheck u₄
  have k₆ : WarmKept keptKeys (fun _ => True) u₅ t := ht ▸ WarmKept.warmShown u₅
  have hend : WarmKept [] (fun _ => True) u₄ t :=
    WarmKept.frame.trans (k₅.mono (by simp) fun _ h => h) (k₆.mono (by simp) fun _ h => h)
  have hrest : WarmKept [] (fun _ => True) u₂ t :=
    WarmKept.frame.trans (k₃.mono (by simp) fun _ h => h) (WarmKept.frame.trans (k₄.mono (by simp) fun _ h => h) hend)
  obtain ⟨hidle, htensor, hcores⟩ := Act.warmCores_leaves u₁
  obtain ⟨hstage, hsvc, hbanks⟩ := Act.serviceGone_leaves u₃
  have hboot : ∀ f : Fd, f.off = R.BOOT_STATUS → F.BOOT_STATUS.last_cause.apart f = true → t.fld f = u₄.fld f := by
    intro f hf ha
    have hother : ∀ g : Fd, g.off ≠ f.off → g.apart f = true := fun g hg => by simp [Fd.apart, hg]
    rw [ht, Act.warmShown_fld_other s u₅ code core f ha (hother _ (by rw [hf]; decide)) (hother _ (by rw [hf]; decide))
      (hother _ (by rw [hf]; decide))]
    exact State.fld_congr (hf ▸ k₅.regs _ (by decide))
  have hcount : u₅.fld F.RST_WARM_CNT.count = s.fld F.RST_WARM_CNT.count := by
    have hw : R.RST_WARM_CNT ∈ warmKeys := by decide
    exact State.fld_congr <| (k₅.regs _ hw).trans <| (k₄.regs _ (by decide)).trans <| (k₃.regs _ hw).trans <|
      (k₂.regs _ hw).trans (k₁.regs _ hw)
  refine ⟨⟨?_, ?_⟩, ⟨?_, ?_⟩, hrest.idle hidle, ?_, fun x hlo hhi => hrest.blank x (htensor x hlo hhi),
    fun x hlo hhi => hend.blank x (hbanks x hlo hhi), fun k => hrest.atReset trivial (hcores k)⟩
  · rw [ht]
    exact Act.warmShown_cause s u₅ code core hc
  · rw [ht, Act.warmShown_count, countedUp, countedUp, hcount]
  · rw [hboot _ rfl (by decide), hstage]
  · rw [hboot _ rfl (by decide), hsvc]
  · rw [ht]
    rfl

theorem warmCode_lt {c : WarmCause} {code : Nat} (h : warmCode c = some code) : code < 8 := by
  cases c <;> simp only [warmCode, Option.some.injEq, reduceCtorEq] at h <;> omega

/-- A warm reset of a cause with a number, where it is due. -/
theorem Act.warmReset_run {s : State} {c : WarmCause} {code : Nat} (h : warmCode c = some code) :
    (Act.warmReset c).run s = (Act.warmAs code (warmCore c)).run s := by
  simp only [Act.warmReset, h]

/-- Every enable stands where it stood while its registers do. -/
theorem EnablesKept.of_regs {s t : State} (h : ∀ k ∈ keptKeys, t.reg k = s.reg k) : EnablesKept s t := by
  refine ⟨?_, fun n => ?_, fun d => ?_⟩
  · rw [State.gateOn, State.flag, State.fld_congr (h R.SEQ_STATUS (by decide))]
    rfl
  · rw [State.efuseOn, State.fld_congr (h R.SEQ_EFUSE_STATUS (by decide))]
    rfl
  · have hd : d.val / 32 = 0 ∨ d.val / 32 = 1 := by omega
    rw [State.domOn, State.fld_congr (h (R.SEQ_DOM_EN (d / 32)) (by rcases hd with e | e <;> rw [e] <;> decide))]
    rfl

end Sys2Proof.Machine
end

section
/-!
SUPPORT. What the resets keep and lose, assembled.
-/
open Sys2Proof Sys2Proof.Machine

/-- Settles O44: cold start from what power-good leaves and its loads; a warm reset from what its parts keep and what each
brings about; RESET from what a response is. -/
theorem resetsKeepAndLoseWhatTheyShould : Obligations.ResetsKeepAndLoseWhatTheyShould := by
  unfold Obligations.ResetsKeepAndLoseWhatTheyShould
  intro s
  refine ⟨exec_alwaysOnLoss s, ?_, ?_, ?_, ?_, ?_⟩
  · intro hs role ok
    rw [exec_coldStart, Act.coldStart_powered s _ _ hs]
  · intro hs role ok
    refine ⟨_, exec_coldStart s role ok, ?_⟩
    obtain ⟨⟨_, _, _, _, _, _, _, ht⟩, -⟩ := Act.coldStart_leaves s role.toNat ok hs
    obtain ⟨hflag, hkeys⟩ := Act.coldStart_random s role.toNat ok hs
    obtain ⟨⟨harmed, hgate, hefuse, hdom⟩, hstage⟩ := Act.coldStart_off s role.toNat ok hs
    have hrole : role = 3 → ∃ r ∈ ((Act.coldStart role.toNat ok).run s).evr.ring, r.src = 0x29 ∧ r.code = 0x0F0F ∧ r.sev = 3 := by
      rintro rfl
      exact Act.coldStart_records s ok hs
    refine ⟨?_, ?_, ?_, ?_, ?_, ?_, ?_, ?_, ?_, harmed, hgate, hefuse, hdom, fun k => ?_, ?_, ?_, ?_, ?_, hstage, hflag, hkeys,
      hrole⟩
    case refine_10 =>
      rw [ht]
      exact coresReset_run k
    all_goals rw [ht]; rfl
  · intro c code hs hcode hdue
    refine ⟨_, exec_warmReset s c, ?_⟩
    have hwhen : (s.powered && (decide (c ≠ .resetMessage) || s.rst.warmDue)) = true := by
      by_cases hc : c = .resetMessage
      · simp [hs, hdue hc]
      · simp [hs, hc]
    rw [Act.run_when, if_pos hwhen, Act.warmReset_run hcode]
    have hkept : WarmKept keptKeys (fun _ => False) s ((Act.warmAs code (warmCore c)).run s) := WarmKept.warmAs s
    obtain ⟨⟨hcause, hcount⟩, ⟨hstage, hsvc⟩, ⟨hjobs, hthreads⟩, hwarm, htensor, hbanks, hcores⟩ :=
      Act.warmAs_leaves s code (warmCore c) (warmCode_lt hcode)
    refine ⟨hcause, hcount, hjobs, hthreads, hwarm, hstage, hsvc, fun k => (hcores k).1, (hcores 0).2 rfl, htensor, hbanks,
      fun x hlo _ => hkept.bytes x ?_, fun x hlo hhi => hkept.bytes x ?_, ?_, hkept.regs _ (by decide), ?_, hkept.caps,
      EnablesKept.of_regs hkept.regs, hkept.fuses, hkept.flash, hkept.cur, hkept.tick⟩
    · simp only [warmLost, tensorBase, tensorSize, ddrBase] at hlo ⊢
      omega
    · simp only [warmLost, tensorBase, tensorSize, sharedBase] at hlo ⊢
      omega
    · rw [State.armed, State.flag, State.fld_congr (hkept.regs R.PER_CTL (by decide))]
      rfl
    · exact State.fld_congr (hkept.regs R.CAP_EPOCH_APPLIED (by decide))
  · intro hs hdue
    rw [exec_warmReset, Act.run_when, if_neg (by simp [hdue])]
  · intro m hm
    refine ⟨fun hh => ⟨_, exec_reset s m 1, ?_⟩, fun hh => ⟨_, exec_reset s m 1, ?_⟩, fun kind hk => ⟨_, exec_reset s m kind,
      Act.resetCommand_hold hm hk⟩, fun kind hk => ⟨_, exec_reset s m kind, ?_⟩⟩
    · rw [Act.resetCommand_run hm, if_pos rfl, if_neg (not_not.mpr hh)]
      exact ⟨Act.respond_rstx_answered m _ s, rfl⟩
    · rw [Act.resetCommand_run hm, if_pos rfl, if_pos hh]
      exact Act.respondWith_repliesOnly m 1 8 7 0 1000 [] s (by decide)
    · rw [Act.resetCommand_run hm, if_neg (by omega), if_neg (by omega)]
      exact Act.respondWith_repliesOnly m 1 8 5 0 0 [] s (by decide)

end

section
/-!
SUPPORT. CSR_WRITE where no register stands, while the core is inside its handler: the core halts (R225) and does not enter it.
-/
namespace Sys2Proof.Machine

/-- A write of CSR space where no register stands is a bus error of the core. -/
theorem csrWriteRow_bus (s : State) (k : Fin 13) (off : Nat) (v : W32) (hp : s.powered = true) (hk : s.coreUp k = true)
    (hoff : findReg off = none) : (Act.csrWriteRow k off v).run s =
      (Act.coreExc k 6 0 (s.core k).pc (BitVec.ofNat 64 (0x30000000 + off))).run s := by
  simp [Act.csrWriteRow, hp, hk, hoff]

/-- A synchronous exception of a core that is outside mode P and inside its handler halts it (R225). -/
theorem coreExc_halts (s : State) (k : Fin 13) (code detail epc : Nat) (bad : Word) (hp : (s.core k).p = false)
    (hx : (s.core k).exl = true) : (Act.coreExc k code detail epc bad).run s = (Act.halt k).run s := by
  simp [Act.coreExc, Act.takeExc, hp, hx]

/-- The state after reset, but that the security core is inside its handler. -/
def resetInHandler : State := { State.reset with cores := State.reset.cores.set 0 { State.reset.cores[0] with exl := true } }

/-- The halt writes no CR_BADADDR. -/
theorem resetInHandler_halt_badaddr : (((Act.halt 0).run resetInHandler).core 0).badaddr = 0#64 := by decide +kernel

end Sys2Proof.Machine

open Sys2Proof Sys2Proof.Machine

/-- Refutes O45: the last clause of its CSR_WRITE part has no premise that exl is 0.  The security core, inside its handler
after reset, writes offset 0x170000, where no register stands: by R225 it halts, and CR_BADADDR keeps its 0. -/
theorem not_bootLoadsTheFirstImageThatVerifies : ¬ Obligations.BootLoadsTheFirstImageThatVerifies := by
  unfold Obligations.BootLoadsTheFirstImageThatVerifies
  intro h
  obtain ⟨-, -, -, -, hcsr⟩ := h resetInHandler rfl
  obtain ⟨-, -, -, -, -, -, -, -, hbus⟩ := hcsr 0 0#32 rfl
  obtain ⟨t, ht, -, hbad⟩ := hbus 0x170000 rfl rfl
  have hrun : t = (Act.halt 0).run resetInHandler := by
    have hrow : (Act.csrWriteRow 0 0x170000 0#32).run resetInHandler = t := by injection ht
    rw [← hrow, csrWriteRow_bus _ _ _ _ rfl rfl rfl, coreExc_halts _ _ _ _ _ _ rfl rfl]
  rw [hrun, resetInHandler_halt_badaddr] at hbad
  exact absurd hbad (by decide)

end

section
/-!
SUPPORT. The Itsal die: what its log and its intervals change, power loss, the command link, the seal and the calibration port
(R30, R177, R178, R187 to R192).
-/
namespace Sys2Proof.Machine

/-- A row of Itsal answers what it makes of the die. -/
theorem answers_its {c : Instr} {s : State} {q : State → Prop} (y : Its) {z : Its}
    (hc : exec c s = .next { s with its := y }) (hy : y = z) (hq : q { s with its := z }) : Answers (exec c s) q := by
  subst hy
  exact ⟨_, hc, hq⟩

/-! ## The log (R191, R192) -/

/-- Of Itsal nothing but its log differs: the records, the next sequence and the mark of saturation. -/
def Its.LogOnly (x y : Its) : Prop :=
  ∃ log seq sat, y = { x with log := log, nextSeq := seq, saturated := sat }

theorem Its.LogOnly.refl (x : Its) : Its.LogOnly x x := ⟨x.log, x.nextSeq, x.saturated, rfl⟩

theorem Its.LogOnly.trans {x y z : Its} (h : x.LogOnly y) (g : y.LogOnly z) : x.LogOnly z := by
  obtain ⟨_, _, _, rfl⟩ := h
  obtain ⟨_, _, _, rfl⟩ := g
  exact ⟨_, _, _, rfl⟩

/-- What every step of a fold appends, the fold appends. -/
theorem Its.LogOnly.foldl {α : Type} {f : Its → α → Its} (hf : ∀ y a, Its.LogOnly y (f y a)) (l : List α) (x : Its) :
    x.LogOnly (l.foldl f x) := by
  induction l generalizing x with
  | nil => exact .refl x
  | cons a l ih => exact (hf x a).trans (ih _)

theorem Its.logFor_only (x : Its) (interval typ chan reg flags value aux tick : Nat) :
    x.LogOnly (x.logFor interval typ chan reg flags value aux tick) := by
  unfold Its.logFor
  split
  · exact .refl x
  · exact ⟨_, _, _, rfl⟩

theorem Its.note_only (x : Its) (typ value aux : Nat) : x.LogOnly (x.note typ value aux) := x.logFor_only ..

theorem Its.LogOnly.cur {x y : Its} (h : x.LogOnly y) : y.cur = x.cur := by
  obtain ⟨_, _, _, rfl⟩ := h
  rfl

theorem Its.LogOnly.sealOpen {x y : Its} (h : x.LogOnly y) : y.sealOpen = x.sealOpen := by
  obtain ⟨_, _, _, rfl⟩ := h
  rfl

/-- A note stands in front of the log until that is saturated. -/
theorem Its.note_head (x : Its) (typ value aux : Nat) (h : x.saturated = false) :
    ∃ r, (x.note typ value aux).log.head? = some r ∧ r.typ = typ ∧ r.value = value % 2 ^ 64 ∧ r.seq = x.nextSeq := by
  simp [Its.note, Its.put, Its.logAt, Its.logFor, h]

/-! ## The end of an interval outside a boundary (R183, R187) -/

theorem Its.drainChan_only (k : ItsClosing) (extra : Nat) (x : Its) (ch : Fin 9) : x.LogOnly (x.drainChan k extra ch) := by
  have hregs (y : Its) (p : Nat × Nat) (fl : Nat) :
      y.LogOnly (y.logFor k.number 1 ch p.1 fl (mjOf p.2) 0 k.strobe) := y.logFor_only ..
  unfold Its.drainChan
  refine (LogOnly.trans ?_ (Its.logFor_only ..))
  dsimp only
  split
  · exact (LogOnly.foldl (fun y p => hregs y p _) _ x).trans (Its.logFor_only ..)
  · exact LogOnly.foldl (fun y p => hregs y p _) _ x

theorem Its.drain_only (x : Its) (k : ItsClosing) (extra : Nat) : x.LogOnly (x.drain k extra) :=
  LogOnly.foldl (Its.drainChan_only k extra) _ x

/-- The drain of a closed interval logs it, and there is none any more. -/
theorem Its.drainClosed_only (x : Its) (extra : Nat) :
    ({ x with cur := { x.cur with closing := none } } : Its).LogOnly (x.drainClosed extra) := by
  unfold Its.drainClosed
  split
  · next h =>
    rw [← h]
    exact .refl x
  · next k h =>
    refine LogOnly.trans (Its.drain_only _ k (extra ||| if k.natural then 0 else 4)) ?_
    dsimp only
    generalize Its.drain _ k _ = y
    split
    · exact Its.logFor_only ..
    · exact .refl _

/-- A channel at the beginning of an interval: its totals stay. -/
def ItsChan.begun (c : ItsChan) : ItsChan :=
  { c with irev := 0, regs := [], void := false, late := false, overload := false }

/-- What Itsal counts as an interval begins. -/
def Its.begun (x : Its) : ItsCore :=
  { x.cur with chans := x.cur.chans.map ItsChan.begun, interval := (x.cur.interval + 1) % 2 ^ 32, elapsed := 0,
               link := !x.linkUp, cal := x.sealOpen, closing := none }

/-- The end of an interval logs it and begins the next. -/
theorem Its.endInterval_only (x : Its) (extra : Nat) :
    ({ x with cur := x.begun } : Its).LogOnly (x.endInterval extra) := by
  obtain ⟨log, seq, sat, hclosed⟩ := x.drainClosed_only 0
  unfold Its.endInterval
  rw [hclosed]
  obtain ⟨log, seq, sat, hdrain⟩ := Its.drain_only
    ({ x with cur := { x.cur with closing := none }, log := log, nextSeq := seq, saturated := sat } : Its)
    (Its.unfinished { x with cur := { x.cur with closing := none }, log := log, nextSeq := seq, saturated := sat }) extra
  dsimp only
  rw [hdrain]
  exact ⟨_, _, _, rfl⟩

/-! ## Power loss (R187, R189) -/

/-- A power-down ends the interval, saves what is counted and stops Itsal. -/
theorem Its.powerDown_leaves (x : Its) (h : x.up = true) :
    x.powerDown.up = false ∧ x.powerDown.cur = x.begun ∧ x.powerDown.saved = x.powerDown.cur ∧
      x.powerDown.switches = [] ∧ x.powerDown.align = none := by
  have hlog : ({ x with cur := x.begun } : Its).LogOnly ((x.endInterval 2).note 0x31 (x.endInterval 2).cur.cycles 0) :=
    (x.endInterval_only 2).trans (Its.note_only ..)
  obtain ⟨_, _, _, hlog⟩ := hlog
  simp [Its.powerDown, h, hlog, Its.dropWaiting]

/-- Itsal as a power-up starts it, before anything is logged. -/
def Its.started (x : Its) (constsOk : Bool) : Its :=
  { x.dropWaiting with
    up := true, cur := { x.saved with cycles := x.saved.cycles + 1 }, selected := itsSelectReset, linkUp := true,
    sealOpen := false, constsOk := constsOk, staged := x.saved.consts, refFail := 0, reply := [],
    reads := Vector.replicate 9 ItsRead.reset, sums := Vector.replicate 9 ⟨0, 0, 0, 0⟩ }

/-- What a power-up takes over from the non-volatile store, for what Itsal counts. -/
def ItsCore.TakenOver (saved cur : ItsCore) : Prop :=
  cur.cycles = saved.cycles + 1 ∧ cur.opMs = saved.opMs ∧ cur.consts = saved.consts ∧
    ∀ c : Fin 9, cur.chans[c].fwd = saved.chans[c].fwd ∧ cur.chans[c].rev = saved.chans[c].rev

/-- A power-up runs Itsal on the saved totals, also where an interval that no power-down ended is drained with VOID. -/
theorem Its.powerUp_leaves (x : Its) (ok : Bool) : let y := x.powerUp ok
    x.saved.TakenOver y.cur ∧ y.saved = y.cur ∧ y.up = true ∧ y.constsOk = ok ∧ y.selected = itsSelectReset := by
  set z := (x.started ok).note 0x30 (x.started ok).cur.cycles 0 with hz
  have hnote : (x.started ok).LogOnly z := Its.note_only ..
  have hcore (w : Its) (hw : x.saved.TakenOver w.cur ∧ w.up = true ∧ w.constsOk = ok ∧ w.selected = itsSelectReset) :
      let y := if ok then w else w.note 0x22 0 0x1FF
      x.saved.TakenOver y.cur ∧ y.up = true ∧ y.constsOk = ok ∧ y.selected = itsSelectReset := by
    intro y
    have hy : w.LogOnly y := by
      simp only [y]
      split
      · exact .refl w
      · exact Its.note_only ..
    obtain ⟨_, _, _, hy⟩ := hy
    rw [hy]
    exact hw
  have hdrained : let w := if x.orderly then z else z.voidAll.endInterval 0
      x.saved.TakenOver w.cur ∧ w.up = true ∧ w.constsOk = ok ∧ w.selected = itsSelectReset := by
    obtain ⟨_, _, _, hnote⟩ := hnote
    split
    · rw [hnote]
      exact ⟨⟨rfl, rfl, rfl, fun _ => ⟨rfl, rfl⟩⟩, rfl, rfl, rfl⟩
    · obtain ⟨_, _, _, hend⟩ := z.voidAll.endInterval_only 0
      rw [hend, hnote]
      refine ⟨⟨rfl, rfl, rfl, fun c => ?_⟩, rfl, rfl, rfl⟩
      simp [Its.begun, Its.voidAll, ItsChan.begun, Its.started]
  obtain ⟨htaken, hup, hok, hsel⟩ := hcore _ hdrained
  exact ⟨htaken, rfl, hup, hok, hsel⟩

/-- At power-up register 0 is selected on channel 0 and register 32 on the others (R178). -/
theorem itsSelectReset_get (c : Fin 9) : itsSelectReset[c] = if c = 0 then 0 else 32 := by
  revert c
  decide

/-! ## The link and the seal (R30, R188) -/

theorem Its.linkLost_leaves (x : Its) {ms : Nat} (hup : x.up = true) (hl : x.linkUp = true) (hms : 10 < ms) :
    x.linkLost ms = { x.note 0x13 ms 0 with linkUp := false, cur := { x.cur with link := true } } := by
  simp [Its.linkLost, hup, hl, hms]

theorem Its.linkBack_leaves (x : Its) (ms : Nat) (hup : x.up = true) (hl : x.linkUp = false) :
    x.linkBack ms = { x.note 0x14 ms 0 with linkUp := true } := by
  simp [Its.linkBack, hup, hl]

/-- Itsal with its seal just opened, before that is logged. -/
def Its.unsealed (x : Its) : Its :=
  { x with sealOpen := true, cur := { x.cur with seals := x.cur.seals + 1, cal := true } }

theorem Its.sealBreak_leaves (x : Its) (hup : x.up = true) (hs : x.sealOpen = false) :
    x.sealBreak = x.unsealed.note 0x20 (x.cur.seals + 1) x.cur.cals := by
  simp [Its.sealBreak, Its.unsealed, hup, hs]

theorem Its.sealShut_leaves (x : Its) (hup : x.up = true) (hs : x.sealOpen = true) :
    x.sealShut = { x.note 0x21 x.cur.seals x.cur.cals with sealOpen := false } := by
  simp [Its.sealShut, hup, hs]

/-! ## The calibration port (R189, R190) -/

section
variable {x : Its} {cmd ch : Nat} {v : BitVec 32} {crc : BitVec 16} {f : Fin 9 → Its}

/-- With the seal closed a request is not answered. -/
theorem Its.request_sealed (h : x.sealOpen = false) : x.request cmd ch v crc f = x := by
  simp [Its.request, h]

theorem Its.request_badCrc (hup : x.up = true) (hs : x.sealOpen = true) (hc : crc16 (calRequest cmd ch v) ≠ crc.toNat) :
    x.request cmd ch v crc f = x.answer 2 0 := by
  simp [Its.request, hup, hs, hc]

/-- A good request reaches its channel. -/
theorem Its.request_good (c : Fin 9) (hup : x.up = true) (hs : x.sealOpen = true)
    (hc : crc16 (calRequest cmd c v) = crc.toNat) : x.request cmd c v crc f = f c := by
  simp [Its.request, hup, hs, hc]

end

/-- The rows of the calibration port with their command bytes. -/
def calRows (ch : Nat) (mean : Int) (v : BitVec 32) (crc : BitVec 16) : List (Nat × Instr) :=
  [(1, .readI ch v mean crc), (2, .readV ch v mean crc), (3, .setIGain ch v crc), (4, .setIOfs ch v crc),
   (5, .setVGain ch v crc), (6, .setVOfs ch v crc), (7, .commit ch v crc), (8, .readConst ch v crc)]

/-- Every row of the port is a request by its command byte. -/
theorem exec_calRows {ch : Nat} {mean : Int} {v : BitVec 32} {crc : BitVec 16} {c : Nat × Instr}
    (h : c ∈ calRows ch mean v crc) (s : State) :
    ∃ f, exec c.2 s = .next { s with its := s.its.request c.1 ch v crc f } := by
  simp only [calRows, List.mem_cons, List.not_mem_nil, or_false] at h
  rcases h with rfl | rfl | rfl | rfl | rfl | rfl | rfl | rfl <;> exact ⟨_, rfl⟩

/-- The offset that a request carries is the signed reading of its value. -/
theorem signed_toNat (v : BitVec 32) : signed 32 v.toNat = v.toInt := by
  have := v.isLt
  rw [signed, BitVec.toInt]
  split <;> split <;> omega

/-- A request that sets a constant stages it and echoes the value. -/
theorem Its.setConst_good (x : Its) (c : Fin 9) (i : Fin 4) (v : BitVec 32) (crc : BitVec 16) (hup : x.up = true)
    (hs : x.sealOpen = true) (hc : crc16 (calRequest (3 + i) c v) = crc.toNat) :
    x.setConst c i v crc =
      { x with staged := x.staged.set c (x.staged[c].set i (constOf i v)), reply := calReply 0 v.toNat } :=
  Its.request_good c hup hs hc

theorem Its.commitConsts_good (x : Its) (c : Fin 9) (v : BitVec 32) (crc : BitVec 16) (hup : x.up = true)
    (hs : x.sealOpen = true) (hc : crc16 (calRequest 7 c v) = crc.toNat) :
    x.commitConsts c v crc =
      if constsLegal c x.staged[c] = true then
        let n := x.cur.cals + b2n (x.staged[c] != x.cur.consts[c])
        { x with cur := { x.cur with consts := x.cur.consts.set c x.staged[c], cals := n },
                 saved := { x.saved with consts := x.saved.consts.set c x.staged[c], cals := n },
                 constsOk := true, reply := calReply 0 n }
      else { x with reply := calReply 1 x.cur.cals } := by
  have hn : (if x.staged[c] = x.cur.consts[c] then x.cur.cals else x.cur.cals + 1) =
      x.cur.cals + b2n (x.staged[c] != x.cur.consts[c]) := by
    by_cases h : x.staged[c] = x.cur.consts[c]
    · rw [if_pos h, h, bne_self_eq_false]
      rfl
    · rw [if_neg h, bne_iff_ne.mpr h]
      rfl
  rw [Its.commitConsts, Its.request_good c hup hs hc]
  cases hl : constsLegal c x.staged[c] with
  | false => simp only [hl, Bool.not_false, Bool.false_eq_true, if_true, if_false, Its.answer]
  | true => simp only [hl, hn, Bool.not_true, Bool.false_eq_true, if_false, if_true, Its.answer]

theorem Its.readConst_good (x : Its) (c : Fin 9) (i : Fin 4) (v : BitVec 32) (crc : BitVec 16) (hup : x.up = true)
    (hs : x.sealOpen = true) (hc : crc16 (calRequest 8 c v) = crc.toNat) (hi : v.toNat = i) :
    x.readConst c v crc = { x with reply := calReply 0 (unsignedOf 32 (x.cur.consts[c][i])) } := by
  rw [Its.readConst, Its.request_good c hup hs hc]
  simp [hi, Its.answer]

end Sys2Proof.Machine

open Sys2Proof Sys2Proof.Machine

/-- Settles O30: appending to the log changes the log alone, and so the end of an interval, the link and the seal change just
what they name; a row of the calibration port is a request, which a closed seal, a bad CRC and a good one decide. -/
theorem itsalKeepsItsTotalsOverPowerLossAndSealsItsConstants :
    Obligations.ItsalKeepsItsTotalsOverPowerLossAndSealsItsConstants := by
  unfold Obligations.ItsalKeepsItsTotalsOverPowerLossAndSealsItsConstants
  intro s ms ok ch mean v crc x logs only good port sets
  have hsets (c : Instr) (i : Fin 4) (w : Int) (hup : x.up = true) (hs : x.sealOpen = true)
      (hc : exec c s = .next { s with its := x.setConst ch i v crc }) (hw : constOf i v = w) : sets c i w := fun hg =>
    answers_its _ hc (x.setConst_good ch i v crc hup hs hg) ⟨by rw [← hw], rfl⟩
  refine ⟨fun hup => ?_, fun hup => ?_, ?_, fun hup hl hms => ?_, fun hup hl => ?_, fun hup hs => ?_, fun hup hs => ?_,
    fun c hc => ?_, fun hup hs => ⟨fun c hc hg => ?_, hsets _ 0 _ hup hs rfl rfl, hsets _ 1 _ hup hs rfl (signed_toNat v),
    hsets _ 2 _ hup hs rfl rfl, hsets _ 3 _ hup hs rfl (signed_toNat v), fun i hg hi => ?_, fun hg hl => ?_, fun hg hl => ?_⟩⟩
  · exact answers_its (if x.up then { x with saved := x.cur } else x) rfl (if_pos hup) ⟨rfl, rfl⟩
  · obtain ⟨hoff, hcur, hsaved, hsw, hal⟩ := x.powerDown_leaves hup
    refine answers_its x.powerDown rfl rfl ⟨hoff, hsaved, fun c => ?_, ?_, ?_, hsw, hal, rfl⟩
    · show x.powerDown.cur.chans[c].fwd = _ ∧ x.powerDown.cur.chans[c].rev = _ ∧ x.powerDown.cur.chans[c].regs = _
      simp [hcur, Its.begun, ItsChan.begun]
    all_goals
      simp only [hcur]
      rfl
  · obtain ⟨⟨hcycles, hms, hconsts, htotals⟩, hsaved, hup, hok, hsel⟩ := x.powerUp_leaves ok
    have hselect (c : Fin 9) : (x.powerUp ok).selected[c] = if c = 0 then 0 else 32 := by rw [hsel, itsSelectReset_get]
    exact answers_its (x.powerUp ok) rfl rfl
      ⟨hup, hcycles, hsaved, hms, hconsts, hok, fun c => ⟨(htotals c).1, (htotals c).2, hselect c⟩, rfl⟩
  · exact answers_its (x.linkLost ms) rfl (x.linkLost_leaves hup hl hms)
      ⟨rfl, rfl, x.note_head 0x13 ms 0, rfl⟩
  · have hlog := x.note_only 0x14 ms 0
    exact answers_its (x.linkBack ms) rfl (x.linkBack_leaves ms hup hl)
      ⟨rfl, hlog.cur, x.note_head 0x14 ms 0, rfl⟩
  · have hlog := x.unsealed.note_only 0x20 (x.cur.seals + 1) x.cur.cals
    exact answers_its x.sealBreak rfl (x.sealBreak_leaves hup hs)
      ⟨hlog.sealOpen, hlog.cur, x.unsealed.note_head 0x20 (x.cur.seals + 1) x.cur.cals, rfl⟩
  · have hlog := x.note_only 0x21 x.cur.seals x.cur.cals
    exact answers_its x.sealShut rfl (x.sealShut_leaves hup hs)
      ⟨rfl, hlog.cur, x.note_head 0x21 x.cur.seals x.cur.cals, rfl⟩
  · obtain ⟨f, hf⟩ := exec_calRows hc s
    exact ⟨fun hs => by rw [hf, Its.request_sealed hs], fun hup hs hg =>
      answers_its _ hf (Its.request_badCrc hup hs hg) ⟨rfl, rfl⟩⟩
  · have hmean : ∀ c ∈ port.take 2, exec c.2 s = .next { s with its := x.readMean c.1 ch v mean crc } := by
      simp only [port, List.take_succ_cons, List.take_zero, List.forall_mem_cons, List.not_mem_nil, false_imp_iff,
        implies_true, and_true]
      exact ⟨rfl, rfl⟩
    exact answers_its _ (hmean c hc) (Its.request_good ch hup hs hg) ⟨rfl, rfl⟩
  · exact answers_its (x.readConst ch v crc) rfl (x.readConst_good ch i v crc hup hs hg hi) ⟨rfl, rfl⟩
  · exact answers_its (x.commitConsts ch v crc) rfl ((x.commitConsts_good ch v crc hup hs hg).trans (if_pos hl)) ⟨rfl, rfl⟩
  · exact answers_its (x.commitConsts ch v crc) rfl
      ((x.commitConsts_good ch v crc hup hs hg).trans (if_neg (Bool.eq_false_iff.mp hl))) ⟨rfl, rfl⟩

end

section
/-!
SUPPORT. Bits and flags after a write, and the frame of a write to a field.
-/
namespace Sys2Proof.Machine

/-! ## Bits and flags -/

theorem bitOf_eq_testBit (v i : Nat) : bitOf v i = v.testBit i := by
  rw [bitOf, Nat.testBit_eq_decide_div_mod_eq]
  rfl

/-- A set bit is set. -/
theorem bitOf_setBit_same (v i : Nat) : bitOf (setBit v i) i = true := by
  unfold setBit
  split
  · assumption
  · next h =>
    rw [bitOf_eq_testBit] at h ⊢
    rw [Nat.add_comm, Nat.testBit_two_pow_add_eq]
    simpa using h

theorem bitOf_putBit_same (v i : Nat) (b : Bool) : bitOf (putBit v i b) i = b := by
  cases b with
  | true => exact bitOf_setBit_same v i
  | false => exact bitOf_clrBit v i

variable {s t : State}

/-- A flag that was set or cleared reads so. -/
theorem State.flag_setB_same (s : State) (f : Fd) (b : Bool) (h : f.hi < 32) (hl : f.lo ≤ f.hi) :
    ((Act.setB f b).run s).flag f = b := by
  have hs : 2 ≤ fldSize f.hi f.lo := by
    rw [fldSize, show f.hi + 1 - f.lo = f.hi - f.lo + 1 by omega, Nat.pow_succ]
    have := Nat.two_pow_pos (f.hi - f.lo)
    omega
  rw [State.flag, Act.setB, State.fld_setF_same _ _ _ h hl, Nat.mod_eq_of_lt (by cases b <;> simp [b2n] <;> omega)]
  cases b <;> rfl

/-- Bit i of a field reads as it was put. -/
theorem State.bit_setFBit_same (s : State) (f : Fd) (i : Nat) (b : Bool) (h : f.hi < 32) (hi : f.lo + i ≤ f.hi) :
    bitOf (((Act.setFBit f i b).run s).fld f) i = b := by
  rw [Act.setFBit, Act.run_get, State.fld_setF_same _ _ _ h (by omega), fldSize, bitOf_mod _ _ _ (by omega), bitOf_putBit_same]

theorem State.flag_of_fld {f : Fd} (h : t.fld f = s.fld f) : t.flag f = s.flag f := by rw [State.flag, State.flag, h]

theorem State.fld_of_csr (h : t.csr = s.csr) (f : Fd) : t.fld f = s.fld f := by
  rw [State.fld, State.fld, State.reg, State.reg, h]

theorem State.flag_of_csr (h : t.csr = s.csr) (f : Fd) : t.flag f = s.flag f := State.flag_of_fld (State.fld_of_csr h f)

/-- A field that a count was added to. -/
theorem State.fld_bump_same (s : State) (f : Fd) (h : f.hi < 32) (hl : f.lo ≤ f.hi) :
    ((Act.bump f).run s).fld f = countedUp s f 1 := State.fld_addF_same s f 1 h hl

/-! ## The fields that a write keeps -/

theorem Fd.apart_iff {f g : Fd} : f.apart g = true ↔ f.off ≠ g.off ∨ f.hi < g.lo ∨ g.hi < f.lo := by
  simp [Fd.apart, or_assoc]

theorem Fd.apart_of_off {f g : Fd} (h : f.off ≠ g.off) : f.apart g = true := Fd.apart_iff.mpr (.inl h)

end Sys2Proof.Machine

namespace Sys2Proof
open Machine

variable {s t : State}

theorem FldsKept.fld {l : List Fd} (h : FldsKept l s t) {f : Fd} (hf : ∀ g ∈ l, f.apart g = true) : t.fld f = s.fld f :=
  h f fun g hg => Fd.apart_iff.mp (hf g hg)

theorem FldsKept.flag {l : List Fd} (h : FldsKept l s t) {f : Fd} (hf : ∀ g ∈ l, f.apart g = true) : t.flag f = s.flag f :=
  State.flag_of_fld (h.fld hf)

theorem FldsKept.of_csr {l : List Fd} (h : t.csr = s.csr) : FldsKept l s t := fun f _ => State.fld_of_csr h f

theorem FldsKept.frame {l : List Fd} : FrameRel (FldsKept l) where
  refl _ _ _ := rfl
  trans h g f hf := (g f hf).trans (h f hf)

theorem FldsKept.mono {l l' : List Fd} (h : FldsKept l s t) (hl : ∀ g ∈ l, g ∈ l') : FldsKept l' s t := fun f hf =>
  h f fun g hg => hf g (hl g hg)

theorem FldsKept.setF {l : List Fd} {f : Fd} {x : Nat} (hf : f ∈ l) (h : f.hi < 32) (hl : f.lo ≤ f.hi) :
    (Act.setF f x).Within (FldsKept l) := fun s g hg =>
  State.fld_setF_other s f g x h hl (Fd.apart_iff.mpr (by have := hg f hf; tauto))

theorem FldsKept.setFBit {l : List Fd} {f : Fd} {i : Nat} {b : Bool} (hf : f ∈ l) (h : f.hi < 32) (hl : f.lo ≤ f.hi) :
    (Act.setFBit f i b).Within (FldsKept l) := .get fun _ => setF hf h hl

theorem FldsKept.bump {l : List Fd} {f : Fd} (hf : f ∈ l) (h : f.hi < 32) (hl : f.lo ≤ f.hi) :
    (Act.bump f).Within (FldsKept l) := .get fun _ => setF hf h hl

end Sys2Proof
end

section
/-!
SUPPORT. The command port of Itsal: what a write of it does, what its pump keeps, and what Itsal takes (R27, R181, R182, R185,
R196).
-/
namespace Sys2Proof.Machine

/-! ## Writes of fields around changes of Itsal, for any field -/

theorem Act.setF_its (f : Fd) (n : Nat) (s : State) : ((Act.setF f n).run s).its = s.its := rfl

theorem Act.raiseLine_csr (k : Fin 13) (i : Nat) (s : State) : ((Act.raiseLine k i).run s).csr = s.csr := rfl

theorem Act.setF_csrOnly (f : Fd) (n : Nat) (s : State) :
    (Act.setF f n).run s = { s with csr := ((Act.setF f n).run s).csr } := rfl

theorem Act.setF_bump_csrOnly (f g : Fd) (n : Nat) (s : State) :
    (Act.bump g).run ((Act.setF f n).run s) = { s with csr := ((Act.bump g).run ((Act.setF f n).run s)).csr } := rfl

theorem Act.setF_setF_csrOnly (f g : Fd) (n m : Nat) (s : State) :
    (Act.setF g m).run ((Act.setF f n).run s) = { s with csr := ((Act.setF g m).run ((Act.setF f n).run s)).csr } := rfl

/-- Two fields are written and Itsal changes. -/
theorem Act.setF_setB_itsx (f g : Fd) (n : Nat) (b : Bool) (h : Its → Its) (s : State) :
    (Act.seq [Act.setF f n, Act.setB g b, Act.itsx h]).run s =
      { (Act.setB g b).run ((Act.setF f n).run s) with its := h s.its } := rfl

/-- Itsal changes, two fields are written and a line is raised. -/
theorem Act.itsx_setF_setB_raiseLine_parts (h : Its → Its) (f g : Fd) (n : Nat) (b : Bool) (k : Fin 13) (i : Nat)
    (s : State) : let t := (Act.raiseLine k i).run ((Act.setB g b).run ((Act.setF f n).run ((Act.itsx h).run s)))
    t.its = h s.its ∧ t = { s with csr := t.csr, its := t.its, cores := t.cores } := ⟨rfl, rfl⟩

/-! ## The registers of the port (R196) -/

/-- The fields of core k's port. -/
def portFlds (k : Fin 13) : List Fd :=
  [F.SYS_ITS_STAT.status k, F.SYS_ITS_STAT.busy k, F.SYS_ITS_STAT.refused k, F.SYS_ITS_ARG.arg k]

/-- Of the state nothing but core k's port and the commands that are queued or in flight differs. -/
def PortOnly (k : Fin 13) (s t : State) : Prop :=
  (∃ csr queue flying, t = { s with csr := csr, its := { s.its with queue := queue, flying := flying } }) ∧
    FldsKept (portFlds k) s t

theorem PortOnly.frame {k : Fin 13} : FrameRel (PortOnly k) where
  refl s := ⟨⟨s.csr, s.its.queue, s.its.flying, rfl⟩, FldsKept.frame.refl s⟩
  trans := by
    rintro s _ _ ⟨⟨_, _, _, rfl⟩, h1⟩ ⟨⟨_, _, _, rfl⟩, h2⟩
    exact ⟨⟨_, _, _, rfl⟩, FldsKept.frame.trans h1 h2⟩

theorem PortOnly.core {k j : Fin 13} {s t : State} (h : PortOnly k s t) : t.core j = s.core j := by
  obtain ⟨⟨_, _, _, rfl⟩, -⟩ := h
  rfl

variable {k : Fin 13} {s : State}

theorem PortOnly.setF {f : Fd} {x : Nat} (hf : f ∈ portFlds k) (h : f.hi < 32) (hl : f.lo ≤ f.hi) :
    (Act.setF f x).Within (PortOnly k) := fun s =>
  ⟨⟨_, s.its.queue, s.its.flying, rfl⟩, FldsKept.setF hf h hl s⟩

theorem PortOnly.status {x : Nat} : (Act.setF (F.SYS_ITS_STAT.status k) x).Within (PortOnly k) :=
  setF (by simp [portFlds]) (by simp) (by simp)

/-! ## A write of SYS_ITS_CMD -/

theorem PortOnly.itsWrite {modeP : Bool} {word : Nat} : (Act.itsWrite k modeP word).Within (PortOnly k) := by
  refine .get fun s => .ite (fun _ => status) fun _ => .ite (fun _ => frame.andThen status ?_) fun _ =>
    .ite (fun _ => status) fun _ => frame.seq ?_
  · exact .get fun _ => setF (by simp [portFlds]) (by simp) (by simp)
  · simp only [List.forall_mem_cons, List.not_mem_nil, false_imp_iff, implies_true, and_true]
    exact ⟨status, setF (by simp [portFlds]) (by simp) (by simp),
      fun t => ⟨⟨t.csr, t.its.queue, _, rfl⟩, FldsKept.of_csr rfl⟩⟩

/-- On a busy port only the status says that a write overran. -/
theorem Act.itsWrite_busy (modeP : Bool) (word : Nat) (hb : s.flag (F.SYS_ITS_STAT.busy k) = true) :
    (Act.itsWrite k modeP word).run s = (Act.setF (F.SYS_ITS_STAT.status k) 4).run s := by
  simp [Act.itsWrite, hb]

/-- A write that the core may not make is refused, and counted. -/
theorem Act.itsWrite_refused (modeP : Bool) (word : Nat) (hb : s.flag (F.SYS_ITS_STAT.busy k) = false)
    (hm : s.itsMay k modeP word = false) : let t := (Act.itsWrite k modeP word).run s
    t.fld (F.SYS_ITS_STAT.status k) = 3 ∧
      t.fld (F.SYS_ITS_STAT.refused k) = countedUp s (F.SYS_ITS_STAT.refused k) 1 ∧
      FldsKept [F.SYS_ITS_STAT.status k, F.SYS_ITS_STAT.refused k] s t ∧ t = { s with csr := t.csr } := by
  intro t
  set u := (Act.setF (F.SYS_ITS_STAT.status k) 3).run s with hu
  have ht : t = (Act.bump (F.SYS_ITS_STAT.refused k)).run u := by
    simp only [t]
    rw [Act.itsWrite, Act.run_get, if_neg (Bool.eq_false_iff.mp hb), if_pos (by simp [hm]), Act.run_andThen]
  have hstat : FldsKept [F.SYS_ITS_STAT.status k] s u := FldsKept.setF (by simp) (by simp) (by simp) s
  have hrefused : FldsKept [F.SYS_ITS_STAT.refused k] u t := ht ▸ FldsKept.bump (by simp) (by simp) (by simp) u
  refine ⟨?_, ?_, FldsKept.frame.trans (hstat.mono (by simp)) (hrefused.mono (by simp)), ?_⟩
  · rw [hrefused.fld (by simp [Fd.apart]), hu, State.fld_setF_same _ _ _ (by simp) (by simp)]
    rfl
  · rw [ht, State.fld_bump_same _ _ (by simp) (by simp), countedUp, countedUp, hstat.fld (by simp [Fd.apart])]
  · rw [ht, hu, ← Act.setF_bump_csrOnly]

theorem Act.itsWrite_down (modeP : Bool) (word : Nat) (hb : s.flag (F.SYS_ITS_STAT.busy k) = false)
    (hm : s.itsMay k modeP word = true) (hl : s.its.linkUp = false ∨ s.its.up = false) :
    (Act.itsWrite k modeP word).run s = (Act.setF (F.SYS_ITS_STAT.status k) 5).run s := by
  rcases hl with hl | hl <;> simp [Act.itsWrite, hb, hm, hl]

/-- A command that may be sent on a free port, the link up, is in flight with the port's argument; the port is busy with
status 0, and nothing else of it changes. -/
theorem Act.itsWrite_sent (modeP : Bool) (word : Nat) (hb : s.flag (F.SYS_ITS_STAT.busy k) = false)
    (hm : s.itsMay k modeP word = true) (hl : s.its.linkUp = true) (hu : s.its.up = true) :
    let t := (Act.itsWrite k modeP word).run s
    t.fld (F.SYS_ITS_STAT.status k) = 0 ∧ t.flag (F.SYS_ITS_STAT.busy k) = true ∧
      FldsKept [F.SYS_ITS_STAT.status k, F.SYS_ITS_STAT.busy k] s t ∧
      t = { s with csr := t.csr,
                   its := { s.its with flying := s.its.flying ++ [(k.val, word % 65536, s.fld (F.SYS_ITS_ARG.arg k))] } } := by
  intro t
  set u := (Act.setF (F.SYS_ITS_STAT.status k) 0).run s with hu'
  set v := (Act.setB (F.SYS_ITS_STAT.busy k) true).run u with hv
  have ht : t = { v with
      its := { s.its with flying := s.its.flying ++ [(k.val, word % 65536, s.fld (F.SYS_ITS_ARG.arg k))] } } := by
    simp only [t]
    rw [Act.itsWrite, Act.run_get, if_neg (Bool.eq_false_iff.mp hb), if_neg (by simp [hm]), if_neg (by simp [hl, hu]),
      Act.setF_setB_itsx]
  have hcsr : t.csr = v.csr := by rw [ht]
  obtain ⟨csr, hv'⟩ : ∃ csr, v = { s with csr := csr } := ⟨_, Act.setF_setF_csrOnly _ _ _ _ _⟩
  refine ⟨?_, ?_, ?_, ?_⟩
  · rw [State.fld_of_csr hcsr, hv, Act.setB, State.fld_setF_other _ _ _ _ (by simp) (by simp) (by simp [Fd.apart]), hu',
      State.fld_setF_same _ _ _ (by simp) (by simp), Nat.zero_mod]
  · rw [State.flag_of_csr hcsr, hv, State.flag_setB_same _ _ _ (by simp) (by simp)]
  · have hstat : FldsKept [F.SYS_ITS_STAT.status k, F.SYS_ITS_STAT.busy k] s u :=
      FldsKept.setF (by simp) (by simp) (by simp) s
    have hbusy : FldsKept [F.SYS_ITS_STAT.status k, F.SYS_ITS_STAT.busy k] u v :=
      FldsKept.setF (by simp) (by simp) (by simp) u
    exact FldsKept.frame.trans (FldsKept.frame.trans hstat hbusy) (FldsKept.of_csr hcsr)
  · rw [ht, hv']

/-- A row of a core that runs is a write of its port. -/
theorem Act.itsPort_alive (h : Alive s k) (word : Nat) :
    (Act.itsPort k word).run s = (Act.itsWrite k (s.core k).p word).run s := by
  obtain ⟨hp, hk⟩ := h
  simp [Act.itsPort, hp, hk]

/-! ## The pump (R196) -/

/-- Firmware sends one command that waits for the port, where the port is free. -/
def Act.itsSend (k : Fin 13) (c : Nat × Nat × Nat) : Act :=
  Act.get fun s => Act.when (!s.flag (F.SYS_ITS_STAT.busy k)) (Act.seq [
    Act.itsx fun x => { x with queue := x.queue.erase c },
    Act.setF (F.SYS_ITS_ARG.arg k) c.2.2,
    Act.itsWrite k false c.2.1])

theorem Act.itsPump_run (k : Fin 13) (s : State) :
    (Act.itsPump k).run s = (Act.each (s.its.queue.filter fun c => c.1 = k.val) (Act.itsSend k)).run s := rfl

theorem PortOnly.itsSend {c : Nat × Nat × Nat} : (Act.itsSend k c).Within (PortOnly k) := by
  refine .get fun s => frame.when fun _ => frame.seq ?_
  simp only [List.forall_mem_cons, List.not_mem_nil, false_imp_iff, implies_true, and_true]
  exact ⟨fun t => ⟨⟨t.csr, _, t.its.flying, rfl⟩, FldsKept.of_csr rfl⟩, setF (by simp [portFlds]) (by simp) (by simp),
    itsWrite⟩

theorem PortOnly.itsPump : (Act.itsPump k).Within (PortOnly k) := .get fun _ => frame.each fun _ _ => itsSend

/-- While a command is in flight the rest wait. -/
theorem Act.itsSends_busy (l : List (Nat × Nat × Nat)) (h : s.flag (F.SYS_ITS_STAT.busy k) = true) :
    (Act.each l (Act.itsSend k)).run s = s := by
  refine Act.each_induct (· = s) _ l s (fun c _ t ht => ?_) rfl
  subst ht
  simp [Act.itsSend, h]

theorem State.slotCore_of_fields {l : List Fd} {s t : State} (h : FldsKept l s t) (hl : ∀ g ∈ l, R.RST_SLOT_MAP ≠ g.off)
    (n : Nat) : t.slotCore n = s.slotCore n :=
  h.fld (f := ⟨R.RST_SLOT_MAP, 4 * n + 3, 4 * n⟩) fun _ hg => Fd.apart_of_off (hl _ hg)

theorem State.itsMay_of_slots {s t : State} (h : ∀ n, t.slotCore n = s.slotCore n) : t.itsMay k = s.itsMay k := by
  funext modeP word
  simp only [State.itsMay, h]

/-- Where nothing waits for the port the pump does nothing. -/
theorem Act.itsPump_idle (h : (s.its.queue.find? fun c => c.1 = k.val) = none) : (Act.itsPump k).run s = s := by
  rw [Act.itsPump_run, List.filter_eq_nil_iff.mpr (List.find?_eq_none.mp h)]
  rfl

/-- The pump sends the first command that waits for a free port, if it may be sent and the link is up. -/
theorem Act.itsPump_sent {d : Nat × Nat × Nat} (hd : (s.its.queue.find? fun c => c.1 = k.val) = some d)
    (hb : s.flag (F.SYS_ITS_STAT.busy k) = false) (hm : s.itsMay k false d.2.1 = true) (hl : s.its.linkUp = true)
    (hu : s.its.up = true) : let t := (Act.itsPump k).run s
    t.its.flying = s.its.flying ++ [(k.val, d.2.1 % 65536, d.2.2 % 2 ^ 32)] ∧ t.its.queue = s.its.queue.erase d ∧
      t.flag (F.SYS_ITS_STAT.busy k) = true := by
  obtain ⟨rest, hq⟩ : ∃ rest, (s.its.queue.filter fun c => c.1 = k.val) = d :: rest := by
    rw [← List.head?_filter] at hd
    exact ⟨_, (List.cons_head?_tail hd).symm⟩
  set v := (Act.setF (F.SYS_ITS_ARG.arg k) d.2.2).run
    ((Act.itsx fun x => { x with queue := x.queue.erase d }).run s) with hv
  have hkept : FldsKept [F.SYS_ITS_ARG.arg k] s v :=
    FldsKept.frame.trans (FldsKept.of_csr rfl) (FldsKept.setF (by simp) (by simp) (by simp) _)
  have hbusy : v.flag (F.SYS_ITS_STAT.busy k) = false := (hkept.flag (by simp [Fd.apart])).trans hb
  have hslots (n : Nat) : v.slotCore n = s.slotCore n :=
    State.slotCore_of_fields hkept (by simp [F.SYS_ITS_ARG.arg, R.RST_SLOT_MAP, R.SYS_ITS_ARG]; omega) n
  have harg : v.fld (F.SYS_ITS_ARG.arg k) = d.2.2 % 2 ^ 32 := State.fld_setF_same _ _ _ (by simp) (by simp)
  have hsend : (Act.itsSend k d).run s = (Act.itsWrite k false d.2.1).run v := by
    rw [Act.itsSend, Act.run_get, hb, Bool.not_false, Act.run_when, if_pos rfl, Act.run_seq_cons, Act.run_seq_cons,
      Act.run_seq_cons, Act.run_seq_nil]
  have hits : v.its = { s.its with queue := s.its.queue.erase d } := Act.setF_its _ _ _
  obtain ⟨-, hset, -, hsent⟩ := Act.itsWrite_sent false d.2.1 hbusy (by rw [State.itsMay_of_slots hslots]; exact hm)
    (by rw [hits]; exact hl) (by rw [hits]; exact hu)
  have hflag : ((Act.itsSend k d).run s).flag (F.SYS_ITS_STAT.busy k) = true := by rw [hsend, hset]
  intro t
  have ht : t = (Act.itsSend k d).run s := by
    simp only [t]
    rw [Act.itsPump_run, hq, Act.run_each_cons, Act.itsSends_busy rest hflag]
  refine ⟨?_, ?_, ht ▸ hflag⟩
  · rw [ht, hsend, hsent, harg, hits]
  · rw [ht, hsend, hsent, hits]

/-! ## What Itsal takes (R27, R181, R182, R185) -/

theorem Its.take_discarded (x : Its) (t : Nat) {word arg : Nat} (h : itsDiscards word arg = true) :
    Its.LogOnly { x with cur := { x.cur with discards := min (x.cur.discards + 1) 0xFFFFFFFF } } (x.take t word arg) := by
  rw [Its.take, if_pos h]
  exact Its.note_only ..

/-- A switch that Itsal accepts waits, whatever older ones it stands for. -/
theorem Its.switch_waits (x : Its) (ch reg strobe : Nat) (passed : Bool) :
    ∃ sw, Its.LogOnly { x with switches := sw } (x.switch ch reg strobe passed) ∧ (ch, strobe, reg, passed) ∈ sw := by
  obtain ⟨_, _, _, hlog⟩ := Its.LogOnly.foldl (f := fun y (w : Nat × Nat × Nat × Bool) => y.put 0x11 ch 0xFF 0 strobe w.2.2.1)
    (fun y w => y.logFor_only ..) (x.switches.filter fun w => w.1 = ch && w.2.1 = strobe) x
  refine ⟨(x.switches.filter fun w => !(w.1 = ch && w.2.1 = strobe)) ++ [(ch, strobe, reg, passed)], ?_,
    List.mem_append_right _ (List.mem_singleton_self _)⟩
  rw [Its.switch, hlog]
  exact ⟨_, _, _, rfl⟩

/-- What Itsal keeps of a command that it accepts, by its operation. -/
theorem Its.take_accepted (x : Its) (t : Nat) {word arg : Nat} (h : itsDiscards word arg = false) :
    ∃ sw len al fe, Its.LogOnly { x with switches := sw, newLen := len, align := al, fetch := fe } (x.take t word arg) ∧
      (word / 2 ^ 12 % 16 = 1 → (word / 2 ^ 8 % 16, arg, word % 64, !ahead arg t) ∈ sw) ∧
      (word / 2 ^ 12 % 16 = 2 → len = some arg) ∧ (word / 2 ^ 12 % 16 = 3 → al = some (arg, !ahead arg t)) ∧
      (word / 2 ^ 12 % 16 = 4 → fe = arg) := by
  rw [Its.take, if_neg (Bool.eq_false_iff.mp h)]
  generalize word / 2 ^ 12 % 16 = op
  dsimp only
  split_ifs with h1 h2 h3
  · obtain ⟨sw, hsw, hmem⟩ := x.switch_waits (word / 2 ^ 8 % 16) (word % 64) arg (!ahead arg t)
    exact ⟨sw, x.newLen, x.align, x.fetch, hsw, fun _ => hmem, by omega, by omega, by omega⟩
  · obtain ⟨_, _, _, hlog⟩ := x.note_only 0x33 0 arg
    refine ⟨x.switches, some arg, x.align, x.fetch, ?_, by omega, fun _ => rfl, by omega, by omega⟩
    rw [hlog]
    exact ⟨_, _, _, rfl⟩
  · exact ⟨x.switches, x.newLen, _, x.fetch, .refl _, by omega, by omega, fun _ => rfl, by omega⟩
  · exact ⟨x.switches, x.newLen, x.align, arg, .refl _, by omega, by omega, by omega, fun _ => rfl⟩

/-- What a command does not touch, whether Itsal takes it or discards it. -/
theorem Its.take_keeps (x : Its) (t word arg : Nat) :
    (x.take t word arg).up = x.up ∧ (x.take t word arg).linkUp = x.linkUp ∧ (x.take t word arg).queue = x.queue := by
  cases h : itsDiscards word arg with
  | true =>
    obtain ⟨_, _, _, hy⟩ := x.take_discarded t h
    rw [hy]
    exact ⟨rfl, rfl, rfl⟩
  | false =>
    obtain ⟨_, _, _, _, ⟨_, _, _, hy⟩, -⟩ := x.take_accepted t h
    rw [hy]
    exact ⟨rfl, rfl, rfl⟩

/-! ## The answer (R196, R226) -/

theorem itsStatus_lt (word arg strobe : Nat) : itsStatus word arg strobe < 16 := by
  simp only [itsStatus]
  split_ifs <;> omega

/-- The state once Itsal has taken command c of core k and line 8 is raised, before firmware sends what waits. -/
def State.acked (s : State) (k : Fin 13) (c : Nat × Nat × Nat) : State :=
  (Act.raiseLine k 8).run ((Act.setB (F.SYS_ITS_STAT.busy k) false).run
    ((Act.setF (F.SYS_ITS_STAT.status k) (itsStatus c.2.1 c.2.2 s.tns.tick)).run
      ((Act.itsx fun x => { x.take s.tns.tick c.2.1 c.2.2 with flying := x.flying.erase c }).run s)))

theorem Act.itsAck_run {c : Nat × Nat × Nat} (hp : s.powered = true) (hu : s.its.up = true) (hl : s.its.linkUp = true)
    (hc : (s.its.flying.find? fun c => c.1 = k.val) = some c) :
    (Act.itsAck k).run s = (Act.itsPump k).run (s.acked k c) := by
  rw [Act.itsAck, Act.run_get, if_neg (by simp [hp, hu, hl])]
  simp only [hc]
  iterate 5 rw [Act.run_seq_cons]
  rw [Act.run_seq_nil, State.acked]

/-- What of the state an answer changes, and what of Itsal. -/
theorem State.acked_parts (s : State) (k : Fin 13) (c : Nat × Nat × Nat) : let t := s.acked k c
    t.its = { s.its.take s.tns.tick c.2.1 c.2.2 with flying := s.its.flying.erase c } ∧
      t = { s with csr := t.csr, its := t.its, cores := t.cores } :=
  Act.itsx_setF_setB_raiseLine_parts _ _ _ _ _ _ _ _

theorem State.acked_fields (s : State) (k : Fin 13) (c : Nat × Nat × Nat) :
    (s.acked k c).flag (F.SYS_ITS_STAT.busy k) = false ∧
      (s.acked k c).fld (F.SYS_ITS_STAT.status k) = itsStatus c.2.1 c.2.2 s.tns.tick ∧
      FldsKept [F.SYS_ITS_STAT.status k, F.SYS_ITS_STAT.busy k] s (s.acked k c) := by
  set u := (Act.itsx fun x => { x.take s.tns.tick c.2.1 c.2.2 with flying := x.flying.erase c }).run s with hu
  set v := (Act.setF (F.SYS_ITS_STAT.status k) (itsStatus c.2.1 c.2.2 s.tns.tick)).run u with hv
  set w := (Act.setB (F.SYS_ITS_STAT.busy k) false).run v with hw
  have hacked : s.acked k c = (Act.raiseLine k 8).run w := by rw [State.acked]
  have hline : (s.acked k c).csr = w.csr := hacked ▸ Act.raiseLine_csr k 8 w
  have hkept : FldsKept [F.SYS_ITS_STAT.status k, F.SYS_ITS_STAT.busy k] u w :=
    FldsKept.frame.trans (FldsKept.setF (by simp) (by simp) (by simp) u) (FldsKept.setF (by simp) (by simp) (by simp) v)
  refine ⟨?_, ?_, FldsKept.frame.trans (FldsKept.frame.trans (FldsKept.of_csr rfl) hkept) (FldsKept.of_csr hline)⟩
  · exact (State.flag_of_csr hline _).trans (State.flag_setB_same v _ _ (by simp) (by simp))
  · rw [State.fld_of_csr hline, hw, Act.setB, State.fld_setF_other _ _ _ _ (by simp) (by simp) (by simp [Fd.apart]), hv,
      State.fld_setF_same _ _ _ (by simp) (by simp)]
    exact Nat.mod_eq_of_lt (itsStatus_lt ..)

theorem State.acked_line (s : State) (k : Fin 13) (c : Nat × Nat × Nat) : bitOf ((s.acked k c).core k).raised 8 = true := by
  rw [State.acked, Act.raiseLine, Act.core, State.core_putCore, if_pos rfl]
  exact bitOf_setBit_same _ _

end Sys2Proof.Machine

open Sys2Proof Sys2Proof.Machine

/-- Settles O31: a row is a write of the port, whose cases exclude each other; an answer is what Itsal takes and the fields of
the port, and then the pump, which sends the first command that waits, or nothing. -/
theorem itsalCommandsTakeThePortAndAreAnswered : Obligations.ItsalCommandsTakeThePortAndAreAnswered := by
  unfold Obligations.ItsalCommandsTakeThePortAndAreAnswered
  intro s k ch reg hk stat busy rows may
  have hrow : ∀ c ∈ rows, exec c.1 s = .next ((Act.itsWrite k (s.core k).p c.2).run s) ∧ c.2 % 65536 = c.2 := by
    have hport (w : Nat) : (Act.itsPort k w).go s = .next ((Act.itsWrite k (s.core k).p w).run s) := by
      rw [Act.go_eq, Act.itsPort_alive hk]
    have hword : itsWord 1 ch reg % 65536 = itsWord 1 ch reg := by
      simp only [itsWord]
      omega
    intro c hc
    simp only [rows, List.mem_cons, List.not_mem_nil, or_false] at hc
    rcases hc with rfl | rfl | rfl | rfl
    exacts [⟨hport _, hword⟩, ⟨hport (itsWord 2 0 0), rfl⟩, ⟨hport (itsWord 3 0 0), rfl⟩, ⟨hport (itsWord 4 0 0), rfl⟩]
  have hstatus (n : Nat) (hn : n < 16) : let t := (Act.setF stat n).run s
      t.fld stat = n ∧ FldsKept [stat] s t ∧ t = { s with csr := t.csr } :=
    ⟨(State.fld_setF_same s stat n (by simp [stat]) (by simp [stat])).trans (Nat.mod_eq_of_lt hn),
      FldsKept.setF (by simp) (by simp [stat]) (by simp [stat]) s, Act.setF_csrOnly stat n s⟩
  refine ⟨fun c hc => ?_, fun hp c _ => by simp [may, State.itsMay, hp], fun c hu hl hc => ?_⟩
  · obtain ⟨hexec, hword⟩ := hrow c hc
    refine ⟨fun hb => ⟨_, hexec, ?_⟩, fun hb hm => ⟨_, hexec, Act.itsWrite_refused _ _ hb hm⟩, fun hb hm =>
      ⟨fun hd => ⟨_, hexec, ?_⟩, fun hl hu => ⟨_, hexec, ?_⟩⟩⟩
    · rw [Act.itsWrite_busy _ _ hb]
      exact hstatus 4 (by decide)
    · rw [Act.itsWrite_down _ _ hb hm hd]
      exact hstatus 5 (by decide)
    · have hsent := Act.itsWrite_sent (s.core k).p c.2 hb hm hl hu
      rwa [hword] at hsent
  · intro op arg next
    set v := s.acked k c with hv
    obtain ⟨hits, hparts⟩ := s.acked_parts k c
    obtain ⟨hbusy, hstat, hfields⟩ := s.acked_fields k c
    obtain ⟨hup, hlink, hqueue⟩ := s.its.take_keeps s.tns.tick c.2.1 c.2.2
    have hexec : exec (.itsCommandAck k) s = .next ((Act.itsPump k).run v) := by
      rw [hv, ← Act.itsAck_run hk.1 hu hl hc]
      rfl
    have hcore := (PortOnly.itsPump (k := k) v).core (j := k)
    obtain ⟨⟨csr, queue, flying, hpump⟩, hpumped⟩ := PortOnly.itsPump (k := k) v
    have hvqueue : v.its.queue = s.its.queue := by rw [hits, ← hqueue]
    refine ⟨_, hexec, ?_, fun hn => ?_, fun d hd hm => ?_, fun hd => ?_, fun ha => ?_, ?_, ?_⟩
    · rw [hcore]
      exact s.acked_line k c
    · rw [Act.itsPump_idle (by rw [hvqueue]; exact hn)]
      exact ⟨by rw [hits], hbusy, hstat, hfields⟩
    · have hslots (n : Nat) : v.slotCore n = s.slotCore n :=
        State.slotCore_of_fields hfields
          (by simp [F.SYS_ITS_STAT.status, F.SYS_ITS_STAT.busy, R.RST_SLOT_MAP, R.SYS_ITS_STAT]; omega) n
      obtain ⟨hfly, hq, hset⟩ := Act.itsPump_sent (s := v) (k := k) (d := d) (by rw [hvqueue]; exact hd) hbusy
        (by rw [State.itsMay_of_slots hslots]; exact hm) (by rw [hits]; exact hlink.trans hl)
        (by rw [hits]; exact hup.trans hu)
      exact ⟨by rw [hfly, hits], by rw [hq, hvqueue], hset⟩
    · obtain ⟨_, _, _, htake⟩ := s.its.take_discarded s.tns.tick hd
      rw [hpump, hits, htake]
      exact ⟨rfl, rfl, rfl, rfl⟩
    · obtain ⟨_, _, _, _, ⟨_, _, _, htake⟩, h1, h2, h3, h4⟩ := s.its.take_accepted s.tns.tick ha
      rw [hpump, hits, htake]
      exact ⟨rfl, h1, h2, h3, h4⟩
    · exact FldsKept.frame.trans (hfields.mono (by simp [stat, busy])) hpumped
    · obtain ⟨csr', its', cores', hparts⟩ : ∃ csr its cores, v = { s with csr := csr, its := its, cores := cores } :=
        ⟨_, _, _, hparts⟩
      rw [hpump, hparts]

end

section
/-!
SUPPORT. Bytes read after they were written, and the payload of a response (R338).
-/
namespace Sys2Proof.Machine

/-- Bytes that were written are read. -/
theorem State.bytes_setBytes_same (s : State) (a : Nat) (l : List Byte) : ((Act.setBytes a l).run s).bytes a l.length = l := by
  refine List.ext_getElem (by simp [State.bytes]) fun i hi _ => ?_
  have hlen : i < l.length := by simpa [State.bytes] using hi
  simp only [State.bytes, List.getElem_map, List.getElem_range]
  rw [State.byte_setBytes, dif_pos ⟨by omega, by omega⟩]
  simp

/-- The later part of bytes that were written is read in its place. -/
theorem State.bytes_setBytes_right (s : State) {a n : Nat} {l r : List Byte} (hn : l.length = n) :
    ((Act.setBytes a (l ++ r)).run s).bytes (a + n) r.length = r := by
  refine List.ext_getElem (by simp [State.bytes]) fun i hi _ => ?_
  have hlen : i < r.length := by simpa [State.bytes] using hi
  simp only [State.bytes, List.getElem_map, List.getElem_range]
  rw [State.byte_setBytes, dif_pos ⟨by omega, by rw [List.length_append]; omega⟩, List.getElem_append_right (by omega)]
  congr 1
  omega

theorem State.bytes_congr {s t : State} {a n : Nat} (h : ∀ x, a ≤ x → x < a + n → t.byte x = s.byte x) :
    t.bytes a n = s.bytes a n :=
  List.map_congr_left fun i hi => h _ (by omega) (by have := List.mem_range.mp hi; omega)

theorem State.bytes_two (s : State) (a : Nat) : s.bytes a 2 = [s.byte a, s.byte (a + 1)] := rfl

theorem respHead_length (len status flags retry cookie : Nat) : (respHead len status flags retry cookie).length = 24 := by
  simp [respHead, leBytes_length]

/-- The payload of a response lies behind its header. -/
theorem Act.respondWith_payload (m : Fin 16) (cls cmd status flags retry : Nat) (p : List Byte) (s : State) :
    ((Act.respondWith m cls cmd status flags retry p).run s).bytes (respArea m + 32) (kindByte cls cmd status ++ p).length =
      kindByte cls cmd status ++ p := by
  set q := kindByte cls cmd status ++ p with hq
  set u := (Act.setBytes (respArea m) (leBytes 1 0 ++ leBytes 1 1 ++ leBytes 1 cls ++ leBytes 1 cmd)).run s with hu
  set head := respHead q.length status (flags + if s.toTell (s.mbxSource m) = true then 2 else 0) retry
    (s.nat (reqArea m + 16) 8) with hhead
  set v := (Act.setBytes (respArea m + 8) (head ++ q)).run u with hv
  have hrun : (Act.respondWith m cls cmd status flags retry p).run s =
      (Act.mbxPush m).run ((Act.mbxDone m).run ((Act.tellDone (s.mbxSource m)).run
        ((Act.setBytes (respArea m + 4) (s.bytes (reqArea m + 4) 4)).run v))) := by
    simp only [Act.respondWith, Act.run_get, Act.run_seq_cons, Act.run_seq_nil, hv, hu, hhead, hq]
  rw [hrun, State.bytes_congr (s := v) fun x hx _ => ?_]
  · exact State.bytes_setBytes_right u (respHead_length ..)
  · rw [Act.mbxPush_byte, Act.mbxDone_byte, Act.tellDone_byte, State.byte_setBytes_other]
    simp only [State.bytes, List.length_map, List.length_range]
    omega

/-- The payload of a response whose class has no kind byte. -/
theorem Act.respondWith_bytes (m : Fin 16) {cls : Nat} (hc : cls ≠ 5) (cmd status flags retry : Nat) (p : List Byte)
    (s : State) : ((Act.respondWith m cls cmd status flags retry p).run s).bytes (respArea m + 32) p.length = p := by
  have hkind : kindByte cls cmd status = [] := by simp [kindByte, hc]
  have hpayload := Act.respondWith_payload m cls cmd status flags retry p s
  rwa [hkind, List.nil_append] at hpayload

end Sys2Proof.Machine
end

section
/-!
SUPPORT. The main supply: how the power states change, and what entry to STANDBY loses and leaves (R413 to R415, R443).
-/
namespace Sys2Proof.Machine

/-! ## Fields written and records made -/

theorem State.fld_emit (s : State) (src code sev : Nat) (p : List Nat) (f : Fd) :
    ((Act.emit src code sev p).run s).fld f = s.fld f := rfl

/-- Of the state nothing but registers and the recorder differs, and of the registers nothing but the fields of l. -/
def Noted (l : List Fd) (s t : State) : Prop :=
  (∃ csr evr, t = { s with csr := csr, evr := evr }) ∧ FldsKept l s t

theorem Noted.frame {l : List Fd} : FrameRel (Noted l) where
  refl s := ⟨⟨s.csr, s.evr, rfl⟩, FldsKept.frame.refl s⟩
  trans := by
    rintro s _ _ ⟨⟨_, _, rfl⟩, h⟩ ⟨⟨_, _, rfl⟩, g⟩
    exact ⟨⟨_, _, rfl⟩, FldsKept.frame.trans h g⟩

theorem Noted.mono {l l' : List Fd} {s t : State} (h : Noted l s t) (hl : ∀ g ∈ l, g ∈ l') : Noted l' s t :=
  ⟨h.1, h.2.mono hl⟩

theorem Noted.eq {l : List Fd} {s t : State} (h : Noted l s t) : t = { s with csr := t.csr, evr := t.evr } := by
  obtain ⟨⟨_, _, rfl⟩, -⟩ := h
  rfl

section
variable {l : List Fd}

theorem Noted.setF {f : Fd} {x : Nat} (hf : f ∈ l) (h : f.hi < 32) (hl : f.lo ≤ f.hi) : (Act.setF f x).Within (Noted l) :=
  fun s => ⟨⟨_, s.evr, rfl⟩, FldsKept.setF hf h hl s⟩

theorem Noted.emit {src code sev : Nat} {p : List Nat} : (Act.emit src code sev p).Within (Noted l) := fun s =>
  ⟨⟨s.csr, _, rfl⟩, FldsKept.of_csr rfl⟩

end

/-! ## Power states -/

theorem Noted.powerState {n : Nat} : (Act.powerState n).Within (Noted [F.RST_STATUS.pwr]) :=
  .get fun _ => .ite (fun _ => frame.skip) fun _ => frame.andThen (setF (by simp) (by decide) (by decide)) emit

theorem Act.powerState_pwr (s : State) {n : Nat} (h : n < 8) : ((Act.powerState n).run s).fld F.RST_STATUS.pwr = n := by
  rw [Act.powerState, Act.run_get]
  split
  · assumption
  · rw [Act.run_andThen, State.fld_emit, State.fld_setF_same _ _ _ (by decide) (by decide)]
    exact Nat.mod_eq_of_lt h

/-- MAIN_EN is driven on from STANDBY, where nothing forbids it. -/
theorem Act.wakeNow_wakes {s : State} (hp : s.fld F.RST_STATUS.pwr = 1) (hs : s.rst.shed = false)
    (hl : s.rst.lossHold = false) : let t := Act.wakeNow.run s
    t.fld F.RST_STATUS.pwr = 2 ∧ t.flag F.RST_STATUS.main_en = true ∧
      FldsKept [F.RST_STATUS.pwr, F.RST_STATUS.main_en] s t ∧
      t = { s with csr := t.csr, evr := t.evr,
                   rst := { s.rst with mainEnAt := s.tns.tick, retryAt := none, idleSince := none } } := by
  intro t
  set u := (Act.setB F.RST_STATUS.main_en true).run s with hu
  set v : State := { u with rst := { u.rst with mainEnAt := s.tns.tick, retryAt := none, idleSince := none } } with hv
  have ht : t = (Act.powerState 2).run v := by simp [t, Act.wakeNow, hp, hs, hl, hv, hu]
  have hsu : Noted [F.RST_STATUS.main_en] s u := Noted.setF (by simp) (by decide) (by decide) s
  have hvt : Noted [F.RST_STATUS.pwr] v t := ht ▸ Noted.powerState v
  have hcsr : v.csr = u.csr := rfl
  refine ⟨ht ▸ Act.powerState_pwr v (by decide), ?_, ?_, ?_⟩
  · rw [hvt.2.flag (by decide), State.flag_of_csr hcsr]
    exact State.flag_setB_same _ _ _ (by decide) (by decide)
  · exact FldsKept.frame.trans (hsu.2.mono (by simp)) (FldsKept.frame.trans (.of_csr hcsr) (hvt.2.mono (by simp)))
  · obtain ⟨⟨csr, evr, hu'⟩, -⟩ := hsu
    obtain ⟨⟨csr', evr', ht'⟩, -⟩ := hvt
    rw [ht', hv, hu']

theorem Act.wakeNow_idle {s : State} (h : ¬(s.fld F.RST_STATUS.pwr = 1 ∧ s.rst.shed = false ∧ s.rst.lossHold = false)) :
    Act.wakeNow.run s = s := by
  simp only [Act.wakeNow, Act.run_get]
  rw [if_neg, Act.run_skip]
  simpa [and_assoc] using h

/-! ## The training of DDR5 -/

theorem Noted.ddrTrain {fails : List (Nat × Nat)} : (Act.ddrTrain fails).Within (Noted [F.DDR_STATUS.state]) := by
  have hstate (n : Nat) : (Act.setF F.DDR_STATUS.state n).Within (Noted [F.DDR_STATUS.state]) :=
    setF (by simp) (by decide) (by decide)
  refine .get fun s => .ite (fun _ => hstate 4) fun _ => .ite (fun _ => hstate 0) fun _ => ?_
  split
  · exact frame.andThen (hstate 3) emit
  · exact hstate 2

theorem Act.ddrTrain_state (s : State) (fails : List (Nat × Nat)) :
    ((Act.ddrTrain fails).run s).fld F.DDR_STATUS.state = if s.flag F.DDR_STATUS.trng_off then 4
      else if !s.flag F.DDR_CTL.en then 0 else if 2 ≤ fails.length then 3 else 2 := by
  have hset (n : Nat) (hn : n < 8) : ((Act.setF F.DDR_STATUS.state n).run s).fld F.DDR_STATUS.state = n := by
    rw [State.fld_setF_same _ _ _ (by decide) (by decide)]
    exact Nat.mod_eq_of_lt hn
  have hcases (a : Act) (ha : (a.run s).fld F.DDR_STATUS.state = if 2 ≤ fails.length then 3 else 2) :
      ((if s.flag F.DDR_STATUS.trng_off then Act.setF F.DDR_STATUS.state 4
        else if !s.flag F.DDR_CTL.en then Act.setF F.DDR_STATUS.state 0 else a).run s).fld F.DDR_STATUS.state =
        if s.flag F.DDR_STATUS.trng_off then 4
        else if !s.flag F.DDR_CTL.en then 0 else if 2 ≤ fails.length then 3 else 2 := by
    by_cases hoff : s.flag F.DDR_STATUS.trng_off = true
    · rw [if_pos hoff, if_pos hoff, hset 4 (by decide)]
    by_cases hen : (!s.flag F.DDR_CTL.en) = true
    · rw [if_neg hoff, if_neg hoff, if_pos hen, if_pos hen, hset 0 (by decide)]
    · rw [if_neg hoff, if_neg hoff, if_neg hen, if_neg hen, ha]
  match fails with
  | [] | [_] => exact hcases _ (hset 2 (by decide))
  | _ :: f :: r => exact hcases _ (by rw [if_pos (by simp), Act.run_andThen, State.fld_emit, hset 3 (by decide)])

/-- The supply is good: DDR5 has trained and the state is ACTIVE. -/
theorem Act.mainPgGood_active {s : State} (fails : List (Nat × Nat)) (h : s.powered = true)
    (hp : s.fld F.RST_STATUS.pwr = 2) : let t := (Act.mainPgGood fails).run s
    t.fld F.RST_STATUS.pwr = 3 ∧ t.flag F.RST_STATUS.main_pg = true ∧
      t.fld F.DDR_STATUS.state = (if s.flag F.DDR_STATUS.trng_off then 4 else if !s.flag F.DDR_CTL.en then 0
        else if 2 ≤ fails.length then 3 else 2) ∧
      Noted [F.RST_STATUS.pwr, F.RST_STATUS.main_pg, F.DDR_STATUS.state] s t := by
  intro t
  set u := (Act.setB F.RST_STATUS.main_pg true).run s with hu
  set v := (Act.ddrTrain fails).run u with hv
  have ht : t = (Act.powerState 3).run v := by simp [t, Act.mainPgGood, h, hp, hv, hu]
  have hsu : Noted [F.RST_STATUS.main_pg] s u := Noted.setF (by simp) (by decide) (by decide) s
  have huv : Noted [F.DDR_STATUS.state] u v := Noted.ddrTrain u
  have hvt : Noted [F.RST_STATUS.pwr] v t := ht ▸ Noted.powerState v
  refine ⟨ht ▸ Act.powerState_pwr v (by decide), ?_, ?_, ?_⟩
  · rw [hvt.2.flag (by decide), huv.2.flag (by decide)]
    exact State.flag_setB_same _ _ _ (by decide) (by decide)
  · rw [hvt.2.fld (by decide), hv, Act.ddrTrain_state, hsu.2.flag (by decide), hsu.2.flag (by decide)]
  · exact Noted.frame.trans (hsu.mono (by simp)) (Noted.frame.trans (huv.mono (by simp)) (hvt.mono (by simp)))

/-- The supply is not good in time: MAIN_EN is off and the state STANDBY. -/
theorem Act.mainTimeout_standby {s : State} (h : s.powered = true) (hp : s.fld F.RST_STATUS.pwr = 2)
    (ht : s.rst.mainEnAt + 100000 ≤ s.tns.tick) : let t := Act.mainTimeout.run s
    t.fld F.RST_STATUS.pwr = 1 ∧ t.flag F.RST_STATUS.main_en = false ∧
      Noted [F.RST_STATUS.pwr, F.RST_STATUS.main_en] s t := by
  intro t
  set u := (Act.setB F.RST_STATUS.main_en false).run s with hu
  set v := (Act.emit 0x29 0x1005 3 []).run u with hv
  have ht : t = (Act.powerState 1).run v := by simp [t, Act.mainTimeout, h, hp, ht, hv, hu]
  have hsu : Noted [F.RST_STATUS.main_en] s u := Noted.setF (by simp) (by decide) (by decide) s
  have huv : Noted [] u v := Noted.emit u
  have hvt : Noted [F.RST_STATUS.pwr] v t := ht ▸ Noted.powerState v
  refine ⟨ht ▸ Act.powerState_pwr v (by decide), ?_, ?_⟩
  · rw [hvt.2.flag (by decide), huv.2.flag (by simp)]
    exact State.flag_setB_same _ _ _ (by decide) (by decide)
  · exact Noted.frame.trans (hsu.mono (by simp)) (Noted.frame.trans (huv.mono (by simp)) (hvt.mono (by simp)))

/-- The regulator's answer to a setpoint; only a refusal is recorded. -/
theorem Act.avsSetpoint_ack {s : State} (ack : Bool) (h : s.powered = true) (hm : s.flag F.RST_STATUS.main_en = true) :
    let t := (Act.avsSetpoint ack).run s
    t.flag F.SLT_AVS.ack = ack ∧ Noted [F.SLT_AVS.ack] s t ∧ (ack = true → t.evr = s.evr) := by
  intro t
  set u := (Act.setB F.SLT_AVS.ack ack).run s with hu
  have ht : t = (Act.when (!ack) (Act.emit 0x29 0x1011 2 [s.fld F.SLT_AVS.mv])).run u := by
    simp only [t]
    rw [Act.avsSetpoint, Act.run_get, Act.run_when, if_pos (by simp [h, hm]), Act.run_andThen]
  have hsu : Noted [F.SLT_AVS.ack] s u := Noted.setF (by simp) (by decide) (by decide) s
  have hut : Noted [] u t := ht ▸ Noted.frame.when (fun _ => Noted.emit) u
  refine ⟨?_, Noted.frame.trans hsu (hut.mono (by simp)), fun ha => ?_⟩
  · rw [hut.2.flag (by simp)]
    exact State.flag_setB_same _ _ _ (by decide) (by decide)
  · rw [ht, Act.run_when, if_neg (by simp [ha])]
    rfl

/-! ## Entry to STANDBY -/

/-- The fields that entry to STANDBY clears and that nothing after it in the entry sets. -/
def clearedFlds : List Fd :=
  [F.RST_STATUS.main_en, F.RST_STATUS.main_pg, F.DDR_STATUS.state] ++ (List.finRange 16).map fun m => F.CNJ_PART_CTL.valid m

/-- From s to t a part of the entry to STANDBY goes on: what is sheltered and the boot state are kept, and what is lost stays
lost. -/
structure Losing (s t : State) : Prop where
  sheltered : Sheltered s t
  boot : t.boot = s.boot
  blank : ∀ x, s.byte x = 0#8 → t.byte x = 0#8
  idle : s.jobs = [] ∧ s.threads = [] → t.jobs = [] ∧ t.threads = []
  models : (∀ m, s.model m = Model.reset) → ∀ m, t.model m = Model.reset
  roles : (∀ r : Fin 4, s.learned.roles[r].holder = none) → ∀ r : Fin 4, t.learned.roles[r].holder = none
  quiet : s.rst.idleSince = none → t.rst.idleSince = none
  cleared : ∀ f ∈ clearedFlds, s.fld f = 0 → t.fld f = 0

theorem Sheltered.frame : FrameRel Sheltered where
  refl _ := ⟨rfl, rfl, rfl, rfl, rfl, rfl, rfl, rfl, fun _ => rfl, fun _ _ _ => rfl⟩
  trans := by
    rintro s t u ⟨h1, h2, h3, h4, h5, h6, h7, h8, h9, h10⟩ ⟨g1, g2, g3, g4, g5, g6, g7, g8, g9, g10⟩
    exact ⟨g1.trans h1, g2.trans h2, g3.trans h3, g4.trans h4, g5.trans h5, g6.trans h6, g7.trans h7, g8.trans h8,
      fun k => (g9 k).trans (h9 k), fun b ht hd => (g10 b ht hd).trans (h10 b ht hd)⟩

theorem Losing.frame : FrameRel Losing where
  refl s := ⟨Sheltered.frame.refl s, rfl, fun _ h => h, id, id, id, id, fun _ _ h => h⟩
  trans a b := {
    sheltered := Sheltered.frame.trans a.sheltered b.sheltered
    boot := b.boot.trans a.boot
    blank := fun x h => b.blank x (a.blank x h)
    idle := fun h => b.idle (a.idle h)
    models := fun h => b.models (a.models h)
    roles := fun h => b.roles (a.roles h)
    quiet := fun h => b.quiet (a.quiet h)
    cleared := fun f hf h => b.cleared f hf (a.cleared f hf h) }

/-- The parts of the state that Losing speaks of, but for registers and cores. -/
def State.standbyParts (s : State) :=
  (s.mem, s.jobs, s.threads, s.learned, s.rst.idleSince, s.fuses, s.flash, s.tags, s.its, s.tns, s.clauses, s.caps, s.powered,
    s.boot)

theorem Losing.of_parts {s t : State} (h : t.standbyParts = s.standbyParts) (hcores : ∀ k, (t.core k).gpr = (s.core k).gpr)
    (hcleared : ∀ f ∈ clearedFlds, s.fld f = 0 → t.fld f = 0) : Losing s t := by
  simp only [State.standbyParts, Prod.mk.injEq] at h
  obtain ⟨hmem, hjobs, hthreads, hlearned, hidle, hfuses, hflash, htags, hits, htns, hclauses, hcaps, hpowered, hboot⟩ := h
  have hbyte (x : Nat) : t.byte x = s.byte x := by rw [State.byte, State.byte, hmem]
  exact {
    sheltered := ⟨hfuses, hflash, htags, hits, htns, hclauses, hcaps, hpowered, hcores, fun b _ _ => hbyte b⟩
    boot := hboot
    blank := fun x hx => (hbyte x).trans hx
    idle := fun hi => ⟨hjobs.trans hi.1, hthreads.trans hi.2⟩
    models := fun hm m => by rw [State.model, hlearned]; exact hm m
    roles := fun hr r => by rw [hlearned]; exact hr r
    quiet := fun hq => hidle.trans hq
    cleared := hcleared }

/-- An action that leaves registers, cores and the parts of Losing alone. -/
theorem Losing.apart {a : Act} (h : ∀ s, (a.run s).standbyParts = s.standbyParts) (hcsr : ∀ s, (a.run s).csr = s.csr)
    (hcores : ∀ s, (a.run s).cores = s.cores) : a.Within Losing := fun s =>
  .of_parts (h s) (fun k => by rw [State.core, State.core, hcores]) fun f _ hf => (State.fld_of_csr (hcsr s) f).trans hf

/-- A write of a field that sets none of the cleared fields. -/
theorem Losing.setF {f : Fd} {x : Nat} (h : ∀ s, ∀ g ∈ clearedFlds, s.fld g = 0 → ((Act.setF f x).run s).fld g = 0) :
    (Act.setF f x).Within Losing := fun s => .of_parts rfl (fun _ => rfl) (h s)

/-- A field of a register that holds no cleared field. -/
theorem Losing.setF_off {f : Fd} {x : Nat} (h : ∀ g ∈ clearedFlds, g.off ≠ f.off) : (Act.setF f x).Within Losing :=
  setF fun _ g hg hz => (State.fld_congr (by rw [State.reg_setF, if_neg (h g hg)])).trans hz

/-- A field that shares no bit with a cleared field. -/
theorem Losing.setF_apart {f : Fd} {x : Nat} (hf : f.hi < 32) (hl : f.lo ≤ f.hi)
    (h : ∀ g ∈ clearedFlds, f.apart g = true) : (Act.setF f x).Within Losing :=
  setF fun s g hg hz => (State.fld_setF_other s f g x hf hl (h g hg)).trans hz

theorem clearedFlds_cases {g : Fd} (h : g ∈ clearedFlds) :
    g = F.RST_STATUS.main_en ∨ g = F.RST_STATUS.main_pg ∨ g = F.DDR_STATUS.state ∨
      ∃ m : Fin 16, g = F.CNJ_PART_CTL.valid m := by
  simpa [clearedFlds, eq_comm, or_assoc] using h

theorem Losing.raiseLine {k : Fin 13} {n : Nat} : (Act.raiseLine k n).Within Losing := fun s =>
  .of_parts rfl (fun j => by
    rw [Act.raiseLine, Act.core, State.core_putCore]
    split
    · next h => rw [h]
    · rfl) fun _ _ h => h

theorem Losing.emit {src code sev : Nat} {p : List Nat} : (Act.emit src code sev p).Within Losing :=
  apart (fun _ => rfl) (fun _ => rfl) fun _ => rfl

/-- Memory of tensor SRAM or of DDR5 is emptied. -/
theorem Losing.zeroBytes {a n : Nat}
    (h : ∀ x, a ≤ x ∧ x < a + n → (tensorBase ≤ x ∧ x < tensorBase + tensorSize) ∨ (ddrBase ≤ x ∧ x < ddrBase + ddrSize)) :
    (Act.zeroBytes a n).Within Losing := fun s =>
  { Losing.frame.refl s with
    sheltered := ⟨rfl, rfl, rfl, rfl, rfl, rfl, rfl, rfl, fun _ => rfl, fun b ht hd => by
      rw [State.byte_zeroBytes, if_neg]
      intro hb
      have := h b hb
      omega⟩
    blank := fun x hx => by
      rw [State.byte_zeroBytes]
      split
      · rfl
      · exact hx }

theorem Losing.jobsGone : Act.jobsGone.Within Losing := fun s => { Losing.frame.refl s with idle := fun _ => ⟨rfl, rfl⟩ }

/-! ### Ports -/

/-- Clearing the fields of a mailbox clears what lies below bit 3, or leaves it. -/
theorem fldOf_mbxStat_zero {v : W32} {hi lo : Nat} (h : (hi, lo) = (30, 30) ∨ (hi, lo) = (29, 29) ∨ (hi, lo) = (11, 0))
    (hv : fldOf v 2 0 = 0) : fldOf (fldPut v hi lo 0) 2 0 = 0 := by
  rcases h with h | h | h <;> obtain ⟨rfl, rfl⟩ := Prod.mk.inj h
  · rw [fldOf_fldPut_other _ _ _ _ _ _ (by decide) (by decide) (by decide), hv]
  · rw [fldOf_fldPut_other _ _ _ _ _ _ (by decide) (by decide) (by decide), hv]
  · rw [fldOf, fldPut_toNat _ _ _ _ (by decide) (by decide)]
    simp only [fldSize]
    omega

/-- The number of a mailbox is any number here, and its register may be that of DDR5, of which no bit is set. -/
theorem Losing.mbxStat {m hi lo : Nat} (h : (hi, lo) = (30, 30) ∨ (hi, lo) = (29, 29) ∨ (hi, lo) = (11, 0)) :
    (Act.setF ⟨R.MBX_STAT m, hi, lo⟩ 0).Within Losing := setF fun s g hg hz => by
  rcases clearedFlds_cases hg with rfl | rfl | rfl | ⟨i, rfl⟩
  case inr.inr.inl =>
    rw [State.fld] at hz ⊢
    rw [State.reg_setF]
    split
    · next he => exact fldOf_mbxStat_zero h (he ▸ hz)
    · exact hz
  all_goals
    refine (State.fld_congr ?_).trans hz
    rw [State.reg_setF, if_neg]
    simp only [R.RST_STATUS, R.CNJ_PART_CTL, R.MBX_STAT]
    omega

theorem Losing.unbind {m q src : Nat} : (Act.unbind m q src).Within Losing := by
  refine frame.seq ?_
  simp only [List.forall_mem_cons, List.not_mem_nil, false_imp_iff, implies_true, and_true]
  exact ⟨mbxStat (by simp), mbxStat (by simp), mbxStat (by simp), emit⟩

theorem Losing.qpError {num : Nat} : (Act.qpError num).Within Losing := by
  refine .get fun s => ?_
  split
  · exact frame.skip
  · refine frame.seq ?_
    simp only [List.forall_mem_cons, List.not_mem_nil, false_imp_iff, implies_true, and_true]
    refine ⟨apart (fun _ => rfl) (fun _ => rfl) fun _ => rfl, ?_⟩
    split
    · exact unbind
    · exact frame.skip

theorem Losing.portStat {l : Fin 8} {hi lo x : Nat} : (Act.setF ⟨R.ETH_PORT_STAT l, hi, lo⟩ x).Within Losing :=
  setF_off fun g hg => by
    rcases clearedFlds_cases hg with rfl | rfl | rfl | ⟨i, rfl⟩ <;>
      simp only [R.RST_STATUS, R.DDR_STATUS, R.CNJ_PART_CTL, R.ETH_PORT_STAT] <;> omega

theorem Losing.portDown {l : Fin 8} {cause : Nat} : (Act.portDown l cause).Within Losing := by
  refine .get fun s => .ite (fun _ => frame.skip) fun _ => frame.seq ?_
  simp only [List.forall_mem_cons, List.not_mem_nil, false_imp_iff, implies_true, and_true]
  have hethx (f : Eth → Eth) : (Act.ethx f).Within Losing := apart (fun _ => rfl) (fun _ => rfl) fun _ => rfl
  exact ⟨portStat, portStat, hethx _, frame.each fun _ _ => hethx _,
    .get fun _ => frame.andThen (hethx _) (frame.each fun _ _ => apart (fun _ => rfl) (fun _ => rfl) fun _ => rfl),
    frame.each fun _ _ => qpError, frame.when fun _ => portStat, emit, frame.when fun _ => emit, raiseLine⟩

theorem Losing.portsDown {keep : Nat → Bool} {cause : Nat} : (Act.portsDown keep cause).Within Losing :=
  frame.each fun _ _ => frame.when fun _ => portDown

/-! ### Models and context logs -/

theorem State.fld_setF_zero (s : State) (f : Fd) (h : f.hi < 32) (hl : f.lo ≤ f.hi) : ((Act.setF f 0).run s).fld f = 0 := by
  rw [State.fld_setF_same _ _ _ h hl, Nat.zero_mod]

/-- A field that is cleared. -/
theorem Losing.clear {f : Fd} (hf : f.hi < 32) (hl : f.lo ≤ f.hi) (h : ∀ g ∈ clearedFlds, g = f ∨ f.apart g = true) :
    (Act.setF f 0).Within Losing := setF fun s g hg hz => by
  rcases h g hg with rfl | ha
  · exact State.fld_setF_zero s g hf hl
  · exact (State.fld_setF_other s f g 0 hf hl ha).trans hz

theorem Losing.partValid : ∀ m ∈ List.range 16, (Act.setF (F.CNJ_PART_CTL.valid m) 0).Within Losing := fun m hm =>
  clear (by simp) (by simp) (by
    revert m
    decide)

theorem Act.emptyModels_gone (s : State) : let t := (Act.learnedx fun x => { x with
      models := Vector.replicate 16 Model.reset, roles := x.roles.map fun r => { r with holder := none, run := 0 } }).run s
    (∀ m, t.model m = Model.reset) ∧ ∀ r : Fin 4, t.learned.roles[r].holder = none := by
  refine ⟨fun m => ?_, fun r => ?_⟩
  · simp [State.model]
  · simp

theorem Losing.emptyModels : (Act.learnedx fun x => { x with
      models := Vector.replicate 16 Model.reset,
      roles := x.roles.map fun r => { r with holder := none, run := 0 } }).Within Losing := fun s =>
  { Losing.frame.refl s with
    models := fun _ => (Act.emptyModels_gone s).1
    roles := fun _ => (Act.emptyModels_gone s).2 }

theorem Losing.partsGone : (Act.each (List.range 16) fun m => Act.setB (F.CNJ_PART_CTL.valid m) false).Within Losing :=
  frame.each partValid

theorem Losing.modelsGone : Act.modelsGone.Within Losing := by
  refine .get fun s => frame.seq ?_
  simp only [List.forall_mem_cons, List.not_mem_nil, false_imp_iff, implies_true, and_true]
  exact ⟨emptyModels, partsGone, frame.when fun _ => emit⟩

/-- Every model slot is empty, no role has a holder and no partition is valid. -/
def ModelsGone (t : State) : Prop :=
  (∀ m, t.model m = Model.reset) ∧ (∀ r : Fin 4, t.learned.roles[r].holder = none) ∧
    ∀ m : Fin 16, t.fld (F.CNJ_PART_CTL.valid m) = 0

theorem Losing.keepsModelsGone {s t : State} (h : Losing s t) (hs : ModelsGone s) : ModelsGone t :=
  ⟨h.models hs.1, h.roles hs.2.1, fun m => h.cleared _ (by simp [clearedFlds]) (hs.2.2 m)⟩

theorem Act.modelsGone_gone (s : State) : ModelsGone (Act.modelsGone.run s) := by
  set e := Act.learnedx fun x => { x with
    models := Vector.replicate 16 Model.reset, roles := x.roles.map fun r => { r with holder := none, run := 0 } } with he
  set parts := Act.each (List.range 16) fun m => Act.setB (F.CNJ_PART_CTL.valid m) false with hparts
  set note := Act.when ((s.learned.models.toList.countP fun m => m.state ≠ 0) ≠ 0)
    (Act.emit 0x03 0x1009 2 [2, s.learned.models.toList.countP fun m => m.state ≠ 0])
  have hrun : Act.modelsGone.run s = note.run (parts.run (e.run s)) := rfl
  have hlater : Losing (e.run s) (Act.modelsGone.run s) :=
    hrun ▸ Losing.frame.trans (Losing.partsGone _) (Losing.frame.when (fun _ => Losing.emit) _)
  have hvalid := Act.each_establishes (q := fun (m : Nat) t => t.fld (F.CNJ_PART_CTL.valid m) = 0)
    (f := fun m => Act.setB (F.CNJ_PART_CTL.valid m) false) (l := List.range 16)
    (fun m t => State.fld_setF_zero t _ (by simp) (by simp)) (fun m j t ht => by
      by_cases hj : m = j
      · rw [hj]
        exact State.fld_setF_zero t _ (by simp) (by simp)
      · refine (State.fld_congr ?_).trans ht
        rw [Act.setB, State.reg_setF, if_neg]
        simp only [R.CNJ_PART_CTL]
        omega) (e.run s)
  refine ⟨hlater.models (Act.emptyModels_gone s).1, hlater.roles (Act.emptyModels_gone s).2, fun m => ?_⟩
  rw [hrun]
  exact (Losing.frame.when (fun _ => Losing.emit) (parts.run (e.run s))).cleared _ (by simp [clearedFlds])
    (hvalid m (List.mem_range.mpr m.isLt))

theorem Losing.ctxLogsGone : Act.ctxLogsGone.Within Losing := by
  refine .get fun s => frame.seq ?_
  simp only [List.forall_mem_cons, List.not_mem_nil, false_imp_iff, implies_true, and_true]
  exact ⟨frame.each fun _ _ => apart (fun _ => rfl) (fun _ => rfl) fun _ => rfl, frame.when fun _ => emit⟩

/-! ### The whole entry -/

theorem Losing.rstx {f : Rst → Rst} (h : ∀ r, r.idleSince = none → (f r).idleSince = none) : (Act.rstx f).Within Losing :=
  fun s => { Losing.frame.refl s with quiet := fun hq => h _ hq }

theorem Losing.ddrState : (Act.setF F.DDR_STATUS.state 0).Within Losing := clear (by decide) (by decide) (by decide)

theorem Losing.powerState {n : Nat} : (Act.powerState n).Within Losing :=
  .get fun _ => .ite (fun _ => frame.skip) fun _ => frame.andThen (setF_apart (by decide) (by decide) (by decide)) emit

theorem Losing.zeroTensor : (Act.zeroBytes tensorBase tensorSize).Within Losing := zeroBytes fun _ h => .inl h

theorem Losing.zeroDdr : (Act.zeroBytes ddrBase ddrSize).Within Losing := zeroBytes fun _ h => .inr h

/-- What entry to STANDBY loses (R415). -/
structure StandbyLost (t : State) : Prop where
  idle : t.jobs = [] ∧ t.threads = []
  tensor : ∀ x, tensorBase ≤ x → x < tensorBase + tensorSize → t.byte x = 0#8
  ddr : ∀ x, ddrBase ≤ x → x < ddrBase + ddrSize → t.byte x = 0#8
  models : ModelsGone t
  state : t.fld F.DDR_STATUS.state = 0

theorem Losing.keepsStandbyLost {s t : State} (h : Losing s t) (hs : StandbyLost s) : StandbyLost t where
  idle := h.idle hs.idle
  tensor x hb hl := h.blank x (hs.tensor x hb hl)
  ddr x hb hl := h.blank x (hs.ddr x hb hl)
  models := h.keepsModelsGone hs.models
  state := h.cleared _ (by simp [clearedFlds]) hs.state

theorem State.byte_zeroBytes_in (s : State) {a n x : Nat} (hb : a ≤ x) (hl : x < a + n) :
    ((Act.zeroBytes a n).run s).byte x = 0#8 := by
  rw [State.byte_zeroBytes, if_pos ⟨hb, hl⟩]

/-- Each loss is brought about by its own part, and what is lost stays lost. -/
theorem Act.standbyLosses_lost (s : State) : Losing s (Act.standbyLosses.run s) ∧ StandbyLost (Act.standbyLosses.run s) := by
  rw [Act.standbyLosses, Act.run_get]
  have hbad : (Act.rstx fun r => { r with badWords := r.badWords.filter fun a => a < ddrBase || ddrBase + ddrSize ≤ a }).Within
      Losing := .rstx fun _ h => h
  have hports : (Act.portsDown (fun l => s.fld F.RST_PWR_CFG.stby_port = l) 2).Within Losing := .portsDown
  refine ⟨Losing.frame.seq ?_ s, ?_, ?_, ?_, ?_, ?_⟩
  · simp only [List.forall_mem_cons, List.not_mem_nil, false_imp_iff, implies_true, and_true]
    exact ⟨.jobsGone, .zeroTensor, .zeroDdr, hbad, .modelsGone, .ctxLogsGone, .ddrState, hports⟩
  · refine Losing.frame.seq_establishes (q := fun t => t.jobs = [] ∧ t.threads = []) (l := []) (a := Act.jobsGone)
      (fun _ _ h => h.idle) (fun _ => ⟨rfl, rfl⟩) ?_ s
    simp only [List.forall_mem_cons, List.not_mem_nil, false_imp_iff, implies_true, and_true]
    exact ⟨.zeroTensor, .zeroDdr, hbad, .modelsGone, .ctxLogsGone, .ddrState, hports⟩
  · intro x hb hl
    refine Losing.frame.seq_establishes (q := fun t => t.byte x = 0#8) (l := [_]) (a := Act.zeroBytes tensorBase tensorSize)
      (fun _ _ h => h.blank x) (fun t => t.byte_zeroBytes_in hb hl) ?_ s
    simp only [List.forall_mem_cons, List.not_mem_nil, false_imp_iff, implies_true, and_true]
    exact ⟨.zeroDdr, hbad, .modelsGone, .ctxLogsGone, .ddrState, hports⟩
  · intro x hb hl
    refine Losing.frame.seq_establishes (q := fun t => t.byte x = 0#8) (l := [_, _]) (a := Act.zeroBytes ddrBase ddrSize)
      (fun _ _ h => h.blank x) (fun t => t.byte_zeroBytes_in hb hl) ?_ s
    simp only [List.forall_mem_cons, List.not_mem_nil, false_imp_iff, implies_true, and_true]
    exact ⟨hbad, .modelsGone, .ctxLogsGone, .ddrState, hports⟩
  · refine Losing.frame.seq_establishes (l := [_, _, _, _]) (a := Act.modelsGone)
      (fun _ _ h => h.keepsModelsGone) Act.modelsGone_gone ?_ s
    simp only [List.forall_mem_cons, List.not_mem_nil, false_imp_iff, implies_true, and_true]
    exact ⟨.ctxLogsGone, .ddrState, hports⟩
  · refine Losing.frame.seq_establishes (q := fun t => t.fld F.DDR_STATUS.state = 0) (l := [_, _, _, _, _, _])
      (fun _ _ h => h.cleared _ (by simp [clearedFlds])) (fun t => t.fld_setF_zero _ (by decide) (by decide)) ?_ s
    simp only [List.forall_mem_cons, List.not_mem_nil, false_imp_iff, implies_true, and_true]
    exact hports

/-- The state after an entry to STANDBY, but for the power state. -/
structure AtStandby (s t : State) : Prop where
  losing : Losing s t
  lost : StandbyLost t
  mainEn : t.fld F.RST_STATUS.main_en = 0
  mainPg : t.fld F.RST_STATUS.main_pg = 0
  notIdle : t.rst.idleSince = none

theorem AtStandby.trans {s t u : State} (h : AtStandby s t) (g : Losing t u) : AtStandby s u where
  losing := Losing.frame.trans h.losing g
  lost := g.keepsStandbyLost h.lost
  mainEn := g.cleared _ (by simp [clearedFlds]) h.mainEn
  mainPg := g.cleared _ (by simp [clearedFlds]) h.mainPg
  notIdle := g.quiet h.notIdle

theorem AtStandby.after {s t u : State} (h : Losing s t) (g : AtStandby t u) : AtStandby s u :=
  { g with losing := Losing.frame.trans h g.losing }

theorem Act.toStandby_at (s : State) : AtStandby s (Act.toStandby.run s) ∧ (Act.toStandby.run s).fld F.RST_STATUS.pwr = 1 := by
  set a := (Act.setB F.RST_STATUS.main_en false).run s with ha
  set b := (Act.setB F.RST_STATUS.main_pg false).run a with hb
  set c := Act.standbyLosses.run b with hc
  set d := (Act.rstx fun r => { r with idleSince := none }).run c with hd
  have ht : Act.toStandby.run s = (Act.powerState 1).run d := rfl
  have hsa : Losing s a := Losing.clear (by decide) (by decide) (by decide) s
  have hab : Losing a b := Losing.clear (by decide) (by decide) (by decide) a
  obtain ⟨hbc, hlost⟩ := Act.standbyLosses_lost b
  have hcd : Losing c d := Losing.rstx (fun _ _ => rfl) c
  have hbd : Losing b d := Losing.frame.trans hbc hcd
  have hat : AtStandby s d := {
    losing := Losing.frame.trans hsa (Losing.frame.trans hab hbd)
    lost := hcd.keepsStandbyLost hlost
    mainEn := (Losing.frame.trans hab hbd).cleared _ (by simp [clearedFlds])
      (State.fld_setF_zero s F.RST_STATUS.main_en (by decide) (by decide))
    mainPg := hbd.cleared _ (by simp [clearedFlds]) (State.fld_setF_zero a F.RST_STATUS.main_pg (by decide) (by decide))
    notIdle := rfl }
  rw [ht]
  exact ⟨hat.trans (Losing.powerState d), Act.powerState_pwr d (by decide)⟩

end Sys2Proof.Machine
end

section
/-!
SUPPORT. What the event recorder does with a record that is offered, the inventory, and class 0x0A (R429 to R435).
-/
namespace Sys2Proof.Machine

/-! ## The event recorder (R431) -/

section
variable {e : Evr} {a b : Nat} {r : EvRec}

/-- Whether a record waits: it is critical, and others wait or no token is left. -/
def Evr.waits (e : Evr) (r : EvRec) : Prop := r.sev = 4 ∧ (e.queue ≠ [] ∨ e.tokens = 0)

/-- Whether too few tokens are left for a record, with shed_sev b. -/
def Evr.few (e : Evr) (b : Nat) (r : EvRec) : Prop := if b ≤ r.sev then e.tokens = 0 else e.tokens < 16

theorem Evr.offer_filtered (h : r.sev < a) : e.offer a b r = e := by rw [Evr.offer, if_pos h]

theorem Evr.offer_waits (h : a ≤ r.sev) (hw : e.waits r) : e.offer a b r = e.enqueue r := by
  obtain ⟨hsev, hw⟩ := hw
  rw [Evr.offer, if_neg (by omega)]
  by_cases hq : e.queue = []
  · have ht : e.tokens = 0 := hw.resolve_left (not_not_intro hq)
    simp [hsev, hq, ht]
  · rw [if_pos (by simp [hsev, hq])]

theorem Evr.queue_skipped (hw : ¬e.waits r) : ¬((r.sev = 4 && !e.queue.isEmpty) = true) := by
  simp only [Bool.and_eq_true, decide_eq_true_eq, Bool.not_eq_true', List.isEmpty_eq_false_iff]
  exact fun hc => hw ⟨hc.1, .inl hc.2⟩

theorem Evr.offer_admits (h : a ≤ r.sev) (hw : ¬e.waits r) (hf : ¬e.few b r) : e.offer a b r = e.accept r := by
  rw [Evr.offer, if_neg (by omega), if_neg (Evr.queue_skipped hw)]
  rw [Evr.few] at hf
  by_cases hb : b ≤ r.sev
  · rw [if_pos hb] at hf
    rw [if_pos hb, if_pos (by omega)]
  · rw [if_neg hb] at hf
    rw [if_neg hb, if_pos (by omega)]

theorem Evr.offer_sheds (h : a ≤ r.sev) (hw : ¬e.waits r) (hf : e.few b r) : e.offer a b r = e.shedOne r.sev := by
  have htokens : ¬(r.sev = 4 ∧ e.tokens = 0) := fun hc => hw ⟨hc.1, .inr hc.2⟩
  rw [Evr.offer, if_neg (by omega), if_neg (Evr.queue_skipped hw)]
  rw [Evr.few] at hf
  by_cases hb : b ≤ r.sev
  · rw [if_pos hb] at hf
    rw [if_pos hb, if_neg (by omega), if_neg (fun hs => htokens ⟨hs, hf⟩)]
  · rw [if_neg hb] at hf
    rw [if_neg hb, if_neg (by omega), if_neg (by simpa using fun hs => fun ht => htokens ⟨hs, ht⟩)]

theorem Evr.shedOne_shed {v : Nat} (h : v < 5) (j : Fin 5) :
    (e.shedOne v).shed[j] = if j.val = v then min (e.shed[j] + 1) 0xFFFFFFFF else e.shed[j] := by
  simp only [Evr.shedOne, dif_pos h]
  split
  · next hj =>
    subst hj
    simp
  · next hj => simp [Vector.getElem_set_ne, Ne.symm hj]

end

/-! ## The inventory (R432, R433) -/

/-- Of the state nothing but registers, the inventory and the recorder differs, and of the registers nothing but the fields of
l. -/
def InvNoted (l : List Fd) (s t : State) : Prop :=
  (∃ csr inv evr, t = { s with csr := csr, inv := inv, evr := evr }) ∧ FldsKept l s t

theorem InvNoted.frame {l : List Fd} : FrameRel (InvNoted l) where
  refl s := ⟨⟨s.csr, s.inv, s.evr, rfl⟩, FldsKept.frame.refl s⟩
  trans := by
    rintro s _ _ ⟨⟨_, _, _, rfl⟩, h⟩ ⟨⟨_, _, _, rfl⟩, g⟩
    exact ⟨⟨_, _, _, rfl⟩, FldsKept.frame.trans h g⟩

theorem InvNoted.of_noted {l : List Fd} {s t : State} (h : Noted l s t) : InvNoted l s t := by
  obtain ⟨⟨csr, evr, ht⟩, hk⟩ := h
  exact ⟨⟨csr, s.inv, evr, ht⟩, hk⟩

theorem InvNoted.eq {l : List Fd} {s t : State} (h : InvNoted l s t) :
    t = { s with csr := t.csr, inv := t.inv, evr := t.evr } := by
  obtain ⟨⟨_, _, _, rfl⟩, -⟩ := h
  rfl

theorem Noted.inv {l : List Fd} {s t : State} (h : Noted l s t) : t.inv = s.inv := by
  obtain ⟨⟨_, _, rfl⟩, -⟩ := h
  rfl

theorem Noted.tns {l : List Fd} {s t : State} (h : Noted l s t) : t.tns = s.tns := by
  obtain ⟨⟨_, _, rfl⟩, -⟩ := h
  rfl

theorem InvNoted.invx {l : List Fd} {f : Inv → Inv} : (Act.invx f).Within (InvNoted l) := fun s =>
  ⟨⟨s.csr, _, s.evr, rfl⟩, FldsKept.of_csr rfl⟩

/-! ### Counting ON minutes -/

/-- From s to t only ON times are counted: entries keep their index and serial, and each eFuse that is on has been counted up to
some tick or up to now. -/
def Counted (s t : State) : Prop :=
  (∃ entries onAt, t = { s with inv := { s.inv with entries := entries, onAt := onAt } } ∧
    entries.map (fun p => (p.1, p.2.serial)) = s.inv.entries.map fun p => (p.1, p.2.serial)) ∧
  ∀ n : Fin 8, t.inv.onAt[n] = s.inv.onAt[n] ∨ (s.inv.onAt[n].isSome = true ∧ t.inv.onAt[n] = some s.tns.tick)

theorem Counted.frame : FrameRel Counted where
  refl s := ⟨⟨s.inv.entries, s.inv.onAt, rfl, rfl⟩, fun _ => .inl rfl⟩
  trans := by
    rintro s _ _ ⟨⟨_, _, rfl, h⟩, hn⟩ ⟨⟨_, _, rfl, g⟩, gn⟩
    refine ⟨⟨_, _, rfl, g.trans h⟩, fun n => ?_⟩
    rcases hn n with h | ⟨hs, h⟩ <;> rcases gn n with g | ⟨gs, g⟩
    · exact .inl (g.trans h)
    · exact .inr ⟨h ▸ gs, g⟩
    · exact .inr ⟨hs, g.trans h⟩
    · exact .inr ⟨hs, g⟩

theorem Act.invCount_on (n : Fin 8) {s : State} (h : s.inv.onAt[n].isSome = true) :
    ((Act.invCount n).run s).inv.onAt[n] = some s.tns.tick := by
  obtain ⟨a, ha⟩ := Option.isSome_iff_exists.mp h
  simp only [Act.invCount, Act.run_get, ha, Act.invx_run]
  simp

theorem Counted.invCount (n : Fin 8) : (Act.invCount n).Within Counted := fun s => by
  rw [Act.invCount, Act.run_get]
  split
  · exact Counted.frame.refl s
  · next a ha =>
    refine ⟨⟨_, _, rfl, ?_⟩, fun j => ?_⟩
    · rw [List.map_map]
      refine List.map_congr_left fun p _ => ?_
      simp only [Function.comp_apply]
      split <;> rfl
    · by_cases hj : j = n
      · subst hj
        exact .inr ⟨by rw [ha]; rfl, by simp⟩
      · have hne : (n : Nat) ≠ j := fun h => hj (Fin.ext h.symm)
        exact .inl (by simp [Vector.getElem_set_ne, hne])

theorem Act.run_each_append {α : Type} (l r : List α) (f : α → Act) (s : State) :
    (Act.each (l ++ r) f).run s = (Act.each r f).run ((Act.each l f).run s) := by
  induction l generalizing s with
  | nil => rfl
  | cons a l ih => rw [List.cons_append, Act.run_each_cons, Act.run_each_cons, ih]

/-- Each eFuse that is on is counted up to now. -/
theorem Act.invCounts_on {l : List (Fin 8)} {n : Fin 8} (hn : n ∈ l) {s : State} (h : s.inv.onAt[n].isSome = true) :
    ((Act.each l Act.invCount).run s).inv.onAt[n] = some s.tns.tick := by
  obtain ⟨l₁, l₂, rfl⟩ := List.append_of_mem hn
  set u := (Act.each l₁ Act.invCount).run s with hu
  set v := (Act.invCount n).run u with hv
  have hrun : (Act.each (l₁ ++ n :: l₂) Act.invCount).run s = (Act.each l₂ Act.invCount).run v := by
    rw [Act.run_each_append, Act.run_each_cons]
  obtain ⟨⟨_, _, hsu, -⟩, hon⟩ := Counted.frame.each (l := l₁) (fun x _ => Counted.invCount x) s
  have htick : u.tns.tick = s.tns.tick := by rw [hu, hsu]
  have hv' : v.inv.onAt[n] = some s.tns.tick := by
    rw [hv, Act.invCount_on, htick]
    rcases hon n with h' | ⟨-, h'⟩
    · rw [hu, h', h]
    · rw [hu, h']
      rfl
  obtain ⟨⟨_, _, huv, -⟩, -⟩ := Counted.invCount n u
  rw [hrun]
  rcases (Counted.frame.each (l := l₂) (fun x _ => Counted.invCount x) v).2 n with h' | ⟨-, h'⟩
  · rw [h', hv']
  · rw [h', hv, huv, htick]

/-- The ON times are counted and the entries saved. -/
theorem Act.inventoryCommit_saves {s : State} (h : Alive s 0) : let t := Act.inventoryCommit.run s
    t.inv.saved = t.inv.entries ∧
      t.inv.entries.map (fun p => (p.1, p.2.serial)) = s.inv.entries.map (fun p => (p.1, p.2.serial)) ∧
      (∀ n : Fin 8, (s.inv.onAt[n]).isSome = true → t.inv.onAt[n] = some s.tns.tick) ∧ t = { s with inv := t.inv } := by
  intro t
  obtain ⟨⟨entries, onAt, hs, hmap⟩, -⟩ := Counted.frame.each (l := List.finRange 8) (fun x _ => Counted.invCount x) s
  have ht : t = { s with inv := { s.inv with entries := entries, onAt := onAt, saved := entries } } := by
    simp only [t]
    rw [Act.inventoryCommit, Act.run_get, Act.run_when, if_pos (by simp [h.1, h.2]), Act.run_andThen, hs, Act.invx_run]
  have hon (n : Fin 8) (hn : s.inv.onAt[n].isSome = true) : onAt[n] = some s.tns.tick := by
    have hcount := Act.invCounts_on (List.mem_finRange n) hn
    rwa [hs] at hcount
  rw [ht]
  exact ⟨rfl, hmap, hon, rfl⟩

/-! ### Reading a slot's identity -/

/-- Of the inventory nothing but entries and ON times differs. -/
def Inv.EntriesOnly (v w : Inv) : Prop := ∃ entries onAt, w = { v with entries := entries, onAt := onAt }

/-- The fields that show a slot's device. -/
def invFlds (n : Fin 8) : List Fd := [F.INV_SLOT_STAT.present n, F.INV_SLOT_STAT.class_mismatch n, F.INV_SLOT_STAT.entry n]

/-- What INVENTORY_READ does before it enters the slot's own state: minutes, flags and the entry. -/
def Act.inventoryEnter (n : Fin 8) (ok mismatch : Bool) (i c ser : Nat) : Act :=
  Act.seq [Act.invCount n, Act.setB (F.INV_SLOT_STAT.present n) ok, Act.setB (F.INV_SLOT_STAT.class_mismatch n) mismatch,
    if ok then Act.invEnter n i c ser else Act.setF (F.INV_SLOT_STAT.entry n) 0xFF]

/-- What a slot's inventory becomes. -/
def Inv.read (v : Inv) (n : Fin 8) (c ser : Nat) (changed : Prop) [Decidable changed] (mods : List (Nat × Nat × Nat)) : Inv :=
  { v with
    classes := v.classes.set n c
    serials := v.serials.set n ser
    fwIds := if changed then v.fwIds.set n 0 else v.fwIds
    modules := ((mods.take 3).zipIdx.map fun p => (3 * n.val + p.2, p.1.1, p.1.2.1, p.1.2.2)) ++
      v.modules.filter fun p => p.1 / 3 != n.val }

theorem Act.inventoryRead_run {n : Fin 8} {s : State} (ack : Bool) (cls ser : Nat) (mods : List (Nat × Nat × Nat))
    (h : s.powered = true ∧ (s.servingCore n).isSome = true ∧ s.linkState n = 2) :
    let ok := ack && s.fld (F.INV_SLOT_CFG.addr n) ≠ 0
    let c := if ok then cls else s.declaredClass n
    let now := if ok then ser else 0
    let mismatch := ok && cls ≠ s.declaredClass n
    let changed := now ≠ s.inv.serials[n]
    (Act.inventoryRead n ack cls ser mods).run s =
      (Act.when (mismatch || changed || !ok) (Act.emit 0x03 0x100A 2 [n, now % 2 ^ 64])).run
        ((Act.invx fun v => v.read n c now changed mods).run
          ((Act.inventoryEnter n ok mismatch ((s.invFind now).getD s.invPlace) c now).run s)) := by
  obtain ⟨hp, hc, hl⟩ := h
  intro ok c now mismatch changed
  rw [Act.inventoryRead, Act.run_get, if_neg (by simp [hp, hl, Option.isSome_iff_ne_none.mp hc])]
  rfl

theorem Act.inventoryRead_idle {n : Fin 8} {s : State} (ack : Bool) (cls ser : Nat) (mods : List (Nat × Nat × Nat))
    (h : ¬(s.powered = true ∧ (s.servingCore n).isSome = true ∧ s.linkState n = 2)) :
    (Act.inventoryRead n ack cls ser mods).run s = s := by
  rw [Act.inventoryRead, Act.run_get, if_pos, Act.run_skip]
  simp only [← Option.not_isSome, Bool.or_eq_true, Bool.not_eq_true', decide_eq_true_eq, ne_eq]
  simp only [not_and_or, Bool.not_eq_true] at h
  tauto

theorem Inv.EntriesOnly.trans {v w x : Inv} (h : v.EntriesOnly w) (g : w.EntriesOnly x) : v.EntriesOnly x := by
  obtain ⟨_, _, rfl⟩ := h
  obtain ⟨_, _, rfl⟩ := g
  exact ⟨_, _, rfl⟩

section
variable {n : Fin 8}

theorem Noted.slotStat {f : Fd} {x : Nat} (hf : f ∈ invFlds n) : (Act.setF f x).Within (Noted [f]) := by
  simp only [invFlds, List.mem_cons, List.not_mem_nil, or_false] at hf
  rcases hf with rfl | rfl | rfl <;> exact setF (by simp) (by simp) (by simp)

/-- The entry of a serial at index i: what the entry there says of that serial, or nothing yet, and the present device. -/
def State.invRenewed (s : State) (n : Fin 8) (i c ser : Nat) : InvEntry :=
  let old : InvEntry := match s.inv.entries.lookup i with
    | some e => if e.serial = ser then e else ⟨ser, 0, 0, 0, 0, 0⟩
    | none => ⟨ser, 0, 0, 0, 0, 0⟩
  { old with cls := c, slot := n.val, lastCycle := s.tns.cycles }

theorem State.invRenewed_serial (s : State) (i c ser : Nat) : (s.invRenewed n i c ser).serial = ser := by
  simp only [State.invRenewed]
  split
  · split
    · assumption
    · rfl
  · rfl

theorem Act.invEnter_run (i c ser : Nat) (s : State) : (Act.invEnter n i c ser).run s =
    (Act.setF (F.INV_SLOT_STAT.entry n) i).run ((Act.invx fun v => { v with
      entries := (i, s.invRenewed n i c ser) :: v.entries.filter fun p => p.1 != i }).run s) := rfl

theorem InvNoted.invEnter {i c ser : Nat} : (Act.invEnter n i c ser).Within (InvNoted [F.INV_SLOT_STAT.entry n]) :=
  .get fun _ => frame.andThen invx fun s => of_noted (Noted.slotStat (n := n) (by simp [invFlds]) s)

/-- An entry is found at the index where it was put. -/
theorem Act.invEnter_lookup (i c ser : Nat) (s : State) : let t := (Act.invEnter n i c ser).run s
    (∃ x, t.inv.entries.lookup i = some x ∧ x.serial = ser ∧ x.cls = c ∧ x.slot = n.val ∧ x.lastCycle = s.tns.cycles) ∧
      t.fld (F.INV_SLOT_STAT.entry n) = i % 256 := by
  intro t
  refine ⟨⟨s.invRenewed n i c ser, ?_, s.invRenewed_serial i c ser, rfl, rfl, rfl⟩, ?_⟩
  · simp only [t]
    rw [Act.invEnter_run, (Noted.slotStat (n := n) (by simp [invFlds]) _).inv, Act.invx_run]
    exact List.lookup_cons_self
  · simp only [t]
    rw [Act.invEnter_run, State.fld_setF_same _ _ _ (by simp) (by simp)]
    rfl

theorem InvNoted.mono {l l' : List Fd} {s t : State} (h : InvNoted l s t) (hl : ∀ g ∈ l, g ∈ l') : InvNoted l' s t :=
  ⟨h.1, h.2.mono hl⟩

/-- What is entered of a slot whose device was read, or of one that did not answer. -/
theorem Act.inventoryEnter_enters (ok mismatch : Bool) (i c ser : Nat) (s : State) :
    let t := (Act.inventoryEnter n ok mismatch i c ser).run s
    InvNoted (invFlds n) s t ∧ s.inv.EntriesOnly t.inv ∧ t.flag (F.INV_SLOT_STAT.present n) = ok ∧
      t.flag (F.INV_SLOT_STAT.class_mismatch n) = mismatch ∧
      (ok = true → t.fld (F.INV_SLOT_STAT.entry n) = i % 256 ∧ ∃ x, t.inv.entries.lookup i = some x ∧ x.serial = ser ∧
        x.cls = c ∧ x.slot = n.val ∧ x.lastCycle = s.tns.cycles) ∧
      (ok = false → t.fld (F.INV_SLOT_STAT.entry n) = 0xFF) := by
  intro t
  set u := (Act.invCount n).run s with hu
  set v := (Act.setB (F.INV_SLOT_STAT.present n) ok).run u with hv
  set w := (Act.setB (F.INV_SLOT_STAT.class_mismatch n) mismatch).run v with hw
  have ht : t = (if ok then Act.invEnter n i c ser else Act.setF (F.INV_SLOT_STAT.entry n) 0xFF).run w := by
    simp only [t]
    rw [Act.inventoryEnter]
    iterate 4 rw [Act.run_seq_cons]
    rw [Act.run_seq_nil]
  obtain ⟨⟨entries, onAt, hsu, -⟩, -⟩ := Counted.invCount n s
  have hsu' : InvNoted (invFlds n) s u := ⟨⟨s.csr, _, s.evr, hsu⟩, .of_csr (by rw [hu, hsu])⟩
  have huv : Noted [F.INV_SLOT_STAT.present n] u v := Noted.slotStat (n := n) (by simp [invFlds]) u
  have hvw : Noted [F.INV_SLOT_STAT.class_mismatch n] v w := Noted.slotStat (n := n) (by simp [invFlds]) v
  have hwt : InvNoted [F.INV_SLOT_STAT.entry n] w t := by
    rw [ht]
    cases ok
    · exact .of_noted (Noted.slotStat (n := n) (by simp [invFlds]) w)
    · exact InvNoted.invEnter w
  have hinv : w.inv = { s.inv with entries := entries, onAt := onAt } := by rw [hvw.inv, huv.inv, hu, hsu]
  have htns : w.tns = s.tns := by rw [hvw.tns, huv.tns, hu, hsu]
  refine ⟨InvNoted.frame.trans hsu' (InvNoted.frame.trans ((InvNoted.of_noted huv).mono (by simp [invFlds]))
      (InvNoted.frame.trans ((InvNoted.of_noted hvw).mono (by simp [invFlds])) (hwt.mono (by simp [invFlds])))),
    Inv.EntriesOnly.trans ⟨entries, onAt, hinv⟩ ?_, ?_, ?_, fun h => ?_, fun h => ?_⟩
  · rw [ht]
    cases ok
    · exact ⟨w.inv.entries, w.inv.onAt, rfl⟩
    · exact ⟨_, w.inv.onAt, rfl⟩
  · rw [hwt.2.flag (by simp [Fd.apart]), hvw.2.flag (by simp [Fd.apart])]
    exact State.flag_setB_same u _ ok (by simp) (by simp)
  · rw [hwt.2.flag (by simp [Fd.apart])]
    exact State.flag_setB_same v _ mismatch (by simp) (by simp)
  · obtain ⟨hx, hi⟩ := Act.invEnter_lookup (n := n) i c ser w
    rw [ht, if_pos h]
    rw [htns] at hx
    exact ⟨hi, hx⟩
  · rw [ht, if_neg (by simp [h]), State.fld_setF_same _ _ _ (by simp) (by simp)]
    rfl

/-- What is read of slot n. -/
theorem Inv.read_slot (v : Inv) (n : Fin 8) (c ser : Nat) (changed : Prop) [Decidable changed]
    (mods : List (Nat × Nat × Nat)) : let w := v.read n c ser changed mods
    w.serials[n] = ser ∧ w.classes[n] = c ∧ w.fwIds[n] = if changed then 0 else v.fwIds[n] := by
  refine ⟨by simp [Inv.read], by simp [Inv.read], ?_⟩
  simp only [Inv.read]
  split <;> simp

/-- A read of slot n leaves the other slots. -/
theorem Inv.read_other (v : Inv) (n : Fin 8) (c ser : Nat) (changed : Prop) [Decidable changed]
    (mods : List (Nat × Nat × Nat)) {j : Fin 8} (hj : j ≠ n) : let w := v.read n c ser changed mods
    w.serials[j] = v.serials[j] ∧ w.fwIds[j] = v.fwIds[j] ∧ w.classes[j] = v.classes[j] := by
  have hne : (n : Nat) ≠ j := fun h => hj (Fin.ext h.symm)
  refine ⟨by simp [Inv.read, Vector.getElem_set_ne, hne], ?_, by simp [Inv.read, Vector.getElem_set_ne, hne]⟩
  simp only [Inv.read]
  split <;> simp [Vector.getElem_set_ne, hne]

/-- A module that was read is found by its number, and no older one. -/
theorem Inv.read_modules (v : Inv) (n : Fin 8) (c ser : Nat) (changed : Prop) [Decidable changed]
    (mods : List (Nat × Nat × Nat)) {j : Nat}
    (hj : j < 3) : (v.read n c ser changed mods).modules.lookup (3 * n.val + j) = mods[j]? := by
  have hold : (v.modules.filter fun p => p.1 / 3 != n.val).lookup (3 * n.val + j) = none := by
    rw [List.lookup_eq_none_iff]
    intro p hp
    have hne : p.1 / 3 ≠ n.val := by simpa using (List.mem_filter.mp hp).2
    simp only [bne_iff_ne, ne_eq]
    omega
  have hnew (l : List (Nat × Nat × Nat)) (b i : Nat) :
      ((l.zipIdx b).map fun p => (3 * n.val + p.2, p.1.1, p.1.2.1, p.1.2.2)).lookup (3 * n.val + (b + i)) = l[i]? := by
    induction l generalizing b i with
    | nil => rfl
    | cons x l ih =>
      rw [List.zipIdx_cons, List.map_cons, List.lookup_cons]
      cases i with
      | zero => simp
      | succ i =>
        have hne : (3 * n.val + (b + (i + 1)) == 3 * n.val + b) = false := by simp
        rw [hne, show b + (i + 1) = b + 1 + i by omega]
        simpa using ih (b + 1) i
  have hread := hnew (mods.take 3) 0 j
  rw [Nat.zero_add] at hread
  simp only [Inv.read]
  rw [List.lookup_append, hold, hread, List.getElem?_take_of_lt hj, Option.or_none]

theorem State.invPlace_free {s : State} (h : ∃ j < 256, s.inv.entries.lookup j = none) :
    s.inv.entries.lookup s.invPlace = none := by
  obtain ⟨j, hj, hnone⟩ := h
  simp only [State.invPlace]
  split
  · next i hi => simpa using List.find?_some hi
  · next hi =>
    have := List.find?_eq_none.mp hi j (List.mem_range.mpr hj)
    simp [hnone] at this

/-- What INVENTORY_READ makes of a slot, by what its device answered. -/
theorem Act.inventoryRead_reads {s : State} (ack : Bool) (cls ser : Nat) (mods : List (Nat × Nat × Nat))
    (h : s.powered = true ∧ (s.servingCore n).isSome = true ∧ s.linkState n = 2) :
    let ok := ack && s.fld (F.INV_SLOT_CFG.addr n) ≠ 0
    let c := if ok then cls else s.declaredClass n
    let now := if ok then ser else 0
    let i := (s.invFind now).getD s.invPlace
    let t := (Act.inventoryRead n ack cls ser mods).run s
    InvNoted (invFlds n) s t ∧ t.flag (F.INV_SLOT_STAT.present n) = ok ∧
      t.flag (F.INV_SLOT_STAT.class_mismatch n) = (ok && cls ≠ s.declaredClass n) ∧
      (ok = true → t.fld (F.INV_SLOT_STAT.entry n) = i % 256 ∧ ∃ x, t.inv.entries.lookup i = some x ∧ x.serial = now ∧
        x.cls = c ∧ x.slot = n.val ∧ x.lastCycle = s.tns.cycles) ∧
      (ok = false → t.fld (F.INV_SLOT_STAT.entry n) = 0xFF) ∧
      (t.inv.serials[n] = now ∧ t.inv.classes[n] = c ∧
        t.inv.fwIds[n] = if now = s.inv.serials[n] then s.inv.fwIds[n] else 0) ∧
      (∀ j < 3, t.inv.modules.lookup (3 * n.val + j) = mods[j]?) ∧
      ∀ j : Fin 8, j ≠ n → t.inv.serials[j] = s.inv.serials[j] ∧ t.inv.fwIds[j] = s.inv.fwIds[j] ∧
        t.inv.classes[j] = s.inv.classes[j] := by
  intro ok c now i t
  set w := (Act.inventoryEnter n ok (ok && cls ≠ s.declaredClass n) i c now).run s with hw
  set v := (Act.invx fun v => v.read n c now (now ≠ s.inv.serials[n]) mods).run w with hv
  obtain ⟨hsw, ⟨entries, onAt, hinv⟩, hpresent, hmismatch, hentered, hnone⟩ :=
    Act.inventoryEnter_enters (n := n) ok (ok && cls ≠ s.declaredClass n) i c now s
  have hvt : Noted [] v t := by
    simp only [t]
    rw [Act.inventoryRead_run ack cls ser mods h]
    exact Noted.frame.when (fun _ => Noted.emit) v
  have hwv : InvNoted [] w v := InvNoted.invx w
  have hwt : FldsKept [] w t := FldsKept.frame.trans hwv.2 hvt.2
  have hread : t.inv = w.inv.read n c now (now ≠ s.inv.serials[n]) mods := by rw [hvt.inv, hv, Act.invx_run]
  refine ⟨InvNoted.frame.trans hsw ((InvNoted.frame.trans hwv (.of_noted hvt)).mono (by simp)), ?_, ?_, fun hok => ?_,
    fun hok => ?_, ?_, fun j hj => ?_, fun j hj => ?_⟩
  · rw [hwt.flag (by simp), hpresent]
  · rw [hwt.flag (by simp), hmismatch]
  · obtain ⟨hi, hx⟩ := hentered hok
    refine ⟨by rw [hwt.fld (by simp), hi], ?_⟩
    rw [hread]
    exact hx
  · rw [hwt.fld (by simp), hnone hok]
  · rw [hread, hinv]
    obtain ⟨hserial, hclass, hfw⟩ := Inv.read_slot { s.inv with entries := entries, onAt := onAt } n c now
      (now ≠ s.inv.serials[n]) mods
    exact ⟨hserial, hclass, by rw [hfw, ite_not]⟩
  · rw [hread, Inv.read_modules _ _ _ _ _ _ hj]
  · rw [hread, hinv]
    exact Inv.read_other { s.inv with entries := entries, onAt := onAt } n c now _ mods hj

end

/-! ## Class 0x0A (R435) -/

/-- A response whose class has no kind byte and whose payload fits answers the request and does nothing else. -/
theorem Act.respond_replies (m : Fin 16) {cls : Nat} (hc : cls ≠ 5) (cmd status : Nat) {p : List Byte} (hp : p.length ≤ 8160)
    (s : State) : RepliesOnly s ((Act.respond m cls cmd status p).run s) m cls cmd status :=
  Act.respondWith_repliesOnly m cls cmd status 0 0 p s (by simpa [kindByte, hc] using hp)

theorem itemBytes_length_le (cls cmd : Nat) (items : List Nat) : (itemBytes cls cmd items).length ≤ 8160 := by
  simp only [itemBytes, List.length_map, List.length_range]
  omega

theorem State.veiled_length (s : State) (n w v : Nat) : (s.veiled n w v).length = w := by
  rw [State.veiled, leBytes_length]

theorem State.invSlots_length (s : State) : ((List.finRange 8).flatMap s.invSlot).length = 320 := by
  have hslot (n : Fin 8) : (s.invSlot n).length = 40 := by
    simp [State.invSlot, State.veiled_length, leBytes_length]
  rw [List.length_flatMap, List.map_congr_left fun n _ => hslot n]
  rfl

theorem State.invModules_length (s : State) : ((List.range 24).flatMap s.invModule).length = 384 := by
  have hmodule (i : Nat) : (s.invModule i).length = 16 := by
    simp [State.invModule, State.veiled_length, leBytes_length]
  rw [List.length_flatMap, List.map_congr_left fun i _ => hmodule i]
  rfl

theorem EvRec.bytes_length (r : EvRec) : r.bytes.length = 32 := by simp [EvRec.bytes, leBytes_length]

/-- At most 255 records are sent, and they fit. -/
theorem EvRec.records_length (l : List EvRec) : ((l.take 255).flatMap EvRec.bytes).length ≤ 8160 := by
  rw [List.length_flatMap, List.map_congr_left fun r _ => r.bytes_length, List.map_const', List.sum_replicate]
  simp only [List.length_take, smul_eq_mul]
  omega

variable {s : State} {m : Fin 16} {src : Nat}

/-- Section 1 is each slot's 40 bytes, for whoever asks. -/
theorem Act.invQuery_slots (h : Served s m 0xA 1 src) :
    (Act.invQuery m 1).run s = (Act.respond m 0xA 1 0 ((List.finRange 8).flatMap s.invSlot)).run s := by
  rw [Act.invQuery, Act.command_served h, Act.run_get, if_neg (by simp), if_neg (by decide), if_pos rfl]

theorem Act.invQuery_replies (h : Served s m 0xA 1 src) (sec : Nat) : RepliesOnly s ((Act.invQuery m sec).run s) m 0xA 1
    (if src ≠ 1 ∧ sec ≠ 1 then 4 else if 2 < sec then 5 else 0) := by
  rw [Act.invQuery, Act.command_served h, Act.run_get]
  by_cases hsrc : src ≠ 1 ∧ sec ≠ 1
  · rw [if_pos hsrc, if_pos (by simpa using hsrc)]
    exact Act.respond_replies m (by decide) 1 4 (by simp) s
  rw [if_neg hsrc, if_neg (by simpa using hsrc)]
  match sec with
  | 0 => exact Act.respond_replies m (by decide) 1 0 (itemBytes_length_le _ _ _) s
  | 1 => exact Act.respond_replies m (by decide) 1 0 (by rw [s.invSlots_length]; decide) s
  | 2 => exact Act.respond_replies m (by decide) 1 0 (by rw [s.invModules_length]; decide) s
  | k + 3 =>
    rw [if_neg (by omega), if_neg (by omega), if_neg (by omega), if_pos (by omega)]
    exact Act.respond_replies m (by decide) 1 5 (by simp) s

/-- A command that is the manager's alone replies what its body does, or DENIED. -/
theorem Act.managerCommand_replies {cmd status : Nat} (h : Served s m 0xA cmd src) {body : Act}
    (hb : RepliesOnly s (body.run s) m 0xA cmd status) :
    RepliesOnly s ((Act.managerCommand m 0xA cmd body).run s) m 0xA cmd (if src ≠ 1 then 4 else status) := by
  rw [Act.managerCommand, Act.command_served h]
  by_cases hsrc : src = 1
  · rw [if_pos hsrc, if_neg (not_not_intro hsrc)]
    exact hb
  · rw [if_neg hsrc, if_pos hsrc]
    exact Act.respond_replies m (by decide) cmd 4 (by simp) s

theorem Act.recordsRead_replies (h : Served s m 0xA 2 src) (fromSeq count : Nat) :
    RepliesOnly s ((Act.recordsRead m fromSeq count).run s) m 0xA 2
      (if src ≠ 1 then 4 else if count = 0 ∨ 256 < count then 5 else 0) := by
  refine Act.managerCommand_replies h ?_
  rw [Act.run_get]
  by_cases hc : count = 0 ∨ 256 < count
  · rw [if_pos hc, if_pos (by simpa using hc)]
    exact Act.respond_replies m (by decide) 2 5 (by simp) s
  · rw [if_neg hc, if_neg (by simpa using hc)]
    exact Act.respond_replies m (by decide) 2 0 (EvRec.records_length _) s

theorem Act.repairQuery_replies (h : Served s m 0xA 3 src) :
    RepliesOnly s ((Act.repairQuery m).run s) m 0xA 3 (if src ≠ 1 then 4 else 0) := by
  refine Act.managerCommand_replies h ?_
  rw [Act.run_get]
  exact Act.respond_replies m (by decide) 3 0 (itemBytes_length_le _ _ _) s

theorem Act.hoursRead_replies (h : Served s m 0xA 4 src) (i : Nat) : RepliesOnly s ((Act.hoursRead m i).run s) m 0xA 4
    (if src ≠ 1 then 4 else if 255 < i then 5 else if (s.inv.entries.lookup i).isSome then 0 else 6) := by
  refine Act.managerCommand_replies h ?_
  rw [Act.run_get]
  by_cases hi : 255 < i
  · rw [if_pos hi, if_pos hi]
    exact Act.respond_replies m (by decide) 4 5 (by simp) s
  rw [if_neg hi, if_neg hi]
  cases s.inv.entries.lookup i with
  | some e => exact Act.respond_replies m (by decide) 4 0 (itemBytes_length_le _ _ _) s
  | none => exact Act.respond_replies m (by decide) 4 6 (by simp) s

end Sys2Proof.Machine
end

section
/-!
SUPPORT. When the rows of the power states take effect (R413 to R415, R443).
-/
namespace Sys2Proof.Machine

theorem State.flag_of_zero {s : State} {f : Fd} (h : s.fld f = 0) : s.flag f = false := by simp [State.flag, h]

variable {s : State}

/-- Whether a trigger of STANDBY stands. -/
def State.triggered (s : State) : WakeTrigger → Bool
  | .trayOn => s.effOn 8
  | .mainHold => s.flag F.RST_CTL.main_hold
  | .ddrCommand => true

theorem Act.wake_run (w : WakeTrigger) (s : State) :
    (Act.wake w).run s = if s.powered && s.triggered w then Act.wakeNow.run s else s := by
  cases w <;> exact Act.run_when ..

theorem Act.wakeRetry_run (s : State) : Act.wakeRetry.run s =
    if s.powered = true ∧ ∃ a, s.rst.retryAt = some a ∧ a ≤ s.tns.tick then Act.wakeNow.run s else s := by
  rw [Act.wakeRetry, Act.run_get, Act.run_when]
  refine if_congr ?_ rfl rfl
  cases hr : s.rst.retryAt <;> simp

/-- A loss of the main supply: STANDBY, and a retry unless it is the second within 10 s. -/
theorem Act.mainPgLoss_lost (hp : s.powered = true) (ha : s.active = true) : let t := Act.mainPgLoss.run s
    AtStandby s t ∧ t.fld F.RST_STATUS.pwr = 1 ∧ t.rst.lossAt = some s.tns.tick ∧
      ((∃ a, s.rst.lossAt = some a ∧ s.tns.tick < a + 10000000) → t.rst.retryAt = none ∧ t.rst.lossHold = true) ∧
      ((∀ a, s.rst.lossAt = some a → a + 10000000 ≤ s.tns.tick) →
        t.rst.retryAt = some (s.tns.tick + 1000000) ∧ t.rst.lossHold = false) := by
  intro t
  set u := (Act.emit 0x29 0x1005 3 []).run s with hu
  set v := Act.toStandby.run u with hv
  set second : Bool := match s.rst.lossAt with | some t => decide (s.tns.tick < t + 10000000) | none => false with hsecond
  have ht : t = (Act.rstx fun r => { r with
      lossAt := some s.tns.tick, retryAt := if second then none else some (s.tns.tick + 1000000),
      lossHold := second }).run v := by
    simp only [t]
    rw [Act.mainPgLoss, Act.run_get, if_pos (by simp [hp, ha])]
    rfl
  obtain ⟨hat, hpwr⟩ := Act.toStandby_at u
  have hvt : Losing v t := by
    rw [ht]
    refine Losing.rstx ?_ v
    exact fun _ h => h
  refine ⟨(AtStandby.after (Losing.emit s) hat).trans hvt, ?_, by rw [ht]; rfl, fun h => ?_, fun h => ?_⟩
  · rw [ht, State.fld_rstx, hpwr]
  · obtain ⟨a, hlast, hsoon⟩ := h
    have : second = true := by simp [hsecond, hlast, hsoon]
    rw [ht, Act.rstx_run, this]
    exact ⟨rfl, rfl⟩
  · have : second = false := by
      cases hlast : s.rst.lossAt with
      | none => simp [hsecond, hlast]
      | some a => simpa [hsecond, hlast] using h a hlast
    rw [ht, Act.rstx_run, this]
    exact ⟨rfl, rfl⟩

/-- Whether the conditions of R415 have held for as long as RST_PWR_CFG asks. -/
theorem Act.standbyEntry_run (s : State) : Act.standbyEntry.run s =
    if s.powered = true ∧ s.idle = true ∧
        ∃ a, s.rst.idleSince = some a ∧ a + s.fld F.RST_PWR_CFG.stby_delay_s * 1000000 ≤ s.tns.tick then Act.toStandby.run s
    else s := by
  rw [Act.standbyEntry, Act.run_get, Act.run_when]
  refine if_congr ?_ rfl rfl
  cases hr : s.rst.idleSince <;> simp [and_assoc]

/-- A record that is offered to a powered recorder, of a severity in use. -/
theorem execEventAdmit_run (src code sev : Nat) (hw : Bool) (payload : List Nat) (s : State) :
    exec (.eventAdmit src code sev hw payload) s = .next (if s.powered = true ∧ sev < 5 then
      { s with
        evr := s.evr.offer (s.fld F.EVR_CTL.min_sev) (s.fld F.EVR_CTL.shed_sev)
          (evRecord s (src % 256) (code % 65536) sev hw payload s.evr.nextSeq) } else s) := by
  show Host.Outcome.next ((Act.when (s.powered && sev < 5) (Act.emitBy hw (src % 256) (code % 65536) sev payload)).run s) = _
  rw [Act.run_when]
  simp only [Bool.and_eq_true, decide_eq_true_eq]
  rfl

end Sys2Proof.Machine

open Sys2Proof Sys2Proof.Machine

/-- Settles O60: the supply's rows by the fields they write and their records, entry to STANDBY by what its parts lose and
keep, the recorder by the cases of an offer, the inventory by what a read enters, and class 0x0A by its replies. -/
theorem mainSupplyRecorderAndInventoryFollowTheRules : Obligations.MainSupplyRecorderAndInventoryFollowTheRules := by
  unfold Obligations.MainSupplyRecorderAndInventoryFollowTheRules
  intro s pwr up wakes wakeable standby
  have hwakes {c : Instr} (hc : exec c s = .next (Act.wakeNow.run s)) (hw : wakeable) : wakes c := by
    obtain ⟨hp, hs, hl⟩ := hw
    exact ⟨_, hc, Act.wakeNow_wakes hp hs hl⟩
  have hstandby {t : State} (hat : AtStandby s t) (hp : t.fld pwr = 1) : standby t := by
    obtain ⟨hlosing, ⟨⟨hjobs, hthreads⟩, htensor, hddr, ⟨hmodels, hroles, hparts⟩, hstate⟩, hen, hpg, hidle⟩ := hat
    exact ⟨hp, State.flag_of_zero hen, State.flag_of_zero hpg, hjobs, hthreads, hstate, htensor, hddr,
      fun m => ⟨hmodels m, State.flag_of_zero (hparts m)⟩, hroles, hlosing.boot, hidle, hlosing.sheltered⟩
  refine ⟨?_, ?_, ?_, ?_, ?_, ?_, ?_, ?_, ?_, ?_, ?_⟩
  · intro w holds
    have hholds : s.triggered w = true ↔ holds := by cases w <;> simp [holds, State.triggered]
    have hexec : exec (.wake w) s = .next ((Act.wake w).run s) := rfl
    rw [Act.wake_run] at hexec
    refine ⟨fun hu hh hw => hwakes ?_ hw, fun hn => ?_⟩
    · rw [hexec, if_pos (by simp [hholds.mpr hh, show s.powered = true from hu])]
    · rw [hexec]
      split
      · next hdue =>
        rw [Bool.and_eq_true, hholds] at hdue
        have hasleep := (hn.resolve_left (not_not_intro hdue.1)).resolve_left (not_not_intro hdue.2)
        rw [Act.wakeNow_idle hasleep]
      · rfl
  · intro due
    have hexec : exec .wakeRetry s = .next (Act.wakeRetry.run s) := rfl
    rw [Act.wakeRetry_run] at hexec
    refine ⟨fun hd hw => hwakes ?_ hw, fun hn => ?_⟩
    · rw [hexec, if_pos hd]
    · rw [hexec]
      split
      · next hd => rw [Act.wakeNow_idle (hn.resolve_left (not_not_intro hd))]
      · rfl
  · intro fails
    refine ⟨fun hn => ?_, fun hu hp => ⟨_, rfl, ?_⟩⟩
    · show Host.Outcome.next ((Act.mainPgGood fails).run s) = _
      rw [Act.mainPgGood, Act.run_get, if_neg (by simpa using hn), Act.run_skip]
    · obtain ⟨hpwr, hpg, hstate, hnoted⟩ := Act.mainPgGood_active fails hu hp
      exact ⟨hpwr, hpg, hstate, hnoted.2, hnoted.eq⟩
  · intro due
    refine ⟨fun hn => ?_, fun ⟨hu, hp, ht⟩ => ⟨_, rfl, ?_⟩⟩
    · show Host.Outcome.next (Act.mainTimeout.run s) = _
      rw [Act.mainTimeout, Act.run_get, if_neg (by simpa [due, up, pwr, and_assoc] using hn), Act.run_skip]
    · obtain ⟨hpwr, hen, hnoted⟩ := Act.mainTimeout_standby hu hp ht
      exact ⟨hpwr, hen, hnoted.2, hnoted.eq⟩
  · refine ⟨fun hn => ?_, fun hu ha => ⟨_, rfl, ?_⟩⟩
    · show Host.Outcome.next (Act.mainPgLoss.run s) = _
      rw [Act.mainPgLoss, Act.run_get, if_neg (by simpa using hn), Act.run_skip]
    · obtain ⟨hat, hpwr, hretry⟩ := Act.mainPgLoss_lost hu ha
      exact ⟨hstandby hat hpwr, hretry⟩
  · intro due
    have hexec : exec .standbyEntry s = .next (Act.standbyEntry.run s) := rfl
    rw [Act.standbyEntry_run] at hexec
    refine ⟨fun hn => ?_, fun hd => ⟨Act.toStandby.run s, ?_, hstandby (Act.toStandby_at s).1 (Act.toStandby_at s).2⟩⟩
    · rw [hexec, if_neg hn]
    · rw [hexec, if_pos hd]
  · intro ack
    refine ⟨fun hu hm => ⟨_, rfl, ?_⟩, fun hn => ?_⟩
    · obtain ⟨hack, hnoted, hevr⟩ := Act.avsSetpoint_ack ack hu hm
      exact ⟨hack, hnoted.2, hnoted.eq, hevr⟩
    · show Host.Outcome.next ((Act.avsSetpoint ack).run s) = _
      rw [Act.avsSetpoint, Act.run_get, Act.run_when, if_neg]
      rcases hn with hn | hn
      · simp [show ¬s.powered = true from hn]
      · simp [hn]
  · intro src code sev hw payload c e r few waits shed offered
    have hexec := execEventAdmit_run src code sev hw payload s
    have hoffer (h : offered) {f : Evr} (hf : e.offer (s.fld F.EVR_CTL.min_sev) (s.fld F.EVR_CTL.shed_sev) r = f) :
        exec c s = .next { s with evr := f } := by
      rw [hexec, if_pos ⟨h.1, h.2.1⟩, ← hf]
    have hshed (h : exec c s = .next { s with evr := e.shedOne sev }) (hsev : sev < 5) : shed :=
      ⟨_, h, rfl, fun j => Evr.shedOne_shed hsev j, rfl⟩
    refine ⟨fun hn => ?_, fun ho hw hf => ⟨_, hoffer ho (Evr.offer_admits ho.2.2 hw hf), rfl⟩,
      fun ho hw hf => hshed (hoffer ho (Evr.offer_sheds ho.2.2 hw hf)) ho.2.1,
      fun ho hw hq => ⟨_, hoffer ho (Evr.offer_waits ho.2.2 hw), ?_⟩,
      fun ho hw hq => hshed ((hoffer ho (Evr.offer_waits ho.2.2 hw)).trans ?_) ho.2.1⟩
    · rw [hexec]
      split
      · next h =>
        rw [Evr.offer_filtered (r := r) (not_le.mp fun hmin => hn ⟨h.1, h.2, hmin⟩)]
      · rfl
    · rw [Evr.enqueue, if_pos hq]
    · rw [Evr.enqueue, if_neg (by omega)]
      rfl
  · intro n id due ok serial
    have hok : ok ↔ (id.ack && s.fld (F.INV_SLOT_CFG.addr n) ≠ 0) = true := by simp [ok]
    refine ⟨fun hn => ?_, fun hd => ⟨_, rfl, ?_⟩⟩
    · show Host.Outcome.next ((Act.inventoryRead n id.ack id.devClass.toNat id.serial.toNat id.modules).run s) = _
      rw [Act.inventoryRead_idle _ _ _ _ hn]
    · obtain ⟨hnoted, hpresent, hmismatch, hentered, hnone, ⟨hserial, hclass, hfw⟩, hmodules, hothers⟩ :=
        Act.inventoryRead_reads id.ack id.devClass.toNat id.serial.toNat id.modules hd
      refine ⟨fun ho => ?_, fun ho => ?_, hfw.trans (by rw [hserial]), hmodules, hothers, hnoted.2, hnoted.eq⟩
      · rw [hok] at ho
        obtain ⟨hi, x, hlookup, hser, hcls, hslot, hcycle⟩ := hentered ho
        refine ⟨?_, ?_, hpresent.trans ho, by rw [hmismatch, ho, Bool.true_and], _, x, hlookup, ?_, ?_, hslot, hcycle, hi,
          fun j hj => ?_, fun hnew hfree => ?_⟩
        · rw [hserial, if_pos ho]
        · rw [hclass, if_pos ho]
        · rw [hser, if_pos ho]
        · rw [hcls, if_pos ho]
        · rw [if_pos ho, hj, Option.getD_some]
        · rw [if_pos ho, hnew, Option.getD_none]
          exact State.invPlace_free hfree
      · rw [hok, Bool.not_eq_true] at ho
        have hno : ¬(id.ack && s.fld (F.INV_SLOT_CFG.addr n) ≠ 0) = true := by rw [ho]; decide
        exact ⟨by rw [hserial, if_neg hno], by rw [hclass, if_neg hno], hpresent.trans ho, hnone ho,
          by rw [hmismatch, ho, Bool.false_and]⟩
  · refine ⟨fun hn => ?_, fun ha => ⟨_, rfl, Act.inventoryCommit_saves ha⟩⟩
    show Host.Outcome.next (Act.inventoryCommit.run s) = _
    rw [Act.inventoryCommit, Act.run_get, Act.run_when, if_neg (by simpa [Alive] using hn)]
  · intro m src cmd hserved replies
    refine ⟨?_, ?_, ?_, ?_, ?_⟩
    · rintro sec rfl
      exact ⟨_, rfl, Act.invQuery_replies hserved sec⟩
    · rintro sec rfl rfl
      refine ⟨_, rfl, ?_⟩
      rw [Act.invQuery_slots hserved, ← s.invSlots_length]
      exact Act.respondWith_bytes m (by decide) 1 0 0 0 _ s
    · rintro fromSeq count rfl
      exact ⟨_, rfl, Act.recordsRead_replies hserved fromSeq count⟩
    · rintro rfl
      exact ⟨_, rfl, Act.repairQuery_replies hserved⟩
    · rintro i rfl
      exact ⟨_, rfl, Act.hoursRead_replies hserved i⟩

end

section
/-!
SUPPORT. Frames that leave, queue pairs, and the RDMA operations of a peer on its windows (R327, R330, R334, R342, R343).
-/
namespace Sys2Proof.Machine

/-! ## Frames -/

section
variable {s t : State}

theorem Act.ethSend_run (l : Nat) (x : EthTx) (s : State) :
    (Act.ethSend l x).run s = { s with eth := s.ethAfter l x } := rfl

/-- A frame that is sent leaves, or waits. -/
theorem State.ethAfter_eq (s : State) (l : Nat) (x : EthTx) :
    ∃ out held, s.ethAfter l x = { s.eth with out := out, held := held } ∧
      (out.getLast? = some (s.frame l x) ∨
        ((s.frame l x).waits (s.pausedAt l) = true ∧ held.getLast? = some (s.frame l x))) := by
  simp only [State.ethAfter]
  split
  · next h => exact ⟨_, _, rfl, .inr ⟨h, by simp⟩⟩
  · exact ⟨_, _, rfl, .inl (by simp)⟩

theorem State.frame_mem_ethAfter (s : State) (l : Nat) (x : EthTx) :
    s.frame l x ∈ (s.ethAfter l x).out ++ (s.ethAfter l x).held := by
  obtain ⟨out, held, he, h⟩ := s.ethAfter_eq l x
  rw [he, List.mem_append]
  exact h.imp List.mem_of_getLast? fun h => List.mem_of_getLast? h.2

/-- How a frame looks depends on the tag of RoCEv2 and on whether its port requires MACsec. -/
theorem State.frame_congr {l : Nat} (hp : t.fld F.ETH_CTL.roce_pcp = s.fld F.ETH_CTL.roce_pcp)
    (hm : t.flag (F.ETH_PORT_CFG.macsec_req l) = s.flag (F.ETH_PORT_CFG.macsec_req l)) (x : EthTx) :
    t.frame l x = s.frame l x := by
  have htag : t.tagOf x = s.tagOf x := by cases x <;> simp only [State.tagOf, hp]
  rw [State.frame, State.frame, htag, hm]

/-- What is sent depends beside the frame on the ports and the frames that left and wait. -/
theorem State.ethAfter_congr {l : Nat} {x : EthTx} (hf : t.frame l x = s.frame l x) (he : t.eth = s.eth) :
    t.ethAfter l x = s.ethAfter l x := by
  rw [State.ethAfter, State.ethAfter, State.pausedAt, State.pausedAt, hf, he]

/-! ## Queue pairs -/

theorem State.qpOf_congr {n : Nat} (h : t.eth.qps = s.eth.qps) : t.qpOf n = s.qpOf n := by rw [State.qpOf, State.qpOf, h]

theorem State.qpOf_spec {n : Nat} {q : Qp} (h : s.qpOf n = some q) : q.num = n ∧ q.error = false := by
  simpa using List.find?_some h

theorem State.ethAfter_qpOf (s : State) (l : Nat) (x : EthTx) (n : Nat) :
    State.qpOf { s with eth := s.ethAfter l x } n = s.qpOf n := by
  obtain ⟨_, _, he, -⟩ := s.ethAfter_eq l x
  exact State.qpOf_congr (by rw [he])

/-- A change of a QP that keeps its number and its error is seen in that QP alone. -/
theorem State.qpOf_qp (s : State) (n : Nat) {f : Qp → Qp} (hf : ∀ q, (f q).num = q.num ∧ (f q).error = q.error) (j : Nat) :
    ((Act.qp n f).run s).qpOf j = if j = n then (s.qpOf j).map f else s.qpOf j := by
  have hfind : ((Act.qp n f).run s).qpOf j = (s.qpOf j).map fun q => if q.num = n then f q else q := by
    show (s.eth.qps.map fun q => if q.num = n then f q else q).find? (fun q => q.num == j && !q.error) = _
    rw [List.find?_map, State.qpOf]
    congr 2
    funext q
    simp only [Function.comp_apply]
    split
    · rw [(hf q).1, (hf q).2]
    · rfl
  rw [hfind]
  cases hq : s.qpOf j with
  | none => simp
  | some q =>
    obtain ⟨hnum, -⟩ := State.qpOf_spec hq
    simp only [Option.map_some, hnum]
    split <;> rfl

/-- The QP of a number that is put in error is connected no more. -/
theorem State.qpOf_qp_error (s : State) (n : Nat) {f : Qp → Qp} (hf : ∀ q, (f q).error = true) :
    ((Act.qp n f).run s).qpOf n = none := by
  show (s.eth.qps.map fun q => if q.num = n then f q else q).find? (fun q => q.num == n && !q.error) = _
  rw [List.find?_eq_none]
  intro x hx
  obtain ⟨q, -, rfl⟩ := List.mem_map.mp hx
  split
  · simp [hf]
  · next h => simp [h]

end

/-! ## Mailboxes that become unbound, and errors -/

/-- From s to t registers below those of the mailboxes keep their values, and of the rest of the state only registers and
the recorder differ. -/
def UnbindOnly (s t : State) : Prop :=
  (∃ csr evr, t = { s with csr := csr, evr := evr }) ∧ ∀ k < 0x110104, t.reg k = s.reg k

theorem UnbindOnly.frame : FrameRel UnbindOnly where
  refl s := ⟨⟨s.csr, s.evr, rfl⟩, fun _ _ => rfl⟩
  trans := by
    rintro s _ _ ⟨⟨_, _, rfl⟩, h⟩ ⟨⟨_, _, rfl⟩, g⟩
    exact ⟨⟨_, _, rfl⟩, fun k hk => (g k hk).trans (h k hk)⟩

theorem UnbindOnly.setF {m hi lo x : Nat} : (Act.setF ⟨R.MBX_STAT m, hi, lo⟩ x).Within UnbindOnly := fun s =>
  ⟨⟨_, s.evr, rfl⟩, fun k hk => by
    rw [State.reg_setF, if_neg]
    simp only [R.MBX_STAT]
    omega⟩

theorem UnbindOnly.emit {src code sev : Nat} {p : List Nat} : (Act.emit src code sev p).Within UnbindOnly := fun s =>
  ⟨⟨s.csr, _, rfl⟩, fun _ _ => rfl⟩

theorem UnbindOnly.unbind {m q src : Nat} : (Act.unbind m q src).Within UnbindOnly := by
  refine frame.seq ?_
  simp only [List.forall_mem_cons, List.not_mem_nil, false_imp_iff, implies_true, and_true]
  exact ⟨setF, setF, setF, emit⟩

/-- A connected QP enters the error state. -/
theorem Act.qpError_run {s : State} {n : Nat} {q : Qp} (h : s.qpOf n = some q) :
    UnbindOnly ((Act.qp n fun q => { q with error := true, mailbox := none }).run s) ((Act.qpError n).run s) := by
  rw [Act.qpError, Act.run_get]
  simp only [h, Act.run_seq_cons, Act.run_seq_nil]
  split
  · exact UnbindOnly.unbind _
  · exact UnbindOnly.frame.skip _

/-- What a peer meets that reaches outside its windows (R334). -/
structure TurnedAway (n port : Nat) (s t : State) : Prop where
  mem : t.mem = s.mem
  tags : t.tags = s.tags
  nak : s.frame port (.nak n) ∈ t.eth.out ++ t.eth.held
  gone : t.qpOf n = none
  count : t.fld F.ETH_RKEY_ERR.count = countedUp s F.ETH_RKEY_ERR.count 1
  objs : t.objs = s.objs

/-- A frame is sent, an event counted in a register and recorded. -/
theorem Act.ethSend_bump_emit (l : Nat) (x : EthTx) (f : Fd) (src code sev : Nat) (p : List Nat) (s : State) :
    let t := (Act.emit src code sev p).run ((Act.bump f).run ((Act.ethSend l x).run s))
    t.mem = s.mem ∧ t.tags = s.tags ∧ t.objs = s.objs ∧ t.eth = s.ethAfter l x ∧ t.csr = ((Act.bump f).run s).csr :=
  ⟨rfl, rfl, rfl, rfl, rfl⟩

theorem Act.qp_only (n : Nat) (f : Qp → Qp) (s : State) : let t := (Act.qp n f).run s
    t.mem = s.mem ∧ t.tags = s.tags ∧ t.objs = s.objs ∧ t.csr = s.csr ∧ t.eth = { s.eth with qps := t.eth.qps } :=
  ⟨rfl, rfl, rfl, rfl, rfl⟩

theorem UnbindOnly.parts {s t : State} (h : UnbindOnly s t) :
    t.mem = s.mem ∧ t.tags = s.tags ∧ t.objs = s.objs ∧ t.eth = s.eth := by
  obtain ⟨⟨_, _, rfl⟩, -⟩ := h
  exact ⟨rfl, rfl, rfl, rfl⟩

theorem Act.remoteError_turnsAway {s : State} {q x : Qp} (h : s.qpOf q.num = some x) :
    TurnedAway q.num q.port s ((Act.remoteError q).run s) := by
  obtain ⟨hmem₁, htags₁, hobjs₁, heth₁, hcsr₁⟩ :=
    Act.ethSend_bump_emit q.port (.nak q.num) F.ETH_RKEY_ERR.count 0x28 0x0D03 2 [q.port, q.num] s
  have hrun : (Act.remoteError q).run s = (Act.qpError q.num).run ((Act.emit 0x28 0x0D03 2 [q.port, q.num]).run
      ((Act.bump F.ETH_RKEY_ERR.count).run ((Act.ethSend q.port (.nak q.num)).run s))) := by
    rw [Act.remoteError]
    iterate 4 rw [Act.run_seq_cons]
    rw [Act.run_seq_nil]
  generalize (Act.emit 0x28 0x0D03 2 [q.port, q.num]).run
    ((Act.bump F.ETH_RKEY_ERR.count).run ((Act.ethSend q.port (.nak q.num)).run s)) = u at *
  have hconnected : u.qpOf q.num = some x :=
    (State.qpOf_congr (by rw [heth₁])).trans ((s.ethAfter_qpOf q.port (.nak q.num) q.num).trans h)
  have herror := Act.qpError_run hconnected
  have hgone := State.qpOf_qp_error u q.num (f := fun q => { q with error := true, mailbox := none }) fun _ => rfl
  obtain ⟨hmem₂, htags₂, hobjs₂, hcsr₂, heth₂⟩ := Act.qp_only q.num (fun q => { q with error := true, mailbox := none }) u
  obtain ⟨hmem₃, htags₃, hobjs₃, heth₃⟩ := herror.parts
  rw [hrun]
  refine ⟨by rw [hmem₃, hmem₂, hmem₁], by rw [htags₃, htags₂, htags₁], ?_, ?_, ?_, by rw [hobjs₃, hobjs₂, hobjs₁]⟩
  · rw [heth₃, heth₂, heth₁]
    exact s.frame_mem_ethAfter q.port (.nak q.num)
  · exact (State.qpOf_congr (by rw [heth₃])).trans hgone
  · rw [State.fld_congr (herror.2 _ (by decide)), State.fld_of_csr hcsr₂, State.fld_of_csr hcsr₁]
    exact State.fld_bump_same s F.ETH_RKEY_ERR.count (by decide) (by decide)

/-! ## Packets marked ECN-CE (R330) -/

/-- What a packet of QP q that is marked, or not, brings about before its operation. -/
def Marked (n : Nat) (q : Qp) (ce : Bool) (s u : State) : Prop :=
  u = { s with eth := u.eth } ∧
  ((ce = false ∨ ∃ a, q.cnpSentAt = some a ∧ s.tns.tick < a + 50) → u = s) ∧
  (ce = true → (∀ a, q.cnpSentAt = some a → a + 50 ≤ s.tns.tick) →
    u.eth = State.ethAfter { s with eth := { s.eth with qps := u.eth.qps } } q.port (.cnp q.num) ∧
    u.qpOf n = some { q with cnpSentAt := some s.tns.tick } ∧ ∀ j, j ≠ n → u.qpOf j = s.qpOf j)

/-- Whether a CNP may be sent for q. -/
def State.mayCnp (s : State) (q : Qp) : Bool :=
  match q.cnpSentAt with | some t => decide (t + 50 ≤ s.tns.tick) | none => true

theorem State.mayCnp_iff {s : State} {q : Qp} : s.mayCnp q = true ↔ ∀ a, q.cnpSentAt = some a → a + 50 ≤ s.tns.tick := by
  unfold State.mayCnp
  cases q.cnpSentAt <;> simp

theorem Act.congested_run (q : Qp) (s : State) : (Act.congested q).run s =
    if s.mayCnp q then (Act.ethSend q.port (.cnp q.num)).run
      ((Act.qp q.num fun q => { q with cnpSentAt := some s.tns.tick }).run s) else s := Act.run_when ..

theorem Act.congested_marks {s : State} {n : Nat} {q : Qp} (h : s.qpOf n = some q) (ce : Bool) :
    let u := (Act.when ce (Act.congested q)).run s
    Marked n q ce s u ∧ ∃ x, u.qpOf n = some x := by
  obtain ⟨hnum, -⟩ := State.qpOf_spec h
  intro u
  by_cases hmay : ce = true ∧ s.mayCnp q = true
  · set v := (Act.qp q.num fun q => { q with cnpSentAt := some s.tns.tick }).run s with hv
    have hu : u = { v with eth := v.ethAfter q.port (.cnp q.num) } := by
      simp only [u]
      rw [Act.run_when, if_pos hmay.1, Act.congested_run, if_pos hmay.2, Act.ethSend_run]
    obtain ⟨out, held, heth, -⟩ := v.ethAfter_eq q.port (.cnp q.num)
    have hqp (j : Nat) : u.qpOf j = if j = n then (s.qpOf j).map fun q => { q with cnpSentAt := some s.tns.tick }
        else s.qpOf j := by
      rw [hu, State.ethAfter_qpOf, hv,
        State.qpOf_qp s q.num (f := fun q => { q with cnpSentAt := some s.tns.tick }) (fun _ => ⟨rfl, rfl⟩), hnum]
    have hn : u.qpOf n = some { q with cnpSentAt := some s.tns.tick } := by rw [hqp, if_pos rfl, h, Option.map_some]
    refine ⟨⟨by rw [hu]; rfl, fun hno => ?_, fun _ _ => ⟨?_, hn, fun j hj => by rw [hqp, if_neg hj]⟩⟩, _, hn⟩
    · rcases hno with hno | ⟨a, ha, hlate⟩
      · simp [hno] at hmay
      · have := State.mayCnp_iff.mp hmay.2 a ha
        omega
    · rw [hu]
      show v.ethAfter _ _ = State.ethAfter { s with eth := { s.eth with qps := (v.ethAfter _ _).qps } } _ _
      rw [heth]
      exact heth.symm
  · have hu : u = s := by
      simp only [u]
      rw [Act.run_when, Act.congested_run]
      split_ifs with h1 h2
      · exact absurd ⟨h1, h2⟩ hmay
      · rfl
      · rfl
    refine ⟨⟨by rw [hu], fun _ => hu, fun hce hdue => absurd ⟨hce, State.mayCnp_iff.mpr hdue⟩ hmay⟩, q, by rw [hu, h]⟩

/-! ## Operations of a peer (R334, R342) -/

section
variable {s : State} {n : Nat} {q : Qp}

/-- An operation of a connected QP on an open port goes on after what its marks bring about. -/
theorem Act.rdma_run (hp : s.powered = true) (hq : s.qpOf n = some q) (ho : s.portOpen q.port = true)
    (hw : s.portPowered q.port = true) (ce : Bool) (body : State → Qp → Act) :
    let u := (Act.when ce (Act.congested q)).run s
    (Act.rdma n ce body).run s = (body u q).run u := by
  intro u
  rw [Act.rdma, Act.run_get]
  simp only [hp, if_true, hq, ho, hw, Bool.and_self]
  rfl

theorem Act.rdma_unconnected (hq : s.qpOf n = none) (ce : Bool) (body : State → Qp → Act) :
    (Act.rdma n ce body).run s = s := by
  rw [Act.rdma, Act.run_get, hq, ite_self]
  rfl

theorem Marked.frame_eq {u : State} {ce : Bool} (h : Marked n q ce s u) (l : Nat) (x : EthTx) : u.frame l x = s.frame l x := by
  rw [h.1]
  rfl

/-- What was turned away after the marks was turned away. -/
theorem TurnedAway.of_marked {u t : State} {ce : Bool} {l : Nat} (h : Marked n q ce s u) (ht : TurnedAway n l u t) :
    TurnedAway n l s t where
  mem := by rw [ht.mem, h.1]
  tags := by rw [ht.tags, h.1]
  nak := h.frame_eq l (.nak n) ▸ ht.nak
  gone := ht.gone
  count := by rw [ht.count, h.1]; rfl
  objs := by rw [ht.objs, h.1]

end

end Sys2Proof.Machine
end

section
/-!
SUPPORT. A submission: the request word is stored and its waiters served, and pending or overrun is shown (R212, R214, R342,
R343).
-/
namespace Sys2Proof.Machine

/-! ## A store to shared SRAM -/

/-- From s to t registers, Ethernet and every byte from the mailboxes on are as before. -/
def StoreKept (s t : State) : Prop := t.csr = s.csr ∧ t.eth = s.eth ∧ ∀ b, 0x40000000 ≤ b → t.byte b = s.byte b

theorem StoreKept.frame : FrameRel StoreKept where
  refl _ := ⟨rfl, rfl, fun _ _ => rfl⟩
  trans a b := ⟨b.1.trans a.1, b.2.1.trans a.2.1, fun x hx => (b.2.2 x hx).trans (a.2.2 x hx)⟩

theorem StoreKept.setBytes {a : Nat} {l : List Byte} (h : a + l.length ≤ 0x40000000) :
    (Act.setBytes a l).Within StoreKept := fun s => by
  refine ⟨?_, ?_, fun b hb => State.byte_setBytes_other _ _ _ _ (by omega)⟩ <;> rw [Act.setBytes_only]

theorem StoreKept.setTag {w : Nat} {b : Bool} : (Act.setTag w b).Within StoreKept := fun _ => ⟨rfl, rfl, fun _ _ => rfl⟩

theorem StoreKept.grant {a : Agent} {status : Nat} {v : Word} : (Act.grant a status v).Within StoreKept := fun _ => by
  cases a <;> exact ⟨rfl, rfl, fun _ _ => rfl⟩

theorem mem_insertBy {α : Type} {key : α → Nat} {x y : α} {l : List α} : y ∈ insertBy key x l ↔ y = x ∨ y ∈ l := by
  induction l with
  | nil => simp [insertBy]
  | cons z r ih =>
    rw [insertBy]
    split
    · simp
    · simp only [List.mem_cons, ih]
      tauto

theorem mem_sortBy {α : Type} {key : α → Nat} {y : α} {l : List α} : y ∈ sortBy key l ↔ y ∈ l := by
  have hfold (l r : List α) : y ∈ l.foldl (fun r x => insertBy key x r) r ↔ y ∈ l ∨ y ∈ r := by
    induction l generalizing r with
    | nil => simp
    | cons x l ih =>
      rw [List.foldl_cons, ih, mem_insertBy, List.mem_cons]
      tauto
  rw [sortBy, hfold]
  simp

theorem State.word_of_mem_waitersOn {s : State} {w : Nat} {p : Agent × Wait} (h : p ∈ s.waitersOn w) :
    p.2.what.word = some w := by
  have hp := (List.mem_filter.mp (mem_sortBy.mp h)).2
  simp only [Bool.and_eq_true, beq_iff_eq] at hp
  exact hp.1

/-- The waiters of a word that lies below the mailboxes fill no byte of them. -/
theorem StoreKept.serveWord {w : Nat} (hw : sharedBase + 8 * w + 16 ≤ 0x40000000) (n : Nat) :
    (Act.serveWord w n).Within StoreKept := by
  induction n with
  | zero => exact frame.skip
  | succ n ih =>
    refine .get fun s => .ite (fun _ => frame.skip) fun _ => ?_
    dsimp only
    refine .ite (fun _ => .ite (fun _ => frame.each fun _ _ => grant) fun _ => frame.andThen (frame.each fun _ _ => grant) ?_)
      fun _ => ?_
    · split
      · exact frame.skip
      · refine frame.seq ?_
        simp only [List.forall_mem_cons, List.not_mem_nil, false_imp_iff, implies_true, and_true]
        exact ⟨grant, setTag, ih⟩
    · split
      · exact frame.skip
      · next a addr v r hfills =>
        have hmem : (a, addr, v) ∈ (a, addr, v) :: r := List.mem_cons_self ..
        rw [← hfills] at hmem
        obtain ⟨p, hp, hfill⟩ := List.mem_filterMap.mp hmem
        have hword : wordNo addr = w := by
          have hwait := State.word_of_mem_waitersOn hp
          cases hwhat : p.2.what <;> simp [hwhat] at hfill
          obtain ⟨-, rfl, -⟩ := hfill
          simpa [hwhat, WaitFor.word] using hwait
        have haddr : addr + 8 ≤ 0x40000000 := by
          simp only [wordNo, sharedBase] at hword hw
          omega
        refine frame.seq ?_
        simp only [List.forall_mem_cons, List.not_mem_nil, false_imp_iff, implies_true, and_true]
        exact ⟨setBytes (by rw [leBytes_length]; exact haddr), setTag, grant, ih⟩

theorem StoreKept.fillTag {w : Nat} (hw : sharedBase + 8 * w + 16 ≤ 0x40000000) : (Act.fillTag w).Within StoreKept :=
  .get fun _ => .ite (fun _ => frame.skip) fun _ => frame.andThen setTag (.get fun _ => serveWord hw _)

/-! ## The request word -/

theorem wordNo_reqWord (m : Fin 16) : wordNo (reqWord m) = 0x2EA000 + m.val := by
  simp only [wordNo, reqWord, sharedBase]
  omega

/-- A store of the request word writes its eight bytes and fills its tag. -/
theorem Act.store_reqWord (m : Fin 16) (v : Nat) (s : State) : (Act.store (reqWord m) (leBytes 8 v)).run s =
    (Act.fillTag (wordNo (reqWord m))).run ((Act.setBytes (reqWord m) (leBytes 8 v)).run s) := by
  have hin : inShared (reqWord m) = true := by
    rw [inShared, Bool.and_eq_true, decide_eq_true_iff, decide_eq_true_iff]
    simp only [reqWord, sharedBase, sharedSize]
    omega
  have hone : wordNo (reqWord m + (leBytes 8 v).length - 1) + 1 - wordNo (reqWord m) = 1 := by
    simp only [leBytes_length, wordNo, reqWord, sharedBase]
    omega
  rw [Act.store, Act.run_andThen, hin, hone, if_pos (by rfl), List.range_one, Act.run_each_cons, Act.run_each_nil, Nat.add_zero]

theorem StoreKept.store_reqWord {m : Fin 16} {v : Nat} : (Act.store (reqWord m) (leBytes 8 v)).Within StoreKept := fun s => by
  rw [Act.store_reqWord]
  refine frame.trans (setBytes ?_ s) (fillTag ?_ _)
  · simp only [leBytes_length, reqWord]
    omega
  · rw [wordNo_reqWord]
    simp only [sharedBase]
    omega

theorem leNat_leBytes (n v : Nat) : leNat (leBytes n v) = v % 256 ^ n := by
  induction n generalizing v with
  | zero => simp [leBytes, leNat, Nat.mod_one]
  | succ n ih =>
    have hpow : 256 ^ (n + 1) = 256 * 256 ^ n := Nat.pow_succ'
    rw [leBytes, leNat, ih, BitVec.toNat_ofNat, hpow, Nat.mod_mul]

theorem State.isPoisoned_congr {s t : State} (h : t.objs = s.objs) (w : Nat) : t.isPoisoned w = s.isPoisoned w := by
  rw [State.isPoisoned, State.isPoisoned, h]

theorem State.waitersOn_congr {s t : State} (hc : t.cores = s.cores) (ht : t.threads = s.threads) (w : Nat) :
    t.waitersOn w = s.waitersOn w := by
  simp only [State.waitersOn, State.waits, State.core, hc, ht]

theorem State.nat_congr {s t : State} (h : t.mem = s.mem) (a n : Nat) : t.nat a n = s.nat a n := by
  simp only [State.nat, State.bytes, State.byte, h]

theorem Act.setBytes_agents (a : Nat) (l : List Byte) (s : State) : let t := (Act.setBytes a l).run s
    t.objs = s.objs ∧ t.cores = s.cores ∧ t.threads = s.threads := by
  rw [Act.setBytes_only]
  exact ⟨rfl, rfl, rfl⟩

theorem Act.setTag_rest (w : Nat) (b : Bool) (s : State) : let t := (Act.setTag w b).run s
    t.mem = s.mem ∧ t.cores = s.cores ∧ t.threads = s.threads := ⟨rfl, rfl, rfl⟩

/-- Where nothing waits on the request word a store of it is read back, and the word is FULL unless it is poisoned. -/
theorem Act.store_reqWord_idle {m : Fin 16} {v : Nat} (hv : v < 2 ^ 64) {s : State}
    (hw : s.waitersOn (wordNo (reqWord m)) = []) : let t := (Act.store (reqWord m) (leBytes 8 v)).run s
    t.nat (reqWord m) 8 = v ∧ (s.isPoisoned (wordNo (reqWord m)) = false → t.tagFull (wordNo (reqWord m)) = true) := by
  intro t
  set w := wordNo (reqWord m) with hwdef
  set u := (Act.setBytes (reqWord m) (leBytes 8 v)).run s with hu
  have hnat : u.nat (reqWord m) 8 = v := by
    have hbytes := s.bytes_setBytes_same (reqWord m) (leBytes 8 v)
    rw [leBytes_length] at hbytes
    rw [State.nat, hu, hbytes, leNat_leBytes]
    exact Nat.mod_eq_of_lt hv
  obtain ⟨hobjs, hcores, hthreads⟩ := Act.setBytes_agents (reqWord m) (leBytes 8 v) s
  obtain ⟨hmem, hcores', hthreads'⟩ := Act.setTag_rest w true u
  have hwaiters : ((Act.setTag w true).run u).waitersOn w = [] := by
    rw [State.waitersOn_congr (hcores'.trans hcores) (hthreads'.trans hthreads), hw]
  have ht : t = if s.isPoisoned w then u else (Act.setTag w true).run u := by
    simp only [t]
    rw [Act.store_reqWord, ← hwdef, ← hu, Act.fillTag, Act.run_get, State.isPoisoned_congr hobjs, Act.run_ite, Act.run_skip,
      Act.run_andThen, Act.serve, Act.run_get, hwaiters, List.length_nil, Act.serveWord, Act.run_skip]
  refine ⟨?_, fun hp => ?_⟩
  · rw [ht]
    split
    · exact hnat
    · exact (State.nat_congr hmem _ _).trans hnat
  · rw [ht, if_neg (by simp [hp]), State.tagFull_setTag, if_pos rfl]

/-! ## A submission -/

/-- A submission shows an overrun where a request is pending, and otherwise stores the request word and sets pending. -/
theorem Act.submit_run (m : Fin 16) (imm : Nat) (s : State) : (Act.submit m imm).run s =
    if bitOf (s.fld F.MBX_PENDING.pending) m then
      (Act.emit 0x30 0x0D10 2 [m.val]).run
        ((Act.setFBit F.MBX_OVERRUN.overrun m true).run ((Act.bump (F.MBX_CNT.count m)).run s))
    else (Act.setFBit F.MBX_PENDING.pending m true).run
      ((Act.store (reqWord m) (leBytes 8 imm)).run ((Act.bump (F.MBX_CNT.count m)).run s)) := by
  rw [Act.submit, Act.run_get, Act.run_andThen, Act.run_ite, Act.run_andThen, Act.run_andThen]

theorem Noted.setFBit {l : List Fd} {f : Fd} {i : Nat} {b : Bool} (hf : f ∈ l) (h : f.hi < 32) (hl : f.lo ≤ f.hi) :
    (Act.setFBit f i b).Within (Noted l) := .get fun _ => setF hf h hl

theorem Noted.bump {l : List Fd} {f : Fd} (hf : f ∈ l) (h : f.hi < 32) (hl : f.lo ≤ f.hi) : (Act.bump f).Within (Noted l) :=
  .get fun _ => setF hf h hl

theorem Noted.parts {l : List Fd} {s t : State} (h : Noted l s t) :
    t.mem = s.mem ∧ t.tags = s.tags ∧ t.eth = s.eth ∧ t.objs = s.objs ∧ t.cores = s.cores ∧ t.threads = s.threads := by
  obtain ⟨⟨_, _, rfl⟩, -⟩ := h
  exact ⟨rfl, rfl, rfl, rfl, rfl, rfl⟩

section
variable {m : Fin 16} {s : State}

/-- The counter of a mailbox shares no register with what all mailboxes share. -/
theorem mbxCnt_apart {f : Fd} (hf : f.off < 0x110100) (m : Fin 16) :
    ∀ g ∈ [F.MBX_CNT.count m], f.apart g = true := fun g hg => by
  rw [List.mem_singleton.mp hg]
  refine Fd.apart_of_off ?_
  simp only [R.MBX_CNT]
  omega

/-- A submission while another is pending. -/
theorem Act.submit_overruns (hp : bitOf (s.fld F.MBX_PENDING.pending) m = true) (imm : Nat) :
    let t := (Act.submit m imm).run s
    t.eth = s.eth ∧ t.mem = s.mem ∧ t.fld (F.MBX_CNT.count m) = countedUp s (F.MBX_CNT.count m) 1 ∧
      t.fld F.MBX_PENDING.pending = s.fld F.MBX_PENDING.pending ∧ bitOf (t.fld F.MBX_OVERRUN.overrun) m = true := by
  intro t
  set u := (Act.bump (F.MBX_CNT.count m)).run s with hu
  set v := (Act.setFBit F.MBX_OVERRUN.overrun m true).run u with hv
  have ht : t = (Act.emit 0x30 0x0D10 2 [m.val]).run v := by
    simp only [t]
    rw [Act.submit_run, if_pos hp]
  have hsu : Noted [F.MBX_CNT.count m] s u := Noted.bump (by simp) (by simp) (by simp) s
  have huv : Noted [F.MBX_OVERRUN.overrun] u v := Noted.setFBit (by simp) (by decide) (by decide) u
  have hvt : Noted [] v t := ht ▸ Noted.emit v
  obtain ⟨hmem₁, -, heth₁, -⟩ := hsu.parts
  obtain ⟨hmem₂, -, heth₂, -⟩ :=
    (Noted.frame.trans (huv.mono (l' := [F.MBX_OVERRUN.overrun]) (by simp)) (hvt.mono (by simp))).parts
  refine ⟨heth₂.trans heth₁, hmem₂.trans hmem₁, ?_, ?_, ?_⟩
  · rw [hvt.2.fld (by simp), huv.2.fld (fun g hg => ?_), hu, State.fld_bump_same _ _ (by simp) (by simp)]
    rw [List.mem_singleton.mp hg]
    refine Fd.apart_of_off ?_
    simp only [R.MBX_CNT, R.MBX_OVERRUN]
    omega
  · rw [hvt.2.fld (by simp), huv.2.fld (by decide), hsu.2.fld (mbxCnt_apart (by decide) m)]
  · rw [hvt.2.fld (by simp)]
    exact State.bit_setFBit_same u _ m true (by decide) (by simp; omega)

/-- A submission to a mailbox with nothing pending. -/
theorem Act.submit_submits (hp : bitOf (s.fld F.MBX_PENDING.pending) m = false) (imm : Nat) :
    let t := (Act.submit m imm).run s
    t.eth = s.eth ∧ (∀ b, 0x40000000 ≤ b → t.byte b = s.byte b) ∧
      t.fld (F.MBX_CNT.count m) = countedUp s (F.MBX_CNT.count m) 1 ∧ bitOf (t.fld F.MBX_PENDING.pending) m = true ∧
      t.fld F.MBX_OVERRUN.overrun = s.fld F.MBX_OVERRUN.overrun ∧
      (imm < 2 ^ 64 → s.waitersOn (wordNo (reqWord m)) = [] → t.nat (reqWord m) 8 = imm ∧
        (s.isPoisoned (wordNo (reqWord m)) = false → t.tagFull (wordNo (reqWord m)) = true)) := by
  intro t
  set u := (Act.bump (F.MBX_CNT.count m)).run s with hu
  set v := (Act.store (reqWord m) (leBytes 8 imm)).run u with hv
  have ht : t = (Act.setFBit F.MBX_PENDING.pending m true).run v := by
    simp only [t]
    rw [Act.submit_run, if_neg (by simp [hp])]
  have hsu : Noted [F.MBX_CNT.count m] s u := Noted.bump (by simp) (by simp) (by simp) s
  obtain ⟨hcsr, heth, hbytes⟩ : StoreKept u v := StoreKept.store_reqWord u
  have hvt : Noted [F.MBX_PENDING.pending] v t := ht ▸ Noted.setFBit (by simp) (by decide) (by decide) v
  obtain ⟨hmem₁, -, heth₁, hobjs₁, hcores₁, hthreads₁⟩ := hsu.parts
  obtain ⟨hmem₃, htags₃, heth₃, -⟩ := hvt.parts
  refine ⟨heth₃.trans (heth.trans heth₁), fun b hb => ?_, ?_, ?_, ?_, fun hi hw => ?_⟩
  · rw [State.byte, hmem₃, ← State.byte, hbytes b hb, State.byte, hmem₁, ← State.byte]
  · rw [hvt.2.fld (fun g hg => ?_), State.fld_of_csr hcsr, hu, State.fld_bump_same _ _ (by simp) (by simp)]
    rw [List.mem_singleton.mp hg]
    refine Fd.apart_of_off ?_
    simp only [R.MBX_CNT, R.MBX_PENDING]
    omega
  · rw [ht]
    exact State.bit_setFBit_same v _ m true (by decide) (by simp; omega)
  · rw [hvt.2.fld (by decide), State.fld_of_csr hcsr, hsu.2.fld (mbxCnt_apart (by decide) m)]
  · obtain ⟨hnat, hfull⟩ := Act.store_reqWord_idle hi ((State.waitersOn_congr hcores₁ hthreads₁ _).trans hw)
    refine ⟨(State.nat_congr hmem₃ _ _).trans hnat, fun hpo => ?_⟩
    rw [State.tagFull, htags₃]
    exact hfull ((State.isPoisoned_congr hobjs₁ _).trans hpo)

end

/-! ## RDMA_WRITE, RDMA_READ and WRITE_WITH_IMMEDIATE -/

section
variable {s : State} {n : Nat} {q : Qp}

/-- A QP, connected over an open port with power. -/
structure Reaches (s : State) (n : Nat) (q : Qp) : Prop where
  powered : s.powered = true
  connected : s.qpOf n = some q
  isOpen : s.portOpen q.port = true
  power : s.portPowered q.port = true

/-- What the marks of a packet leave, and the operation after them. -/
theorem Act.rdma_marked (h : Reaches s n q) (ce : Bool) (body : State → Qp → Act) :
    ∃ u x, Marked n q ce s u ∧ u.qpOf q.num = some x ∧ (Act.rdma n ce body).run s = (body u q).run u := by
  obtain ⟨hmarked, x, hx⟩ := Act.congested_marks h.connected ce
  obtain ⟨hnum, -⟩ := State.qpOf_spec h.connected
  exact ⟨_, x, hmarked, hnum ▸ hx, Act.rdma_run h.powered h.connected h.isOpen h.power ce body⟩

/-- An operation that meets a remote access error. -/
theorem Act.rdma_turnsAway (h : Reaches s n q) {ce : Bool} {body : State → Qp → Act}
    (hb : ∀ u, (body u q).run u = (Act.remoteError q).run u) : TurnedAway n q.port s ((Act.rdma n ce body).run s) := by
  obtain ⟨u, x, hmarked, hx, hrun⟩ := Act.rdma_marked h ce body
  obtain ⟨hnum, -⟩ := State.qpOf_spec h.connected
  rw [hrun, hb]
  exact TurnedAway.of_marked hmarked (hnum ▸ Act.remoteError_turnsAway hx)

/-- A window that is found holds the bytes that were asked for. -/
theorem Qp.window_inside {rkey a k kind i : Nat} (h : q.window rkey a k = some (kind, i)) :
    inWindow (windowOf kind i) a k = true := by
  rw [Qp.window] at h
  obtain ⟨p, hp, hi⟩ := Option.map_eq_some_iff.mp h
  obtain ⟨rfl, rfl⟩ := Prod.mk.inj hi
  have hfound := List.find?_some hp
  rw [Bool.and_eq_true] at hfound
  exact hfound.2

/-- The request areas lie from the mailboxes on. -/
theorem Qp.window_request {rkey a k i : Nat} (h : q.window rkey a k = some (0, i)) : 0x40000000 ≤ a := by
  have hin := Qp.window_inside h
  rw [inWindow, Bool.and_eq_true, decide_eq_true_iff, decide_eq_true_iff] at hin
  simp only [windowOf, reqArea] at hin
  omega

variable {rkey a : Nat}

theorem Act.rdmaWrite_writes (h : Reaches s n q) {data : List Byte} {i : Nat}
    (hw : q.window rkey a data.length = some (0, i)) (ce : Bool) :
    ∃ u, Marked n q ce s u ∧ (Act.rdmaWrite n rkey a data ce).run s = (Act.setBytes a data).run u := by
  obtain ⟨u, x, hmarked, -, hrun⟩ := Act.rdma_marked h ce fun _ q =>
    match q.window rkey a data.length with
    | some (0, _) => Act.setBytes a data
    | _ => Act.remoteError q
  refine ⟨u, hmarked, hrun.trans ?_⟩
  simp only [hw]

theorem Act.rdmaWrite_turnsAway (h : Reaches s n q) {data : List Byte}
    (hw : ∀ i, q.window rkey a data.length ≠ some (0, i)) (ce : Bool) :
    TurnedAway n q.port s ((Act.rdmaWrite n rkey a data ce).run s) := by
  refine Act.rdma_turnsAway h fun u => ?_
  split
  · next i heq => exact absurd heq (hw i)
  · rfl

theorem Act.writeImm_submits (h : Reaches s n q) {data : List Byte} {m : Fin 16}
    (hw : q.window rkey a data.length = some (0, m.val)) (imm : Nat) (ce : Bool) :
    ∃ u, Marked n q ce s u ∧
      (Act.writeImm n rkey a data imm ce).run s = (Act.submit m imm).run ((Act.setBytes a data).run u) := by
  obtain ⟨u, x, hmarked, -, hrun⟩ := Act.rdma_marked h ce fun _ q =>
    match q.window rkey a data.length with
    | some (0, m) => (Act.setBytes a data).andThen (if h : m < 16 then Act.submit ⟨m, h⟩ imm else Act.skip)
    | _ => Act.remoteError q
  refine ⟨u, hmarked, hrun.trans ?_⟩
  simp only [hw, dif_pos m.isLt, Act.run_andThen]

theorem Act.writeImm_turnsAway (h : Reaches s n q) {data : List Byte}
    (hw : ∀ i, q.window rkey a data.length ≠ some (0, i)) (imm : Nat) (ce : Bool) :
    TurnedAway n q.port s ((Act.writeImm n rkey a data imm ce).run s) := by
  refine Act.rdma_turnsAway h fun u => ?_
  split
  · next i heq => exact absurd heq (hw i)
  · rfl

theorem Act.rdmaRead_sends (h : Reaches s n q) {len k i : Nat} (hw : q.window rkey a len = some (k, i)) (hk : k ≠ 0)
    (ce : Bool) : ∃ u, Marked n q ce s u ∧ (Act.rdmaRead n rkey a len ce).run s =
      { u with eth := u.ethAfter q.port (.readData n (u.viewBytes a len)) } := by
  obtain ⟨u, x, hmarked, -, hrun⟩ := Act.rdma_marked h ce fun s q =>
    match q.window rkey a len with
    | some (0, _) => Act.remoteError q
    | some _ => Act.ethSend q.port (.readData n (s.viewBytes a len))
    | none => Act.remoteError q
  obtain ⟨k, rfl⟩ := Nat.exists_eq_succ_of_ne_zero hk
  refine ⟨u, hmarked, hrun.trans ?_⟩
  simp only [hw, Act.ethSend_run]

theorem Act.rdmaRead_turnsAway (h : Reaches s n q) {len : Nat}
    (hw : q.window rkey a len = none ∨ ∃ i, q.window rkey a len = some (0, i)) (ce : Bool) :
    TurnedAway n q.port s ((Act.rdmaRead n rkey a len ce).run s) := by
  refine Act.rdma_turnsAway h fun u => ?_
  rcases hw with hw | ⟨i, hw⟩ <;> simp only [hw]

/-- What a write of data leaves beside memory. -/
theorem Marked.setBytes {u : State} {ce : Bool} (h : Marked n q ce s u) (a : Nat) (data : List Byte) :
    let v := (Act.setBytes a data).run u
    v.csr = s.csr ∧ v.objs = s.objs ∧ v.cores = s.cores ∧ v.threads = s.threads ∧ v.eth = u.eth ∧
      BytesKept a data.length s v := by
  have hbytes : BytesKept a data.length u ((Act.setBytes a data).run u) := fun b hb => State.byte_setBytes_other u a b data hb
  have hu (b : Nat) : u.byte b = s.byte b := by rw [h.1]; rfl
  refine ⟨?_, ?_, ?_, ?_, ?_, fun b hb => (hbytes b hb).trans (hu b)⟩
  all_goals rw [Act.setBytes_only]
  all_goals
    rw [h.1]

/-- Data that was written is read. -/
theorem State.byte_setBytes_in (u : State) (a : Nat) (data : List Byte) {i : Nat} (hi : i < data.length) :
    data[i]? = some (((Act.setBytes a data).run u).byte (a + i)) := by
  rw [State.byte_setBytes, dif_pos ⟨by omega, by omega⟩, List.getElem?_eq_getElem hi]
  simp

/-- A submission writes its data, then counts, and sets pending with its immediate or shows an overrun. -/
theorem Act.writeImm_acts (h : Reaches s n q) {data : List Byte} {m : Fin 16}
    (hin : q.window rkey a data.length = some (0, m.val)) (imm : BitVec 32) (ce : Bool) : let t := (Act.writeImm n rkey a data imm.toNat ce).run s
    (∀ i < data.length, data[i]? = some (t.byte (a + i))) ∧ (∃ u, Marked n q ce s u ∧ t.eth = u.eth) ∧
      t.fld (F.MBX_CNT.count m) = countedUp s (F.MBX_CNT.count m) 1 ∧ bitOf (t.fld F.MBX_PENDING.pending) m = true ∧
      (bitOf (s.fld F.MBX_PENDING.pending) m = true →
        bitOf (t.fld F.MBX_OVERRUN.overrun) m = true ∧ BytesKept a data.length s t) ∧
      (bitOf (s.fld F.MBX_PENDING.pending) m = false → s.waitersOn (wordNo (reqWord m)) = [] →
        t.nat (reqWord m) 8 = imm.toNat ∧ t.fld F.MBX_OVERRUN.overrun = s.fld F.MBX_OVERRUN.overrun ∧
        (s.isPoisoned (wordNo (reqWord m)) = false → t.tagFull (wordNo (reqWord m)) = true)) := by
  obtain ⟨u, hmarked, hrun⟩ := Act.writeImm_submits h hin imm.toNat ce
  obtain ⟨hcsr, hobjs, hcores, hthreads, heth, hbytes⟩ := hmarked.setBytes a data
  have hlow := Qp.window_request hin
  have hdata (i : Nat) (hi : i < data.length) : data[i]? = some (((Act.setBytes a data).run u).byte (a + i)) :=
    u.byte_setBytes_in a data hi
  intro t
  change t = _ at hrun
  generalize (Act.setBytes a data).run u = v at *
  have hfld (f : Fd) : v.fld f = s.fld f := State.fld_of_csr hcsr f
  have hcounted : countedUp v (F.MBX_CNT.count m) 1 = countedUp s (F.MBX_CNT.count m) 1 := by rw [countedUp, countedUp, hfld]
  rw [hrun]
  cases hpending : bitOf (s.fld F.MBX_PENDING.pending) m with
  | true =>
    obtain ⟨heth', hmem, hcount, hpend, hover⟩ := Act.submit_overruns (s := v) (m := m) (by rw [hfld, hpending]) imm.toNat
    have hbyte (b : Nat) : ((Act.submit m imm.toNat).run v).byte b = v.byte b := by rw [State.byte, hmem, State.byte]
    exact ⟨fun i hi => (hdata i hi).trans (by rw [hbyte]), ⟨u, hmarked, heth'.trans heth⟩, hcount.trans hcounted,
      by rw [hpend, hfld, hpending], fun _ => ⟨hover, fun b hb => (hbyte b).trans (hbytes b hb)⟩,
      fun hno => (Bool.false_ne_true hno.symm).elim⟩
  | false =>
    obtain ⟨heth', hbyte, hcount, hpend, hover, hword⟩ :=
      Act.submit_submits (s := v) (m := m) (by rw [hfld, hpending]) imm.toNat
    refine ⟨fun i hi => (hdata i hi).trans (by rw [hbyte _ (by omega)]), ⟨u, hmarked, heth'.trans heth⟩,
      hcount.trans hcounted, hpend, fun hno => (Bool.false_ne_true hno).elim, fun _ hwait => ?_⟩
    have himm := imm.isLt
    obtain ⟨hnat, hfull⟩ := hword (by omega) ((State.waitersOn_congr hcores hthreads _).trans hwait)
    exact ⟨hnat, hover.trans (hfld _), fun hpo => hfull ((State.isPoisoned_congr hobjs _).trans hpo)⟩

end

end Sys2Proof.Machine
end

section
/-!
SUPPORT. Connections: which requests are accepted, the rkeys granted, and what a mailbox that is bound shows (R329, R332, R334,
R337, R345).
-/
namespace Sys2Proof.Machine

/-! ## Rkeys (R334) -/

/-- Among more candidates than there are used rkeys one is new. -/
theorem freshRkey_not_mem {used : List Nat} (h : used.length < 2 ^ 32) : freshRkey used ∉ used := by
  set l := (List.range (used.length + 1)).map fun i => (Config.rkey used.length + i) % 2 ^ 32 with hl
  have hnodup : l.Nodup := by
    refine List.Nodup.map_on (fun i hi j hj hij => ?_) List.nodup_range
    have := List.mem_range.mp hi
    have := List.mem_range.mp hj
    omega
  have hsome : ∃ k, l.find? (fun k => !used.contains k) = some k := by
    rw [← Option.isSome_iff_exists, List.find?_isSome]
    by_contra hno
    have hsub : l ⊆ used := fun k hk => by
      by_contra hku
      exact hno ⟨k, hk, by simpa using hku⟩
    have := (List.subperm_of_subset hnodup hsub).length_le
    simp only [hl, List.length_map, List.length_range] at this
    omega
  obtain ⟨k, hk⟩ := hsome
  have hkey : freshRkey used = k := by rw [freshRkey, ← hl, hk, Option.getD_some]
  simpa [hkey] using List.find?_some hk

theorem grantKeys_windows (used : List Nat) (ws : List (Nat × Nat)) :
    (grantKeys used ws).map (fun p => (p.1, p.2.1)) = ws := by
  induction ws generalizing used with
  | nil => rfl
  | cons w ws ih => rw [grantKeys, List.map_cons, ih]

/-- No rkey is granted that was used before, nor one twice. -/
theorem grantKeys_new {used : List Nat} {ws : List (Nat × Nat)} (h : used.length + ws.length ≤ 2 ^ 32) :
    (∀ p ∈ grantKeys used ws, p.2.2 ∉ used) ∧ ((grantKeys used ws).map fun p => p.2.2).Nodup := by
  induction ws generalizing used with
  | nil => simp [grantKeys]
  | cons w ws ih =>
    rw [List.length_cons] at h
    obtain ⟨hnew, hnodup⟩ := ih (used := freshRkey used :: used) (by rw [List.length_cons]; omega)
    rw [grantKeys]
    refine ⟨List.forall_mem_cons.mpr ⟨freshRkey_not_mem (by omega), fun p hp hu => hnew p hp (List.mem_cons_of_mem _ hu)⟩, ?_⟩
    rw [List.map_cons, List.nodup_cons]
    refine ⟨fun hmem => ?_, hnodup⟩
    obtain ⟨p, hp, hkey⟩ := List.mem_map.mp hmem
    exact hnew p hp (hkey ▸ List.mem_cons_self ..)

theorem State.cmWindows_length (s : State) (q : CmReq) : (s.cmWindows q).length ≤ 4 := by
  have hrecords : (if q.records && s.cmSource q = 1 then [(3, 0)] else []).length ≤ 1 := by split <;> simp
  rw [State.cmWindows, List.length_append, List.length_append]
  cases q.mailbox <;> cases q.stream <;> simp only [List.length_cons, List.length_nil]
  case none.some | some.some =>
    split <;> simp only [List.length_cons, List.length_nil] <;> omega
  all_goals omega

/-! ## Acceptance (R332, R334, R337) -/

section
variable {s : State} {q : CmReq}

theorem State.cmSource_of_none {m : Fin 16} (hm : q.mailbox = some m) (h : s.mbxSource m = 0) : s.cmSource q = 0 := by
  simp only [State.cmSource, hm, h]
  cases q.stream with
  | none => rfl
  | some n => exact ite_self 0

/-- Whether the mailbox that a request names may be bound. -/
def State.cmMailboxFree (s : State) (q : CmReq) : Bool :=
  match q.mailbox with
  | some m => s.flag F.MBX_CTL.en && !s.flag (F.MBX_STAT.bound m)
  | none => true

/-- Whether the stream that a request names may be bound. -/
def State.cmStreamFree (s : State) (q : CmReq) : Bool :=
  match q.stream with
  | some n => (s.eth.streams[n]).mode ≠ 0 && !(s.eth.qps.any fun x => x.stream == some n.val && !x.error)
  | none => true

/-- Whether the paths of a request are a MANAGER's to use. -/
def State.cmPortsSecure (s : State) (q : CmReq) : Bool :=
  s.mgmtPort q.port && (match q.alt with | some a => s.mgmtPort a | none => true)

theorem State.cmAccepts_eq (s : State) (q : CmReq) : s.cmAccepts q =
    ((s.cmSource q == 1 || s.cmSource q == 2) && q.qp < 4096 && (s.qpOf q.qp).isNone && s.cmMailboxFree q && s.cmStreamFree q &&
      (s.cmSource q ≠ 1 || s.cmPortsSecure q)) := rfl

theorem State.cmMailboxFree_iff : s.cmMailboxFree q = true ↔
    ∀ m, q.mailbox = some m → s.flag F.MBX_CTL.en = true ∧ s.flag (F.MBX_STAT.bound m) = false := by
  unfold State.cmMailboxFree
  cases q.mailbox <;> simp

theorem State.cmStreamFree_iff : s.cmStreamFree q = true ↔ ∀ n : Fin 8, q.stream = some n →
    s.eth.streams[n].mode ≠ 0 ∧ ∀ x ∈ s.eth.qps, x.stream = some n.val → x.error = true := by
  unfold State.cmStreamFree
  cases q.stream <;> simp

theorem State.cmPortsSecure_iff :
    s.cmPortsSecure q = true ↔ s.mgmtPort q.port = true ∧ ∀ a, q.alt = some a → s.mgmtPort a = true := by
  unfold State.cmPortsSecure
  cases q.alt <;> simp

/-- When a request is accepted. -/
theorem State.cmAccepts_iff : s.cmAccepts q = true ↔
    (s.cmSource q = 1 ∨ s.cmSource q = 2) ∧ q.qp < 4096 ∧ s.qpOf q.qp = none ∧ s.cmMailboxFree q = true ∧
      s.cmStreamFree q = true ∧ (s.cmSource q = 1 → s.cmPortsSecure q = true) := by
  rw [State.cmAccepts_eq]
  simp [and_assoc, imp_iff_not_or]

theorem Act.cmReq_refused (hp : s.powered = true) (ho : s.portOpen q.port = true) (hw : s.portPowered q.port = true)
    (hc : s.coreUp 0 = true) (h : s.cmAccepts q ≠ true) :
    (Act.cmReq q).run s = { s with eth := s.ethAfter q.port (.cmRefused q.qp) } := by
  rw [Act.cmReq, Act.run_get, if_neg (by simp [hp, ho, hw, hc]), if_pos (by simpa using h), Act.ethSend_run]

end

/-! ## Binding a mailbox (R345) -/

/-- From s to t of the Ethernet block only frames that left or wait differ. -/
def FramesOnly (s t : State) : Prop := ∃ out held, t.eth = { s.eth with out := out, held := held }

theorem FramesOnly.frame : FrameRel FramesOnly where
  refl s := ⟨s.eth.out, s.eth.held, rfl⟩
  trans := by
    rintro s t u ⟨_, _, h⟩ ⟨_, _, g⟩
    exact ⟨_, _, by rw [g, h]⟩

theorem FramesOnly.of_eth {a : Act} (h : ∀ s, (a.run s).eth = s.eth) : a.Within FramesOnly := fun s =>
  ⟨s.eth.out, s.eth.held, h s⟩

theorem FramesOnly.ethSend {l : Nat} {x : EthTx} : (Act.ethSend l x).Within FramesOnly := fun s => by
  obtain ⟨out, held, h, -⟩ := s.ethAfter_eq l x
  exact ⟨out, held, h⟩

theorem FramesOnly.mbxPush {m : Fin 16} : (Act.mbxPush m).Within FramesOnly := by
  refine .get fun s => .ite (fun _ => ?_) fun _ => frame.skip
  split
  · exact ethSend
  · exact frame.skip

theorem FramesOnly.respondWith {m : Fin 16} {cls cmd status flags retry : Nat} {p : List Byte} :
    (Act.respondWith m cls cmd status flags retry p).Within FramesOnly := by
  have hbytes {a : Nat} {l : List Byte} : (Act.setBytes a l).Within FramesOnly := of_eth fun s => by rw [Act.setBytes_only]
  refine .get fun s => frame.seq ?_
  simp only [List.forall_mem_cons, List.not_mem_nil, false_imp_iff, implies_true, and_true]
  exact ⟨hbytes, hbytes, hbytes, of_eth fun _ => rfl, of_eth fun _ => rfl, mbxPush⟩

theorem FramesOnly.abortPending {m : Fin 16} : (Act.abortPending m).Within FramesOnly :=
  .get fun _ => frame.when fun _ => respondWith

section
variable {m : Fin 16} {s : State}

/-- What an answer to a pending request changes: MBX_PENDING, in which the request is no more, and the response area. -/
theorem Act.abortPending_aborts (m : Fin 16) (s : State) : let t := (Act.abortPending m).run s
    RegsKept [R.MBX_PENDING] s t ∧ bitOf (t.fld F.MBX_PENDING.pending) m = false ∧ BytesKept (respArea m) 0x2000 s t := by
  intro t
  by_cases hp : bitOf (s.fld F.MBX_PENDING.pending) m = true
  · have ht : t = (Act.respond m (s.nat (reqArea m + 2) 1) (s.nat (reqArea m + 3) 1) 12 []).run s := by
      simp only [t]
      rw [Act.abortPending, Act.run_get, Act.run_when, if_pos hp]
    rw [ht, Act.respond]
    refine ⟨fun k hk => Act.respondWith_reg _ _ _ _ _ _ _ s k fun h => hk (List.mem_singleton.mpr h), ?_, ?_⟩
    · exact (Act.respondWith_answered ..).2.2.2.2
    · refine Act.respondWith_bytesKept _ _ _ _ _ _ _ s ?_
      simp only [kindByte]
      split_ifs <;> simp
  · have ht : t = s := by
      simp only [t]
      rw [Act.abortPending, Act.run_get, Act.run_when, if_neg hp]
    rw [ht]
    exact ⟨fun _ _ => rfl, Bool.eq_false_iff.mpr hp, fun _ _ => rfl⟩

/-- The fields of mailbox m that show what it is bound to. -/
def bindFlds (m : Fin 16) : List Fd := [F.MBX_STAT.bound m, F.MBX_STAT.push m, F.MBX_STAT.qp m]

theorem bindFlds_off {f : Fd} (hf : f.off < 0x110104) (m : Fin 16) : ∀ g ∈ bindFlds m, f.apart g = true := fun g hg => by
  refine Fd.apart_of_off ?_
  simp only [bindFlds, List.mem_cons, List.not_mem_nil, or_false] at hg
  rcases hg with rfl | rfl | rfl <;> simp only [R.MBX_STAT] <;> omega

theorem Noted.bindFld {f : Fd} {x : Nat} (hf : f ∈ bindFlds m) : (Act.setF f x).Within (Noted [f]) := by
  simp only [bindFlds, List.mem_cons, List.not_mem_nil, or_false] at hf
  rcases hf with rfl | rfl | rfl <;> exact setF (by simp) (by simp) (by simp)

/-- What a mailbox shows that was bound, and what its binding leaves. -/
structure BoundTo (m : Fin 16) (q : CmReq) (s t : State) : Prop where
  bound : t.flag (F.MBX_STAT.bound m) = true
  push : t.flag (F.MBX_STAT.push m) = q.push
  qp : t.fld (F.MBX_STAT.qp m) = q.qp
  pending : bitOf (t.fld F.MBX_PENDING.pending) m = false
  bytes : BytesKept (respArea m) 0x2000 s t
  eth : FramesOnly s t
  flds : ∀ f : Fd, f.off < 0x110000 → t.fld f = s.fld f

theorem Act.bind_binds (m : Fin 16) {q : CmReq} (hq : q.qp < 4096) (src : Nat) (s : State) :
    BoundTo m q s ((Act.bind m q src).run s) := by
  set a := (Act.abortPending m).run s with ha
  set b := (Act.setB (F.MBX_STAT.bound m) true).run a with hb
  set c := (Act.setB (F.MBX_STAT.push m) q.push).run b with hc
  set d := (Act.setF (F.MBX_STAT.qp m) q.qp).run c with hd
  have hrun : (Act.bind m q src).run s = (Act.emit 0x30 0x0D12 1 [m.val, q.qp, src]).run d := by
    rw [Act.bind]
    iterate 5 rw [Act.run_seq_cons]
    rw [Act.run_seq_nil]
  obtain ⟨hregs, hpending, hbytes⟩ := Act.abortPending_aborts m s
  have hab : Noted [F.MBX_STAT.bound m] a b := Noted.bindFld (m := m) (by simp [bindFlds]) a
  have hbc : Noted [F.MBX_STAT.push m] b c := Noted.bindFld (m := m) (by simp [bindFlds]) b
  have hcd : Noted [F.MBX_STAT.qp m] c d := Noted.bindFld (m := m) (by simp [bindFlds]) c
  rw [hrun]
  generalize ht : (Act.emit 0x30 0x0D12 1 [m.val, q.qp, src]).run d = t
  have hdt : Noted [] d t := ht ▸ Noted.emit d
  have hat : Noted (bindFlds m) a t := by
    have hbd := Noted.frame.trans (hbc.mono (l' := bindFlds m) (by simp [bindFlds])) (hcd.mono (by simp [bindFlds]))
    exact Noted.frame.trans (hab.mono (by simp [bindFlds])) (Noted.frame.trans hbd (hdt.mono (by simp)))
  obtain ⟨hmem, -, heth, -⟩ := hat.parts
  refine ⟨?_, ?_, ?_, ?_, fun x hx => ?_, ?_, fun f hf => ?_⟩
  · rw [hdt.2.flag (by simp), hcd.2.flag (by simp [Fd.apart]), hbc.2.flag (by simp [Fd.apart])]
    exact State.flag_setB_same a _ true (by simp) (by simp)
  · rw [hdt.2.flag (by simp), hcd.2.flag (by simp [Fd.apart])]
    exact State.flag_setB_same b _ q.push (by simp) (by simp)
  · rw [hdt.2.fld (by simp), hd, State.fld_setF_same _ _ _ (by simp) (by simp)]
    exact Nat.mod_eq_of_lt hq
  · rw [hat.2.fld (bindFlds_off (by decide) m), hpending]
  · rw [State.byte, hmem]
    exact hbytes x hx
  · obtain ⟨out, held, hframes⟩ := FramesOnly.abortPending (m := m) s
    exact ⟨out, held, heth.trans hframes⟩
  · rw [hat.2.fld (bindFlds_off (by omega) m)]
    refine State.fld_congr (hregs f.off ?_)
    simp only [R.MBX_PENDING, List.mem_singleton]
    omega

end

/-! ## A connection (R334, R345) -/

/-- The QP that a request connects. -/
def State.cmQp (s : State) (q : CmReq) : Qp :=
  { num := q.qp, source := s.cmSource q, port := q.port, alt := q.alt.map Fin.val, mailbox := q.mailbox.map Fin.val,
    stream := q.stream.map Fin.val, push := q.push, pushAddr := q.pushAddr, pushLen := q.pushLen,
    rkeys := grantKeys s.eth.rkeysUsed (s.cmWindows q), rate := fullRate, halvedAt := none, cnpAt := none, cnpSentAt := none,
    error := false }

/-- The mailbox that a request names is bound. -/
def Act.cmBind (s : State) (q : CmReq) : Act :=
  match q.mailbox with
  | some m => Act.bind m q (s.cmSource q)
  | none => Act.skip

/-- The Ethernet block with the QP of a request. -/
def Eth.connect (e : Eth) (x : Qp) : Eth :=
  { e with
    qps := (e.qps.filter fun y => y.num ≠ x.num) ++ [x]
    rkeysUsed := (x.rkeys.map fun p => p.2.2).reverse ++ e.rkeysUsed }

section
variable {s : State} {q : CmReq}

theorem Act.cmReq_accepted (hp : s.powered = true) (ho : s.portOpen q.port = true) (hw : s.portPowered q.port = true)
    (hc : s.coreUp 0 = true) (h : s.cmAccepts q = true) : (Act.cmReq q).run s =
      (Act.ethSend q.port (.cmRep q.qp ((s.cmQp q).rkeys.map fun p => p.2.2))).run
        ((Act.ethx fun e => e.connect (s.cmQp q)).run ((Act.cmBind s q).run s)) := by
  rw [Act.cmReq, Act.run_get, if_neg (by simp [hp, ho, hw, hc]), if_neg (by simp [h])]
  rfl

theorem Eth.connect_find (e : Eth) (x : Qp) (hx : x.error = false) (n : Nat) :
    ((e.connect x).qps.find? fun q => q.num == n && !q.error) =
      if n = x.num then some x else e.qps.find? fun q => q.num == n && !q.error := by
  rw [Eth.connect, List.find?_append, List.find?_filter, List.find?_singleton]
  by_cases hn : n = x.num
  · have hnone : (e.qps.find? fun y => decide (decide (y.num ≠ x.num) = true ∧ (y.num == n && !y.error) = true)) = none := by
      rw [List.find?_eq_none]
      intro y _
      simp only [hn, decide_eq_true_eq, beq_iff_eq, Bool.and_eq_true]
      exact fun h => h.1 h.2.1
    rw [hnone, if_pos hn, Option.none_or, if_pos (by simp [hn, hx])]
  · have hsame : (e.qps.find? fun y => decide (decide (y.num ≠ x.num) = true ∧ (y.num == n && !y.error) = true)) =
        e.qps.find? fun y => y.num == n && !y.error := by
      congr 1
      funext y
      by_cases hy : y.num = n
      · simp [hy, hn]
      · simp [hy]
    rw [hsame, if_neg hn, if_neg (by simp [Ne.symm hn]), Option.or_none]

theorem Act.cmBind_binds (hq : q.qp < 4096) : let u := (Act.cmBind s q).run s
    (∀ m, q.mailbox = some m → BoundTo m q s u) ∧ (q.mailbox = none → u = s) ∧ FramesOnly s u ∧
      ∀ f : Fd, f.off < 0x110000 → u.fld f = s.fld f := by
  intro u
  cases hm : q.mailbox with
  | none =>
    have hu : u = s := by simp only [u, Act.cmBind, hm, Act.run_skip]
    rw [hu]
    exact ⟨fun _ h => (Option.some_ne_none _ h.symm).elim, fun _ => rfl, FramesOnly.frame.refl s, fun _ _ => rfl⟩
  | some m =>
    have hbound : BoundTo m q s u := by
      simp only [u, Act.cmBind, hm]
      exact Act.bind_binds m hq _ s
    refine ⟨fun j hj => ?_, fun h => (Option.some_ne_none _ h).elim, hbound.eth, hbound.flds⟩
    rwa [← Option.some.inj hj]

theorem Act.ethx_ethSend (f : Eth → Eth) (l : Nat) (x : EthTx) (u : State) :
    let t := (Act.ethSend l x).run ((Act.ethx f).run u)
    t.csr = u.csr ∧ t.mem = u.mem ∧ ∃ v : State, v.csr = u.csr ∧ v.eth = f u.eth ∧ t.eth = v.ethAfter l x :=
  ⟨rfl, rfl, (Act.ethx f).run u, rfl, rfl, rfl⟩

/-- The frame that is sent last is that of s, where tag, MACsec and pauses are those of s. -/
theorem State.ethAfter_last {s v : State} {l : Nat} {x : EthTx} (hf : v.frame l x = s.frame l x)
    (hp : v.eth.ports = s.eth.ports) : let e := v.ethAfter l x
    e.out.getLast? = some (s.frame l x) ∨
      ((s.frame l x).waits (s.pausedAt l) = true ∧ e.held.getLast? = some (s.frame l x)) := by
  obtain ⟨out, held, he, hlast⟩ := v.ethAfter_eq l x
  have hpaused : v.pausedAt l = s.pausedAt l := by rw [State.pausedAt, State.pausedAt, hp]
  intro e
  rw [hf, hpaused] at hlast
  simp only [e, he]
  exact hlast

/-- What an accepted request leaves: the QP, its reply, and what the binding of its mailbox leaves. -/
theorem Act.cmReq_connects (hp : s.powered = true) (ho : s.portOpen q.port = true) (hw : s.portPowered q.port = true)
    (hc : s.coreUp 0 = true) (h : s.cmAccepts q = true) : let t := (Act.cmReq q).run s
    t.qpOf q.qp = some (s.cmQp q) ∧ (∀ n, n ≠ q.qp → t.qpOf n = s.qpOf n) ∧
      (let f := s.frame q.port (.cmRep q.qp ((s.cmQp q).rkeys.map fun p => p.2.2))
       t.eth.out.getLast? = some f ∨ (f.waits (s.pausedAt q.port) = true ∧ t.eth.held.getLast? = some f)) ∧
      (q.mailbox = none → t.csr = s.csr ∧ t.mem = s.mem) ∧
      ∀ m, q.mailbox = some m → ∃ u, BoundTo m q s u ∧ t.csr = u.csr ∧ t.mem = u.mem := by
  obtain ⟨-, hqp, -⟩ := State.cmAccepts_iff.mp h
  intro t
  obtain ⟨hbound, hnone, ⟨out, held, heth⟩, hflds⟩ := Act.cmBind_binds (s := s) hqp
  set u := (Act.cmBind s q).run s with hu
  obtain ⟨hcsr, hmem, v, hvcsr, hveth, hsent⟩ := Act.ethx_ethSend (fun e => e.connect (s.cmQp q)) q.port
    (.cmRep q.qp ((s.cmQp q).rkeys.map fun p => p.2.2)) u
  rw [hu, ← Act.cmReq_accepted hp ho hw hc h] at hcsr hmem hsent
  rw [← hu] at hcsr hmem
  have hqps (n : Nat) : t.qpOf n = if n = q.qp then some (s.cmQp q) else s.qpOf n := by
    have hlater : t.qpOf n = v.qpOf n := (State.qpOf_congr (by rw [hsent])).trans (v.ethAfter_qpOf q.port _ n)
    rw [hlater, State.qpOf, hveth, heth]
    exact Eth.connect_find _ (s.cmQp q) rfl n
  refine ⟨by rw [hqps, if_pos rfl], fun n hn => by rw [hqps, if_neg hn], ?_, fun hm => ?_,
    fun m hm => ⟨u, hbound m hm, hcsr, hmem⟩⟩
  · have hkept (f : Fd) (hf : f.off < 0x110000) : v.fld f = s.fld f := (State.fld_of_csr hvcsr f).trans (hflds f hf)
    have hmacsec : v.flag (F.ETH_PORT_CFG.macsec_req q.port) = s.flag (F.ETH_PORT_CFG.macsec_req q.port) :=
      State.flag_of_fld (hkept _ (by simp only [R.ETH_PORT_CFG]; omega))
    have hframe := State.frame_congr (hkept F.ETH_CTL.roce_pcp (by decide)) hmacsec
      (.cmRep q.qp ((s.cmQp q).rkeys.map fun p => p.2.2))
    have hports : v.eth.ports = s.eth.ports := by rw [hveth, heth]; rfl
    rw [hsent]
    exact State.ethAfter_last hframe hports
  · rw [hcsr, hmem, hnone hm]
    exact ⟨rfl, rfl⟩

end

end Sys2Proof.Machine
end

section
/-!
SUPPORT. Serving mailboxes: which is next, what becomes of its wake and its header, how its payload is read, and MBX_DONE
(R338 to R344).
-/
namespace Sys2Proof.Machine

/-! ## Whose turn it is (R343) -/

/-- How many mailboxes come between the one served last and j. -/
def State.turnOf (s : State) (j : Fin 16) : Nat := (j.val + 31 - s.eth.lastServed % 16) % 16

/-- The next mailbox is pending, and no pending one comes before it. -/
theorem State.nextMailbox_first {s : State} {m : Fin 16} (h : s.nextMailbox = some m) :
    bitOf (s.fld F.MBX_PENDING.pending) m = true ∧
      ∀ j : Fin 16, bitOf (s.fld F.MBX_PENDING.pending) j = true → s.turnOf m ≤ s.turnOf j := by
  rw [State.nextMailbox, List.find?_eq_some_iff_getElem] at h
  obtain ⟨hm, i, hi, hget, hbefore⟩ := h
  refine ⟨hm, fun j hj => ?_⟩
  rw [List.length_map, List.length_range] at hi
  have hturn : s.turnOf m = i := by
    rw [← hget]
    simp only [State.turnOf, List.getElem_map, List.getElem_range]
    omega
  by_contra hlt
  have hk : s.turnOf j < i := by omega
  have hskip := hbefore (s.turnOf j) hk
  have hj' : (⟨(s.eth.lastServed + 1 + s.turnOf j) % 16, Nat.mod_lt _ (by decide)⟩ : Fin 16) = j := by
    ext
    simp only [State.turnOf]
    omega
  simp only [List.getElem_map, List.getElem_range, hj'] at hskip
  simp [hj] at hskip

/-! ## The payload (R338) -/

theorem State.slice_bytes (s : State) {a k o n : Nat} (h : o + n ≤ k) : slice (s.bytes a k) o n = s.bytes (a + o) n := by
  have hpart : ((s.bytes a k).drop o).take n = s.bytes (a + o) n := by
    refine List.ext_getElem (by simp [State.bytes]; omega) fun i _ _ => ?_
    simp [State.bytes, Nat.add_assoc]
  have hlen : (s.bytes (a + o) n).length = n := by simp [State.bytes]
  rw [slice, hpart, hlen, Nat.sub_self, List.replicate_zero, List.append_nil]

/-- A field of the payload is what stands in the request area. -/
theorem State.pay_bytes (s : State) {a k o n : Nat} (h : o + n ≤ k) : pay (s.bytes a k) o n = s.nat (a + o) n := by
  rw [pay, leAt, s.slice_bytes h, State.nat]

theorem leNat_lt (l : List Byte) : leNat l < 256 ^ l.length := by
  induction l with
  | nil => simp [leNat]
  | cons b r ih =>
    have hpow : 256 ^ (r.length + 1) = 256 * 256 ^ r.length := Nat.pow_succ'
    have := b.isLt
    rw [leNat, List.length_cons, hpow]
    omega

theorem State.nat_lt (s : State) (a n : Nat) : s.nat a n < 256 ^ n := by
  have hlt := leNat_lt (s.bytes a n)
  rwa [State.bytes, List.length_map, List.length_range] at hlt

/-! ## One request (R339 to R343) -/

section
variable {s : State} {m : Fin 16}

/-- The state once the wake of mailbox m is taken. -/
def State.woken (s : State) (m : Fin 16) : State :=
  (Act.when (!s.isPoisoned (wordNo (reqWord m))) (Act.setTag (wordNo (reqWord m)) false)).run
    ((Act.ethx fun e => { e with lastServed := m }).run s)

theorem State.woken_eq (s : State) (m : Fin 16) :
    s.woken m = { s with eth := { s.eth with lastServed := m }, tags := (s.woken m).tags } := by
  rw [State.woken, Act.run_when]
  split <;> rfl

theorem Act.serveMailbox_run (m : Fin 16) (s : State) : (Act.serveMailbox m).run s =
    (if s.nat (reqWord m) 4 ≠ s.nat (reqArea m + 4) 4 then Act.mbxDone m
     else if s.nat (reqArea m + 1) 1 ≠ 1 then
       Act.respond m (s.nat (reqArea m + 2) 1) (s.nat (reqArea m + 3) 1) 10 (leBytes 1 1 ++ leBytes 1 0)
     else Act.mailboxCommand m (s.nat (reqArea m + 2) 1) (s.nat (reqArea m + 3) 1)
       (s.bytes (reqArea m + 32) (min 8160 (s.nat (reqArea m + 8) 2)))).run (s.woken m) := by
  rw [Act.serveMailbox, Act.run_get, Act.run_seq_cons, Act.run_seq_cons, Act.run_seq_cons, Act.run_seq_nil, State.woken]

theorem exec_mailboxServe_none (hp : s.powered = true) (hc : s.coreUp 2 = true) (hm : s.nextMailbox = some m) :
    exec (.mailboxServe none) s = .next ((Act.serveMailbox m).run s) := by
  show Host.Outcome.next ((Act.mailboxServe none).run s) = _
  rw [Act.mailboxServe, Act.run_get, hm]
  simp only
  rw [Act.run_when, if_pos (by simp [hp, hc])]

/-- A class that no table defines is UNSUPPORTED. -/
theorem Act.mailboxCommand_unsupported {cls : Nat} (h : cls = 4 ∨ cls = 0 ∨ 0xB < cls) (cmd : Nat) (p : List Byte) :
    Act.mailboxCommand m cls cmd p = Act.respond m cls cmd 11 [] := by
  rw [Act.mailboxCommand]
  all_goals omega

/-- A response after a change that memory does not see. -/
theorem Act.respond_replied {u : State} (hu : u.mem = s.mem) (cls cmd status : Nat) {p : List Byte}
    (hp : (kindByte cls cmd status ++ p).length ≤ 8160) :
    Replied s ((Act.respond m cls cmd status p).run u) m cls cmd status := by
  refine ⟨Answered.congr (Act.respondWith_answered m cls cmd status 0 0 p u) hu.symm rfl rfl, fun b hb => ?_⟩
  rw [Act.respond, Act.respondWith_bytesKept m cls cmd status 0 0 p u hp b hb, State.byte, hu, State.byte]

end

/-! ## MBX_DONE (R343, R344) -/

section
variable {s : State} {m : Fin 16}

theorem Act.mbxPush_pushes {q : Qp} (hf : s.flag (F.MBX_STAT.push m) = true) (hq : s.boundQp m = some q) :
    (Act.mbxPush m).run s = { s with eth := s.ethAfter q.port (.write q.num q.pushAddr (some (s.nat (respArea m + 4) 4))
      (s.bytes (respArea m) (32 + s.nat (respArea m + 8) 2))) } := by
  rw [Act.mbxPush, Act.run_get, if_pos hf, hq]
  rfl

theorem Act.mbxPush_ignored (h : s.flag (F.MBX_STAT.push m) = false ∨ s.boundQp m = none) : (Act.mbxPush m).run s = s := by
  rw [Act.mbxPush, Act.run_get]
  split
  · next hf => rw [h.resolve_left (by simp [hf]), Act.run_skip]
  · exact Act.run_skip s

theorem Act.mbxPush_ethOnly (m : Fin 16) (s : State) : ∃ e, (Act.mbxPush m).run s = { s with eth := e } := by
  rw [Act.mbxPush, Act.run_get]
  split
  · split
    · exact ⟨_, rfl⟩
    · exact ⟨s.eth, rfl⟩
  · exact ⟨s.eth, rfl⟩

theorem Noted.mbxDone : (Act.mbxDone m).Within (Noted [F.MBX_PENDING.pending]) :=
  setFBit (by simp) (by decide) (by decide)

/-- What a write of MBX_DONE that clears pending, or does not, leaves before its push. -/
theorem Act.mbxDone_when (m : Fin 16) (b : Bool) (s : State) : let u := (Act.when b (Act.mbxDone m)).run s
    (∃ csr, u = { s with csr := csr }) ∧ FldsKept [F.MBX_PENDING.pending] s u ∧
      bitOf (u.fld F.MBX_PENDING.pending) m = (bitOf (s.fld F.MBX_PENDING.pending) m && !b) := by
  cases b with
  | false => exact ⟨⟨s.csr, rfl⟩, FldsKept.frame.refl s, by rw [Bool.not_false, Bool.and_true]; rfl⟩
  | true =>
    refine ⟨⟨_, rfl⟩, (Noted.mbxDone s).2, ?_⟩
    rw [Bool.not_true, Bool.and_false]
    exact State.bit_setFBit_same s _ m false (by decide) (by simp; omega)

/-- What MBX_DONE pushes does not depend on what it clears. -/
theorem Act.mbxPush_afterDone {u : State} {q : Qp} (hu : ∃ csr, u = { s with csr := csr })
    (hk : FldsKept [F.MBX_PENDING.pending] s u) (hf : s.flag (F.MBX_STAT.push m) = true) (hq : s.boundQp m = some q) :
    ((Act.mbxPush m).run u).eth = s.ethAfter q.port (.write q.num q.pushAddr (some (s.nat (respArea m + 4) 4))
      (s.bytes (respArea m) (32 + s.nat (respArea m + 8) 2))) := by
  have hapart {f : Fd} (hoff : f.off ≠ R.MBX_PENDING) : ∀ g ∈ [F.MBX_PENDING.pending], f.apart g = true := fun g hg => by
    rw [List.mem_singleton.mp hg]
    exact Fd.apart_of_off hoff
  have hflag : u.flag (F.MBX_STAT.push m) = true :=
    (hk.flag (hapart (by simp only [R.MBX_STAT, R.MBX_PENDING]; omega))).trans hf
  have hframe (x : EthTx) : u.frame q.port x = s.frame q.port x :=
    State.frame_congr (hk.fld (by decide)) (hk.flag (hapart (by simp only [R.ETH_PORT_CFG, R.MBX_PENDING]; omega))) x
  obtain ⟨csr, rfl⟩ := hu
  rw [Act.mbxPush_pushes (q := q) hflag hq]
  exact State.ethAfter_congr (hframe _) rfl

/-- A write of MBX_DONE: done clears pending, and push sends the response where the binding delivers so. -/
theorem Act.mbxDoneWrite_acts (m : Fin 16) (v : Nat) (s : State) : let t := (Act.mbxDoneWrite m v).run s
    bitOf (t.fld F.MBX_PENDING.pending) m = (bitOf (s.fld F.MBX_PENDING.pending) m && !bitOf v 0) ∧
      FldsKept [F.MBX_PENDING.pending] s t ∧ t = { s with csr := t.csr, eth := t.eth } ∧
      (∀ q, bitOf v 1 = true → s.flag (F.MBX_STAT.push m) = true → s.boundQp m = some q →
        t.eth = s.ethAfter q.port (.write q.num q.pushAddr (some (s.nat (respArea m + 4) 4))
          (s.bytes (respArea m) (32 + s.nat (respArea m + 8) 2)))) ∧
      (bitOf v 1 = false ∨ s.flag (F.MBX_STAT.push m) = false ∨ s.boundQp m = none → t.eth = s.eth) := by
  intro t
  obtain ⟨hcleared, hkept, hpending⟩ := Act.mbxDone_when m (bitOf v 0) s
  have ht : t = if bitOf v 1 then (Act.mbxPush m).run ((Act.when (bitOf v 0) (Act.mbxDone m)).run s)
      else (Act.when (bitOf v 0) (Act.mbxDone m)).run s := by
    simp only [t]
    rw [Act.mbxDoneWrite, Act.run_andThen, Act.run_when (bitOf v 1)]
  generalize (Act.when (bitOf v 0) (Act.mbxDone m)).run s = u at *
  obtain ⟨e, he⟩ : ∃ e, t = { u with eth := e } := by
    rw [ht]
    split
    · exact Act.mbxPush_ethOnly m u
    · exact ⟨u.eth, rfl⟩
  have hcsr : t.csr = u.csr := by rw [he]
  have hflag : u.flag (F.MBX_STAT.push m) = s.flag (F.MBX_STAT.push m) := hkept.flag fun g hg => by
    rw [List.mem_singleton.mp hg]
    refine Fd.apart_of_off ?_
    simp only [R.MBX_STAT, R.MBX_PENDING]
    omega
  refine ⟨by rw [State.fld_of_csr hcsr, hpending], FldsKept.frame.trans hkept (.of_csr hcsr), ?_, fun q hb hf hq => ?_,
    fun hno => ?_⟩
  · obtain ⟨csr, hu⟩ := hcleared
    rw [he, hu]
  · rw [ht, if_pos hb]
    exact Act.mbxPush_afterDone hcleared hkept hf hq
  · have hbound : u.boundQp m = s.boundQp m ∧ u.eth = s.eth := by
      obtain ⟨csr, rfl⟩ := hcleared
      exact ⟨rfl, rfl⟩
    rw [ht]
    split
    · next hb =>
      rw [Act.mbxPush_ignored, hbound.2]
      rw [hflag, hbound.1]
      exact hno.resolve_left (by simp [hb])
    · exact hbound.2

theorem exec_mbxDone {k : Fin 13} {v : BitVec 32} {c : Instr} (hp : s.powered = true) (hc : s.coreUp k = true)
    (h : c = .mbxDone k m v ∨ c = .mbxPush k m v) : exec c s = .next ((Act.mbxDoneWrite m v.toNat).run s) := by
  have hwrite : exec c s = .next ((Act.when (s.powered && s.coreUp k) (Act.mbxDoneWrite m v.toNat)).run s) := by
    rcases h with rfl | rfl <;> rfl
  rw [hwrite, Act.run_when, if_pos (by simp [hp, hc])]

end

/-! ## Requests whose payload names their operands (R338) -/

section
variable {s : State} {m : Fin 16} {k : Nat} (u : State)

/-- The fields of the payload in the request area. -/
theorem State.pay_request (s : State) (m : Fin 16) {o n : Nat} (h : o + n ≤ k) :
    pay (s.bytes (reqArea m + 32) k) o n = s.nat (reqArea m + (32 + o)) n := by
  rw [State.pay_bytes s h, Nat.add_assoc]

theorem serves_powerOrder (h : 4 ≤ k) :
    .next ((Act.mailboxCommand m 2 1 (s.bytes (reqArea m + 32) k)).run u) =
      exec (.powerOrder m (s.nat (reqArea m + 32) 1) (s.nat (reqArea m + 33) 1) (s.nat (reqArea m + 34) 2)) u := by
  show Host.Outcome.next ((Act.powerOrder m (pay _ 0 1) (pay _ 1 1) (pay _ 2 2)).run u) = _
  rw [s.pay_request m (by omega), s.pay_request m (by omega), s.pay_request m (by omega)]
  rfl

theorem serves_capStage (h : 8 ≤ k) :
    .next ((Act.mailboxCommand m 3 1 (s.bytes (reqArea m + 32) k)).run u) =
      exec (.capStage m (s.nat (reqArea m + 32) 1) (s.nat (reqArea m + 34) 2) (s.nat (reqArea m + 36) 4)) u := by
  have hepoch : s.nat (reqArea m + 36) 4 % 2 ^ 32 = s.nat (reqArea m + 36) 4 := Nat.mod_eq_of_lt (s.nat_lt _ 4)
  show Host.Outcome.next ((Act.capStage m (pay _ 0 1) (pay _ 2 2) (pay _ 4 4)).run u) =
    .next ((Act.capStage m (s.nat (reqArea m + 32) 1) (s.nat (reqArea m + 34) 2) (s.nat (reqArea m + 36) 4 % 2 ^ 32)).run u)
  rw [s.pay_request m (by omega), s.pay_request m (by omega), s.pay_request m (by omega), hepoch]

theorem serves_groupLeave (h : 8 ≤ k) :
    .next ((Act.mailboxCommand m 7 2 (s.bytes (reqArea m + 32) k)).run u) =
      exec (.groupLeave m (s.nat (reqArea m + 32) 1) (s.nat (reqArea m + 36) 4)) u := by
  show Host.Outcome.next ((Act.groupLeave m (pay _ 0 1) (pay _ 4 4)).run u) = _
  rw [s.pay_request m (by omega), s.pay_request m (by omega)]
  rfl

end

/-! ## MAILBOX_SERVE (R338 to R343) -/

section
variable {s : State} {m : Fin 16} (hp : s.powered = true) (hc : s.coreUp 2 = true) (hm : s.nextMailbox = some m)
include hp hc hm

/-- A wake whose immediate is not the header's seq is discarded. -/
theorem serve_discards (h : s.nat (reqWord m) 4 ≠ s.nat (reqArea m + 4) 4) : Answers (exec (.mailboxServe none) s) fun t =>
    bitOf (t.fld F.MBX_PENDING.pending) m = false ∧ t.mem = s.mem ∧ t.eth = { s.eth with lastServed := m } ∧
      FldsKept [F.MBX_PENDING.pending] s t := by
  have hexec := exec_mailboxServe_none hp hc hm
  rw [Act.serveMailbox_run, if_pos h] at hexec
  obtain ⟨hmem, -, heth, -⟩ := (Noted.mbxDone (m := m) (s.woken m)).parts
  have hcsr : (s.woken m).csr = s.csr := by rw [s.woken_eq m]
  refine ⟨_, hexec, State.bit_setFBit_same (s.woken m) _ m false (by decide) (by simp; omega), ?_, ?_,
    FldsKept.frame.trans (.of_csr hcsr) (Noted.mbxDone _).2⟩
  · rw [hmem, s.woken_eq m]
  · rw [heth, s.woken_eq m]

/-- A major other than 1 is answered with the supported one. -/
theorem serve_version (h : s.nat (reqWord m) 4 = s.nat (reqArea m + 4) 4) (hv : s.nat (reqArea m + 1) 1 ≠ 1) :
    Answers (exec (.mailboxServe none) s) fun t =>
      Replied s t m (s.nat (reqArea m + 2) 1) (s.nat (reqArea m + 3) 1) 10 ∧ t.byte (respArea m + 32) = 1#8 ∧
        t.byte (respArea m + 33) = 0#8 := by
  have hexec := exec_mailboxServe_none hp hc hm
  rw [Act.serveMailbox_run, if_neg (not_not_intro h), if_pos hv] at hexec
  have hmem : (s.woken m).mem = s.mem := by rw [s.woken_eq m]
  have hkind : kindByte (s.nat (reqArea m + 2) 1) (s.nat (reqArea m + 3) 1) 10 = [] := by simp [kindByte]
  have hpayload := Act.respondWith_payload m (s.nat (reqArea m + 2) 1) (s.nat (reqArea m + 3) 1) 10 0 0
    (leBytes 1 1 ++ leBytes 1 0) (s.woken m)
  rw [hkind, List.nil_append] at hpayload
  have hbytes := (State.bytes_two _ (respArea m + 32)).symm.trans hpayload
  exact ⟨_, hexec, Act.respond_replied hmem _ _ _ (by rw [hkind]; decide), (List.cons.inj hbytes).1,
    (List.cons.inj (List.cons.inj hbytes).2).1⟩

/-- A request of major 1 is the command that its header spells. -/
theorem serve_command (h : s.nat (reqWord m) 4 = s.nat (reqArea m + 4) 4) (hv : s.nat (reqArea m + 1) 1 = 1) :
    exec (.mailboxServe none) s = .next ((Act.mailboxCommand m (s.nat (reqArea m + 2) 1) (s.nat (reqArea m + 3) 1)
      (s.bytes (reqArea m + 32) (min 8160 (s.nat (reqArea m + 8) 2)))).run (s.woken m)) := by
  rw [exec_mailboxServe_none hp hc hm, Act.serveMailbox_run, if_neg (not_not_intro h), if_neg (not_not_intro hv)]

theorem serve_unsupported (h : s.nat (reqWord m) 4 = s.nat (reqArea m + 4) 4) (hv : s.nat (reqArea m + 1) 1 = 1)
    (hcls : s.nat (reqArea m + 2) 1 = 4 ∨ s.nat (reqArea m + 2) 1 = 0 ∨ 0xB < s.nat (reqArea m + 2) 1) :
    Answers (exec (.mailboxServe none) s) fun t =>
      Replied s t m (s.nat (reqArea m + 2) 1) (s.nat (reqArea m + 3) 1) 11 := by
  have hexec := serve_command hp hc hm h hv
  rw [Act.mailboxCommand_unsupported hcls] at hexec
  have hmem : (s.woken m).mem = s.mem := by rw [s.woken_eq m]
  refine ⟨_, hexec, Act.respond_replied hmem _ _ _ ?_⟩
  simp only [kindByte]
  split_ifs <;> simp

end

end Sys2Proof.Machine
end

section
open Sys2Proof Sys2Proof.Machine

/-- Settles O53: a request by what makes it acceptable, an operation of a peer by the window that its rkey names, a wake by
its turn, its seq and its header, and MBX_DONE by its two bits. -/
theorem peersReachOnlyTheirWindows : Obligations.PeersReachOnlyTheirWindows := by
  unfold Obligations.PeersReachOnlyTheirWindows
  intro s hp
  refine ⟨?_, ?_, ?_, ?_, ?_, ?_, ?_⟩
  · intro q ho hw hc src refused
    have hrefused (h : ¬((src = 1 ∨ src = 2) ∧ q.qp < 4096 ∧ s.qpOf q.qp = none ∧ s.cmMailboxFree q = true ∧
        s.cmStreamFree q = true ∧ (src = 1 → s.cmPortsSecure q = true))) : refused := by
      show Host.Outcome.next ((Act.cmReq q).run s) = _
      rw [Act.cmReq_refused hp ho hw hc fun ha => h (State.cmAccepts_iff.mp ha)]
    refine ⟨fun h1 h2 => hrefused fun h => ?_, fun hq => hrefused fun h => ?_, fun m hm hbad => hrefused fun h => ?_,
      fun n hn hbad => hrefused fun h => ?_, fun h1 hbad => hrefused fun h => ?_, fun hsrc hqp hnew hmbx hstr hmgmt => ?_⟩
    · exact h.1.elim h1 h2
    · obtain ⟨-, hlt, hnone, -⟩ := h
      rcases hq with hq | hq
      · omega
      · simp [hnone] at hq
    · obtain ⟨hsource, -, -, hfree, -⟩ := h
      obtain ⟨hen, hbound⟩ := State.cmMailboxFree_iff.mp hfree m hm
      rcases hbad with hzero | hbad | hbad
      · have hnone : src = 0 := State.cmSource_of_none hm hzero
        omega
      · simp [hbound] at hbad
      · simp [hen] at hbad
    · obtain ⟨-, -, -, -, hfree, -⟩ := h
      obtain ⟨hmode, herror⟩ := State.cmStreamFree_iff.mp hfree n hn
      rcases hbad with hbad | ⟨x, hx, hxn, hxe⟩
      · exact hmode hbad
      · simp [herror x hx hxn] at hxe
    · obtain ⟨-, -, -, -, -, hsecure⟩ := h
      obtain ⟨hport, halt⟩ := State.cmPortsSecure_iff.mp (hsecure h1)
      rcases hbad with hbad | ⟨a, ha, hbad⟩
      · simp [hport] at hbad
      · simp [halt a ha] at hbad
    · have haccepts : s.cmAccepts q = true := State.cmAccepts_iff.mpr ⟨hsrc, hqp, hnew, State.cmMailboxFree_iff.mpr hmbx,
        State.cmStreamFree_iff.mpr hstr, fun h => State.cmPortsSecure_iff.mpr (hmgmt h)⟩
      obtain ⟨hx, hothers, hsent, hnone, hbind⟩ := Act.cmReq_connects hp ho hw hc haccepts
      refine ⟨_, rfl, ⟨s.cmQp q, hx, rfl, rfl, rfl, rfl, rfl, rfl, rfl, grantKeys_windows _ _, fun hused => ?_, hsent⟩,
        fun m hm => ?_, hnone, hothers⟩
      · have := s.cmWindows_length q
        exact grantKeys_new (by omega)
      · obtain ⟨u, hu, hcsr, hmem⟩ := hbind m hm
        refine ⟨(State.flag_of_csr hcsr _).trans hu.bound, (State.flag_of_csr hcsr _).trans hu.push,
          (State.fld_of_csr hcsr _).trans hu.qp, ?_, fun b hb => ?_⟩
        · rw [State.fld_of_csr hcsr]
          exact hu.pending
        · rw [State.byte, hmem]
          exact hu.bytes b hb
  · intro n q hq ho hw marked turnedAway written
    have hreach : Reaches s n q := ⟨hp, hq, ho, hw⟩
    obtain ⟨hnum, -⟩ := State.qpOf_spec hq
    have hturned {c : Instr} {t : State} (hc : exec c s = .next t) (h : TurnedAway n q.port s t) : turnedAway c :=
      ⟨t, hc, h.mem, h.tags, by rw [hnum]; exact h.nak, h.gone, h.count, h.objs⟩
    refine ⟨fun rkey a data ce => ⟨fun ⟨i, hin⟩ => ?_, fun hout => ⟨hturned rfl (Act.rdmaWrite_turnsAway hreach hout ce),
      fun imm => hturned rfl (Act.writeImm_turnsAway hreach hout imm.toNat ce)⟩, fun m imm hin => ?_⟩,
      fun rkey a len ce => ⟨fun k i hin hk => ?_, fun hout => hturned rfl (Act.rdmaRead_turnsAway hreach hout ce)⟩⟩
    · obtain ⟨u, hmarked, hrun⟩ := Act.rdmaWrite_writes hreach hin ce
      obtain ⟨-, -, -, -, -, hbytes⟩ := hmarked.setBytes a data
      exact ⟨_, congrArg Host.Outcome.next hrun, fun i hi => u.byte_setBytes_in a data hi, hbytes, u, hmarked,
        Act.setBytes_only a data u⟩
    · exact ⟨_, rfl, Act.writeImm_acts hreach hin imm ce⟩
    · obtain ⟨u, hmarked, hrun⟩ := Act.rdmaRead_sends hreach hin hk ce
      exact ⟨u, hmarked, congrArg Host.Outcome.next hrun⟩
  · intro n rkey a data ce hq
    refine ⟨?_, ?_, fun imm => ?_⟩
    · exact congrArg Host.Outcome.next (Act.rdma_unconnected hq ce _)
    · exact congrArg Host.Outcome.next (Act.rdma_unconnected hq ce _)
    · exact congrArg Host.Outcome.next (Act.rdma_unconnected hq ce _)
  · intro o
    have hexec : exec (.mailboxServe (some o)) s =
        .next (if s.powered && s.coreUp 2 && s.coreUp 0 && s.role ≠ 0 then (Act.ownOrder o).run s else s) :=
      congrArg Host.Outcome.next (Act.run_when ..)
    refine ⟨fun hoff => ?_, ?_⟩
    · rw [hexec, if_neg]
      rcases hoff with h | h | h <;> simp [h]
    · rintro slot ctx watts rfl hr h2 h0
      rw [if_pos (by simp [hp, hr, h2, h0]), Act.ownOrder, Act.run_when] at hexec
      refine ⟨fun hno => by rw [hexec, if_neg (by simp [hno])], fun hok => ⟨_, by rw [hexec, if_pos hok], ?_, ?_, rfl⟩⟩
      · simp only [floorOk, Bool.and_eq_true, decide_eq_true_eq] at hok
        rw [State.fld_setF_same _ _ _ (by simp) (by simp), Nat.mod_eq_of_lt]
        show watts < 65536
        omega
      · exact FldsKept.setF (by simp) (by simp) (by simp) s
  · intro hm
    show Host.Outcome.next ((Act.mailboxServe none).run s) = _
    rw [Act.mailboxServe, Act.run_get, hm]
    rfl
  · intro m hm hc hdr seqMatches
    obtain ⟨hpending, hfirst⟩ := State.nextMailbox_first hm
    refine ⟨hpending, hfirst, fun hno => serve_discards hp hc hm hno, fun hseq hv => serve_version hp hc hm hseq hv,
      fun hseq hv hcls => serve_unsupported hp hc hm hseq hv hcls, fun hseq hv => ⟨s.woken m, s.woken_eq m, ?_⟩⟩
    have hexec := serve_command hp hc hm hseq hv
    refine ⟨fun h2 h3 => ?_, fun h2 h3 hlow hhigh => ?_, fun h2 h3 hlow hhigh => ?_, fun h2 h3 hlow hhigh => ?_⟩
    all_goals rw [hexec, show s.nat (reqArea m + 2) 1 = _ from h2, show s.nat (reqArea m + 3) 1 = _ from h3]
    · rfl
    · exact serves_powerOrder _ (Nat.le_min.mpr ⟨by decide, hlow⟩)
    · exact serves_capStage _ (Nat.le_min.mpr ⟨by decide, hlow⟩)
    · exact serves_groupLeave _ (Nat.le_min.mpr ⟨by decide, hlow⟩)
  · intro k m v hc c hcase
    exact ⟨_, exec_mbxDone hp hc hcase, Act.mbxDoneWrite_acts m v.toNat s⟩

end

section
/-!
SUPPORT. A tick job whose completion word has an LDE and an STF waiting on it: the STF stores across the next word, from which
the power core then reads the allocations (R214, R254, R268).
-/
namespace Sys2Proof.Machine

theorem exec_jobEnd (s : State) (j : Fin 64) : exec (.jobEnd j) s = .next ((Act.jobEnded j).run s) := rfl

/-- Core k waits, in its place of the order of waiters. -/
def Core.waitsFor (c : Core) (what : WaitFor) (order : Nat) : Core :=
  { c with run := .waiting, wait := some ⟨what, 0, order, none⟩ }

/-- The tick job in flight: job 0, with its completion word at the 9th word of shared SRAM, and the block of the cap-sharing role
in the words behind it. -/
def tickLearned : Learned :=
  let svc : SvcJob := { SvcJob.reset with done := sharedBase + 64, outs := [sharedBase + 4096, sharedBase + 72] }
  { Learned.reset with svc := Learned.reset.svc.set 0 svc, chain := some ⟨0, some (0, 0), none, []⟩ }

/-- After reset with a service image: the power core runs, slot 0 is ON and job 0 is about to end DONE. Core 3 waits with LDE on
the completion word; core 4 waits with STF on an address inside it, whose store reaches 4 bytes into the block behind it. -/
def tickStoredAcross : State :=
  let s := (Act.bindState 0 2).run ((Act.setF F.RST_STATUS.pwr 3).run State.reset)
  { s with
    boot := { s.boot with svcUp := true }
    cores := ((s.cores.set 1 { s.cores[1] with run := .running }).set 3 (s.cores[3].waitsFor (.load true (sharedBase + 64) 5) 0)).set 4
      (s.cores[4].waitsFor (.fill (sharedBase + 68) 0x3F80000000000000#64) 1)
    jobs := [(0, { Job.reset with st := .ending, done := sharedBase + 64 })]
    learned := tickLearned }

/-- Of the block as it stands before the end the allocation of slot 0 is 0 W. -/
theorem tickStoredAcross_allocOut :
    tickStoredAcross.allocOut ((tickStoredAcross.job (0 : Fin 64)).result (0 + 20 < tickStoredAcross.tns.tick)
      (tickStoredAcross.blockAt (sharedBase + 72) 16)) 0 = 0 := by
  decide +kernel

/-- The end writes the 1 W that the STF has stored there. -/
theorem tickStoredAcross_target :
    ((Act.jobEnded (0 : Fin 64)).run tickStoredAcross).fld (F.QUA_TGT.target (8 + (0 : Fin 8))) = 1 := by
  decide +kernel

end Sys2Proof.Machine

open Sys2Proof Sys2Proof.Machine

/-- Refutes O34: JobEnds lets the completion word end where the block of the cap-sharing role begins, and nothing says, as O23
does, that no agent waits on that word. -/
theorem not_controlEvaluationsAreAppliedOrDiscarded : ¬ Obligations.ControlEvaluationsAreAppliedOrDiscarded := by
  unfold Obligations.ControlEvaluationsAreAppliedOrDiscarded
  intro h
  obtain ⟨-, -, -, -, htick, -, -⟩ := h tickStoredAcross ⟨rfl, rfl⟩
  have hends : JobEnds tickStoredAcross 0 (sharedBase + 72) 64 := ⟨rfl, rfl, rfl, by decide +kernel, .inl (by decide +kernel)⟩
  obtain ⟨t, ht, -, happlied, -⟩ := htick 0 ⟨0, some (0, 0), none, []⟩ (sharedBase + 72) rfl rfl rfl rfl rfl rfl rfl hends
    (by decide +kernel)
  obtain ⟨-, htarget⟩ := happlied (by decide +kernel)
  have hone := tickStoredAcross_target
  rw [Host.Outcome.next.inj ((exec_jobEnd tickStoredAcross 0).symm.trans ht), htarget 0, tickStoredAcross_allocOut] at hone
  exact absurd hone (by decide)
end

section
/-!
SUPPORT. Actions that write fields of registers and do nothing else.
-/
namespace Sys2Proof.Machine

/-- Of the state nothing but registers differs, and of the registers nothing but the fields of l. -/
def Written (l : List Fd) (s t : State) : Prop := (∃ csr, t = { s with csr := csr }) ∧ FldsKept l s t

section
variable {l l' : List Fd} {s t : State}

theorem Written.frame : FrameRel (Written l) where
  refl s := ⟨⟨s.csr, rfl⟩, FldsKept.frame.refl s⟩
  trans := by
    rintro s _ _ ⟨⟨_, rfl⟩, h⟩ ⟨⟨_, rfl⟩, g⟩
    exact ⟨⟨_, rfl⟩, FldsKept.frame.trans h g⟩

theorem Written.mono (h : Written l s t) (hl : ∀ g ∈ l, g ∈ l') : Written l' s t := ⟨h.1, h.2.mono hl⟩

theorem Written.eq (h : Written l s t) : t = { s with csr := t.csr } := by
  obtain ⟨⟨_, rfl⟩, -⟩ := h
  rfl

theorem Written.setF {f : Fd} {x : Nat} (hf : f ∈ l) (h : f.hi < 32) (hl : f.lo ≤ f.hi) : (Act.setF f x).Within (Written l) :=
  fun s => ⟨⟨_, rfl⟩, FldsKept.setF hf h hl s⟩

theorem Written.setFBit {f : Fd} {i : Nat} {b : Bool} (hf : f ∈ l) (h : f.hi < 32) (hl : f.lo ≤ f.hi) :
    (Act.setFBit f i b).Within (Written l) := .get fun _ => setF hf h hl

theorem Written.bump {f : Fd} (hf : f ∈ l) (h : f.hi < 32) (hl : f.lo ≤ f.hi) : (Act.bump f).Within (Written l) :=
  .get fun _ => setF hf h hl

end

end Sys2Proof.Machine
end

section
/-!
SUPPORT. What the power core tells the groups of Agreement: the notes of the groups and the frames that leave (R309, R313).
-/
namespace Sys2Proof.Machine

/-- Nothing but what the groups hold and the Agreement frames handed to the ports differs. -/
def GroupsTold (s t : State) : Prop := ∃ grps agrOut, t = { s with grps := grps, agrOut := agrOut }

theorem GroupsTold.frame : FrameRel GroupsTold where
  refl s := ⟨s.grps, s.agrOut, rfl⟩
  trans := by
    rintro s _ _ ⟨_, _, rfl⟩ ⟨_, _, rfl⟩
    exact ⟨_, _, rfl⟩

variable {g typ flags : Nat} {body : List Nat}

theorem GroupsTold.grpMod {f : Grp → Grp} : (Act.grpMod g f).Within GroupsTold := fun s => ⟨_, s.agrOut, rfl⟩

theorem GroupsTold.sendTo {p : Peer} : (Act.sendTo g p typ flags body).Within GroupsTold := by
  refine .get fun s => ?_
  split
  · exact fun t => ⟨t.grps, _, rfl⟩
  · exact frame.skip

theorem GroupsTold.sendUp : (Act.sendUp g typ flags body).Within GroupsTold := by
  refine .get fun s => ?_
  split
  · exact sendTo
  · exact frame.skip

theorem GroupsTold.sendDown : (Act.sendDown g typ flags body).Within GroupsTold := by
  refine .get fun s => ?_
  split
  · exact .ite (fun _ => sendTo) fun _ => frame.each fun _ _ => sendTo
  · exact frame.skip

theorem GroupsTold.stagedNow : (Act.stagedNow g flags).Within GroupsTold := by
  refine .get fun s => ?_
  split
  · exact frame.skip
  · exact frame.seq (by simpa only [List.forall_mem_cons, List.not_mem_nil, false_imp_iff, implies_true, and_true] using
      ⟨grpMod, sendUp⟩)

end Sys2Proof.Machine
end

section
/-!
SUPPORT. One tick of Tense: the counters, the speed, and the lines that a tick raises (R45, R46, R52 to R54, R226).
-/
namespace Sys2Proof.Machine

variable {s : State}

/-! ## Speed (R45, R46) -/

/-- A reading of the speed is shown, and one below the threshold sets slow. -/
theorem Act.speed_shows (v : Nat) (s : State) : let u := (Act.speed v).run s
    (∃ csr good evr, u = { s with csr := csr, tns := { s.tns with goodTicks := good }, evr := evr }) ∧
      u.fld F.TNS_SPEED.speed = v % 65536 ∧
      u.flag F.TNS_STATUS.slow = (s.flag F.TNS_STATUS.slow || decide (v < s.fld F.TNS_CTL.slow_thresh)) ∧
      FldsKept [F.TNS_SPEED.speed, F.TNS_STATUS.slow] s u := by
  intro u
  set thr := s.fld F.TNS_CTL.slow_thresh with hthr
  set a := (Act.setF F.TNS_SPEED.speed v).run s with ha
  set b := (Act.tense fun t => { t with goodTicks := if thr < v then t.goodTicks + 1 else 0 }).run a with hb
  have hu : u = (Act.when (v < thr && !s.flag F.TNS_STATUS.slow)
      ((Act.setB F.TNS_STATUS.slow true).andThen (Act.emit 0x02 0x0010 2 [v, thr]))).run b := by
    simp only [u, Act.speed, Act.run_get, Act.run_seq_cons, Act.run_seq_nil, hb, ha, hthr]
  have hsa : FldsKept [F.TNS_SPEED.speed] s a := FldsKept.setF (by simp) (by decide) (by decide) s
  have hab : FldsKept [F.TNS_SPEED.speed] s b := FldsKept.frame.trans hsa (.of_csr rfl)
  have hbu : Noted [F.TNS_STATUS.slow] b u := by
    rw [hu]
    exact Noted.frame.when (fun _ => Noted.frame.andThen (Noted.setF (by simp) (by decide) (by decide)) Noted.emit) b
  have hspeed : b.fld F.TNS_SPEED.speed = v % 65536 := State.fld_setF_same s _ v (by decide) (by decide)
  refine ⟨?_, (hbu.2.fld (by decide)).trans hspeed, ?_, FldsKept.frame.trans (hab.mono (by simp)) (hbu.2.mono (by simp))⟩
  · obtain ⟨⟨_, _, h⟩, -⟩ := hbu
    rw [h, hb, ha]
    exact ⟨_, _, _, rfl⟩
  · rw [hu, Act.run_when]
    split
    · next h =>
      rw [Bool.and_eq_true] at h
      rw [h.1, Bool.or_true]
      exact State.flag_setB_same b _ true (by decide) (by decide)
    · next h =>
      rw [hab.flag (by decide)]
      cases hs : s.flag F.TNS_STATUS.slow with
      | true => rfl
      | false => simpa [hs] using h

/-! ## Interrupt lines (R226) -/

/-- Nothing but what is raised at the cores differs. -/
def LinesRaised (s t : State) : Prop := (∃ cores, t = { s with cores := cores }) ∧ ∀ k, (t.core k).gpr = (s.core k).gpr

theorem LinesRaised.frame : FrameRel LinesRaised where
  refl s := ⟨⟨s.cores, rfl⟩, fun _ => rfl⟩
  trans := by
    rintro s _ _ ⟨⟨_, rfl⟩, h⟩ ⟨⟨_, rfl⟩, g⟩
    exact ⟨⟨_, rfl⟩, fun k => (g k).trans (h k)⟩

theorem State.core_raiseLine (s : State) (k j : Fin 13) (n : Nat) : ((Act.raiseLine k n).run s).core j =
    if j = k then { s.core k with raised := setBit (s.core k).raised n } else s.core j := by
  rw [Act.raiseLine, Act.core, State.core_putCore]

theorem LinesRaised.raiseLine {k : Fin 13} {n : Nat} : (Act.raiseLine k n).Within LinesRaised := fun s => by
  refine ⟨⟨_, rfl⟩, fun j => ?_⟩
  rw [State.core_raiseLine]
  split
  · next h => rw [h]
  · rfl

/-- A line that is raised on every core stands on every core. -/
theorem Act.raiseLines_all (n : Nat) (s : State) (k : Fin 13) :
    bitOf (((Act.raiseLines (List.finRange 13) n).run s).core k).raised n = true := by
  refine Act.each_establishes (q := fun k s => bitOf (s.core k).raised n = true) (fun k s => ?_) (fun k j s h => ?_) s k
    (List.mem_finRange k)
  · rw [State.core_raiseLine, if_pos rfl]
    exact bitOf_setBit_same _ _
  · rw [State.core_raiseLine]
    split
    · next hk => exact bitOf_setBit _ _ _ (hk ▸ h)
    · exact h

theorem Act.tickLines_raises (s : State) : LinesRaised s (Act.tickLines.run s) ∧
    (s.tns.tick % 1000 = 0 → ∀ k, bitOf ((Act.tickLines.run s).core k).raised 1 = true) := by
  refine ⟨Act.Within.get (fun s => LinesRaised.frame.seq ?_) s, fun h k => ?_⟩
  · simpa only [List.forall_mem_cons, List.not_mem_nil, false_imp_iff, implies_true, and_true] using
      ⟨LinesRaised.frame.when fun _ => LinesRaised.raiseLine,
        LinesRaised.frame.when fun _ => LinesRaised.frame.each fun _ _ => LinesRaised.raiseLine⟩
  · rw [Act.tickLines, Act.run_get, Act.run_seq_cons, Act.run_seq_cons, Act.run_seq_nil, Act.run_when (s.tns.tick % 1000 = 0),
      if_pos (by simpa using h)]
    exact Act.raiseLines_all 1 _ k

theorem Act.idleTick_run (s : State) : ∃ rst, Act.idleTick.run s = { s with rst := rst } := ⟨_, rfl⟩

end Sys2Proof.Machine
end

section
/-!
SUPPORT. TENSE_TICK as a whole, the counters that cores read and adjust, and the crystal (R46, R52 to R54, R59, R226).
-/
namespace Sys2Proof.Machine

variable {s : State}

/-! ## The tick (R45, R46, R52 to R54) -/

/-- The state once the counters have advanced and the recorder has its tokens. -/
def State.advanced (s : State) : State := { s with tns := s.tns.advance s.rate, evr := s.evr.tick }

theorem Act.tenseTick_run (hp : s.powered = true) (v : Nat) :
    (Act.tenseTick v).run s = Act.idleTick.run (Act.tickLines.run ((Act.speed v).run s.advanced)) := by
  rw [Act.tenseTick, Act.run_get, Act.run_when, if_pos hp]
  rfl

/-- The STAGED frames that a tick lets go change what the groups hold and what is sent, and nothing else. -/
theorem exec_tenseTick (s : State) (speed : BitVec 16) : ∃ t, exec (.tenseTick speed) s = .next t ∧
    GroupsTold ((Act.tenseTick speed.toNat).run s) t := by
  refine ⟨_, rfl, ?_⟩
  rw [Act.run_andThen]
  exact Act.Within.get (fun _ => GroupsTold.frame.when fun _ => GroupsTold.frame.each fun _ _ => GroupsTold.stagedNow) _

theorem Act.tenseTick_ticks (hp : s.powered = true) (speed : BitVec 16) : Answers (exec (.tenseTick speed) s) fun t =>
    let frac := s.tns.dfrac + 1000 * (1000000000 + s.rate)
    t.tns.tick = s.tns.tick + 1 ∧ t.tns.dtime = (s.tns.dtime + 2 * (frac / 2000000000).toNat) % 2 ^ 64 ∧
    t.tns.dfrac = frac % 2000000000 ∧
    t.tns.opMs = (if (s.tns.tick + 1) % 1000 = 0 then s.tns.opMs + 1 else s.tns.opMs) ∧
    t.fld F.TNS_SPEED.speed = speed.toNat ∧
    t.flag F.TNS_STATUS.slow = (s.flag F.TNS_STATUS.slow || decide (speed.toNat < s.fld F.TNS_CTL.slow_thresh)) ∧
    ((s.tns.tick + 1) % 1000 = 0 → ∀ k, bitOf (t.core k).raised 1 = true) ∧
    FldsKept [F.TNS_SPEED.speed, F.TNS_STATUS.slow] s t ∧
    (∀ k, (t.core k).gpr = (s.core k).gpr) ∧
    t = { s with csr := t.csr, tns := t.tns, evr := t.evr, cores := t.cores, rst := t.rst, grps := t.grps,
                 agrOut := t.agrOut } := by
  obtain ⟨t, hexec, grps, out, ht⟩ := exec_tenseTick s speed
  obtain ⟨⟨csr, good, evr, hu⟩, hspeed, hslow, hkept⟩ := Act.speed_shows speed.toNat s.advanced
  obtain ⟨⟨⟨cores, hv⟩, hgpr⟩, hlines⟩ := Act.tickLines_raises ((Act.speed speed.toNat).run s.advanced)
  obtain ⟨rst, hw⟩ := Act.idleTick_run (Act.tickLines.run ((Act.speed speed.toNat).run s.advanced))
  rw [Act.tenseTick_run hp, hw] at ht
  generalize Act.tickLines.run ((Act.speed speed.toNat).run s.advanced) = v at *
  generalize (Act.speed speed.toNat).run s.advanced = u at *
  have hcsr : t.csr = u.csr := by rw [ht, hv]
  have hcores : t.cores = v.cores := by rw [ht]
  have hcore (k : Fin 13) : t.core k = v.core k := by rw [State.core, State.core, hcores]
  have hadv : FldsKept [F.TNS_SPEED.speed, F.TNS_STATUS.slow] s u := FldsKept.frame.trans (.of_csr rfl) hkept
  have htns : t.tns = { s.tns.advance s.rate with goodTicks := good } := by rw [ht, hv, hu]; rfl
  refine ⟨t, hexec, ?_, ?_, ?_, ?_, ?_, ?_, fun h k => ?_, FldsKept.frame.trans hadv (.of_csr hcsr), fun k => ?_, ?_⟩
  · rw [htns]; rfl
  · rw [htns]; rfl
  · rw [htns]; rfl
  · rw [htns]; rfl
  · rw [State.fld_of_csr hcsr, hspeed]
    exact Nat.mod_eq_of_lt speed.isLt
  · exact (State.flag_of_csr hcsr _).trans hslow
  · rw [hcore]
    exact hlines (by rw [hu]; exact h) k
  · rw [hcore, hgpr k, hu]
    rfl
  · rw [ht, hv, hu]
    rfl

theorem Act.slowClear_clears (hp : s.powered = true) (hs : s.flag F.TNS_STATUS.slow = true) (hg : 10000 ≤ s.tns.goodTicks) :
    let t := Act.slowClear.run s
    t.flag F.TNS_STATUS.slow = false ∧ FldsKept [F.TNS_STATUS.slow] s t ∧ t = { s with csr := t.csr } := by
  have hrun : Act.slowClear.run s = (Act.setB F.TNS_STATUS.slow false).run s := by
    rw [Act.slowClear, Act.run_get, Act.run_when, if_pos (by simp [hp, hs, hg])]
  rw [hrun]
  exact ⟨State.flag_setB_same _ _ _ (by decide) (by decide), FldsKept.setF (by simp) (by decide) (by decide) s, rfl⟩

/-! ## Reading a counter (R52, R226) -/

/-- A counter that is read shows its upper half, and what Tense raised at the reader is cleared. -/
theorem latched_acts (f : Fd) (x : Nat) (hf : f.hi < 32) (hl : f.lo ≤ f.hi) (k : Fin 13) (s : State) :
    let t := (Act.lineRead k R.TNS_TICK_LO).run ((Act.setF f x).run s)
    t.fld f = x % fldSize f.hi f.lo ∧ FldsKept [f] s t ∧
      t.core k = { s.core k with raised := clrBit (clrBit (s.core k).raised 0) 1 } ∧ (∀ j, j ≠ k → t.core j = s.core j) ∧
      t = { s with csr := t.csr, cores := t.cores } := by
  have hcore (u : State) (j : Fin 13) : ((Act.lineRead k R.TNS_TICK_LO).run u).core j =
      if j = k then { u.core k with raised := clrBit (clrBit (u.core k).raised 0) 1 } else u.core j := by
    have hread : Act.lineRead k R.TNS_TICK_LO = Act.core k fun c => { c with raised := clrBit (clrBit c.raised 0) 1 } := rfl
    rw [hread, Act.core, State.core_putCore]
  refine ⟨State.fld_setF_same s f x hf hl, FldsKept.frame.trans (FldsKept.setF (by simp) hf hl s) (.of_csr rfl), ?_, fun j hj => ?_,
    rfl⟩
  · rw [hcore, if_pos rfl]
    rfl
  · rw [hcore, if_neg hj]
    rfl

theorem exec_tnsCounterLoRead {k : Fin 13} (hp : s.powered = true) (hk : s.coreUp k = true) (c : TnsCounter) :
    exec (.tnsCounterLoRead k c) s = .next ((Act.lineRead k R.TNS_TICK_LO).run ((Act.latchHi c).run s)) := by
  show Host.Outcome.next ((Act.when (s.powered && s.coreUp k) _).run s) = _
  rw [Act.run_when, if_pos (by simp [hp, hk]), Act.run_andThen]

/-! ## The rate (R54) -/

theorem signed_unsignedOf {i : Int} (h1 : -2147483648 ≤ i) (h2 : i < 2147483648) : signed 32 (unsignedOf 32 i) = i := by
  have hsize : 2 ^ 32 = 4294967296 ∧ 2 ^ (32 - 1) = 2147483648 := by decide
  rw [signed, unsignedOf, hsize.1, hsize.2]
  omega

/-- A write of the rate is clamped, and a clamp is marked. -/
theorem Act.adjWrite_clamps (v : BitVec 32) (s : State) : let t := (Act.adjWrite v.toNat).run s
    t.rate = max (-500000) (min 500000 v.toInt) ∧
      t.flag F.TNS_STATUS.adj_clamp = (s.flag F.TNS_STATUS.adj_clamp || decide (500000 < v.toInt.natAbs)) ∧
      FldsKept [F.TNS_ADJ.rate, F.TNS_STATUS.adj_clamp] s t ∧ t = { s with csr := t.csr } := by
  intro t
  set c : Int := max (-500000) (min 500000 v.toInt) with hc
  set u := (Act.setF F.TNS_ADJ.rate (unsignedOf 32 c)).run s with hu
  have ht : t = (Act.when (c ≠ v.toInt) (Act.setB F.TNS_STATUS.adj_clamp true)).run u := by
    simp only [t, Act.adjWrite, signed_toNat, Act.run_andThen, hu, hc]
  have hsu : Written [F.TNS_ADJ.rate] s u := Written.setF (by simp) (by decide) (by decide) s
  have hut : Written [F.TNS_STATUS.adj_clamp] u t := by
    rw [ht]
    exact Written.frame.when (fun _ => Written.setF (by simp) (by decide) (by decide)) u
  have hst : Written [F.TNS_ADJ.rate, F.TNS_STATUS.adj_clamp] s t :=
    Written.frame.trans (hsu.mono (by simp)) (hut.mono (by simp))
  have hrate : t.fld F.TNS_ADJ.rate = unsignedOf 32 c := by
    rw [hut.2.fld (by decide), hu, State.fld_setF_same _ _ _ (by decide) (by decide), Nat.mod_eq_of_lt]
    have hsize : fldSize F.TNS_ADJ.rate.hi F.TNS_ADJ.rate.lo = 4294967296 ∧ 2 ^ 32 = 4294967296 := by decide
    rw [unsignedOf, hsize.1, hsize.2]
    omega
  refine ⟨?_, ?_, hst.2, hst.eq⟩
  · rw [State.rate, hrate, signed_unsignedOf (by omega) (by omega)]
  · rw [ht, Act.run_when]
    split
    · next h =>
      have hout : 500000 < v.toInt.natAbs := by
        simp only [decide_eq_true_eq] at h
        omega
      rw [decide_eq_true hout, Bool.or_true]
      exact State.flag_setB_same _ _ _ (by decide) (by decide)
    · next h =>
      have hin : ¬500000 < v.toInt.natAbs := by
        simp only [decide_eq_true_eq, not_not] at h
        omega
      rw [decide_eq_false hin, Bool.or_false, hsu.2.flag (by decide)]

theorem exec_tnsAdjWrite {k : Fin 13} (hp : s.powered = true) (hk : s.coreUp k = true) (v : BitVec 32) :
    exec (.tnsAdjWrite k v) s = .next ((Act.adjWrite v.toNat).run s) := by
  show Host.Outcome.next ((Act.when (s.powered && s.coreUp k) _).run s) = _
  rw [Act.run_when, if_pos (by simp [hp, hk])]

/-! ## The crystal (R59) -/

theorem Act.xtalLost_marks (hp : s.powered = true) (hx : s.flag F.TNS_STATUS.xtal_lost = false) : let t := Act.xtalLost.run s
    t.flag F.TNS_STATUS.xtal_lost = true ∧ t.flag F.TNS_STATUS.ptp_valid = false ∧
      FldsKept [F.TNS_STATUS.xtal_lost, F.TNS_STATUS.ptp_valid] s t ∧ t.tns = { s.tns with lostAt := s.tns.tick } ∧
      t = { s with csr := t.csr, tns := t.tns, evr := t.evr } := by
  intro t
  set u := (Act.setB F.TNS_STATUS.xtal_lost true).run s with hu
  set v := (Act.setB F.TNS_STATUS.ptp_valid false).run u with hv
  have ht : t = (Act.emit 0x02 0x0013 3 [s.tns.tick]).run { v with tns := { s.tns with lostAt := s.tns.tick } } := by
    simp only [t]
    rw [Act.xtalLost, Act.run_get, Act.run_when, if_pos (by simp [hp, hx])]
    rfl
  have hcsr : t.csr = v.csr := by rw [ht]; rfl
  have hsu : FldsKept [F.TNS_STATUS.xtal_lost] s u := FldsKept.setF (by simp) (by decide) (by decide) s
  have huv : FldsKept [F.TNS_STATUS.ptp_valid] u v := FldsKept.setF (by simp) (by decide) (by decide) u
  refine ⟨?_, ?_, ?_, by rw [ht]; rfl, by rw [ht]; rfl⟩
  · rw [State.flag_of_csr hcsr, huv.flag (by decide)]
    exact State.flag_setB_same _ _ _ (by decide) (by decide)
  · rw [State.flag_of_csr hcsr]
    exact State.flag_setB_same _ _ _ (by decide) (by decide)
  · exact FldsKept.frame.trans (FldsKept.frame.trans (hsu.mono (by simp)) (huv.mono (by simp))) (.of_csr hcsr)

theorem Act.xtalRestored_clears (hp : s.powered = true) (hx : s.flag F.TNS_STATUS.xtal_lost = true) :
    let t := Act.xtalRestored.run s
    t.flag F.TNS_STATUS.xtal_lost = false ∧ FldsKept [F.TNS_STATUS.xtal_lost] s t ∧
      t = { s with csr := t.csr, evr := t.evr } := by
  have hrun : Act.xtalRestored.run s = (Act.emit 0x02 0x0014 1 [(s.tns.tick - s.tns.lostAt) / 1000]).run
      ((Act.setB F.TNS_STATUS.xtal_lost false).run s) := by
    rw [Act.xtalRestored, Act.run_get, Act.run_when, if_pos (by simp [hp, hx]), Act.run_seq_cons, Act.run_seq_cons, Act.run_seq_nil]
  rw [hrun]
  exact ⟨State.flag_setB_same s _ _ (by decide) (by decide),
    FldsKept.frame.trans (FldsKept.setF (by simp) (by decide) (by decide) s) (.of_csr rfl), rfl⟩

end Sys2Proof.Machine
end

section
/-!
SUPPORT. Frames and pauses that a port receives (R50, R58, R327).
-/
namespace Sys2Proof.Machine

variable {s : State} {l p : Fin 8}

theorem State.fld_lt (s : State) (f : Fd) : s.fld f < fldSize f.hi f.lo := Nat.mod_lt _ (Nat.two_pow_pos _)

/-- A count that nothing is added to. -/
theorem countedUp_zero (s : State) (f : Fd) : countedUp s f 0 = s.fld f := by
  have := s.fld_lt f
  rw [countedUp]
  omega

/-- A field that is counted or not. -/
theorem State.fld_when_bump (s : State) (f : Fd) (b : Bool) (h : f.hi < 32) (hl : f.lo ≤ f.hi) :
    ((Act.when b (Act.bump f)).run s).fld f = countedUp s f (b2n b) := by
  cases b with
  | false => exact (countedUp_zero s f).symm
  | true => exact State.fld_bump_same s f h hl

/-! ## Receive FIFOs (R50) -/

/-- The port with n bytes in the FIFO of priority p, pausing the peer past three quarters. -/
def Port.filled (x : Port) (p : Fin 8) (n : Nat) : Port :=
  { x with fifo := x.fifo.set p n, pausing := putBit x.pausing p (p.val < 7 && Config.fifoBytes * 3 < n * 4) }

/-- The port with the timestamp of an event message, where there is one. -/
def Port.stamped (x : Port) (stamp : Option Nat) : Port := { x with stamp := stamp.or x.stamp }

/-- Of the state nothing but the Ethernet block differs, and of its ports nothing but port l, which is x. -/
def PortBecomes (l : Fin 8) (x : Port) (s t : State) : Prop := ∃ e : Eth, t = { s with eth := e } ∧ e.ports = s.eth.ports.set l x

theorem PortBecomes.port {x : Port} {t : State} (h : PortBecomes l x s t) : t.eth.ports[l] = x := by
  obtain ⟨e, rfl, he⟩ := h
  simp [he]

theorem PortBecomes.other {x : Port} {t : State} (h : PortBecomes l x s t) {j : Fin 8} (hj : j ≠ l) :
    t.eth.ports[j] = s.eth.ports[j] := by
  obtain ⟨e, rfl, he⟩ := h
  have : (l : Nat) ≠ j := fun h => hj (Fin.ext h.symm)
  simp [he, Vector.getElem_set_ne, this]

theorem PortBecomes.trans {x y : Port} {t u : State} (h : PortBecomes l x s t) (g : PortBecomes l y t u) :
    PortBecomes l y s u := by
  obtain ⟨e, rfl, he⟩ := h
  obtain ⟨e', rfl, he'⟩ := g
  exact ⟨e', rfl, by simp [he', he]⟩

theorem PortBecomes.fifoFill (l p : Fin 8) (n : Nat) (s : State) :
    PortBecomes l (s.eth.ports[l].filled p n) s ((Act.fifoFill l p n).run s) := by
  rw [Act.fifoFill, Act.run_get, Act.run_andThen, Act.run_when]
  split
  · obtain ⟨out, held, he, -⟩ := State.ethAfter_eq ((Act.port l fun x => x.filled p n).run s) l (.pause l p)
    exact ⟨_, rfl, congrArg Eth.ports he⟩
  · exact ⟨_, rfl, rfl⟩

/-- The timestamp that an event message takes: none while the crystal is lost (R58). -/
def State.stampOf (s : State) (l : Nat) (kind : FrameKind) : Option Nat :=
  if kind = .ptpEvent ∧ s.flag F.TNS_STATUS.xtal_lost = false then some (s.portStamp l) else none

theorem PortBecomes.takeStamp (l : Fin 8) (kind : FrameKind) (s : State) :
    PortBecomes l (s.eth.ports[l].stamped (s.stampOf l kind)) s ((Act.when (kind = .ptpEvent) (Act.takeStamp l)).run s) := by
  have hnone (h : s.stampOf l kind = none) : PortBecomes l (s.eth.ports[l].stamped (s.stampOf l kind)) s s := by
    rw [h]
    exact ⟨s.eth, rfl, (Vector.set_getElem_self l.isLt).symm⟩
  rw [Act.run_when, Act.takeStamp, Act.run_get, Act.run_when]
  split
  · next hk =>
    split
    · next hx =>
      have hstamp : s.stampOf l kind = some (s.portStamp l) := if_pos ⟨of_decide_eq_true hk, by simpa using hx⟩
      rw [hstamp]
      exact ⟨_, rfl, rfl⟩
    · next hx => exact hnone (if_neg (by simpa using fun _ => hx))
  · next hk => exact hnone (if_neg (by simp [of_decide_eq_false (Bool.eq_false_iff.mpr hk)]))

/-- What the port holds of a frame: dropped where MACsec is required and fails on other than EAPOL, or where it does not fit. -/
theorem Act.frameReceive_receives (hp : s.powered = true) (hl : s.portUp l = true) (p : Fin 8) (len taken : Nat) (ok : Bool)
    (kind : FrameKind) : let t := (Act.frameReceive l p len taken ok kind).run s
    let left := s.eth.ports[l].fifo[p] - taken
    let bad : Bool := s.flag (F.ETH_PORT_CFG.macsec_req l) && !ok && decide (kind ≠ .eapol)
    let full : Bool := !bad && decide (Config.fifoBytes < left + len)
    ∃ u, PortBecomes l ((s.eth.ports[l].stamped (s.stampOf l kind)).filled p (if bad || full then left else left + len)) s u ∧
      t = (Act.when full (Act.bump (F.ETH_RX_DROP.count l p))).run ((Act.when bad (Act.bump (F.ETH_MACSEC_DROP.count l))).run u) := by
  intro t left bad full
  set v := (Act.when (kind = .ptpEvent) (Act.takeStamp l)).run s with hv
  have hsv := PortBecomes.takeStamp l kind s
  rw [← hv] at hsv
  have hfill (n : Nat) : PortBecomes l ((s.eth.ports[l].stamped (s.stampOf l kind)).filled p n) s ((Act.fifoFill l p n).run v) :=
    hsv.trans (hsv.port ▸ PortBecomes.fifoFill l p n v)
  refine ⟨_, hfill _, ?_⟩
  have ht : t = (if bad then (Act.fifoFill l p left).andThen (Act.bump (F.ETH_MACSEC_DROP.count l))
      else if Config.fifoBytes < left + len then (Act.fifoFill l p left).andThen (Act.bump (F.ETH_RX_DROP.count l p))
      else Act.fifoFill l p (left + len)).run v := by
    simp only [t]
    rw [Act.frameReceive, Act.run_get, if_neg (by simp [hp, hl]), Act.run_andThen]
    simp only [bad, left, State.fifoLeft, ne_eq, decide_not, hv]
    rfl
  rw [ht]
  cases hb : bad with
  | true => simp [full, hb]
  | false =>
    by_cases hf : Config.fifoBytes < left + len
    · simp [full, hb, hf]
    · simp [full, hb, hf]

/-! ## Pauses (R327) -/

theorem PortBecomes.egress {x : Port} {t : State} (h : PortBecomes l x s t) : PortBecomes l x s ((Act.egress l).run t) := by
  obtain ⟨e, rfl, he⟩ := h
  exact ⟨_, rfl, he⟩

theorem exec_pfcPauseReceived (hp : s.powered = true) (hl : s.portUp l = true) (prios : BitVec 8) :
    ∃ t, exec (.pfcPauseReceived l prios) s = .next t ∧
      PortBecomes l { s.eth.ports[l] with paused := clrBit prios.toNat 7 } s t := by
  refine ⟨_, rfl, ?_⟩
  rw [Act.pauseReceived, Act.run_get, Act.run_when, if_pos (by simp [hp, hl]), Act.run_andThen]
  exact PortBecomes.egress ⟨_, rfl, rfl⟩

/-- Clearing a bit keeps those below it. -/
theorem bitOf_clrBit_below {i j : Nat} (v : Nat) (h : j < i) : bitOf (clrBit v i) j = bitOf v j := by
  unfold clrBit
  split
  · next hv =>
    rw [bitOf_eq_testBit] at hv
    obtain ⟨w, rfl⟩ := Nat.exists_eq_add_of_le (Nat.ge_two_pow_of_testBit hv)
    rw [Nat.add_sub_cancel_left, bitOf_eq_testBit, bitOf_eq_testBit, Nat.testBit_two_pow_add_gt h]
  · rfl

end Sys2Proof.Machine
end

section
/-!
SUPPORT. What a frame that a port receives leaves in its FIFO and in the counts of what is dropped (R50, R58).
-/
namespace Sys2Proof.Machine

variable {s u t : State} {l p : Fin 8} {x : Port}

theorem PortBecomes.only (h : PortBecomes l x s t) : t = { s with eth := t.eth } := by
  obtain ⟨e, rfl, -⟩ := h
  rfl

/-- Counting what is dropped changes the two counts and nothing else. -/
theorem Act.drops_written (l p : Fin 8) (bad full : Bool) (u : State) :
    Written [F.ETH_MACSEC_DROP.count l, F.ETH_RX_DROP.count l p] u
      ((Act.when full (Act.bump (F.ETH_RX_DROP.count l p))).run ((Act.when bad (Act.bump (F.ETH_MACSEC_DROP.count l))).run u)) :=
  Written.frame.trans (Written.frame.when (fun _ => Written.bump (by simp) (by simp) (by simp)) u)
    (Written.frame.when (fun _ => Written.bump (by simp) (by simp) (by simp)) _)

/-- The two counts stand in registers of their own. -/
theorem drops_off_ne (l p : Fin 8) : (F.ETH_MACSEC_DROP.count l).off ≠ (F.ETH_RX_DROP.count l p).off := by
  revert l p
  decide

theorem Act.drops_count (l p : Fin 8) (bad full : Bool) (h : u.csr = s.csr) :
    let t := (Act.when full (Act.bump (F.ETH_RX_DROP.count l p))).run ((Act.when bad (Act.bump (F.ETH_MACSEC_DROP.count l))).run u)
    t.fld (F.ETH_MACSEC_DROP.count l) = countedUp s (F.ETH_MACSEC_DROP.count l) (b2n bad) ∧
      t.fld (F.ETH_RX_DROP.count l p) = countedUp s (F.ETH_RX_DROP.count l p) (b2n full) := by
  intro t
  have hcount (f : Fd) (n : Nat) : countedUp u f n = countedUp s f n := by rw [countedUp, countedUp, State.fld_of_csr h]
  set v := (Act.when bad (Act.bump (F.ETH_MACSEC_DROP.count l))).run u with hv
  have huv : Written [F.ETH_MACSEC_DROP.count l] u v :=
    Written.frame.when (fun _ => Written.bump (by simp) (by simp) (by simp)) u
  have hvt : Written [F.ETH_RX_DROP.count l p] v t :=
    Written.frame.when (fun _ => Written.bump (by simp) (by simp) (by simp)) v
  constructor
  · rw [hvt.2.fld (List.forall_mem_singleton.mpr (Fd.apart_of_off (drops_off_ne l p))), hv, State.fld_when_bump _ _ _ (by simp) (by simp), hcount]
  · have hrx : v.fld (F.ETH_RX_DROP.count l p) = u.fld (F.ETH_RX_DROP.count l p) :=
      huv.2.fld (List.forall_mem_singleton.mpr (Fd.apart_of_off (drops_off_ne l p).symm))
    rw [State.fld_when_bump _ _ _ (by simp) (by simp), countedUp, hrx]
    exact hcount _ _

end Sys2Proof.Machine

open Sys2Proof Sys2Proof.Machine

/-- Settles O42, clause by clause, from what each of these instructions writes. -/
theorem timeAdvancesAndIsAdjustedAsStated : Obligations.TimeAdvancesAndIsAdjustedAsStated := by
  unfold Obligations.TimeAdvancesAndIsAdjustedAsStated
  intro s hp
  refine ⟨Act.tenseTick_ticks hp, fun hs hg => ⟨_, rfl, Act.slowClear_clears hp hs hg⟩, fun k hk => ?_,
    fun hx => ⟨_, rfl, Act.xtalLost_marks hp hx⟩, fun hx => ⟨_, rfl, Act.xtalRestored_clears hp hx⟩,
    fun l p len taken ok kind hl => ?_, fun l prios hl => ?_⟩
  · have hsize : (2 : Nat) ^ 64 = 2 ^ 32 * 2 ^ 32 ∧ (2 : Nat) ^ 40 = 2 ^ 32 * 2 ^ 8 := by decide
    refine ⟨⟨_, exec_tnsCounterLoRead hp hk .tick, ?_⟩, ⟨_, exec_tnsCounterLoRead hp hk .optime, ?_⟩,
      ⟨_, exec_tnsCounterLoRead hp hk .dtime, ?_⟩, fun v => ⟨_, exec_tnsAdjWrite hp hk v, Act.adjWrite_clamps v s⟩⟩
    · obtain ⟨hhi, hrest⟩ := latched_acts F.TNS_TICK_HI.hi (s.counter .tick / 2 ^ 32) (by decide) (by decide) k s
      refine ⟨hhi.trans ?_, hrest⟩
      show s.tns.tick % 2 ^ 64 / 2 ^ 32 % 2 ^ 32 = _
      rw [hsize.1, Nat.mod_mul_right_div_self, Nat.mod_mod]
    · obtain ⟨hhi, hrest⟩ := latched_acts F.TNS_OPTIME_HI.hi (s.counter .optime / 2 ^ 32) (by decide) (by decide) k s
      refine ⟨hhi.trans ?_, hrest⟩
      show s.tns.opMs % 2 ^ 40 / 2 ^ 32 % 2 ^ 8 = s.tns.opMs % 2 ^ 40 / 2 ^ 32
      rw [hsize.2, Nat.mod_mul_right_div_self, Nat.mod_mod]
    · obtain ⟨hhi, hrest⟩ := latched_acts F.TNS_DTIME_HI.hi (s.counter .dtime / 2 ^ 32) (by decide) (by decide) k s
      refine ⟨hhi.trans ?_, hrest⟩
      show s.tns.dtime % 2 ^ 64 / 2 ^ 32 % 2 ^ 32 = _
      rw [hsize.1, Nat.mod_mul_right_div_self, Nat.mod_mod]
  · refine ⟨_, rfl, ?_⟩
    beta_reduce
    intro left bad full
    obtain ⟨u, hu, ht⟩ := Act.frameReceive_receives hp hl p len taken ok kind
    have hcsr : u.csr = s.csr := by rw [hu.only]
    obtain ⟨hmacsec, hrx⟩ := Act.drops_count l p bad full hcsr
    have hut := Act.drops_written l p bad full u
    rw [← ht] at hmacsec hrx hut
    generalize (Act.frameReceive l p len taken ok kind).run s = t at *
    have heth : t.eth = u.eth := by rw [hut.eq]
    have hfifo : t.eth.ports[l].fifo[p] = if bad || full then left else left + len := by
      rw [heth, hu.port]
      exact Vector.getElem_set_self _
    refine ⟨hfifo, hmacsec, hrx, ?_, fun q hq => ?_, ?_, fun j hj => ?_, FldsKept.frame.trans (.of_csr hcsr) hut.2, ?_⟩
    · rw [hfifo, heth, hu.port]
      exact bitOf_putBit_same _ _ _
    · have hne : (p : Nat) ≠ q := fun h => hq (Fin.ext h.symm)
      simp [heth, hu.port, Port.filled, Port.stamped, Vector.getElem_set_ne, hne]
    · rw [heth, hu.port]
      show (s.stampOf l kind).or s.eth.ports[l].stamp = _
      rw [State.stampOf]
      split
      · rfl
      · rfl
    · rw [heth]
      exact hu.other hj
    · rw [hut.eq, hu.only]
  · obtain ⟨t, hexec, ht⟩ := exec_pfcPauseReceived hp hl prios
    refine ⟨t, hexec, fun i hi => ?_, ?_, fun j hj => ht.other hj, ht.only⟩
    · rw [ht.port]
      exact bitOf_clrBit_below _ hi
    · rw [ht.port]
      exact bitOf_clrBit _ _

end

section
/-!
SUPPORT. A share that is applied at a deadline is the manager's standing cap from the next control tick on, and until then the
caps in force stand as they were (R74, R95, R101).
-/
namespace Sys2Proof.Machine

/-- The caps of the manager that are in force differ for no target. -/
def CapsInForce (s t : State) : Prop := ∀ x, (t.target x).capM = (s.target x).capM

theorem CapsInForce.frame : FrameRel CapsInForce where
  refl _ _ := rfl
  trans h g x := (g x).trans (h x)

theorem CapsInForce.setCap {i : Fin 9} {src : Nat} {v : Option Nat} : (Act.target i fun x => x.setCap src v).Within CapsInForce := by
  intro s x
  show ((s.targets.set i (s.targets[i].setCap src v))[x]).capM = s.targets[x].capM
  by_cases h : i = x
  · subst h
    simp only [Target.setCap, Fin.getElem_fin, Vector.getElem_set_self]
    split <;> rfl
  · simp [Vector.getElem_set_ne, Fin.val_ne_of_ne h]

theorem CapsInForce.of_targets {a : Act} (h : ∀ s, (a.run s).targets = s.targets) : a.Within CapsInForce := fun s x => by
  rw [State.target, State.target, h]

section
variable {f : Fd} {g b v i : Nat} {on late : Bool}

theorem CapsInForce.setF : (Act.setF f v).Within CapsInForce := of_targets fun _ => rfl

theorem CapsInForce.setFBit : (Act.setFBit f i on).Within CapsInForce := .get fun _ => setF

theorem CapsInForce.grpMod {f : Grp → Grp} : (Act.grpMod g f).Within CapsInForce := of_targets fun _ => rfl

theorem CapsInForce.emit {source code severity : Nat} {args : List Nat} :
    (Act.emit source code severity args).Within CapsInForce := of_targets fun s => by rw [Act.emit_run]

theorem CapsInForce.deadlineOff : (Act.deadlineOff g).Within CapsInForce := frame.andThen setF (of_targets fun _ => rfl)

theorem CapsInForce.applyShare : (Act.applyShare g b late).Within CapsInForce := by
  refine .get fun s => frame.seq ?_
  simpa only [List.forall_mem_cons, List.not_mem_nil, false_imp_iff, implies_true, and_true] using
    ⟨setCap, setF, setF, deadlineOff, grpMod, .get fun _ => setF, emit, frame.when fun _ => frame.seq (by
        simpa only [List.forall_mem_cons, List.not_mem_nil, false_imp_iff, implies_true, and_true] using
          ⟨setF, .get fun _ => setF, grpMod, emit⟩)⟩

theorem CapsInForce.deadlineFire : (Act.deadlineFire g on).Within CapsInForce := by
  refine frame.seq ?_
  simpa only [List.forall_mem_cons, List.not_mem_nil, false_imp_iff, implies_true, and_true] using
    ⟨setFBit, frame.when fun _ => setFBit, setF⟩

theorem CapsInForce.epochDeadline : (Act.epochDeadline g).Within CapsInForce :=
  .get fun _ => frame.when fun _ => frame.andThen (frame.when fun _ => deadlineFire) (.get fun _ => frame.when fun _ => applyShare)

end

/-- After reset, with the power core running: group 0 is the cap group, a share of 400 W is staged, the manager has no cap, and
the deadline of group 0 is armed at 0. -/
def stagedAtDeadline : State :=
  let s := (Act.seq [Act.setB F.CAP_CTL.group_valid true, Act.setB F.CAP_STATUS.staged true, Act.setF F.CAP_STAGED_W.watts 400,
    Act.deadlineArm 0 0]).run State.reset
  { s with cores := s.cores.set 1 { s.cores[1] with run := .running } }

end Sys2Proof.Machine

open Sys2Proof Sys2Proof.Machine

/-- Refutes O43: at a due deadline the staged share is only ordered, in force from the next control tick on (R95), so the cap of
the manager that is in force is still none. -/
theorem not_boundariesDeadlinesAndStepsFollowDomainTime : ¬ Obligations.BoundariesDeadlinesAndStepsFollowDomainTime := by
  unfold Obligations.BoundariesDeadlinesAndStepsFollowDomainTime
  intro h
  obtain ⟨-, -, -, -, hdeadline, -⟩ := h stagedAtDeadline 0 (by decide +kernel)
  obtain ⟨t, ht, -, -, happlied, -⟩ := hdeadline (by decide +kernel)
  obtain ⟨⟨hcap, -⟩, -⟩ := happlied (by decide +kernel) (by decide +kernel) (by decide +kernel)
  have hkept : (t.target 8).capM = none :=
    Host.Outcome.next.inj ht ▸ CapsInForce.epochDeadline stagedAtDeadline 8
  exact Option.some_ne_none _ (hcap.symm.trans hkept)

end

section
/-!
SUPPORT. What the emergency duties of the links are decided from: registers below the blocks of Comma and the buffer, and the
sensors (R104, R140, R161).
-/
namespace Sys2Proof.Machine

theorem any_congr_mem {α : Type} {l : List α} {p q : α → Bool} (h : ∀ a ∈ l, p a = q a) : l.any p = l.any q := by
  rw [Bool.eq_iff_iff, List.any_eq_true, List.any_eq_true]
  exact exists_congr fun a => and_congr_right fun ha => by rw [h a ha]

theorem all_congr_mem {α : Type} {l : List α} {p q : α → Bool} (h : ∀ a ∈ l, p a = q a) : l.all p = l.all q := by
  rw [Bool.eq_iff_iff, List.all_eq_true, List.all_eq_true]
  exact forall_congr' fun a => forall_congr' fun ha => by rw [h a ha]

theorem lt_of_mem_bitsOf {v n i : Nat} (h : i ∈ bitsOf v n) : i < n := List.mem_range.mp (List.mem_filter.mp h).1

/-- Of the registers in the blocks up to the Sequencer's, and of the sensors, all read alike. -/
structure DutiesAlike (s t : State) : Prop where
  reg : ∀ k < 0xA0000, t.reg k = s.reg k
  sensor : t.sns = s.sns

namespace DutiesAlike

section
variable {s t : State} (h : DutiesAlike s t)
include h

theorem fld {f : Fd} (hf : f.off < 0xA0000) : t.fld f = s.fld f := by rw [State.fld, State.fld, h.reg _ hf]

theorem flag {f : Fd} (hf : f.off < 0xA0000) : t.flag f = s.flag f := State.flag_of_fld (h.fld hf)

theorem trayCause : t.trayCause = s.trayCause := by simp (disch := decide) only [State.trayCause, h.flag]

theorem gateCause : t.gateCause = s.gateCause := by simp (disch := decide) only [State.gateCause, h.trayCause, h.flag]

theorem paceCause : t.paceCause = s.paceCause := by simp (disch := decide) only [State.paceCause, h.flag]

theorem gateOn : t.gateOn = s.gateOn := h.flag (by decide)

theorem efuseOn (n : Nat) : t.efuseOn n = s.efuseOn n := by rw [State.efuseOn, State.efuseOn, h.fld (by decide)]

theorem zoneConfirmed (z : Nat) : t.zoneConfirmed z = s.zoneConfirmed z := by
  rw [State.zoneConfirmed, State.zoneConfirmed, h.fld (by decide)]

theorem efuseCause {n : Nat} (hn : n < 8) : t.efuseCause n = s.efuseCause n := by
  have hslot : t.slotCause n = s.slotCause n := by
    rw [State.slotCause, State.slotCause, h.fld (by decide), h.flag (by simp only [R.PER_SLOT_CAUSE]; omega),
      h.flag (by simp only [R.PER_SLOT_CAUSE]; omega)]
  have hzone : t.efuseZone n = s.efuseZone n := h.fld (by simp only [R.SEQ_EFUSE_CFG]; omega)
  rw [State.efuseCause, State.efuseCause, h.trayCause, hslot, h.zoneConfirmed, hzone]

/-! ## Sensors and zones -/

theorem zoneTarget {z : Nat} (hz : z < 32) : t.zoneTarget z = s.zoneTarget z := h.fld (by simp only [R.THM_ZONE_CFG]; omega)

theorem evaluated {i : Nat} (hi : i < 280) : t.evaluated i = s.evaluated i := by
  have hen : t.snsEnabled i = s.snsEnabled i := by
    rw [State.snsEnabled, State.snsEnabled, h.flag (by simp only [R.THM_SNS_CFG]; omega), h.fld (by simp only [R.PRS_AIN_CFG]; omega)]
  have hzone : t.fld (F.THM_SNS_CFG.zone i) = s.fld (F.THM_SNS_CFG.zone i) := h.fld (by simp only [R.THM_SNS_CFG]; omega)
  have hlt : s.fld (F.THM_SNS_CFG.zone i) < 32 := s.fld_lt _
  simp only [State.evaluated, hen, hzone, h.zoneTarget hlt, h.efuseOn, h.gateOn]

theorem snsBroken {i : Nat} (hi : i < 280) : t.snsBroken i = s.snsBroken i := by
  rw [State.snsBroken, State.snsBroken, h.reg _ (by simp only [R.THM_BROKEN]; omega)]

theorem snsLevel {i : Nat} (hi : i < 280) : t.snsLevel i = s.snsLevel i := by
  rw [State.snsLevel, State.snsLevel, h.evaluated hi, h.snsBroken hi, State.sensor, State.sensor, h.sensor]

theorem zoneSensors {z : Nat} : t.zoneSensors z = s.zoneSensors z :=
  List.filter_congr fun i hi => by
    have hi : i < 280 := List.mem_range.mp hi
    rw [h.evaluated hi, h.fld (f := F.THM_SNS_CFG.zone i) (by simp only [R.THM_SNS_CFG]; omega)]

omit h in
theorem lt_of_mem_zoneSensors {z i : Nat} (hi : i ∈ s.zoneSensors z) : i < 280 := List.mem_range.mp (List.mem_filter.mp hi).1

theorem zoneBroken {z : Nat} : t.zoneBroken z = s.zoneBroken z := by
  rw [State.zoneBroken, State.zoneBroken, h.zoneSensors]
  exact List.countP_congr fun i hi => by rw [h.snsBroken (lt_of_mem_zoneSensors hi)]

theorem groupHeld {g : Nat} (hg : g < 8) : t.groupHeld g = s.groupHeld g := by
  have hgroup : t.reg (R.THM_GROUP g) = s.reg (R.THM_GROUP g) := h.reg _ (by simp only [R.THM_GROUP]; omega)
  have hfans : t.fld (F.THM_GROUP.fans g) = s.fld (F.THM_GROUP.fans g) := by rw [State.fld, State.fld, hgroup]
  have hpumps : t.fld (F.THM_GROUP.pumps g) = s.fld (F.THM_GROUP.pumps g) := by rw [State.fld, State.fld, hgroup]
  have hmode : t.fld F.THM_CTL.mode = s.fld F.THM_CTL.mode := h.fld (by decide)
  have hpump {l : List Nat} (hl : ∀ p ∈ l, p < 4) :
      ∀ p ∈ l, t.flag (F.THM_PUMP_STAT.failed p) = s.flag (F.THM_PUMP_STAT.failed p) :=
    fun p hp => h.flag (by have := hl p hp; simp only [R.THM_PUMP_STAT]; omega)
  have hfan {v : Nat} : ∀ i ∈ bitsOf v 16, t.flag (F.THM_FAN_STAT.failed i) = s.flag (F.THM_FAN_STAT.failed i) :=
    fun i hi => h.flag (by have := lt_of_mem_bitsOf hi; simp only [R.THM_FAN_STAT]; omega)
  have hflow : ∀ f ∈ List.range 4, (bitOf (t.fld (F.THM_FLOW_CFG.groups f)) g && t.flag (F.THM_FLOW_STAT.lost f)) =
      (bitOf (s.fld (F.THM_FLOW_CFG.groups f)) g && s.flag (F.THM_FLOW_STAT.lost f)) := fun f hf => by
    have hf : f < 4 := List.mem_range.mp hf
    rw [h.fld (by simp only [R.THM_FLOW_CFG]; omega), h.flag (by simp only [R.THM_FLOW_STAT]; omega)]
  have hlist : ∀ p ∈ (if s.fld F.THM_CTL.mode ≠ 0 then bitsOf (s.fld (F.THM_GROUP.pumps g)) 4 else []), p < 4 := by
    intro p hp
    split at hp
    · exact lt_of_mem_bitsOf hp
    · exact absurd hp List.not_mem_nil
  simp only [State.groupHeld, hmode, hfans, hpumps, any_congr_mem hflow, all_congr_mem hfan,
    any_congr_mem (hpump hlist), all_congr_mem (hpump hlist)]

theorem zoneLevel {z : Nat} (hz : z < 16) : t.zoneLevel z = s.zoneLevel z := by
  have hgroup : t.fld (F.THM_ZONE_CFG.group z) = s.fld (F.THM_ZONE_CFG.group z) := h.fld (by simp only [R.THM_ZONE_CFG]; omega)
  have hlt : s.fld (F.THM_ZONE_CFG.group z) < 8 := s.fld_lt _
  have hfold : (s.zoneSensors z).foldl (fun m i => max m (t.snsLevel i)) 0 =
      (s.zoneSensors z).foldl (fun m i => max m (s.snsLevel i)) 0 :=
    List.foldl_ext _ _ _ fun _ i hi => by rw [h.snsLevel (lt_of_mem_zoneSensors hi)]
  rw [State.zoneLevel, State.zoneLevel, h.zoneSensors, h.zoneBroken, hgroup, h.groupHeld hlt, hfold]

theorem emergencies {n : Nat} (hn : n < 8) : t.emergencies n = s.emergencies n := by
  have hcrit : (((List.range 16).filter fun z => (t.zoneTarget z = n || t.zoneTarget z = 8) && 3 ≤ t.zoneLevel z).map fun z =>
        t.fld (F.THM_ZONE_CFG.crit_duty z)) =
      ((List.range 16).filter fun z => (s.zoneTarget z = n || s.zoneTarget z = 8) && 3 ≤ s.zoneLevel z).map fun z =>
        s.fld (F.THM_ZONE_CFG.crit_duty z) := by
    rw [List.filter_congr fun z hz => by
      have hz : z < 16 := List.mem_range.mp hz
      rw [h.zoneTarget (by omega), h.zoneLevel hz]]
    refine List.map_congr_left fun z hz => h.fld ?_
    have hz : z < 16 := List.mem_range.mp (List.mem_filter.mp hz).1
    simp only [R.THM_ZONE_CFG]
    omega
  rw [State.emergencies, State.emergencies, hcrit, h.gateCause, h.efuseCause hn, h.paceCause, h.efuseOn, h.flag (by decide),
    h.fld (by decide), h.fld (by decide)]

end
end DutiesAlike
end Sys2Proof.Machine
end

section
/-!
SUPPORT. Pace frames: what the frame of one link writes, and what it reads (R84, R86, R89, R93, R117).
-/
namespace Sys2Proof
open Machine

theorem RegsKept.fld {l : List Nat} {s t : State} (h : RegsKept l s t) {f : Fd} (hf : f.off ∉ l) : t.fld f = s.fld f := by
  rw [State.fld, State.fld, h _ hf]

end Sys2Proof

namespace Sys2Proof.Machine

variable {s t : State} {m n : Fin 8}

/-! ## What the ramp sequencer writes -/

/-- Of the state nothing but the ramp sequencer of slot n and its register differs. -/
def RampOf (n : Fin 8) (s t : State) : Prop :=
  (∃ csr ramps, t = { s with csr := csr, ramps := ramps }) ∧ RegsKept [R.BUF_RAMP_STAT n] s t ∧ ∀ m, m ≠ n → t.ramps[m] = s.ramps[m]

theorem RampOf.frame : FrameRel (RampOf n) where
  refl s := ⟨⟨s.csr, s.ramps, rfl⟩, fun _ _ => rfl, fun _ _ => rfl⟩
  trans := by
    rintro s _ _ ⟨⟨_, _, rfl⟩, h, hr⟩ ⟨⟨_, _, rfl⟩, g, gr⟩
    exact ⟨⟨_, _, rfl⟩, fun k hk => (g k hk).trans (h k hk), fun m hm => (gr m hm).trans (hr m hm)⟩

theorem RampOf.setF {f : Fd} {x : Nat} (hf : f.off = R.BUF_RAMP_STAT n) : (Act.setF f x).Within (RampOf n) := fun s =>
  ⟨⟨_, _, rfl⟩, fun k hk => by rw [State.reg_setF, if_neg fun h : k = f.off => hk (List.mem_singleton.mpr (h.trans hf))],
    fun _ _ => rfl⟩

theorem RampOf.ramp {f : Ramp → Ramp} : (Act.ramp n f).Within (RampOf n) := fun _ =>
  ⟨⟨_, _, rfl⟩, fun _ _ => rfl, fun _ hm => Vector.getElem_set_ne n.isLt _ fun h => hm (Fin.ext h.symm)⟩

theorem RampOf.rampEnd : (Act.rampEnd n).Within (RampOf n) := by
  refine .get fun s => frame.seq ?_
  simpa only [List.forall_mem_cons, List.not_mem_nil, false_imp_iff, implies_true, and_true] using ⟨setF rfl, setF rfl, ramp⟩

theorem RampOf.rampZero : (Act.rampZero n).Within (RampOf n) := by
  refine .get fun s => frame.seq ?_
  simpa only [List.forall_mem_cons, List.not_mem_nil, false_imp_iff, implies_true, and_true] using
    ⟨setF rfl, setF rfl, setF rfl, setF rfl, ramp⟩

theorem RampOf.rampFrame : (Act.rampFrame n).Within (RampOf n) :=
  .get fun _ => frame.andThen (frame.when fun _ => setF rfl) (.ite (fun _ => rampZero) fun _ =>
    frame.when fun _ => frame.andThen ramp (.get fun _ => frame.when fun _ => rampEnd))

theorem RampOf.links (h : RampOf n s t) : t.links = s.links := by
  obtain ⟨⟨_, _, rfl⟩, -⟩ := h
  rfl

/-! ## What the frame of one link writes -/

/-- The registers that the pace frame of link m writes. -/
def paceRegs (m : Fin 8) : List Nat := [R.CMA_MISS m, R.CMA_RAMP m, R.BUF_RAMP_STAT m]

/-- Nothing but registers, links and ramp sequencers differs. -/
def LinksOnly (s t : State) : Prop := ∃ csr links ramps, t = { s with csr := csr, links := links, ramps := ramps }

theorem LinksOnly.frame : FrameRel LinksOnly where
  refl s := ⟨s.csr, s.links, s.ramps, rfl⟩
  trans := by
    rintro s _ _ ⟨_, _, _, rfl⟩ ⟨_, _, _, rfl⟩
    exact ⟨_, _, _, rfl⟩

theorem LinksOnly.eq (h : LinksOnly s t) : t = { s with csr := t.csr, links := t.links, ramps := t.ramps } := by
  obtain ⟨_, _, _, rfl⟩ := h
  rfl

/-- Of the state nothing but registers, links and ramp sequencers differs, and of them only those of link m. -/
def PaceOf (m : Fin 8) (s t : State) : Prop :=
  LinksOnly s t ∧ RegsKept (paceRegs m) s t ∧
    ∀ n, n ≠ m → t.links[n] = s.links[n] ∧ t.ramps[n] = s.ramps[n]

theorem PaceOf.frame : FrameRel (PaceOf m) where
  refl s := ⟨⟨s.csr, s.links, s.ramps, rfl⟩, fun _ _ => rfl, fun _ _ => ⟨rfl, rfl⟩⟩
  trans := by
    rintro s _ _ ⟨⟨_, _, _, rfl⟩, hreg, hl⟩ ⟨⟨_, _, _, rfl⟩, greg, gl⟩
    exact ⟨⟨_, _, _, rfl⟩, fun k hk => (greg k hk).trans (hreg k hk),
      fun n hn => ⟨(gl n hn).1.trans (hl n hn).1, (gl n hn).2.trans (hl n hn).2⟩⟩

theorem PaceOf.setF {f : Fd} {x : Nat} (hf : f.off ∈ paceRegs m) : (Act.setF f x).Within (PaceOf m) := fun s =>
  ⟨⟨_, _, _, rfl⟩, fun k hk => by rw [State.reg_setF, if_neg fun h : k = f.off => hk (h ▸ hf)], fun _ _ => ⟨rfl, rfl⟩⟩

theorem PaceOf.link {f : Link → Link} : (Act.link m f).Within (PaceOf m) := fun _ =>
  ⟨⟨_, _, _, rfl⟩, fun _ _ => rfl, fun _ hn =>
    ⟨Vector.getElem_set_ne m.isLt _ fun h => hn (Fin.ext h.symm), rfl⟩⟩

theorem PaceOf.periodEnd : (Act.periodEnd m).Within (PaceOf m) :=
  .get fun _ => .ite (fun _ => frame.skip) fun _ => .ite (fun _ => link) fun _ =>
    frame.andThen (.get fun _ => setF (by simp [paceRegs])) link

theorem PaceOf.of_ramp (h : RampOf m s t) : PaceOf m s t := by
  obtain ⟨⟨_, _, rfl⟩, hreg, hramps⟩ := h
  exact ⟨⟨_, _, _, rfl⟩, fun k hk => hreg k fun hm => hk (by simp [paceRegs, List.mem_singleton.mp hm]),
    fun n hn => ⟨rfl, hramps n hn⟩⟩

theorem PaceOf.rampFrame : (Act.rampFrame m).Within (PaceOf m) := fun s => of_ramp (RampOf.rampFrame s)

theorem PaceOf.rampSent : (Act.rampSent m).Within (PaceOf m) :=
  .get fun _ => .ite (fun _ => .ite (fun _ => setF (by simp [paceRegs])) fun _ => setF (by simp [paceRegs])) fun _ => frame.skip

theorem PaceOf.paceOne : (Act.paceOne m).Within (PaceOf m) := by
  refine .get fun s => .ite (fun _ => frame.skip) fun _ => frame.seq ?_
  simpa only [List.forall_mem_cons, List.not_mem_nil, false_imp_iff, implies_true, and_true] using
    ⟨periodEnd, rampFrame, .get fun _ => link, rampSent⟩

/-! ## What the frames of the other links leave of link n -/

/-- The registers that the pace frames of the links other than n write. -/
def otherPaceRegs (n : Fin 8) : List Nat := ((List.finRange 8).filter (· ≠ n)).flatMap paceRegs

/-- Of the state nothing but registers, links and ramp sequencers differs, and of them none of link n. -/
def PaceApart (n : Fin 8) (s t : State) : Prop :=
  LinksOnly s t ∧ RegsKept (otherPaceRegs n) s t ∧
    t.links[n] = s.links[n] ∧ t.ramps[n] = s.ramps[n]

theorem PaceApart.frame : FrameRel (PaceApart n) where
  refl s := ⟨⟨s.csr, s.links, s.ramps, rfl⟩, fun _ _ => rfl, rfl, rfl⟩
  trans := by
    rintro s _ _ ⟨⟨_, _, _, rfl⟩, hreg, hl, hr⟩ ⟨⟨_, _, _, rfl⟩, greg, gl, gr⟩
    exact ⟨⟨_, _, _, rfl⟩, fun k hk => (greg k hk).trans (hreg k hk), gl.trans hl, gr.trans hr⟩

theorem PaceOf.apart (h : PaceOf m s t) (hn : n ≠ m) : PaceApart n s t :=
  ⟨h.1, fun k hk => h.2.1 k fun hm => hk (List.mem_flatMap.mpr ⟨m, by simpa using hn.symm, hm⟩), h.2.2 n hn⟩

/-! ## What a frame carries -/

/-- The fields whose values the pace frame of link n carries or is decided from, but for those of the emergency duties. -/
def paceReads (n : Fin 8) : List Fd :=
  [F.CMA_STATUS.state n, F.CMA_PACE_CTL.scrub n, F.CMA_PACE_CTL.hold n, F.CMA_RAMP.valid n, F.CMA_RAMP.ramp_start n,
    F.CMA_RAMP.ramp_id n, F.BUF_RAMP_STAT.active n, F.BUF_RAMP_STAT.duty n, F.QUA_OUT.out n, F.QUA_ENV.max n,
    F.QUA_TIGHT.tmax n, F.THM_THR_DUTY.duty n, F.CAP_EPOCH_APPLIED.epoch, F.CMA_CTX.exp_ctx n, F.CMA_CTX.exp_valid n]

theorem paceReads_apart : ∀ n : Fin 8, ∀ f ∈ paceReads n, f.off ∉ R.CMA_MISS n :: otherPaceRegs n := by decide

theorem paceWrites_above : ∀ n : Fin 8, ∀ k ∈ R.CMA_MISS n :: otherPaceRegs n, 0xA0000 ≤ k := by decide

/-- Neither the count of missed frames nor anything of the other links is in the frame of link n. -/
theorem State.paceFrame_congr (ht : LinksOnly s t)
    (h : RegsKept (R.CMA_MISS n :: otherPaceRegs n) s t) (seq : Nat) : t.paceFrame n seq = s.paceFrame n seq := by
  have hread : ∀ f ∈ paceReads n, t.fld f = s.fld f ∧ t.flag f = s.flag f := fun f hf =>
    have hfld := h.fld (paceReads_apart n f hf)
    ⟨hfld, State.flag_of_fld hfld⟩
  simp only [paceReads, List.forall_mem_cons, List.not_mem_nil, false_imp_iff, implies_true, and_true] at hread
  have hduties : DutiesAlike s t := by
    refine ⟨fun k hk => h k fun hm => ?_, ?_⟩
    · exact absurd (paceWrites_above n k hm) (by omega)
    · obtain ⟨_, _, _, rfl⟩ := ht
      rfl
  have hstate : t.linkState n = s.linkState n := hread.1.1
  have hemerg : t.emergencies n = s.emergencies n := hduties.emergencies n.isLt
  have hpresent : t.rampPresent n = s.rampPresent n := by simp only [State.rampPresent, hread]
  have htype : t.paceType n = s.paceType n := by simp only [State.paceType, hstate, hemerg, hpresent, hread]
  have happlied : t.applied n = s.applied n := by
    simp only [State.applied, State.quaForce, State.quaOut, State.rampDuty, State.quaMax, hemerg, hread, n.isLt, if_true]
  have htns : t.tns = s.tns := by
    obtain ⟨_, _, _, rfl⟩ := ht
    rfl
  simp only [State.paceFrame, State.paceBody, htype, hemerg, hpresent, happlied, htns, hread]

end Sys2Proof.Machine
end

section
/-!
SUPPORT. The pace frame of one link, and those of all links one after the other (R84, R86, R89, R117).
-/
namespace Sys2Proof.Machine

variable {s t u v : State} {n : Fin 8}

/-! ## What writes to a link, a ramp sequencer and a register leave -/

@[simp] theorem State.links_setF (f : Fd) (x : Nat) (s : State) : ((Act.setF f x).run s).links = s.links := rfl

@[simp] theorem State.links_bump (f : Fd) (s : State) : ((Act.bump f).run s).links = s.links := rfl

@[simp] theorem State.ramps_bump (f : Fd) (s : State) : ((Act.bump f).run s).ramps = s.ramps := rfl

@[simp] theorem State.links_link_same (n : Fin 8) (f : Link → Link) (s : State) :
    ((Act.link n f).run s).links[n] = f s.links[n] := Vector.getElem_set_self _

@[simp] theorem State.ramps_link (n : Fin 8) (f : Link → Link) (s : State) : ((Act.link n f).run s).ramps = s.ramps := rfl

@[simp] theorem State.csr_link (n : Fin 8) (f : Link → Link) (s : State) : ((Act.link n f).run s).csr = s.csr := rfl

@[simp] theorem State.fld_link (n : Fin 8) (f : Link → Link) (g : Fd) (s : State) : ((Act.link n f).run s).fld g = s.fld g := rfl

@[simp] theorem State.fld_ramp (n : Fin 8) (f : Ramp → Ramp) (g : Fd) (s : State) : ((Act.ramp n f).run s).fld g = s.fld g := rfl

@[simp] theorem State.reg_link (n : Fin 8) (f : Link → Link) (k : Nat) (s : State) : ((Act.link n f).run s).reg k = s.reg k := rfl

@[simp] theorem State.flag_ramp (n : Fin 8) (f : Ramp → Ramp) (g : Fd) (s : State) : ((Act.ramp n f).run s).flag g = s.flag g := rfl

theorem State.flag_setF_other (s : State) (f g : Fd) (x : Nat) (h : f.hi < 32) (hl : f.lo ≤ f.hi) (ha : f.apart g = true) :
    ((Act.setF f x).run s).flag g = s.flag g := State.flag_of_fld (State.fld_setF_other s f g x h hl ha)

/-! ## The steps of one frame -/

/-- The periods in a row without a valid frame once this one has ended (R89). -/
def Link.missedNow (l : Link) : Nat := if l.sent ≠ 0 then (if l.got then 0 else l.missRun + 1) else l.missRun

theorem Act.periodEnd_ends (n : Fin 8) (s : State) : let t := (Act.periodEnd n).run s
    (∃ got valid, t.links[n] = { s.links[n] with got := got, validRun := valid, missRun := s.links[n].missedNow }) ∧
      t.fld (F.CMA_MISS.count n) = (if s.links[n].sent ≠ 0 ∧ s.links[n].got = false then countedUp s (F.CMA_MISS.count n) 1
        else s.fld (F.CMA_MISS.count n)) ∧
      t.ramps = s.ramps ∧ RegsKept [R.CMA_MISS n] s t := by
  intro t
  have ht : t = (Act.periodEnd n).run s := rfl
  rw [Act.periodEnd, Act.run_get] at ht
  by_cases hs : s.links[n].sent = 0
  · rw [if_pos hs] at ht
    rw [ht, Link.missedNow, if_neg (not_not.mpr hs), if_neg fun h => h.1 hs]
    exact ⟨⟨_, _, rfl⟩, rfl, rfl, fun _ _ => rfl⟩
  · rw [if_neg hs] at ht
    by_cases hg : s.links[n].got = true
    · rw [if_pos hg] at ht
      rw [ht, Link.missedNow, if_pos hs, if_pos hg, if_neg fun h => absurd (h.2.symm.trans hg) Bool.false_ne_true]
      exact ⟨⟨_, _, Vector.getElem_set_self _⟩, rfl, rfl, fun _ _ => rfl⟩
    · rw [if_neg hg, Act.run_andThen] at ht
      rw [ht, Link.missedNow, if_pos hs, if_neg hg, if_pos ⟨hs, Bool.eq_false_iff.mpr hg⟩]
      refine ⟨⟨s.links[n].got, 0, ?_⟩, ?_, ?_, fun k hk => ?_⟩
      · rw [State.links_link_same, State.links_bump]
      · rw [State.fld_link, State.fld_bump_same _ _ (by simp) (by simp)]
      · rw [State.ramps_link, State.ramps_bump]
      · rw [State.reg_link, Act.bump, Act.addF, Act.run_get, State.reg_setF, if_neg fun h => hk (List.mem_singleton.mpr h)]

theorem Act.rampFrame_none (hv : s.flag (F.CMA_RAMP.valid n) = false) (hs : s.stairs n = false) : (Act.rampFrame n).run s = s := by
  simp [Act.rampFrame, hv, hs]

/-- What rampZero leaves of the fields that it does not copy from the plan and the grant is what setting the duty leaves. -/
theorem State.fld_rampZero {g : Fd} (s : State) (hreleased : (F.BUF_RAMP_STAT.released n).apart g = true)
    (hframes : (F.BUF_RAMP_STAT.step_frames n).apart g = true) (hid : (F.BUF_RAMP_STAT.ramp_id n).apart g = true) :
    ((Act.rampZero n).run s).fld g =
      ((Act.setF (F.BUF_RAMP_STAT.duty n) (s.fld F.BUF_RAMP_CFG.duty_start)).run s).fld g := by
  rw [Act.rampZero, Act.run_get, Act.run_seq_cons, Act.run_seq_cons, Act.run_seq_cons, Act.run_seq_cons, Act.run_seq_cons,
    Act.run_seq_nil, State.fld_ramp, State.fld_setF_other _ _ _ _ (by simp) (by simp) hid,
    State.fld_setF_other _ _ _ _ (by simp) (by simp) hframes, Act.setB,
    State.fld_setF_other _ _ _ _ (by simp) (by simp) hreleased]

/-- At ramp_start 0 the ramp duty begins, and the sequencer stays active. -/
theorem Act.rampZero_starts (n : Fin 8) (s : State) :
    ((Act.rampZero n).run s).fld (F.BUF_RAMP_STAT.duty n) = s.fld F.BUF_RAMP_CFG.duty_start ∧
      ((Act.rampZero n).run s).flag (F.BUF_RAMP_STAT.active n) = s.flag (F.BUF_RAMP_STAT.active n) := by
  have hsize : s.fld F.BUF_RAMP_CFG.duty_start < 1024 := s.fld_lt _
  constructor
  · rw [State.fld_rampZero s (by simp [Fd.apart]) (by simp [Fd.apart]) (by simp [Fd.apart]),
      State.fld_setF_same _ _ _ (by simp) (by simp)]
    exact Nat.mod_eq_of_lt hsize
  · refine State.flag_of_fld ((State.fld_rampZero s (by simp [Fd.apart]) (by simp [Fd.apart]) (by simp [Fd.apart])).trans ?_)
    exact State.fld_setF_other _ _ _ _ (by simp) (by simp) (by simp [Fd.apart])

theorem Act.rampEnd_active (n : Fin 8) (s : State) :
    ((Act.rampEnd n).run s).flag (F.BUF_RAMP_STAT.active n) = s.flag (F.CMA_RAMP.valid n) := by
  rw [Act.rampEnd, Act.run_get, Act.run_seq_cons, Act.run_seq_cons, Act.run_seq_cons, Act.run_seq_nil, State.flag_ramp]
  exact State.flag_setB_same _ _ _ (by simp) (by simp)

theorem Act.rampFrame_granted (hv : s.flag (F.CMA_RAMP.valid n) = true) : let t := (Act.rampFrame n).run s
    t.flag (F.BUF_RAMP_STAT.active n) = true ∧
      (s.fld (F.CMA_RAMP.ramp_start n) = 0 → t.fld (F.BUF_RAMP_STAT.duty n) = s.fld F.BUF_RAMP_CFG.duty_start) := by
  intro t
  set u := (Act.setB (F.BUF_RAMP_STAT.active n) true).run s with hu
  have hsu : FldsKept [F.BUF_RAMP_STAT.active n] s u := FldsKept.setF (by simp) (by simp) (by simp) s
  have hactive : u.flag (F.BUF_RAMP_STAT.active n) = true := State.flag_setB_same _ _ _ (by simp) (by simp)
  have ht : t = (if s.fld (F.CMA_RAMP.ramp_start n) = 0 then Act.rampZero n
      else Act.when (s.stairs n) ((Act.ramp n fun r => { r with frames := r.frames + 1 }).andThen (Act.stairsCheck n))).run u := by
    simp only [t, Act.rampFrame, Act.run_get, Act.run_andThen, hv, Act.run_when, if_true, Bool.true_and, decide_eq_true_eq, hu]
  rw [ht]
  by_cases h0 : s.fld (F.CMA_RAMP.ramp_start n) = 0
  · rw [if_pos h0]
    obtain ⟨hduty, hkept⟩ := Act.rampZero_starts n u
    exact ⟨hkept.trans hactive, fun _ => hduty.trans (hsu.fld (by simp [Fd.apart]))⟩
  · rw [if_neg h0]
    refine ⟨?_, fun h => absurd h h0⟩
    rw [Act.run_when]
    split
    · rw [Act.run_andThen, Act.stairsCheck, Act.run_get, Act.run_when]
      split
      · rw [Act.rampEnd_active, State.flag_ramp, hsu.flag (by simp [Fd.apart]), hv]
      · rw [State.flag_ramp, hactive]
    · exact hactive

theorem Act.rampSent_counts (n : Fin 8) (s : State) : let t := (Act.rampSent n).run s
    Written [F.CMA_RAMP.valid n, F.CMA_RAMP.ramp_start n] s t ∧
    (s.flag (F.CMA_RAMP.valid n) = true →
      (s.fld (F.CMA_RAMP.ramp_start n) ≠ 0 → t.flag (F.CMA_RAMP.valid n) = true ∧
        t.fld (F.CMA_RAMP.ramp_start n) = s.fld (F.CMA_RAMP.ramp_start n) - 1) ∧
      (s.fld (F.CMA_RAMP.ramp_start n) = 0 → t.flag (F.CMA_RAMP.valid n) = false)) := by
  intro t
  refine ⟨Act.Within.get (fun _ => .ite (fun _ => .ite (fun _ => Written.setF (by simp) (by simp) (by simp)) fun _ =>
    Written.setF (by simp) (by simp) (by simp)) fun _ => Written.frame.skip) s, fun hv => ?_⟩
  have ht : t = (if s.fld (F.CMA_RAMP.ramp_start n) = 0 then Act.setB (F.CMA_RAMP.valid n) false
      else Act.setF (F.CMA_RAMP.ramp_start n) (s.fld (F.CMA_RAMP.ramp_start n) - 1)).run s := by
    simp only [t]
    rw [Act.rampSent, Act.run_get, if_pos hv]
  constructor
  · intro h0
    rw [ht, if_neg h0]
    rw [State.flag_setF_other _ _ _ _ (by simp) (by simp) (by simp [Fd.apart]), State.fld_setF_same _ _ _ (by simp) (by simp)]
    refine ⟨hv, ?_⟩
    exact Nat.mod_eq_of_lt (Nat.lt_of_le_of_lt (Nat.sub_le _ _) (s.fld_lt _))
  · intro h0
    rw [ht, if_pos h0]
    exact State.flag_setB_same _ _ _ (by simp) (by simp)

end Sys2Proof.Machine
end

section
/-!
SUPPORT. PACE_FRAME as a whole: each link that is not DOWN sends one frame, and the frames do not touch one another (R84, R86).
-/
namespace Sys2Proof.Machine

variable {s t u v : State} {n : Fin 8}

/-- What one pace frame does on link n, between two states. -/
def PaceSent (n : Fin 8) (s t : State) : Prop :=
  let l := s.links[n]
  t.links[n].seq = (l.seq + 1) % 256 ∧ t.links[n].periods = l.periods + 1 ∧ t.links[n].line = frameChars 16 t.links[n].sent ∧
    t.links[n].missRun = l.missedNow ∧
    t.fld (F.CMA_MISS.count n) = (if l.sent ≠ 0 ∧ l.got = false then countedUp s (F.CMA_MISS.count n) 1
      else s.fld (F.CMA_MISS.count n)) ∧
    (s.flag (F.CMA_RAMP.valid n) = false → s.stairs n = false → t.links[n].sent = s.paceFrame n l.seq) ∧
    (s.flag (F.CMA_RAMP.valid n) = true → t.flag (F.BUF_RAMP_STAT.active n) = true ∧
      (s.fld (F.CMA_RAMP.ramp_start n) ≠ 0 → t.flag (F.CMA_RAMP.valid n) = true ∧
        t.fld (F.CMA_RAMP.ramp_start n) = s.fld (F.CMA_RAMP.ramp_start n) - 1) ∧
      (s.fld (F.CMA_RAMP.ramp_start n) = 0 → t.flag (F.CMA_RAMP.valid n) = false ∧
        t.fld (F.BUF_RAMP_STAT.duty n) = s.fld F.BUF_RAMP_CFG.duty_start))

/-- A link with its frame sent. -/
def Link.sending (l : Link) (frame : Nat) : Link :=
  { l with sent := frame, line := frameChars 16 frame, seq := (l.seq + 1) % 256, periods := l.periods + 1 }

theorem Act.paceOne_run (hs : s.linkState n ≠ 0) : (Act.paceOne n).run s =
    let u := (Act.rampFrame n).run ((Act.periodEnd n).run s)
    (Act.rampSent n).run ((Act.link n fun l => l.sending (u.paceFrame n l.seq)).run u) := by
  rw [Act.paceOne, Act.run_get, if_neg hs]
  rfl

theorem paceRegs_ne (n : Fin 8) : R.CMA_MISS n ≠ R.CMA_RAMP n ∧ R.CMA_MISS n ≠ R.BUF_RAMP_STAT n ∧
    R.CMA_RAMP n ≠ R.BUF_RAMP_STAT n ∧ R.BUF_RAMP_CFG ≠ R.CMA_MISS n := by
  revert n
  decide

theorem Act.paceOne_sends (hs : s.linkState n ≠ 0) : PaceSent n s ((Act.paceOne n).run s) := by
  rw [Act.paceOne_run hs]
  obtain ⟨⟨got, valid, hlink⟩, hmiss, hramps, hreg⟩ := Act.periodEnd_ends n s
  have hpace := PaceOf.periodEnd (m := n) s
  set p := (Act.periodEnd n).run s
  have hpr : RampOf n p ((Act.rampFrame n).run p) := RampOf.rampFrame p
  have hnone := Act.rampFrame_none (s := p) (n := n)
  have hgranted := Act.rampFrame_granted (s := p) (n := n)
  set r := (Act.rampFrame n).run p
  set q := (Act.link n fun l => l.sending (r.paceFrame n l.seq)).run r with hq
  obtain ⟨hwritten, hcounts⟩ := Act.rampSent_counts n q
  set t := (Act.rampSent n).run q
  obtain ⟨hmissRamp, hmissStat, hrampStat, hcfg⟩ := paceRegs_ne n
  have hsp {f : Fd} (hf : f.off ≠ R.CMA_MISS n) : p.fld f = s.fld f := hreg.fld fun h => hf (List.mem_singleton.mp h)
  have hrq {f : Fd} : q.fld f = r.fld f := by rw [hq, State.fld_link]
  have hpq {f : Fd} (hf : f.off ≠ R.BUF_RAMP_STAT n) : q.fld f = p.fld f :=
    hrq.trans (hpr.2.1.fld fun h => hf (List.mem_singleton.mp h))
  have hqt {f : Fd} (hf : f.off ≠ R.CMA_RAMP n) : t.fld f = q.fld f := hwritten.2.fld (by simp [Fd.apart, hf])
  have hvalid : p.flag (F.CMA_RAMP.valid n) = s.flag (F.CMA_RAMP.valid n) := State.flag_of_fld (hsp hmissRamp.symm)
  have hstart : p.fld (F.CMA_RAMP.ramp_start n) = s.fld (F.CMA_RAMP.ramp_start n) := hsp hmissRamp.symm
  have hlinks : t.links[n] = p.links[n].sending (r.paceFrame n p.links[n].seq) := by
    rw [hwritten.eq]
    show q.links[n] = _
    rw [hq, State.links_link_same, hpr.links]
  rw [hlink] at hlinks
  refine ⟨by rw [hlinks]; rfl, by rw [hlinks]; rfl, by rw [hlinks]; rfl, by rw [hlinks]; rfl, ?_, fun hv hst => ?_, fun hv => ?_⟩
  · rw [hqt hmissRamp, hpq hmissStat, hmiss]
  · have hstairs : p.stairs n = s.stairs n := by rw [State.stairs, State.stairs, hramps, hsp hmissStat.symm]
    rw [hlinks, hnone (hvalid.trans hv) (hstairs.trans hst)]
    exact State.paceFrame_congr hpace.1 (fun k hk => hreg k fun h => hk (List.mem_cons.mpr (.inl (List.mem_singleton.mp h)))) _
  · obtain ⟨hactive, hduty⟩ := hgranted (hvalid.trans hv)
    have hqv : q.flag (F.CMA_RAMP.valid n) = true := (State.flag_of_fld (hpq hrampStat)).trans (hvalid.trans hv)
    have hqs : q.fld (F.CMA_RAMP.ramp_start n) = s.fld (F.CMA_RAMP.ramp_start n) := (hpq hrampStat).trans hstart
    obtain ⟨hdown, hclear⟩ := hcounts hqv
    rw [hqs] at hdown hclear
    refine ⟨?_, hdown, fun h0 => ⟨hclear h0, ?_⟩⟩
    · rw [State.flag_of_fld (hqt hrampStat.symm), State.flag_of_fld hrq, hactive]
    · rw [hqt hrampStat.symm, hrq, hduty (hstart.trans h0)]
      exact hsp hcfg

/-! ## All links -/

/-- The fields that the frame of link n counts in or is decided by. -/
def paceCounts (n : Fin 8) : List Fd :=
  [F.CMA_STATUS.state n, F.CMA_MISS.count n, F.CMA_RAMP.valid n, F.CMA_RAMP.ramp_start n, F.BUF_RAMP_STAT.active n,
    F.BUF_RAMP_STAT.duty n, F.BUF_RAMP_CFG.duty_start]

theorem paceCounts_apart : ∀ n : Fin 8, ∀ f ∈ paceCounts n, f.off ∉ otherPaceRegs n := by decide

theorem PaceApart.counts (h : PaceApart n s t) : ∀ f ∈ paceCounts n, t.fld f = s.fld f ∧ t.flag f = s.flag f := fun f hf =>
  have hfld := h.2.1.fld (paceCounts_apart n f hf)
  ⟨hfld, State.flag_of_fld hfld⟩

theorem PaceApart.paceFrame (h : PaceApart n s t) (seq : Nat) : t.paceFrame n seq = s.paceFrame n seq :=
  State.paceFrame_congr h.1 (fun k hk => h.2.1 k fun hm => hk (List.mem_cons_of_mem _ hm)) seq

/-- What one frame does on its link stands whatever frames of other links come before and after it. -/
theorem PaceSent.between (hsu : PaceApart n s u) (h : PaceSent n u v) (hvt : PaceApart n v t) : PaceSent n s t := by
  have hu := hsu.counts
  have ht := hvt.counts
  simp only [paceCounts, List.forall_mem_cons, List.not_mem_nil, false_imp_iff, implies_true, and_true] at hu ht
  have hstairs : u.stairs n = s.stairs n := by rw [State.stairs, State.stairs, hsu.2.2.2, hu.2.2.2.2.2.1.1]
  simp only [PaceSent, countedUp, hsu.2.2.1, hsu.paceFrame, hstairs, hu] at h
  simpa only [PaceSent, countedUp, hvt.2.2.1, ht] using h

theorem Act.paceFrames_split (n : Fin 8) (s : State) : ∃ u, PaceApart n s u ∧
    PaceApart n ((Act.paceOne n).run u) (Act.paceFrames.run s) := by
  obtain ⟨l, r, hlr⟩ := List.append_of_mem (List.mem_finRange n)
  have hnodup := List.nodup_finRange 8
  rw [hlr] at hnodup
  have hout : n ∉ l ++ r := (List.nodup_middle.mp hnodup).notMem
  have hothers {k : List (Fin 8)} (hk : ∀ m ∈ k, m ∈ l ++ r) : (Act.each k Act.paceOne).Within (PaceApart n) :=
    PaceApart.frame.each fun m hm u => (PaceOf.paceOne u).apart fun h => hout (h ▸ hk m hm)
  refine ⟨(Act.each l Act.paceOne).run s, hothers (fun m hm => List.mem_append_left r hm) s, ?_⟩
  rw [Act.paceFrames, hlr, Act.run_each_append, Act.run_each_cons]
  exact hothers (fun m hm => List.mem_append_right l hm) _

theorem Act.paceFrames_down (hs : s.linkState n = 0) : (Act.paceFrames.run s).links[n] = s.links[n] := by
  obtain ⟨u, hsu, hut⟩ := Act.paceFrames_split n s
  have hu : u.linkState n = 0 := (hsu.counts (F.CMA_STATUS.state n) (by simp [paceCounts])).1.trans hs
  have hskip : (Act.paceOne n).run u = u := by rw [Act.paceOne, Act.run_get, if_pos hu]; rfl
  rw [hskip] at hut
  exact hut.2.2.1.trans hsu.2.2.1

theorem Act.paceFrames_sent (hs : s.linkState n ≠ 0) : PaceSent n s (Act.paceFrames.run s) := by
  obtain ⟨u, hsu, hut⟩ := Act.paceFrames_split n s
  have hu : u.linkState n = s.linkState n := (hsu.counts (F.CMA_STATUS.state n) (by simp [paceCounts])).1
  exact (Act.paceOne_sends (hu ▸ hs)).between hsu hut

theorem LinksOnly.paceFrames : Act.paceFrames.Within LinksOnly :=
  frame.each fun _ _ s => (PaceOf.paceOne s).1

/-- The clause of PACE_FRAME that is not skipped. -/
theorem exec_paceFrame (hp : s.powered = true) : exec (.paceFrame false) s = .next (Act.paceFrames.run s) := by
  show Host.Outcome.next ((Act.when s.powered _).run s) = _
  rw [Act.run_when, if_pos hp]
  rfl

theorem exec_paceFrame_busy (hp : s.powered = true) : exec (.paceFrame true) s = .next ((Act.bump (F.TNS_SKIP.count 0)).run s) := by
  show Host.Outcome.next ((Act.when s.powered _).run s) = _
  rw [Act.run_when, if_pos hp]
  rfl

end Sys2Proof.Machine
end

section
/-!
SUPPORT. What activity frames and the failures of a link change of what the link shows, and the many actions that leave it (R88 to
R91, R118, R363).
-/
namespace Sys2Proof.Machine

variable {s t u : State} {n : Fin 8}

/-! ## What a link shows -/

/-- What Comma shows of link n: its state, its accumulators, the intent and the context last reported, what it counts of frames;
and all of the other links. -/
structure LinkView where
  state : Nat
  acc : Fin 4 → Nat
  intent : Nat
  repCtx : Nat
  repValid : Bool
  got : Bool
  missRun : Nat
  merged : Nat
  validRun : Nat
  others : Fin 8 → Option Link

/-- What a state shows of link n. -/
def State.linkView (s : State) (n : Fin 8) : LinkView where
  state := s.linkState n
  acc i := s.fld (F.CMA_ACC.count n i)
  intent := s.fld (F.CMA_INTENT.intent n)
  repCtx := s.fld (F.CMA_CTX.rep_ctx n)
  repValid := s.flag (F.CMA_CTX.rep_valid n)
  got := s.links[n].got
  missRun := s.links[n].missRun
  merged := s.links[n].merged
  validRun := s.links[n].validRun
  others j := if j = n then none else some s.links[j]

theorem State.links_of_others (h : (t.linkView n).others = (s.linkView n).others) {j : Fin 8} (hj : j ≠ n) :
    t.links[j] = s.links[j] := by
  simpa [State.linkView, hj] using congrFun h j

/-- The fields that show of link n. -/
def shownFlds (n : Fin 8) : List Fd :=
  [F.CMA_STATUS.state n, F.CMA_INTENT.intent n, F.CMA_CTX.rep_ctx n, F.CMA_CTX.rep_valid n, F.CMA_ACC.count n 0,
    F.CMA_ACC.count n 1, F.CMA_ACC.count n 2, F.CMA_ACC.count n 3]

/-- What the links show is the same. -/
def Unseen (n : Fin 8) (s t : State) : Prop := t.linkView n = s.linkView n

theorem Unseen.frame : FrameRel (Unseen n) where
  refl _ := rfl
  trans h g := g.trans h

/-- A view is decided by the fields that show and the links. -/
theorem Unseen.of_flds (hf : ∀ f ∈ shownFlds n, t.fld f = s.fld f) (hl : t.links = s.links) : Unseen n s t := by
  simp only [shownFlds, List.forall_mem_cons, List.not_mem_nil, false_imp_iff, implies_true, and_true] at hf
  obtain ⟨hstate, hintent, hctx, hvalid, hacc0, hacc1, hacc2, hacc3⟩ := hf
  have hacc : ∀ i : Fin 4, t.fld (F.CMA_ACC.count n i) = s.fld (F.CMA_ACC.count n i) := by
    intro i
    fin_cases i
    · exact hacc0
    · exact hacc1
    · exact hacc2
    · exact hacc3
  simp only [Unseen, State.linkView, State.linkState, State.flag, hstate, hintent, hctx, hvalid, hacc, hl]

theorem Unseen.of_csr (hc : t.csr = s.csr) (hl : t.links = s.links) : Unseen n s t :=
  of_flds (fun f _ => State.fld_of_csr hc f) hl

/-- A write to a field that shares no bit with those that show. -/
theorem Unseen.setF {f : Fd} {x : Nat} (h : f.hi < 32) (hl : f.lo ≤ f.hi) (hf : ∀ g ∈ shownFlds n, f.apart g = true) :
    (Act.setF f x).Within (Unseen n) := fun s =>
  of_flds (fun g hg => State.fld_setF_other s f g x h hl (hf g hg)) rfl

theorem shownFlds_off : ∀ n : Fin 8, ∀ g ∈ shownFlds n, 0xA0100 ≤ g.off ∧ g.off < 0xA0300 := by decide

/-- A write to a field outside the registers of the links. -/
theorem Unseen.setF_outside {f : Fd} {x : Nat} (h : f.hi < 32) (hl : f.lo ≤ f.hi) (hf : f.off < 0xA0100 ∨ 0xA0300 ≤ f.off) :
    (Act.setF f x).Within (Unseen n) :=
  setF h hl fun g hg => Fd.apart_of_off (by have := shownFlds_off n g hg; omega)

/-- The fields of link n's registers that do not show. -/
def hiddenFlds (n : Fin 8) : List Fd :=
  [F.CMA_STATUS.lane_fail n, F.CMA_ERR.count n 0, F.CMA_ERR.count n 1, F.CMA_ACC_FLAGS.overflow n, F.CMA_ACC_FLAGS.frame_sat n,
    F.CMA_CTX.changed n, F.CMA_CTX.exp_valid n, F.CMA_CHG_TICK.tick n, F.CMA_PACE_CTL.scrub n]

theorem hiddenFlds_apart : ∀ n : Fin 8, ∀ f ∈ hiddenFlds n, f.hi < 32 ∧ f.lo ≤ f.hi ∧ ∀ g ∈ shownFlds n, f.apart g = true := by
  decide

theorem Unseen.setF_hidden {f : Fd} {x : Nat} (hf : f ∈ hiddenFlds n) : (Act.setF f x).Within (Unseen n) := by
  obtain ⟨h, hl, ha⟩ := hiddenFlds_apart n f hf
  exact setF h hl ha

theorem Unseen.emit {src code sev : Nat} {p : List Nat} : (Act.emit src code sev p).Within (Unseen n) := fun s =>
  of_csr (by rw [Act.emit_run]) (by rw [Act.emit_run])

/-- A write to link n shows only as far as its counts of frames. -/
theorem State.linkView_link (n : Fin 8) (f : Link → Link) (s : State) : ((Act.link n f).run s).linkView n =
    { s.linkView n with got := (f s.links[n]).got, missRun := (f s.links[n]).missRun, merged := (f s.links[n]).merged,
                        validRun := (f s.links[n]).validRun } := by
  have hothers (j : Fin 8) : (if j = n then none else some ((Act.link n f).run s).links[j]) =
      (if j = n then none else some s.links[j]) := by
    by_cases hj : j = n
    · rw [if_pos hj, if_pos hj]
    · rw [if_neg hj, if_neg hj]
      exact congrArg some (Vector.getElem_set_ne n.isLt _ fun h => hj (Fin.ext h.symm))
  simp only [State.linkView, State.links_link_same, hothers]
  rfl

theorem Unseen.link {f : Link → Link} (hf : ∀ l, (f l).got = l.got ∧ (f l).missRun = l.missRun ∧ (f l).merged = l.merged ∧
    (f l).validRun = l.validRun) : (Act.link n f).Within (Unseen n) := fun s => by
  obtain ⟨hgot, hmiss, hmerged, hvalid⟩ := hf s.links[n]
  rw [Unseen, State.linkView_link, hgot, hmiss, hmerged, hvalid]
  rfl

/-! ## The lanes (R83, R88) -/

theorem Unseen.laneFail {dir lane reason : Nat} : (Act.laneFail n dir lane reason).Within (Unseen n) :=
  .get fun _ => .ite (fun _ => frame.skip) fun _ => frame.andThen (.get fun _ => setF_hidden (by simp [hiddenFlds])) emit

theorem errFld_hidden : ∀ (n : Fin 8) (lane : Fin 2), F.CMA_ERR.count n lane ∈ hiddenFlds n := by decide

theorem Unseen.errCount {lane : Fin 2} : (Act.bump (F.CMA_ERR.count n lane)).Within (Unseen n) :=
  .get fun _ => setF_hidden (errFld_hidden n lane)

theorem Unseen.rxLane {lane : Fin 2} {bad good other : Bool} : (Act.rxLane n lane bad good other).Within (Unseen n) := by
  refine .get fun s => frame.seq ?_
  simpa only [List.forall_mem_cons, List.not_mem_nil, false_imp_iff, implies_true, and_true] using
    ⟨frame.when fun _ => errCount, link fun _ => ⟨rfl, rfl, rfl, rfl⟩, frame.when fun _ => laneFail⟩

theorem Unseen.txLane {lane : Fin 2} {ok : Bool} : (Act.txLane n lane ok).Within (Unseen n) :=
  .get fun _ => frame.andThen (link fun _ => ⟨rfl, rfl, rfl, rfl⟩) (frame.when fun _ => laneFail)

/-! ## The release of a ramp (R118, R121) -/

theorem Unseen.ramp {f : Ramp → Ramp} : (Act.ramp n f).Within (Unseen n) := fun _ => of_csr rfl rfl

theorem Unseen.convx {f : Conv → Conv} : (Act.convx f).Within (Unseen n) := fun _ => of_csr rfl rfl

theorem Unseen.releaseCheck {intent : Nat} : (Act.releaseCheck n intent).Within (Unseen n) := by
  refine .get fun s => .ite (fun _ => frame.seq ?_) fun _ => frame.skip
  simpa only [List.forall_mem_cons, List.not_mem_nil, false_imp_iff, implies_true, and_true] using
    ⟨frame.when fun _ => frame.andThen (setF_outside (by simp) (by simp) (by simp only [R.BUF_RAMP_STAT]; omega)) ramp,
      frame.andThen ramp convx, .get fun _ => .ite (fun _ => frame.andThen (setF_outside (by decide) (by decide) (by decide)) convx)
        fun _ => frame.skip⟩

/-! ## A change of context (R91, R180, R363, R364) -/

theorem Unseen.secx {f : Sec → Sec} : (Act.secx f).Within (Unseen n) := fun _ => of_csr rfl rfl

theorem portFlds_off : ∀ k : Fin 13, ∀ g ∈ portFlds k, 0xA0300 ≤ g.off := by decide

theorem Unseen.itsPump {k : Fin 13} : (Act.itsPump k).Within (Unseen n) := fun s => by
  obtain ⟨⟨csr, queue, flying, ht⟩, hkept⟩ := PortOnly.itsPump (k := k) s
  refine of_flds (fun f hf => hkept.fld fun g hg => Fd.apart_of_off ?_) (by rw [ht])
  have hport := portFlds_off k g hg
  have hshown := shownFlds_off n f hf
  omega

theorem Unseen.itsFirm {k : Fin 13} {word arg : Nat} : (Act.itsFirm k word arg).Within (Unseen n) :=
  frame.andThen (fun _ => of_csr rfl rfl) itsPump

theorem Unseen.tariffFor {k : Fin 13} {m : Fin 8} {owner : Option Nat} : (Act.tariffFor k m owner).Within (Unseen n) := by
  refine .get fun s => frame.andThen itsFirm ?_
  split
  · exact frame.when fun _ => itsFirm
  · exact frame.skip

theorem Unseen.scrubTariff : (Act.scrubTariff n).Within (Unseen n) := by
  refine .get fun s => ?_
  split
  · exact frame.when fun _ => frame.andThen tariffFor secx
  · exact frame.skip

theorem Unseen.ctxLog {c code : Nat} {p : List Nat} : (Act.ctxLog n c code p).Within (Unseen n) :=
  .get fun _ => .ite (fun _ => secx) fun _ => frame.skip

theorem Unseen.scrubPhase : (Act.scrubPhase n).Within (Unseen n) := by
  refine .get fun s => ?_
  split
  · exact frame.skip
  · refine .ite (fun _ => frame.skip) fun _ => frame.seq ?_
    simp only [List.forall_mem_cons, List.not_mem_nil, false_imp_iff, implies_true, and_true]
    refine ⟨?_, setF_outside (by simp) (by simp) (by simp only [R.SEC_SLOT]; omega),
      setF_outside (by simp) (by simp) (by simp only [R.SEC_SLOT]; omega), emit, setF_hidden (by simp [hiddenFlds]),
      setF_hidden (by simp [hiddenFlds]), secx⟩
    split
    · exact frame.andThen secx ctxLog
    · exact frame.skip

theorem Unseen.ctxChange : (Act.ctxChange n).Within (Unseen n) :=
  .get fun _ => .ite (fun _ => frame.skip) fun _ => .ite (fun _ => frame.skip) fun _ =>
    .ite (fun _ => frame.andThen secx (frame.andThen scrubTariff scrubPhase)) fun _ => .get fun _ => frame.when fun _ => emit

end Sys2Proof.Machine
end

section
/-!
SUPPORT. ACTIVITY_FRAME as a whole: which copy is used, and what a valid frame changes of what the link shows (R82, R84, R88 to
R91, R270).
-/
namespace Sys2Proof.Machine

variable {s t u : State} {n : Fin 8}

/-! ## Writes to the fields that show -/

/-- A view whose fields are known and whose links are as before. -/
theorem State.linkView_of {state intent repCtx : Nat} {acc : Fin 4 → Nat} {repValid : Bool} (hl : t.links = s.links)
    (hstate : t.fld (F.CMA_STATUS.state n) = state) (hacc : ∀ i : Fin 4, t.fld (F.CMA_ACC.count n i) = acc i)
    (hintent : t.fld (F.CMA_INTENT.intent n) = intent) (hctx : t.fld (F.CMA_CTX.rep_ctx n) = repCtx)
    (hvalid : t.flag (F.CMA_CTX.rep_valid n) = repValid) : t.linkView n =
      { s.linkView n with state := state, acc := acc, intent := intent, repCtx := repCtx, repValid := repValid } := by
  simp only [State.linkView, State.linkState, hstate, hacc, hintent, hctx, hvalid, hl]

/-- A view with its fields written out. -/
theorem State.linkView_eta (s : State) (n : Fin 8) : s.linkView n =
    { s.linkView n with state := s.fld (F.CMA_STATUS.state n), acc := fun i => s.fld (F.CMA_ACC.count n i),
                        intent := s.fld (F.CMA_INTENT.intent n), repCtx := s.fld (F.CMA_CTX.rep_ctx n),
                        repValid := s.flag (F.CMA_CTX.rep_valid n) } := rfl

theorem State.linkView_setState {x : Nat} (hx : x < 8) : ((Act.setF (F.CMA_STATUS.state n) x).run s).linkView n =
    { s.linkView n with state := x } := by
  rw [s.linkView_eta n]
  exact linkView_of (State.links_setF _ _ _) ((State.fld_setF_same _ _ _ (by simp) (by simp)).trans (Nat.mod_eq_of_lt hx))
    (fun i => State.fld_setF_other _ _ _ _ (by simp) (by simp) (by revert n i; decide))
    (State.fld_setF_other _ _ _ _ (by simp) (by simp) (by revert n; decide))
    (State.fld_setF_other _ _ _ _ (by simp) (by simp) (by revert n; decide))
    (State.flag_setF_other _ _ _ _ (by simp) (by simp) (by revert n; decide))

theorem State.linkView_setIntent {x : Nat} (hx : x < 2 ^ 32) : ((Act.setF (F.CMA_INTENT.intent n) x).run s).linkView n =
    { s.linkView n with intent := x } := by
  rw [s.linkView_eta n]
  exact linkView_of (State.links_setF _ _ _) (State.fld_setF_other _ _ _ _ (by simp) (by simp) (by revert n; decide))
    (fun i => State.fld_setF_other _ _ _ _ (by simp) (by simp) (by revert n i; decide))
    ((State.fld_setF_same _ _ _ (by simp) (by simp)).trans (Nat.mod_eq_of_lt hx))
    (State.fld_setF_other _ _ _ _ (by simp) (by simp) (by revert n; decide))
    (State.flag_setF_other _ _ _ _ (by simp) (by simp) (by revert n; decide))

theorem State.linkView_setRepCtx {x : Nat} (hx : x < 16) : ((Act.setF (F.CMA_CTX.rep_ctx n) x).run s).linkView n =
    { s.linkView n with repCtx := x } := by
  rw [s.linkView_eta n]
  exact linkView_of (State.links_setF _ _ _) (State.fld_setF_other _ _ _ _ (by simp) (by simp) (by revert n; decide))
    (fun i => State.fld_setF_other _ _ _ _ (by simp) (by simp) (by revert n i; decide))
    (State.fld_setF_other _ _ _ _ (by simp) (by simp) (by revert n; decide))
    ((State.fld_setF_same _ _ _ (by simp) (by simp)).trans (Nat.mod_eq_of_lt hx))
    (State.flag_setF_other _ _ _ _ (by simp) (by simp) (by revert n; decide))

theorem State.linkView_setRepValid {b : Bool} : ((Act.setB (F.CMA_CTX.rep_valid n) b).run s).linkView n =
    { s.linkView n with repValid := b } := by
  rw [s.linkView_eta n]
  exact linkView_of (State.links_setF _ _ _) (State.fld_setF_other _ _ _ _ (by simp) (by simp) (by revert n; decide))
    (fun i => State.fld_setF_other _ _ _ _ (by simp) (by simp) (by revert n i; decide))
    (State.fld_setF_other _ _ _ _ (by simp) (by simp) (by revert n; decide))
    (State.fld_setF_other _ _ _ _ (by simp) (by simp) (by revert n; decide))
    (State.flag_setB_same _ _ _ (by simp) (by simp))

theorem accFlds_apart : ∀ (n : Fin 8) (i j : Fin 4), j ≠ i → (F.CMA_ACC.count n i).apart (F.CMA_ACC.count n j) = true := by
  decide

theorem accFlds_apart_others : ∀ (n : Fin 8) (i : Fin 4),
    ∀ g ∈ [F.CMA_STATUS.state n, F.CMA_INTENT.intent n, F.CMA_CTX.rep_ctx n, F.CMA_CTX.rep_valid n],
      (F.CMA_ACC.count n i).apart g = true := by
  decide

theorem State.linkView_setAcc {i : Fin 4} {x : Nat} (hx : x < 2 ^ 32) : ((Act.setF (F.CMA_ACC.count n i) x).run s).linkView n =
    { s.linkView n with acc := fun j => if j = i then x else (s.linkView n).acc j } := by
  have hacc (j : Fin 4) : ((Act.setF (F.CMA_ACC.count n i) x).run s).fld (F.CMA_ACC.count n j) =
      if j = i then x else s.fld (F.CMA_ACC.count n j) := by
    by_cases hj : j = i
    · rw [if_pos hj, hj, State.fld_setF_same _ _ _ (by simp) (by simp)]
      exact Nat.mod_eq_of_lt hx
    · rw [if_neg hj, State.fld_setF_other _ _ _ _ (by simp) (by simp) (accFlds_apart n i j hj)]
  have hothers := accFlds_apart_others n i
  simp only [List.forall_mem_cons, List.not_mem_nil, false_imp_iff, implies_true, and_true] at hothers
  obtain ⟨hstate, hintent, hctx, hvalid⟩ := hothers
  rw [s.linkView_eta n]
  exact linkView_of (State.links_setF _ _ _) (State.fld_setF_other _ _ _ _ (by simp) (by simp) hstate) hacc
    (State.fld_setF_other _ _ _ _ (by simp) (by simp) hintent) (State.fld_setF_other _ _ _ _ (by simp) (by simp) hctx)
    (State.flag_setF_other _ _ _ _ (by simp) (by simp) hvalid)

/-! ## The counts, the intent and the context (R90, R91) -/

theorem frameField_lt (f hi lo : Nat) : frameField f hi lo < 2 ^ (hi + 1 - lo) := Nat.mod_lt _ (Nat.two_pow_pos _)

theorem Act.accumulate_view (i : Fin 4) (c : Nat) (sat : Bool) (s : State) : ((Act.accumulate n i c sat).run s).linkView n =
    { s.linkView n with acc := fun j => if j = i then min ((s.linkView n).acc i + c) 0xFFFFFFFF else (s.linkView n).acc j } := by
  have hflags {f : Fd} (hf : f ∈ hiddenFlds n) (b : Bool) : (Act.when b (Act.setFBit f i true)).Within (Unseen n) :=
    Unseen.frame.when fun _ => .get fun _ => Unseen.setF_hidden hf
  rw [Act.accumulate, Act.run_get, Act.run_seq_cons, Act.run_seq_cons, Act.run_seq_cons, Act.run_seq_nil]
  refine ((hflags (by simp [hiddenFlds]) sat _).trans (hflags (by simp [hiddenFlds]) _ _)).trans ?_
  exact State.linkView_setAcc (Nat.lt_of_le_of_lt (Nat.min_le_right _ _) (by decide))

/-- The four accumulators after an ACTIVITY frame. -/
def accAfter (acc : Fin 4 → Nat) (f : Nat) (i : Fin 4) : Nat :=
  min (acc i + frameField f (79 + 16 * i) (64 + 16 * i)) 0xFFFFFFFF

theorem Act.accumulates_view (f : Nat) (s : State) :
    ((Act.each (List.range 4) fun i => Act.accumulate n i (frameField f (79 + 16 * i) (64 + 16 * i)) (bitOf f (128 + i))).run s).linkView n =
      { s.linkView n with acc := accAfter (s.linkView n).acc f } := by
  have hrange : List.range 4 = [((0 : Fin 4) : Nat), ((1 : Fin 4) : Nat), ((2 : Fin 4) : Nat), ((3 : Fin 4) : Nat)] := rfl
  rw [hrange, Act.run_each_cons, Act.run_each_cons, Act.run_each_cons, Act.run_each_cons, Act.run_each_nil,
    Act.accumulate_view, Act.accumulate_view, Act.accumulate_view, Act.accumulate_view]
  refine congrArg (fun acc => { s.linkView n with acc := acc }) (funext fun i => ?_)
  fin_cases i
  · rfl
  · rfl
  · rfl
  · rfl

theorem Act.frameCounts_view (f : Nat) (s : State) : ((Act.frameCounts n f).run s).linkView n =
    { s.linkView n with acc := accAfter (s.linkView n).acc f, intent := frameField f 63 32, merged := (s.linkView n).merged + 1 } := by
  rw [Act.frameCounts, Act.run_seq_cons, Act.run_seq_cons, Act.run_seq_cons, Act.run_seq_cons, Act.run_seq_nil]
  set v := (Act.each (List.range 4) fun i =>
    Act.accumulate n i (frameField f (79 + 16 * i) (64 + 16 * i)) (bitOf f (128 + i))).run s with hv
  have hview : v.linkView n = { s.linkView n with acc := accAfter (s.linkView n).acc f } := Act.accumulates_view f s
  refine (Unseen.releaseCheck _).trans ((State.linkView_link _ _ _).trans ?_)
  rw [State.linkView_setIntent (frameField_lt f 63 32), State.links_setF, hview]
  exact congrArg (fun x : LinkView => { s.linkView n with
    acc := accAfter (s.linkView n).acc f, intent := frameField f 63 32, got := x.got, missRun := x.missRun, merged := x.merged + 1,
    validRun := x.validRun }) hview

theorem Act.frameCtx_view {ctx : Nat} (hctx : ctx < 16) (valid : Bool) (s : State) : ((Act.frameCtx n ctx valid).run s).linkView n =
    { s.linkView n with repCtx := ctx, repValid := valid } := by
  have hchange : (Act.seq [Act.setB (F.CMA_CTX.changed n) true, Act.setF (F.CMA_CHG_TICK.tick n) (s.tns.tick % 2 ^ 32),
      Act.learnedx fun x => { x with timeline := x.timeline ++ [(s.its.cur.interval, n.val, if valid then ctx else 16, s.tns.tick % 2 ^ 32)] },
      Act.ctxChange n]).Within (Unseen n) := by
    refine Unseen.frame.seq ?_
    simpa only [List.forall_mem_cons, List.not_mem_nil, false_imp_iff, implies_true, and_true] using
      ⟨Unseen.setF_hidden (by simp [hiddenFlds]), Unseen.setF_hidden (by simp [hiddenFlds]), fun _ => .of_csr rfl rfl, Unseen.ctxChange⟩
  rw [Act.frameCtx, Act.run_get, Act.run_seq_cons, Act.run_seq_cons, Act.run_seq_cons, Act.run_seq_cons, Act.run_seq_nil]
  refine (Unseen.frame.when (fun _ => hchange) _).trans ?_
  rw [State.linkView_setRepValid, State.linkView_setRepCtx hctx, State.linkView_link]
  rfl

/-! ## A valid frame (R84, R270) -/

theorem Unseen.setBytes {a : Nat} {l : List Byte} : (Act.setBytes a l).Within (Unseen n) := fun s => by
  rw [Act.setBytes_only]
  exact of_csr rfl rfl

theorem Unseen.setTag {w : Nat} {b : Bool} : (Act.setTag w b).Within (Unseen n) := fun _ => of_csr rfl rfl

theorem Unseen.grant {a : Agent} {status : Nat} {v : Word} : (Act.grant a status v).Within (Unseen n) := fun _ => by
  cases a with
  | core k => exact of_csr rfl rfl
  | thread t => exact of_csr rfl rfl

theorem Unseen.serveWord {w : Nat} (k : Nat) : (Act.serveWord w k).Within (Unseen n) := by
  induction k with
  | zero => exact frame.skip
  | succ k ih =>
    refine .get fun s => .ite (fun _ => frame.skip) fun _ => .ite (fun _ => .ite (fun _ => frame.each fun _ _ => grant) fun _ =>
      frame.andThen (frame.each fun _ _ => grant) ?_) fun _ => ?_
    · split
      · exact frame.skip
      · refine frame.seq ?_
        simpa only [List.forall_mem_cons, List.not_mem_nil, false_imp_iff, implies_true, and_true] using ⟨grant, setTag, ih⟩
    · split
      · exact frame.skip
      · refine frame.seq ?_
        simpa only [List.forall_mem_cons, List.not_mem_nil, false_imp_iff, implies_true, and_true] using
          ⟨setBytes, setTag, grant, ih⟩

theorem Unseen.store {a : Nat} {l : List Byte} : (Act.store a l).Within (Unseen n) :=
  frame.andThen setBytes (.ite (fun _ => frame.each fun _ _ => .get fun _ => .ite (fun _ => frame.skip) fun _ =>
    frame.andThen setTag (.get fun _ => serveWord _)) fun _ => frame.skip)

theorem Act.linkUpNow_view (s : State) : ((Act.linkUpNow n).run s).linkView n = { s.linkView n with state := 2 } := by
  rw [Act.linkUpNow, Act.run_get, Act.run_seq_cons, Act.run_seq_cons, Act.run_seq_cons, Act.run_seq_nil]
  refine (Unseen.emit _).trans ?_
  rw [State.linkView_link, State.linkView_setState (by decide)]
  rfl

/-- The view once a valid frame has come: it ends the run of missed ones. -/
def LinkView.heard (v : LinkView) : LinkView := { v with got := true, missRun := 0 }

theorem Act.validFrame_up {f : Nat} (hs : s.linkState n = 2) (ht : frameField f 3 0 = 0) : ((Act.validFrame n f).run s).linkView n =
    { (s.linkView n).heard with
      acc := accAfter (s.linkView n).acc f, intent := frameField f 63 32, merged := (s.linkView n).merged + 1,
      repCtx := frameField f 27 24, repValid := bitOf f 28 } := by
  have hrun : (Act.validFrame n f).run s = (Act.frameCtx n (frameField f 27 24) (bitOf f 28)).run ((Act.frameCounts n f).run
      ((Act.txLane n 1 (bitOf f 31)).run ((Act.txLane n 0 (bitOf f 30)).run
        ((Act.link n fun l => { l with got := true, missRun := 0, echo := frameField f 23 16 }).run s)))) := by
    simp [Act.validFrame, hs, ht]
  rw [hrun, Act.frameCtx_view (frameField_lt f 27 24), Act.frameCounts_view,
    show State.linkView _ n = _ from Unseen.txLane _, show State.linkView _ n = _ from Unseen.txLane _, State.linkView_link]
  rfl

theorem Act.validFrame_train {f : Nat} (hs : s.linkState n = 1) : ((Act.validFrame n f).run s).linkView n =
    { (s.linkView n).heard with
      repCtx := frameField f 27 24, repValid := bitOf f 28, validRun := (s.linkView n).validRun + 1,
      state := if 16 ≤ (s.linkView n).validRun + 1 then 2 else 1 } := by
  set a := (Act.link n fun l => { l with got := true, missRun := 0, echo := frameField f 23 16 }).run s with ha
  set b := (Act.when (frameField f 3 0 = 0xE) (Act.store (declAddr n) (leBytes 32 f))).run a with hb
  set c := (Act.frameCtx n (frameField f 27 24) (bitOf f 28)).run b with hc
  set d := (Act.link n fun l => { l with validRun := l.validRun + 1 }).run c with hd
  have hrun : (Act.validFrame n f).run s = (Act.when (16 ≤ d.links[n].validRun) (Act.linkUpNow n)).run d := by
    simp [Act.validFrame, hs, hd, hc, hb, ha]
  have hab : b.linkView n = a.linkView n := Unseen.frame.when (fun _ => Unseen.store) a
  have hheard : a.linkView n = (s.linkView n).heard := State.linkView_link _ _ _
  have hctx : c.linkView n = { (s.linkView n).heard with repCtx := frameField f 27 24, repValid := bitOf f 28 } := by
    rw [hc, Act.frameCtx_view (frameField_lt f 27 24), hab, hheard]
  have hview : d.linkView n = { (s.linkView n).heard with
      repCtx := frameField f 27 24, repValid := bitOf f 28, validRun := (s.linkView n).validRun + 1 } := by
    rw [hd, State.linkView_link]
    exact congrArg (fun x : LinkView => { x with validRun := x.validRun + 1 }) hctx
  have hcount : d.links[n].validRun = (s.linkView n).validRun + 1 := congrArg LinkView.validRun hview
  rw [hrun, hcount, Act.run_when]
  split
  · next h => rw [if_pos (by simpa using h), Act.linkUpNow_view, hview]
  · next h =>
    rw [if_neg (by simpa using h), hview]
    exact congrArg (fun x => { (s.linkView n).heard with
      repCtx := frameField f 27 24, repValid := bitOf f 28, validRun := (s.linkView n).validRun + 1, state := x }) hs

/-! ## The copies of the two lanes (R82, R88) -/

/-- What lane i delivers as far as it is used: nothing where the lane has failed. -/
def State.laneCopy (s : State) (n : Fin 8) (i : Nat) (rx : Option (BitVec 256)) : Option Nat :=
  if bitOf (s.fld (F.CMA_STATUS.lane_fail n)) (2 + i) then none else rx.map BitVec.toNat

theorem State.laneCopy_invalid {i : Nat} {rx : Option (BitVec 256)} (h : ∀ f, rx = some f → frameValid f.toNat = false) :
    (s.laneCopy n i rx).filter frameValid = none := by
  rw [State.laneCopy]
  split
  · rfl
  · cases rx with
    | none => rfl
    | some f => simp [h f rfl]

theorem State.laneCopy_valid {i : Nat} {f : BitVec 256} (hl : bitOf (s.fld (F.CMA_STATUS.lane_fail n)) (2 + i) = false)
    (hf : frameValid f.toNat = true) : (s.laneCopy n i (some f)).filter frameValid = some f.toNat := by
  simp [State.laneCopy, hl, hf]

/-- Nothing but registers, links and the recorder differs. -/
def LanesOnly (s t : State) : Prop := ∃ csr links evr, t = { s with csr := csr, links := links, evr := evr }

theorem LanesOnly.frame : FrameRel LanesOnly where
  refl s := ⟨s.csr, s.links, s.evr, rfl⟩
  trans := by
    rintro s _ _ ⟨_, _, _, rfl⟩ ⟨_, _, _, rfl⟩
    exact ⟨_, _, _, rfl⟩

theorem LanesOnly.eq (h : LanesOnly s t) : t = { s with csr := t.csr, links := t.links, evr := t.evr } := by
  obtain ⟨_, _, _, rfl⟩ := h
  rfl

theorem LanesOnly.setF {f : Fd} {x : Nat} : (Act.setF f x).Within LanesOnly := fun _ => ⟨_, _, _, rfl⟩

theorem LanesOnly.bump {f : Fd} : (Act.bump f).Within LanesOnly := .get fun _ => setF

theorem LanesOnly.link {f : Link → Link} : (Act.link n f).Within LanesOnly := fun _ => ⟨_, _, _, rfl⟩

theorem LanesOnly.emit {src code sev : Nat} {p : List Nat} : (Act.emit src code sev p).Within LanesOnly := fun s => by
  rw [Act.emit_run]
  exact ⟨_, _, _, rfl⟩

theorem LanesOnly.rxLane {lane : Fin 2} {bad good other : Bool} : (Act.rxLane n lane bad good other).Within LanesOnly := by
  refine .get fun s => frame.seq ?_
  simpa only [List.forall_mem_cons, List.not_mem_nil, false_imp_iff, implies_true, and_true] using
    ⟨frame.when fun _ => bump, link, frame.when fun _ =>
      .get fun _ => .ite (fun _ => frame.skip) fun _ => frame.andThen (.get fun _ => setF) emit⟩

/-- Once the lanes are checked, the first valid copy is taken, or the run of valid frames ends. -/
theorem Act.activityFrame_takes (hp : s.powered = true) (hs : s.linkState n ≠ 0) (rx0 rx1 : Option (BitVec 256)) :
    ∃ u, Unseen n s u ∧ LanesOnly s u ∧ (Act.activityFrame n rx0 rx1).run s =
      ((((s.laneCopy n 0 rx0).filter frameValid).or ((s.laneCopy n 1 rx1).filter frameValid)).elim
        (Act.link n fun l => { l with validRun := 0 }) (Act.validFrame n)).run u := by
  set lanes := Act.seq [
    Act.rxLane n 0 ((s.laneCopy n 0 rx0).isSome && !(s.laneCopy n 0 rx0).any frameValid) ((s.laneCopy n 0 rx0).any frameValid)
      ((s.laneCopy n 1 rx1).any frameValid),
    Act.rxLane n 1 ((s.laneCopy n 1 rx1).isSome && !(s.laneCopy n 1 rx1).any frameValid) ((s.laneCopy n 1 rx1).any frameValid)
      ((s.laneCopy n 0 rx0).any frameValid),
    Act.when ((s.laneCopy n 0 rx0).isNone && rx0.any fun f => !frameValid f.toNat) (Act.bump (F.CMA_ERR.count n 0)),
    Act.when ((s.laneCopy n 1 rx1).isNone && rx1.any fun f => !frameValid f.toNat) (Act.bump (F.CMA_ERR.count n 1))] with hlanes
  have hunseen : lanes.Within (Unseen n) := Unseen.frame.seq (by
    simpa only [List.forall_mem_cons, List.not_mem_nil, false_imp_iff, implies_true, and_true] using
      ⟨Unseen.rxLane, Unseen.rxLane, Unseen.frame.when fun _ => Unseen.errCount (lane := 0),
        Unseen.frame.when fun _ => Unseen.errCount (lane := 1)⟩)
  have honly : lanes.Within LanesOnly := LanesOnly.frame.seq (by
    simpa only [List.forall_mem_cons, List.not_mem_nil, false_imp_iff, implies_true, and_true] using
      ⟨LanesOnly.rxLane, LanesOnly.rxLane, LanesOnly.frame.when fun _ => LanesOnly.bump,
        LanesOnly.frame.when fun _ => LanesOnly.bump⟩)
  refine ⟨lanes.run s, hunseen s, honly s, ?_⟩
  rw [Act.activityFrame, Act.run_get, if_neg (by simp [hp, hs])]
  change (match (s.laneCopy n 0 rx0).filter frameValid, (s.laneCopy n 1 rx1).filter frameValid with
    | some f, _ => Act.validFrame n f
    | none, some f => Act.validFrame n f
    | none, none => Act.link n fun l => { l with validRun := 0 }).run (lanes.run s) = _
  cases (s.laneCopy n 0 rx0).filter frameValid with
  | some f => rfl
  | none =>
    cases (s.laneCopy n 1 rx1).filter frameValid with
    | some f => rfl
    | none => rfl

end Sys2Proof.Machine
end

section
/-!
SUPPORT. A slot device that has failed stays FAULT, down or with its down-clause due, while the other targets are settled (R63, R72,
R73, R84, R422).
-/
namespace Sys2Proof.Machine

variable {s t : State} {n m : Fin 8}

/-- Clearing a bit keeps those above it. -/
theorem bitOf_clrBit_above {i j : Nat} (v : Nat) (h : i < j) : bitOf (clrBit v i) j = bitOf v j := by
  rw [clrBit]
  split
  · next hv =>
    have hlow : 2 ^ i ≤ v % 2 ^ j := Nat.ge_two_pow_of_testBit (by
      rw [Nat.testBit_mod_two_pow, ← bitOf_eq_testBit, hv, decide_eq_true h, Bool.and_self])
    have hsum : v - 2 ^ i = 2 ^ j * (v / 2 ^ j) + (v % 2 ^ j - 2 ^ i) := by
      have := Nat.div_add_mod v (2 ^ j)
      omega
    have hdiv : (v - 2 ^ i) / 2 ^ j = v / 2 ^ j := by
      rw [hsum, Nat.mul_add_div (Nat.two_pow_pos j), Nat.div_eq_of_lt (Nat.lt_of_le_of_lt (Nat.sub_le _ _)
        (Nat.mod_lt _ (Nat.two_pow_pos j))), Nat.add_zero]
    rw [bitOf, bitOf, hdiv]
  · rfl

/-- Clearing a bit sets none. -/
theorem bitOf_clrBit_of_false {v j : Nat} (i : Nat) (h : bitOf v j = false) : bitOf (clrBit v i) j = false := by
  rcases Nat.lt_trichotomy j i with hlt | rfl | hgt
  · rw [bitOf_clrBit_below v hlt, h]
  · exact bitOf_clrBit v j
  · rw [bitOf_clrBit_above v hgt, h]

/-- The target of power orders that slot n is. -/
def slotTarget (n : Fin 8) : Fin 9 := ⟨n, by omega⟩

/-- The fields that show slot n FAULT, its device failed and its reset low. -/
def slotFlds (n : Fin 8) : List Fd := [F.SEQ_CLAUSE_STAT.state n, F.RST_ABORT.failed, F.SLT_STAT.rst n]

/-- Slot n's target, what shows it FAULT, and its eFuse where it is off, are as before. -/
def SlotKept (n : Fin 8) (s t : State) : Prop :=
  t.target (slotTarget n) = s.target (slotTarget n) ∧ (∀ f ∈ slotFlds n, t.fld f = s.fld f) ∧
    (s.efuseOn n = false → t.efuseOn n = false)

namespace SlotKept

theorem frame : FrameRel (SlotKept n) where
  refl _ := ⟨rfl, fun _ _ => rfl, id⟩
  trans h g := ⟨g.1.trans h.1, fun f hf => (g.2.1 f hf).trans (h.2.1 f hf), fun he => g.2.2 (h.2.2 he)⟩

theorem bindState (h : SlotKept n s t) : t.bindState n = s.bindState n := h.2.1 _ (by simp [slotFlds])

theorem failed (h : SlotKept n s t) : t.fld F.RST_ABORT.failed = s.fld F.RST_ABORT.failed := h.2.1 _ (by simp [slotFlds])

theorem rst (h : SlotKept n s t) : t.flag (F.SLT_STAT.rst n) = s.flag (F.SLT_STAT.rst n) :=
  State.flag_of_fld (h.2.1 _ (by simp [slotFlds]))

theorem of_csr (hc : t.csr = s.csr) (ht : t.targets = s.targets) : SlotKept n s t := by
  refine ⟨by rw [State.target, State.target, ht], fun f _ => State.fld_of_csr hc f, fun h => ?_⟩
  rw [State.efuseOn, State.fld_of_csr hc]
  exact h

/-! ## Writes -/

theorem setF {f : Fd} {x : Nat} (h : f.hi < 32) (hl : f.lo ≤ f.hi)
    (hf : ∀ g ∈ F.SEQ_EFUSE_STATUS.en :: slotFlds n, f.apart g = true) : (Act.setF f x).Within (SlotKept n) := fun s => by
  rw [List.forall_mem_cons] at hf
  refine ⟨rfl, fun g hg => State.fld_setF_other s f g x h hl (hf.2 g hg), fun he => ?_⟩
  rw [State.efuseOn, State.fld_setF_other _ _ _ _ h hl hf.1]
  exact he

/-- The registers that hold those fields. -/
def regs (n : Fin 8) : List Nat := [R.SEQ_EFUSE_STATUS, R.SEQ_CLAUSE_STAT n, R.RST_ABORT, R.SLT_STAT n]

theorem setF_off {f : Fd} {x : Nat} (h : f.hi < 32) (hl : f.lo ≤ f.hi) (hf : f.off ∉ regs n) :
    (Act.setF f x).Within (SlotKept n) := by
  simp only [regs, List.mem_cons, List.not_mem_nil, or_false, not_or] at hf
  obtain ⟨hefuse, hstat, habort, hslt⟩ := hf
  refine setF h hl ?_
  simpa only [slotFlds, List.forall_mem_cons, List.not_mem_nil, false_imp_iff, implies_true, and_true] using
    ⟨Fd.apart_of_off hefuse, Fd.apart_of_off hstat, Fd.apart_of_off habort, Fd.apart_of_off hslt⟩

theorem efuseEn {i : Nat} : (Act.setFBit F.SEQ_EFUSE_STATUS.en i false).Within (SlotKept n) := fun s => by
  rw [Act.setFBit, Act.run_get]
  refine ⟨rfl, fun g hg => State.fld_setF_other s _ g _ (by decide) (by decide) ?_, fun he => ?_⟩
  · revert g
    revert n
    decide
  · have hn : (n : Nat) < 8 := n.isLt
    rw [State.efuseOn, State.fld_setF_same _ _ _ (by decide) (by decide)]
    exact (bitOf_mod _ _ 8 hn).trans (bitOf_clrBit_of_false i he)

theorem target {x : Fin 9} {f : Target → Target} (hx : x ≠ slotTarget n) : (Act.target x f).Within (SlotKept n) := fun _ =>
  ⟨Vector.getElem_set_ne x.isLt _ fun h => hx (Fin.ext h), fun _ _ => rfl, id⟩

theorem bindStateOf {x : Fin 9} {v : Nat} (hx : x ≠ slotTarget n) : (Act.bindState x v).Within (SlotKept n) := by
  refine setF_off (by simp) (by simp) ?_
  revert n x
  decide

theorem seqx {f : Seq → Seq} : (Act.seqx f).Within (SlotKept n) := fun _ => of_csr rfl rfl

theorem invx {f : Inv → Inv} : (Act.invx f).Within (SlotKept n) := fun _ => of_csr rfl rfl

theorem dom {d : Fin 48} {f : Dom → Dom} : (Act.dom d f).Within (SlotKept n) := fun _ => of_csr rfl rfl

theorem link {f : Link → Link} : (Act.link m f).Within (SlotKept n) := fun _ => of_csr rfl rfl

theorem ramp {f : Ramp → Ramp} : (Act.ramp m f).Within (SlotKept n) := fun _ => of_csr rfl rfl

theorem putCore {k : Fin 13} {f : Core → Core} {hf} : (Act.putCore k f hf).Within (SlotKept n) := fun _ => of_csr rfl rfl

theorem emitBy {hw : Bool} {src code sev : Nat} {p : List Nat} : (Act.emitBy hw src code sev p).Within (SlotKept n) := fun _ =>
  of_csr rfl rfl

/-! ## Clauses, enables and resets -/

/-- The other fields of the registers of power that are written for any slot. -/
theorem powerFlds_apart : ∀ n m : Fin 8,
    ∀ f ∈ [F.SLT_STAT.busy m, F.SLT_STAT.pg m, F.SEQ_EFUSE_STATUS.pg, F.CMA_STATUS.state m, F.CMA_STATUS.lane_fail m,
      F.BUF_RAMP_STAT.duty m, F.BUF_RAMP_STAT.active m, F.SEQ_STATUS.gate_req, F.RST_ABORT.asserted],
    ∀ g ∈ F.SEQ_EFUSE_STATUS.en :: slotFlds n, f.hi < 32 ∧ f.lo ≤ f.hi ∧ f.apart g = true := by
  decide

theorem power {f : Fd} {x : Nat} (m : Fin 8)
    (hf : f ∈ [F.SLT_STAT.busy m, F.SLT_STAT.pg m, F.SEQ_EFUSE_STATUS.pg, F.CMA_STATUS.state m, F.CMA_STATUS.lane_fail m,
      F.BUF_RAMP_STAT.duty m, F.BUF_RAMP_STAT.active m, F.SEQ_STATUS.gate_req, F.RST_ABORT.asserted]) :
    (Act.setF f x).Within (SlotKept n) := by
  have hapart := powerFlds_apart n m f hf
  obtain ⟨h, hl, -⟩ := hapart _ (List.mem_cons_self ..)
  exact setF h hl fun g hg => (hapart g hg).2.2

theorem stopClause {x : Fin 9} (hx : x ≠ slotTarget n) : (Act.stopClause x).Within (SlotKept n) := by
  refine .get fun s => ?_
  split
  · refine frame.andThen (frame.andThen (target hx) ?_) (.get fun _ => .ite (fun _ => frame.seq ?_) fun _ => frame.skip)
    · split
      · next h => exact power ⟨x, h⟩ (by simp)
      · exact frame.skip
    · simpa only [List.forall_mem_cons, List.not_mem_nil, false_imp_iff, implies_true, and_true] using ⟨putCore, putCore, putCore⟩
  · exact frame.skip

theorem due {x : Fin 9} {d : Due} (hx : x ≠ slotTarget n) : (Act.due x d).Within (SlotKept n) :=
  .get fun _ => .ite (fun _ => target hx) fun _ => frame.andThen (target hx) seqx

theorem linkDown : (Act.linkDown m).Within (SlotKept n) := frame.andThen (power m (by simp)) link

theorem linkTrain : (Act.linkTrain m).Within (SlotKept n) := by
  refine frame.seq ?_
  simpa only [List.forall_mem_cons, List.not_mem_nil, false_imp_iff, implies_true, and_true] using
    ⟨power m (by simp), power m (by simp), link⟩

theorem rstDrive {low : Bool} (hm : m ≠ n) : (Act.rstDrive m low).Within (SlotKept n) := by
  refine frame.andThen (fun _ => of_csr rfl rfl) (.get fun s => frame.andThen (setF_off (by simp) (by simp) ?_) ?_)
  · revert n m
    decide
  · exact .ite (fun _ => linkDown) fun _ => .ite (fun _ => linkTrain) fun _ => frame.skip

theorem domRegs_off : ∀ (n : Fin 8) (d : Fin 48),
    R.SEQ_DOM_EN (d / 32) ∉ regs n ∧ R.SEQ_DOM_PG (d / 32) ∉ regs n := by
  decide

theorem domOff {d : Fin 48} : (Act.domOff d).Within (SlotKept n) := by
  refine .get fun s => .ite (fun _ => frame.seq ?_) fun _ => frame.skip
  obtain ⟨hen, hpg⟩ := domRegs_off n d
  simpa only [List.forall_mem_cons, List.not_mem_nil, false_imp_iff, implies_true, and_true] using
    ⟨.get fun _ => setF_off (by simp) (by simp) hen, .get fun _ => setF_off (by simp) (by simp) hpg, dom⟩

theorem invCount : (Act.invCount m).Within (SlotKept n) := by
  refine .get fun s => ?_
  split
  · exact frame.skip
  · exact invx

theorem efuseOff : (Act.efuseOff m).Within (SlotKept n) := by
  refine frame.seq ?_
  simpa only [List.forall_mem_cons, List.not_mem_nil, false_imp_iff, implies_true, and_true] using
    ⟨efuseEn, .get fun _ => power m (by simp), power m (by simp), invCount, invx⟩

theorem gateOff : (Act.gateOff).Within (SlotKept n) := by
  have hlapsed : Act.lapsedEnd.Within (SlotKept n) := frame.each fun m _ => .get fun s => .ite (fun _ => frame.seq (by
    simpa only [List.forall_mem_cons, List.not_mem_nil, false_imp_iff, implies_true, and_true] using
      ⟨ramp, power m (by simp), power m (by simp)⟩)) fun _ => frame.skip
  refine frame.seq ?_
  simpa only [List.forall_mem_cons, List.not_mem_nil, false_imp_iff, implies_true, and_true] using
    ⟨power n (by simp), seqx, hlapsed⟩

theorem slotDownPath (hm : m ≠ n) : (Act.slotDownPath m).Within (SlotKept n) := by
  refine .get fun s => frame.seq ?_
  simpa only [List.forall_mem_cons, List.not_mem_nil, false_imp_iff, implies_true, and_true] using
    ⟨rstDrive hm, frame.each fun _ _ => seqx, frame.each fun _ _ => domOff, frame.when fun _ => efuseOff⟩

theorem downPath {x : Fin 9} (hx : x ≠ slotTarget n) : (Act.downPath x).Within (SlotKept n) := by
  rw [Act.downPath]
  split
  · next h => exact slotDownPath fun he => hx (Fin.ext (show x.val = n.val from congrArg Fin.val he))
  · exact .get fun _ => frame.andThen (frame.each fun _ _ => domOff) gateOff

theorem startDown {x : Fin 9} (hx : x ≠ slotTarget n) : (Act.startDown x).Within (SlotKept n) := by
  refine .get fun s => .ite (fun _ => due hx) fun _ => frame.seq ?_
  simpa only [List.forall_mem_cons, List.not_mem_nil, false_imp_iff, implies_true, and_true] using
    ⟨due hx, downPath hx, bindStateOf hx⟩

/-- Bringing another target to its orders. -/
theorem settleOne {x : Fin 9} (hx : x ≠ slotTarget n) : (Act.settleOne x).Within (SlotKept n) := by
  refine .get fun s => .ite (fun _ => frame.andThen (stopClause hx) (startDown hx)) fun _ => .ite (fun _ => .ite (fun _ => ?_) fun _ =>
    frame.skip) fun _ => ?_
  · refine frame.seq ?_
    simpa only [List.forall_mem_cons, List.not_mem_nil, false_imp_iff, implies_true, and_true] using
      ⟨target hx, due hx, frame.when fun _ => bindStateOf hx⟩
  · dsimp only
    split
    · exact .ite (fun _ => .ite (fun _ => target hx) fun _ => frame.andThen (stopClause hx) (startDown hx)) fun _ => frame.skip
    · exact .ite (fun _ => .ite (fun _ => startDown hx) fun _ => due hx) fun _ => .ite (fun _ => startDown hx) fun _ =>
        .ite (fun _ => gateOff) fun _ => .ite (fun _ => downPath hx) fun _ => frame.skip

/-! ## Emergency duties and overrides (R104, R282) -/

theorem quaLoad {c v : Nat} : (Act.quaLoad c v).Within (SlotKept n) := by
  refine frame.andThen (setF_off (by simp) (by simp) ?_) fun _ => of_csr rfl rfl
  simp only [regs, List.mem_cons, List.not_mem_nil, or_false, not_or, R.QUA_OUT, R.SEQ_EFUSE_STATUS, R.SEQ_CLAUSE_STAT, R.RST_ABORT,
    R.SLT_STAT]
  omega

/-- What follows the change of the duties and overrides. -/
theorem withForce {q : State → Prop} (hq : ∀ s t, SlotKept n s t → q s → q t) {cause : Nat} {a : Act} {s : State}
    (ha : q (a.run s)) : q ((Act.withForce cause a).run s) := by
  rw [Act.withForce, Act.run_get, Act.run_andThen]
  refine hq _ _ (Act.Within.get (fun s1 => frame.seq ?_) _) ha
  simpa only [List.forall_mem_cons, List.not_mem_nil, false_imp_iff, implies_true, and_true] using
    ⟨frame.each fun _ _ => quaLoad, frame.when fun _ => fun _ => of_csr rfl rfl, frame.when fun _ => emitBy⟩

end SlotKept
end Sys2Proof.Machine
end

section
/-!
SUPPORT. A slot device that fails on a dead link: FAULT, with its down-clause due or its default down-path run (R72, R84, R422).
-/
namespace Sys2Proof.Machine

variable {s t : State} {n : Fin 8}

/-! ## The default down-path of the slot itself -/

theorem Act.efuseOff_off (n : Fin 8) (s : State) : ((Act.efuseOff n).run s).efuseOn n = false := by
  rw [Act.efuseOff, Act.run_seq_cons]
  have hrest : (Act.seq [Act.setFBit F.SEQ_EFUSE_STATUS.pg n false, Act.setB (F.SLT_STAT.pg n) false, Act.invCount n,
      Act.invx fun v => { v with onAt := v.onAt.set n none, saved := v.entries }]).Within (SlotKept n) :=
    SlotKept.frame.seq (by
      simpa only [List.forall_mem_cons, List.not_mem_nil, false_imp_iff, implies_true, and_true] using
        ⟨.get fun _ => SlotKept.power n (by simp), SlotKept.power n (by simp), SlotKept.invCount, SlotKept.invx⟩)
  refine (hrest _).2.2 ?_
  exact State.bit_setFBit_same s F.SEQ_EFUSE_STATUS.en n false (by decide) (by simp; omega)

/-- SLOTn_RST_N is low, and slot n's target and the fields that show it FAULT are as before. -/
def RstLowered (n : Fin 8) (s t : State) : Prop :=
  t.flag (F.SLT_STAT.rst n) = true ∧ t.target (slotTarget n) = s.target (slotTarget n) ∧ t.bindState n = s.bindState n ∧
    t.fld F.RST_ABORT.failed = s.fld F.RST_ABORT.failed

theorem RstLowered.keep {u : State} (h : RstLowered n s t) (g : SlotKept n t u) : RstLowered n s u := by
  obtain ⟨hrst, htarget, hbind, hfailed⟩ := h
  exact ⟨g.rst.trans hrst, g.1.trans htarget, g.bindState.trans hbind, g.failed.trans hfailed⟩

theorem rstFld_apart : ∀ n : Fin 8, ∀ g ∈ [F.SEQ_CLAUSE_STAT.state n, F.RST_ABORT.failed, F.SEQ_EFUSE_STATUS.en],
    (F.SLT_STAT.rst n).apart g = true := by
  decide

theorem Act.rstDrive_low (n : Fin 8) (s : State) : RstLowered n s ((Act.rstDrive n true).run s) ∧
    (s.efuseOn n = false → ((Act.rstDrive n true).run s).efuseOn n = false) := by
  set a := (Act.slotPins n fun p => { p with rstLow := true }).run s with ha
  set b := (Act.setB (F.SLT_STAT.rst n) true).run a with hb
  have hlow : (a.pins[n].rstLow || a.pins[n].flashHold) = true := by
    have hpin : a.pins[n] = { s.pins[n] with rstLow := true } := Vector.getElem_set_self _
    rw [hpin, Bool.true_or]
  have hrun : (Act.rstDrive n true).run s = (Act.linkDown n).run b := by
    rw [Act.rstDrive, Act.run_andThen, Act.rstPin, Act.run_get, ← ha]
    simp only [hlow, if_true]
    rw [Act.run_andThen]
  have hkept : ∀ g ∈ [F.SEQ_CLAUSE_STAT.state n, F.RST_ABORT.failed, F.SEQ_EFUSE_STATUS.en], b.fld g = s.fld g := fun g hg => by
    rw [hb, Act.setB, State.fld_setF_other _ _ _ _ (by simp) (by simp) (rstFld_apart n g hg)]
    exact State.fld_of_csr rfl g
  simp only [List.forall_mem_cons, List.not_mem_nil, false_imp_iff, implies_true, and_true] at hkept
  obtain ⟨hbind, hfailed, hen⟩ := hkept
  have hb' : RstLowered n s b := ⟨State.flag_setB_same _ _ _ (by simp) (by simp), rfl, hbind, hfailed⟩
  have hdown : SlotKept n b ((Act.linkDown n).run b) := SlotKept.linkDown b
  rw [hrun]
  refine ⟨hb'.keep hdown, fun he => hdown.2.2 ?_⟩
  rw [State.efuseOn, hen]
  exact he

/-- The default down-path of the slot itself: its reset low and its eFuse off (R72). -/
theorem Act.slotDownPath_downs (n : Fin 8) (s : State) : RstLowered n s ((Act.slotDownPath n).run s) ∧
    ((Act.slotDownPath n).run s).efuseOn n = false := by
  set a := (Act.rstDrive n true).run s with ha
  set c := (Act.each (s.ownedDomains n) Act.domOff).run ((Act.each [2, 1, 0] fun m => Act.pmicOffNow (3 * n + m)).run a) with hc
  have hrun : (Act.slotDownPath n).run s = (Act.when (s.efuseOn n) (Act.efuseOff n)).run c := by
    rw [Act.slotDownPath, Act.run_get, Act.run_seq_cons, Act.run_seq_cons, Act.run_seq_cons, Act.run_seq_cons, Act.run_seq_nil]
  obtain ⟨hlow, hoff⟩ := Act.rstDrive_low n s
  have hac : SlotKept n a c :=
    SlotKept.frame.trans (SlotKept.frame.each (fun _ _ => SlotKept.seqx) a) (SlotKept.frame.each (fun _ _ => SlotKept.domOff) _)
  rw [hrun]
  refine ⟨(hlow.keep hac).keep (SlotKept.frame.when (fun _ => SlotKept.efuseOff) c), ?_⟩
  rw [Act.run_when]
  split
  · exact Act.efuseOff_off n c
  · next he => exact hac.2.2 (hoff (Bool.eq_false_iff.mpr he))

/-! ## FAULT (R63, R68, R422) -/

theorem Act.downPath_slot (n : Fin 8) : Act.downPath (slotTarget n) = Act.slotDownPath n := dif_pos n.isLt

/-- Slot n is FAULT, with its down-clause due and none running. -/
def FaultDue (n : Fin 8) (s : State) : Prop :=
  s.bindState n = 3 ∧ (s.target (slotTarget n)).run = none ∧ (s.target (slotTarget n)).due = .downFault

/-- Slot n is FAULT, with nothing running or due, its reset low and its eFuse off. -/
def FaultDown (n : Fin 8) (s : State) : Prop :=
  (s.bindState n = 3 ∧ (s.target (slotTarget n)).run = none ∧ (s.target (slotTarget n)).due = .none ∧
    (s.target (slotTarget n)).lift = false) ∧ s.flag (F.SLT_STAT.rst n) = true ∧ s.efuseOn n = false

theorem FaultDue.keep (h : SlotKept n s t) (hs : FaultDue n s) : FaultDue n t := by
  rw [FaultDue, h.bindState, h.1]
  exact hs

theorem FaultDown.keep (h : SlotKept n s t) (hs : FaultDown n s) : FaultDown n t := by
  obtain ⟨hfault, hrst, hoff⟩ := hs
  rw [FaultDown, h.bindState, h.1, h.rst]
  exact ⟨hfault, hrst, h.2.2 hoff⟩

theorem slotTarget_ne : ∀ n : Fin 8, slotTarget n ≠ 8 := by decide

/-- A slot whose down-clause is due is left to it. -/
theorem Act.settleOne_due (h : FaultDue n s) : (Act.settleOne (slotTarget n)).run s = s := by
  obtain ⟨hbind, hrun, hdue⟩ := h
  have hquiet : s.quiet (slotTarget n) = false := by simp [State.quiet, hdue]
  simp [Act.settleOne, hrun, hdue, hquiet]

/-- A slot that is FAULT and down stays so, or its default down-path runs again. -/
theorem Act.settleOne_down (h : FaultDown n s) : FaultDown n ((Act.settleOne (slotTarget n)).run s) ∧
    ((Act.settleOne (slotTarget n)).run s).fld F.RST_ABORT.failed = s.fld F.RST_ABORT.failed := by
  have hcase : (Act.settleOne (slotTarget n)).run s = s ∨ (Act.settleOne (slotTarget n)).run s = (Act.slotDownPath n).run s := by
    obtain ⟨⟨hbind, hrun, hdue, hlift⟩, -⟩ := h
    have hbind' : s.bindState (slotTarget n) = 3 := hbind
    have h8 := slotTarget_ne n
    have hsettle : (Act.settleOne (slotTarget n)).run s =
        if s.effOn (slotTarget n) = true ∧ s.effOn 8 = true ∧ s.bindState 8 = 2 then s
        else if s.effOn (slotTarget n) = false ∨ s.effOn 8 = false then (Act.slotDownPath n).run s else s := by
      rw [Act.settleOne, Act.run_get]
      simp [hrun, hdue, hlift, hbind', h8, Act.downPath_slot]
    rw [hsettle]
    split
    · exact .inl rfl
    · split
      · exact .inr rfl
      · exact .inl rfl
  rcases hcase with hrun | hrun
  · rw [hrun]
    exact ⟨h, rfl⟩
  · obtain ⟨⟨hrst, htarget, hbind, hfailed⟩, hoff⟩ := Act.slotDownPath_downs n s
    rw [hrun]
    refine ⟨⟨?_, hrst, hoff⟩, hfailed⟩
    rw [hbind, htarget]
    exact h.1

/-- What settling every target leaves. -/
theorem Act.settle_keeps {q : State → Prop} (hkeep : ∀ s t, SlotKept n s t → q s → q t)
    (hown : ∀ s, q s → q ((Act.settleOne (slotTarget n)).run s)) (hs : q s) : q (Act.settle.run s) := by
  have hone : ∀ x ∈ List.finRange 9, ∀ t, q t → q ((Act.settleOne x).run t) := fun x _ t ht => by
    by_cases hx : x = slotTarget n
    · rw [hx]
      exact hown t ht
    · exact hkeep _ _ (SlotKept.settleOne hx t) ht
  rw [Act.settle, Act.withFeeds, Act.run_get]
  refine SlotKept.withForce hkeep ?_
  rw [Act.run_andThen]
  exact Act.each_induct q _ _ _ hone (Act.each_induct q _ _ _ hone hs)

theorem State.target_same (x : Fin 9) (f : Target → Target) (s : State) :
    ((Act.target x f).run s).target x = f (s.target x) := Vector.getElem_set_self _

theorem State.targets_setF (f : Fd) (v : Nat) (s : State) (x : Fin 9) : ((Act.setF f v).run s).target x = s.target x := rfl

theorem Act.leaveP_targets (k : Fin 13) (s : State) : ((Act.leaveP k).run s).targets = s.targets := by
  rw [Act.leaveP, Act.run_get, Act.run_ite]
  split
  · rfl
  · rfl

theorem State.target_seqx (f : Seq → Seq) (s : State) (x : Fin 9) : ((Act.seqx f).run s).target x = s.target x := rfl

theorem Act.endRun_run (n : Fin 8) (s : State) : (Act.endRun (slotTarget n)).run s =
    (Act.setF (F.SLT_STAT.busy n) 0).run ((Act.target (slotTarget n) fun x => { x with run := none }).run s) := by
  rw [Act.endRun, Act.run_andThen, dif_pos (show (slotTarget n : Nat) < 8 from n.isLt)]
  rfl

/-- A clause that is stopped no longer runs. -/
theorem Act.stopClause_stops (n : Fin 8) (s : State) : (((Act.stopClause (slotTarget n)).run s).target (slotTarget n)).run = none := by
  cases hr : (s.target (slotTarget n)).run with
  | none =>
    have hrun : (Act.stopClause (slotTarget n)).run s = s := by rw [Act.stopClause, Act.run_get, hr]; rfl
    rw [hrun, hr]
  | some r =>
    have hrun : (Act.stopClause (slotTarget n)).run s = (Act.leaveP r.core).run ((Act.endRun (slotTarget n)).run s) := by
      rw [Act.stopClause, Act.run_get, hr]
      exact Act.run_andThen ..
    rw [hrun, State.target, Act.leaveP_targets, ← State.target, Act.endRun_run, State.targets_setF, State.target_same]

theorem Act.due_run (x : Fin 9) (d : Due) (s : State) : (((Act.due x d).run s).target x).due = d ∧
    (((Act.due x d).run s).target x).run = (s.target x).run := by
  rw [Act.due, Act.run_get, Act.run_ite]
  split
  · rw [State.target_same]
    exact ⟨rfl, rfl⟩
  · rw [Act.run_andThen, State.target_seqx, State.target_same]
    exact ⟨rfl, rfl⟩

theorem Act.targetFails_due (h : s.flag (F.SEQ_BIND.down_valid n) = true) :
    FaultDue n ((Act.targetFails (slotTarget n)).run s) := by
  set a := (Act.target (slotTarget n) fun x => { x with lift := false }).run ((Act.stopClause (slotTarget n)).run s) with ha
  set b := (Act.due (slotTarget n) .downFault).run a with hb
  have hrun : (Act.targetFails (slotTarget n)).run s = (Act.bindState n 3).run b := by
    rw [Act.targetFails, Act.run_get, if_pos (show s.flag (F.SEQ_BIND.down_valid (slotTarget n)) = true from h)]
    rfl
  obtain ⟨hdue, hclause⟩ := Act.due_run (slotTarget n) .downFault a
  rw [hrun]
  refine ⟨State.fld_setF_same b _ 3 (by simp) (by simp), ?_, ?_⟩
  · rw [Act.bindState, State.targets_setF, hb, hclause, ha, State.target_same]
    exact Act.stopClause_stops n s
  · rw [Act.bindState, State.targets_setF, hb, hdue]

theorem bindFld_apart : ∀ n : Fin 8, ∀ g ∈ [F.SLT_STAT.rst n, F.SEQ_EFUSE_STATUS.en], (F.SEQ_CLAUSE_STAT.state n).apart g = true := by
  decide

theorem Act.targetFails_down (h : s.flag (F.SEQ_BIND.down_valid n) = false) :
    FaultDown n ((Act.targetFails (slotTarget n)).run s) := by
  set a := (Act.target (slotTarget n) fun x => { x with due := .none, lift := false }).run ((Act.stopClause (slotTarget n)).run s)
    with ha
  set b := (Act.slotDownPath n).run a with hb
  have hrun : (Act.targetFails (slotTarget n)).run s = (Act.bindState n 3).run b := by
    rw [Act.targetFails, Act.run_get, if_neg (show ¬s.flag (F.SEQ_BIND.down_valid (slotTarget n)) = true by
      rw [Bool.not_eq_true]; exact h), Act.targetFault, Act.downPath_slot]
    rfl
  obtain ⟨⟨hrst, htarget, -, -⟩, hoff⟩ := Act.slotDownPath_downs n a
  have hapart := bindFld_apart n
  simp only [List.forall_mem_cons, List.not_mem_nil, false_imp_iff, implies_true, and_true] at hapart
  have hb' : b.target (slotTarget n) = { ((Act.stopClause (slotTarget n)).run s).target (slotTarget n) with
      due := .none, lift := false } := htarget.trans (State.target_same _ _ _)
  rw [hrun, Act.bindState]
  refine ⟨⟨State.fld_setF_same b (F.SEQ_CLAUSE_STAT.state n) 3 (by simp) (by simp), ?_, ?_, ?_⟩, ?_, ?_⟩
  · rw [State.targets_setF, hb']
    exact Act.stopClause_stops n s
  · rw [State.targets_setF, hb']
  · rw [State.targets_setF, hb']
  · rw [State.flag_setF_other _ _ _ _ (by simp) (by simp) hapart.1]
    exact hrst
  · rw [State.efuseOn, State.fld_setF_other _ _ _ _ (by simp) (by simp) hapart.2]
    exact hoff

/-! ## The failure of a slot device (R422) -/

theorem failedFld_apart : ∀ n : Fin 8, ∀ g ∈ [F.SEQ_CLAUSE_STAT.state n, F.SLT_STAT.rst n, F.SEQ_EFUSE_STATUS.en],
    F.RST_ABORT.failed.apart g = true := by
  decide

theorem State.fld_setFailed (n : Fin 8) (s : State) : ∀ g ∈ [F.SEQ_CLAUSE_STAT.state n, F.SLT_STAT.rst n, F.SEQ_EFUSE_STATUS.en],
    ((Act.setFBit F.RST_ABORT.failed n true).run s).fld g = s.fld g := fun g hg => by
  rw [Act.setFBit, Act.run_get, State.fld_setF_other _ _ _ _ (by decide) (by decide) (failedFld_apart n g hg)]

theorem State.target_setFBit (f : Fd) (i : Nat) (b : Bool) (s : State) (x : Fin 9) :
    ((Act.setFBit f i b).run s).target x = s.target x := rfl

theorem FaultDue.setFailed (h : FaultDue n s) : FaultDue n ((Act.setFBit F.RST_ABORT.failed n true).run s) := by
  rw [FaultDue, State.bindState, State.fld_setFailed n s _ (by simp), State.target_setFBit]
  exact h

theorem FaultDown.setFailed (h : FaultDown n s) : FaultDown n ((Act.setFBit F.RST_ABORT.failed n true).run s) := by
  rw [FaultDown, State.bindState, State.fld_setFailed n s _ (by simp), State.target_setFBit, State.flag,
    State.fld_setFailed n s _ (by simp), State.efuseOn, State.fld_setFailed n s _ (by simp)]
  exact h

/-- What the failure of the device's target establishes stands at the end, with the device's failed bit. -/
theorem Act.slotFail_fails {q : State → Prop} {cause : Nat} (hkeep : ∀ s t, SlotKept n s t → q s → q t)
    (hfailed : ∀ s, q s → q ((Act.setFBit F.RST_ABORT.failed n true).run s)) (hq : q ((Act.targetFails (slotTarget n)).run s)) :
    q ((Act.slotFail n cause).run s) ∧ bitOf (((Act.slotFail n cause).run s).fld F.RST_ABORT.failed) n = true := by
  rw [Act.slotFail, Act.run_get, Act.run_seq_cons, Act.run_seq_cons]
  set a := (Act.setFBit F.RST_ABORT.failed n true).run ((Act.targetFails ⟨n, by omega⟩).run s)
  have ha : q a := hfailed _ hq
  have hbit : bitOf (a.fld F.RST_ABORT.failed) n = true := State.bit_setFBit_same _ _ _ _ (by decide) (by simp; omega)
  have hrest (l : List Act) (hl : ∀ b ∈ l, b.Within (SlotKept n)) :
      q ((Act.seq l).run a) ∧ bitOf (((Act.seq l).run a).fld F.RST_ABORT.failed) n = true := by
    have hkept := SlotKept.frame.seq hl a
    exact ⟨hkeep _ _ hkept ha, by rw [hkept.failed]; exact hbit⟩
  refine hrest _ ?_
  simpa only [List.forall_mem_cons, List.not_mem_nil, false_imp_iff, implies_true, and_true] using
    ⟨.get fun _ => SlotKept.invx, .ite (fun _ => SlotKept.frame.when fun _ => SlotKept.power n (by simp)) fun _ =>
      .get fun _ => SlotKept.power n (by simp), SlotKept.emitBy⟩

end Sys2Proof.Machine
end

section
/-!
SUPPORT. Links that fail: a lane that loses character lock, a link that is LOST, and one that is DEAD (R83, R84, R422).
-/
namespace Sys2Proof.Machine

variable {s t : State} {n : Fin 8}

/-! ## Activity frames -/

/-- The frame of lane 0 is used where it is valid and the lane has not failed. -/
theorem Act.activityFrame_first (hp : s.powered = true) (hs : s.linkState n ≠ 0) {f : BitVec 256} (hf : frameValid f.toNat = true)
    (hlane : bitOf (s.fld (F.CMA_STATUS.lane_fail n)) 2 = false) (rx1 : Option (BitVec 256)) :
    ∃ u, Unseen n s u ∧ (Act.activityFrame n (some f) rx1).run s = (Act.validFrame n f.toNat).run u := by
  obtain ⟨u, hsu, -, hrun⟩ := Act.activityFrame_takes hp hs (some f) rx1
  rw [State.laneCopy_valid hlane hf] at hrun
  exact ⟨u, hsu, hrun⟩

theorem Act.activityFrame_up (hp : s.powered = true) (hs : s.linkState n = 2) {f : BitVec 256} (hf : frameValid f.toNat = true)
    (hlane : bitOf (s.fld (F.CMA_STATUS.lane_fail n)) 2 = false) (hact : frameField f.toNat 3 0 = 0) (rx1 : Option (BitVec 256)) :
    ((Act.activityFrame n (some f) rx1).run s).linkView n = { (s.linkView n).heard with
      acc := accAfter (s.linkView n).acc f.toNat, intent := frameField f.toNat 63 32, merged := (s.linkView n).merged + 1,
      repCtx := frameField f.toNat 27 24, repValid := bitOf f.toNat 28 } := by
  obtain ⟨u, hsu, hrun⟩ := Act.activityFrame_first hp (by omega) hf hlane rx1
  rw [hrun, Act.validFrame_up ((congrArg LinkView.state hsu).trans hs) hact, hsu]

theorem Act.activityFrame_train (hp : s.powered = true) (hs : s.linkState n = 1) {f : BitVec 256} (hf : frameValid f.toNat = true)
    (hlane : bitOf (s.fld (F.CMA_STATUS.lane_fail n)) 2 = false) (rx1 : Option (BitVec 256)) :
    ((Act.activityFrame n (some f) rx1).run s).linkView n = { (s.linkView n).heard with
      repCtx := frameField f.toNat 27 24, repValid := bitOf f.toNat 28, validRun := (s.linkView n).validRun + 1,
      state := if 16 ≤ (s.linkView n).validRun + 1 then 2 else 1 } := by
  obtain ⟨u, hsu, hrun⟩ := Act.activityFrame_first hp (by omega) hf hlane rx1
  rw [hrun, Act.validFrame_train ((congrArg LinkView.state hsu).trans hs), hsu]

/-- With no valid copy only the run of valid frames ends. -/
theorem Act.activityFrame_none (hp : s.powered = true) (hs : s.linkState n ≠ 0) {rx0 rx1 : Option (BitVec 256)}
    (h0 : ∀ f, rx0 = some f → frameValid f.toNat = false) (h1 : ∀ f, rx1 = some f → frameValid f.toNat = false) :
    let t := (Act.activityFrame n rx0 rx1).run s
    t.linkView n = { s.linkView n with validRun := 0 } ∧ LanesOnly s t := by
  intro t
  obtain ⟨u, hsu, honly, hrun⟩ := Act.activityFrame_takes hp hs rx0 rx1
  rw [State.laneCopy_invalid h0, State.laneCopy_invalid h1] at hrun
  have ht : t = (Act.link n fun l => { l with validRun := 0 }).run u := hrun
  rw [ht]
  refine ⟨?_, LanesOnly.frame.trans honly (LanesOnly.link u)⟩
  rw [State.linkView_link]
  exact congrArg (fun x : LinkView => { x with validRun := 0 }) hsu

/-! ## Failures -/

theorem Act.laneFail_fails (n : Fin 8) (dir lane reason : Nat) (s : State) (hlane : 2 * dir + lane < 4) :
    let t := (Act.laneFail n dir lane reason).run s
    bitOf (t.fld (F.CMA_STATUS.lane_fail n)) (2 * dir + lane) = true ∧ Noted [F.CMA_STATUS.lane_fail n] s t := by
  intro t
  have hnoted : (Act.laneFail n dir lane reason).Within (Noted [F.CMA_STATUS.lane_fail n]) :=
    .get fun _ => .ite (fun _ => Noted.frame.skip) fun _ =>
      Noted.frame.andThen (Noted.setFBit (by simp) (by simp) (by simp)) Noted.emit
  refine ⟨?_, hnoted s⟩
  simp only [t]
  rw [Act.laneFail, Act.run_get, Act.run_ite]
  split
  · next h => exact h
  · rw [Act.run_andThen, State.fld_emit]
    exact State.bit_setFBit_same _ _ _ _ (by simp) (by simp; omega)

theorem exec_characterLockLoss (hp : s.powered = true) (hs : s.linkState n ≠ 0) (lane : Fin 2) :
    exec (.characterLockLoss n lane) s = .next ((Act.laneFail n 1 lane 1).run s) := by
  show Host.Outcome.next ((Act.when (s.powered && s.linkState n ≠ 0) _).run s) = _
  rw [Act.run_when, if_pos (by simp [hp, hs])]

theorem Act.linkLost_loses (hp : s.powered = true) (hs : s.linkState n = 2) (hm : s.fld F.CMA_LINK_CFG.loss_frames ≤ s.links[n].missRun) :
    let t := (Act.linkLost n).run s
    t.linkState n = 3 ∧ t.links[n].lostAt = s.tns.tick ∧ FldsKept [F.CMA_STATUS.state n] s t ∧ LanesOnly s t := by
  intro t
  set u := (Act.setF (F.CMA_STATUS.state n) 3).run s with hu
  set v := (Act.link n fun l => { l with lostAt := s.tns.tick }).run u with hv
  have ht : t = (Act.emit 0x22 0x0302 2 [n, s.links[n].echo]).run v := by
    simp only [t]
    rw [Act.linkLost, Act.run_get, if_pos (by simpa [hp, hs] using hm), Act.run_seq_cons, Act.run_seq_cons, Act.run_seq_cons, Act.run_seq_nil]
  have hsu : FldsKept [F.CMA_STATUS.state n] s u := FldsKept.setF (by simp) (by simp) (by simp) s
  have hcsr : t.csr = u.csr := by rw [ht, Act.emit_run, hv, State.csr_link]
  refine ⟨?_, ?_, FldsKept.frame.trans hsu (.of_csr hcsr), ?_⟩
  · rw [State.linkState, State.fld_of_csr hcsr, hu, State.fld_setF_same _ _ _ (by simp) (by simp)]
    rfl
  · have hlinks : t.links = v.links := by rw [ht, Act.emit_run]
    rw [hlinks, hv, State.links_link_same]
  · rw [ht]
    exact LanesOnly.frame.trans (LanesOnly.frame.trans (LanesOnly.setF s) (LanesOnly.link u)) (LanesOnly.emit v)

theorem downValidFld_apart : ∀ n : Fin 8, (F.CMA_STATUS.state n).apart (F.SEQ_BIND.down_valid n) = true := by decide

/-- What the failure of the device establishes on a dead link stands once the targets are settled. -/
theorem Act.linkDead_fails {q : State → Prop} (hp : s.powered = true) (hs : s.linkState n = 3)
    (hl : s.links[n].lostAt + 1000 * s.fld F.CMA_LINK_CFG.dead_ms ≤ s.tns.tick) (hkeep : ∀ s t, SlotKept n s t → q s → q t)
    (hfailed : ∀ s, q s → q ((Act.setFBit F.RST_ABORT.failed n true).run s))
    (hown : ∀ s, q s → q ((Act.settleOne (slotTarget n)).run s) ∧
      ((Act.settleOne (slotTarget n)).run s).fld F.RST_ABORT.failed = s.fld F.RST_ABORT.failed)
    (hq : ∀ u, u.flag (F.SEQ_BIND.down_valid n) = s.flag (F.SEQ_BIND.down_valid n) → q ((Act.targetFails (slotTarget n)).run u)) :
    q ((Act.linkDead n).run s) ∧ bitOf (((Act.linkDead n).run s).fld F.RST_ABORT.failed) n = true := by
  set u := (Act.emit 0x22 0x0303 3 [n]).run ((Act.setF (F.CMA_STATUS.state n) 4).run s) with hu
  have hrun : (Act.linkDead n).run s = Act.settle.run ((Act.slotFail n 15).run u) := by
    rw [Act.linkDead, Act.run_get, if_pos (by simpa [hp, hs] using hl), Act.run_seq_cons, Act.run_seq_cons, Act.run_seq_cons,
      Act.run_seq_cons, Act.run_seq_nil]
  have hdown : u.flag (F.SEQ_BIND.down_valid n) = s.flag (F.SEQ_BIND.down_valid n) := by
    refine State.flag_of_fld ?_
    rw [hu, State.fld_emit, State.fld_setF_other _ _ _ _ (by simp) (by simp) (downValidFld_apart n)]
  rw [hrun]
  refine Act.settle_keeps (n := n) (q := fun t => q t ∧ bitOf (t.fld F.RST_ABORT.failed) n = true) (fun v w hvw hv => ?_) (fun v hv => ?_)
    (Act.slotFail_fails hkeep hfailed (hq u hdown))
  · exact ⟨hkeep v w hvw hv.1, by rw [hvw.failed]; exact hv.2⟩
  · obtain ⟨hown, hsame⟩ := hown v hv.1
    exact ⟨hown, by rw [hsame]; exact hv.2⟩

end Sys2Proof.Machine

open Sys2Proof Sys2Proof.Machine

/-- Settles O35, clause by clause: the frame of each link apart from those of the others, what a valid frame changes of what its
link shows, and a FAULT that settling the other targets leaves. -/
theorem commaLinksCarryPaceAndActivity : Obligations.CommaLinksCarryPaceAndActivity := by
  unfold Obligations.CommaLinksCarryPaceAndActivity
  intro s hp
  refine ⟨⟨_, exec_paceFrame_busy hp, ?_⟩, ⟨_, exec_paceFrame hp, fun n => ?_, (LinksOnly.paceFrames s).eq⟩,
    fun n f rx1 hf hlane => ⟨fun hs hact => ⟨_, rfl, ?_⟩, fun hs => ⟨_, rfl, ?_⟩⟩, fun n rx0 rx1 hs h0 h1 => ⟨_, rfl, ?_⟩,
    fun n lane hs => ⟨_, exec_characterLockLoss hp hs lane, ?_⟩, fun n hs hm => ⟨_, rfl, ?_⟩, fun n hs hl => ⟨_, rfl, ?_⟩⟩
  · exact ⟨State.fld_bump_same s _ (by decide) (by decide), FldsKept.bump (by simp) (by decide) (by decide) s, rfl⟩
  · exact ⟨fun hs => Act.paceFrames_down hs, fun hs => Act.paceFrames_sent hs⟩
  · have hview := Act.activityFrame_up hp hs hf hlane hact rx1
    generalize (Act.activityFrame n (some f) rx1).run s = t at *
    refine ⟨fun i hi => congrFun (congrArg LinkView.acc hview) ⟨i, hi⟩, congrArg LinkView.intent hview,
      congrArg LinkView.repCtx hview, congrArg LinkView.repValid hview, congrArg LinkView.got hview,
      congrArg LinkView.missRun hview, congrArg LinkView.merged hview, (congrArg LinkView.state hview).trans hs, fun j hj => ?_⟩
    have hothers := congrArg LinkView.others hview
    exact State.links_of_others hothers hj
  · have hview := Act.activityFrame_train hp hs hf hlane rx1
    generalize (Act.activityFrame n (some f) rx1).run s = t at *
    exact ⟨congrArg LinkView.validRun hview, congrArg LinkView.state hview, fun i hi => congrFun (congrArg LinkView.acc hview) ⟨i, hi⟩⟩
  · obtain ⟨hview, honly⟩ := Act.activityFrame_none hp hs h0 h1
    exact ⟨congrArg LinkView.validRun hview, congrArg LinkView.got hview, congrArg LinkView.state hview,
      fun i hi => congrFun (congrArg LinkView.acc hview) ⟨i, hi⟩, honly.eq⟩
  · obtain ⟨hbit, hnoted⟩ := Act.laneFail_fails n 1 lane 1 s (by omega)
    exact ⟨hbit, hnoted.2, hnoted.eq⟩
  · obtain ⟨hlost, hat, hkept, honly⟩ := Act.linkLost_loses hp hs hm
    exact ⟨hlost, hat, hkept, honly.eq⟩
  · cases hv : s.flag (F.SEQ_BIND.down_valid n) with
    | true =>
      obtain ⟨⟨hbind, -, hdue⟩, hbit⟩ := Act.linkDead_fails (q := FaultDue n) hp hs hl (fun _ _ => FaultDue.keep)
        (fun _ => FaultDue.setFailed) (fun u hu => by rw [Act.settleOne_due hu]; exact ⟨hu, rfl⟩)
        (fun u hu => Act.targetFails_due (hu.trans hv))
      refine ⟨hbind, hbit, fun _ x hx => ?_, fun h => absurd h.symm Bool.false_ne_true⟩
      rw [show x = slotTarget n from Fin.ext hx]
      exact hdue
    | false =>
      obtain ⟨⟨⟨hbind, -⟩, hrst, hoff⟩, hbit⟩ := Act.linkDead_fails (q := FaultDown n) hp hs hl (fun _ _ => FaultDown.keep)
        (fun _ => FaultDown.setFailed) (fun u => Act.settleOne_down) (fun u hu => Act.targetFails_down (hu.trans hv))
      exact ⟨hbind, hbit, fun h => absurd h Bool.false_ne_true, fun _ => ⟨hrst, hoff⟩⟩

end

section
/-!
SUPPORT. What the sequencer changes when it drives one target: nothing of another target, and enables only off (R62 to R73, R422).
-/
namespace Sys2Proof.Machine

variable {s t u : State}

theorem FrameRel.cons {R : State → State → Prop} (hR : FrameRel R) {a : Act} {l : List Act} (ha : a.Within R)
    (hl : (Act.seq l).Within R) : (Act.seq (a :: l)).Within R := hR.andThen ha hl

/-! ## Nothing but the parts of power -/

/-- The state without what the sequencer and its clauses hold and drive. -/
def State.besidePower (s : State) : State :=
  { s with csr := [], targets := State.reset.targets, cores := State.reset.cores, evr := State.reset.evr, doms := State.reset.doms,
           pins := State.reset.pins, links := State.reset.links, seq := State.reset.seq, inv := State.reset.inv, quaFrac := [],
           ramps := State.reset.ramps, free := 0, grps := [] }

/-- The state with what the sequencer and its clauses hold and drive as u has it. -/
def State.withPower (s u : State) : State :=
  { s with csr := u.csr, targets := u.targets, cores := u.cores, evr := u.evr, doms := u.doms, pins := u.pins,
           links := u.links, seq := u.seq, inv := u.inv, quaFrac := u.quaFrac, ramps := u.ramps, free := u.free,
           grps := u.grps }

theorem onlyPower_iff : OnlyPower s u ↔ GrpsKept s u ∧ u.besidePower = s.besidePower := by
  constructor
  · rintro ⟨hgrps, h⟩
    have hbeside : u.besidePower = (s.withPower u).besidePower := congrArg State.besidePower h
    exact ⟨hgrps, hbeside⟩
  · rintro ⟨hgrps, h⟩
    refine ⟨hgrps, ?_⟩
    calc u = u.besidePower.withPower u := rfl
      _ = s.besidePower.withPower u := by rw [h]

theorem OnlyPower.frame : FrameRel OnlyPower where
  refl _ := onlyPower_iff.mpr ⟨fun _ => rfl, rfl⟩
  trans h g := by
    rw [onlyPower_iff] at *
    exact ⟨fun i => (g.1 i).trans (h.1 i), g.2.trans h.2⟩

/-- What no order changes but the order itself: standing orders and caps. -/
def Target.orders (x : Target) : Nat × Nat × Option Nat × Option Nat × Option (Option Nat) × Option (Option Nat) :=
  (x.stM, x.stH, x.capM, x.capH, x.newM, x.newH)

/-! ## Bits that are cleared -/

theorem bitOf_clrBit_other (v : Nat) {i j : Nat} (h : j ≠ i) : bitOf (clrBit v i) j = bitOf v j :=
  h.lt_or_gt.elim (bitOf_clrBit_below v) (bitOf_clrBit_above v)

/-- A field of which a bit was cleared. -/
theorem State.fld_clear (s : State) {f : Fd} (i : Nat) (h : f.hi < 32) (hl : f.lo ≤ f.hi) :
    ((Act.setFBit f i false).run s).fld f = clrBit (s.fld f) i := by
  rw [Act.setFBit, Act.run_get, State.fld_setF_same _ _ _ h hl]
  refine Nat.mod_eq_of_lt (Nat.lt_of_le_of_lt ?_ (s.fld_lt f))
  rw [show putBit (s.fld f) i false = clrBit (s.fld f) i from rfl, clrBit]
  split
  · exact Nat.sub_le _ _
  · exact Nat.le_refl _

theorem State.bit_clear_other (s : State) {f g : Fd} {i j : Nat} (h : f.hi < 32) (hl : f.lo ≤ f.hi) (hg : g = f ∨ f.apart g = true)
    (hj : g = f → j ≠ i) : bitOf (((Act.setFBit f i false).run s).fld g) j = bitOf (s.fld g) j := by
  by_cases hgf : g = f
  · subst hgf
    rw [s.fld_clear i h hl, bitOf_clrBit_other _ (hj rfl)]
  · rw [Act.setFBit, Act.run_get, State.fld_setF_other _ _ _ _ h hl (hg.resolve_left hgf)]

/-- Clearing a bit of a field sets none. -/
theorem State.bit_clear_of_false (s : State) {f g : Fd} {i j : Nat} (h : f.hi < 32) (hl : f.lo ≤ f.hi)
    (hg : g = f ∨ f.apart g = true) (hj : bitOf (s.fld g) j = false) :
    bitOf (((Act.setFBit f i false).run s).fld g) j = false := by
  by_cases hgf : g = f
  · subst hgf
    rw [s.fld_clear i h hl]
    exact bitOf_clrBit_of_false i hj
  · rw [s.bit_clear_other h hl hg fun he => absurd he hgf, hj]

/-! ## Driving one target -/

/-- The fields of enables and power-goods, written bit by bit. -/
def enableFlds : List Fd :=
  [F.SEQ_DOM_EN.en 0, F.SEQ_DOM_EN.en 1, F.SEQ_DOM_PG.pg 0, F.SEQ_DOM_PG.pg 1, F.SEQ_EFUSE_STATUS.en, F.SEQ_EFUSE_STATUS.pg]

/-- The fields that driving target x writes as a whole. -/
def targetFlds (x : Fin 9) : List Fd :=
  F.SEQ_CLAUSE_STAT.state x ::
    if x = 8 then (List.range 8).flatMap fun n => [F.BUF_RAMP_STAT.duty n, F.BUF_RAMP_STAT.active n]
    else [F.SLT_STAT.rst x, F.SLT_STAT.busy x, F.SLT_STAT.pg x, F.CMA_STATUS.state x, F.CMA_STATUS.lane_fail x]

/-- The gate request belongs to the tray. -/
def gateFlds (x : Fin 9) : List Fd := if x = 8 then [F.SEQ_STATUS.gate_req] else []

/-- The fields that driving target x writes. -/
def drivenFlds (x : Fin 9) : List Fd := enableFlds ++ gateFlds x ++ targetFlds x

/-- From s to u target x has been driven: enables go off only, and those of other targets not at all; of the other targets
nothing changes, and of no target its standing orders. -/
structure Drove (x : Fin 9) (s u : State) : Prop where
  beside : u.besidePower = s.besidePower
  grps : u.grps = s.grps
  gprs : ∀ k, (u.core k).gpr = (s.core k).gpr
  input : x ≠ 8 → u.seq.inputGood = s.seq.inputGood
  orders : ∀ y, (u.target y).orders = (s.target y).orders
  others : ∀ y, y ≠ x → u.target y = s.target y
  flds : FldsKept (drivenFlds x) s u
  gateOff : s.gateOn = false → u.gateOn = false
  domOff : ∀ d : Fin 48, s.domOn d = false → u.domOn d = false
  pgOff : ∀ d : Fin 48, s.domPg d = false → u.domPg d = false
  efuseOff : ∀ n : Fin 8, s.efuseOn n = false → u.efuseOn n = false
  doms : ∀ d : Fin 48, s.domOwner d ≠ x → u.domOn d = s.domOn d
  efuses : ∀ n : Fin 8, n.val ≠ x → u.efuseOn n = s.efuseOn n

theorem owner_apart : ∀ (x : Fin 9) (d : Fin 48), ∀ g ∈ drivenFlds x, (F.SEQ_DOM_CFG.owner d).apart g = true := by
  decide +kernel

namespace Drove

variable {x : Fin 9}

theorem domOwner (h : Drove x s u) (d : Fin 48) : u.domOwner d = s.domOwner d := h.flds.fld (owner_apart x d)

theorem frame : FrameRel (Drove x) where
  refl _ := ⟨rfl, rfl, fun _ => rfl, fun _ => rfl, fun _ => rfl, fun _ _ => rfl, fun _ _ => rfl, id, fun _ => id, fun _ => id,
    fun _ => id, fun _ _ => rfl, fun _ _ => rfl⟩
  trans h g := {
    beside := g.beside.trans h.beside
    grps := g.grps.trans h.grps
    gprs := fun k => (g.gprs k).trans (h.gprs k)
    input := fun hx => (g.input hx).trans (h.input hx)
    orders := fun y => (g.orders y).trans (h.orders y)
    others := fun y hy => (g.others y hy).trans (h.others y hy)
    flds := FldsKept.frame.trans h.flds g.flds
    gateOff := fun hs => g.gateOff (h.gateOff hs)
    domOff := fun d hs => g.domOff d (h.domOff d hs)
    pgOff := fun d hs => g.pgOff d (h.pgOff d hs)
    efuseOff := fun n hs => g.efuseOff n (h.efuseOff n hs)
    doms := fun d hd => (g.doms d (h.domOwner d ▸ hd)).trans (h.doms d hd)
    efuses := fun n hn => (g.efuses n hn).trans (h.efuses n hn) }

theorem onlyPower (h : Drove x s u) : OnlyPower s u :=
  onlyPower_iff.mpr ⟨fun i => by rw [State.grp, State.grp, h.grps], h.beside⟩

/-! ## Changes beside registers -/

/-- A change that leaves registers, orders, groups, targets and general registers alone. -/
theorem of_csr (hc : u.csr = s.csr) (hb : u.besidePower = s.besidePower) (hg : u.grps = s.grps)
    (hr : ∀ k, (u.core k).gpr = (s.core k).gpr) (hi : x ≠ 8 → u.seq.inputGood = s.seq.inputGood)
    (ho : ∀ y, (u.target y).orders = (s.target y).orders) (hx : ∀ y, y ≠ x → u.target y = s.target y) : Drove x s u where
  beside := hb
  grps := hg
  gprs := hr
  input := hi
  orders := ho
  others := hx
  flds := .of_csr hc
  gateOff h := by rw [State.gateOn, State.flag_of_csr hc]; exact h
  domOff d h := by rw [State.domOn, State.fld_of_csr hc]; exact h
  pgOff d h := by rw [State.domPg, State.fld_of_csr hc]; exact h
  efuseOff n h := by rw [State.efuseOn, State.fld_of_csr hc]; exact h
  doms d _ := by rw [State.domOn, State.fld_of_csr hc]; rfl
  efuses n _ := by rw [State.efuseOn, State.fld_of_csr hc]; rfl

theorem target {f : Target → Target} (hf : ∀ y, (f y).orders = y.orders) : (Act.target x f).Within (Drove x) := fun s => by
  refine of_csr rfl rfl rfl (fun _ => rfl) (fun _ => rfl) (fun y => ?_) fun y hy => ?_
  · by_cases hy : y = x
    · rw [hy, State.target_same, hf]
    · rw [State.target, Act.target]
      exact congrArg Target.orders (Vector.getElem_set_ne x.isLt _ fun h => hy (Fin.ext h.symm))
  · exact Vector.getElem_set_ne x.isLt _ fun h => hy (Fin.ext h.symm)

theorem seqx {f : Seq → Seq} (hf : x ≠ 8 → ∀ q, (f q).inputGood = q.inputGood) : (Act.seqx f).Within (Drove x) := fun s =>
  of_csr rfl rfl rfl (fun _ => rfl) (fun hx => hf hx s.seq) (fun _ => rfl) fun _ _ => rfl

theorem dom {d : Fin 48} {f : Dom → Dom} : (Act.dom d f).Within (Drove x) := fun _ =>
  of_csr rfl rfl rfl (fun _ => rfl) (fun _ => rfl) (fun _ => rfl) fun _ _ => rfl

theorem link {n : Fin 8} {f : Link → Link} : (Act.link n f).Within (Drove x) := fun _ =>
  of_csr rfl rfl rfl (fun _ => rfl) (fun _ => rfl) (fun _ => rfl) fun _ _ => rfl

theorem ramp {n : Fin 8} {f : Ramp → Ramp} : (Act.ramp n f).Within (Drove x) := fun _ =>
  of_csr rfl rfl rfl (fun _ => rfl) (fun _ => rfl) (fun _ => rfl) fun _ _ => rfl

theorem slotPins {n : Fin 8} {f : SlotPins → SlotPins} : (Act.slotPins n f).Within (Drove x) := fun _ =>
  of_csr rfl rfl rfl (fun _ => rfl) (fun _ => rfl) (fun _ => rfl) fun _ _ => rfl

theorem invx {f : Inv → Inv} : (Act.invx f).Within (Drove x) := fun _ =>
  of_csr rfl rfl rfl (fun _ => rfl) (fun _ => rfl) (fun _ => rfl) fun _ _ => rfl

theorem putCore {k : Fin 13} {f : Core → Core} {hf} (hg : ∀ c, (f c).gpr = c.gpr) : (Act.putCore k f hf).Within (Drove x) :=
  fun s => of_csr rfl rfl rfl (fun j => by
    rw [State.core_putCore]
    split
    · next h => rw [hg, h]
    · rfl) (fun _ => rfl) (fun _ => rfl) fun _ _ => rfl

/-! ## Fields -/

theorem enableFlds_apart : ∀ x : Fin 9, ∀ f ∈ targetFlds x, ∀ g ∈ F.SEQ_STATUS.gate_req :: enableFlds,
    f.hi < 32 ∧ f.lo ≤ f.hi ∧ f.apart g = true := by
  decide +kernel

theorem domFld_mem (d : Fin 48) : F.SEQ_DOM_EN.en (d / 32) ∈ enableFlds ∧ F.SEQ_DOM_PG.pg (d / 32) ∈ enableFlds := by
  revert d
  decide

/-- A field that is no enable and no power-good. -/
theorem setF {f : Fd} {v : Nat} (hf : f ∈ targetFlds x) : (Act.setF f v).Within (Drove x) := fun s => by
  have hkept (g : Fd) (hg : g ∈ F.SEQ_STATUS.gate_req :: enableFlds) : ((Act.setF f v).run s).fld g = s.fld g :=
    let ⟨h, hl, ha⟩ := enableFlds_apart x f hf g hg
    State.fld_setF_other s f g v h hl ha
  obtain ⟨h, hl, -⟩ := enableFlds_apart x f hf _ (List.mem_cons_self ..)
  have hgate : ((Act.setF f v).run s).gateOn = s.gateOn := State.flag_of_fld (hkept _ (by simp))
  have hdom (d : Fin 48) : ((Act.setF f v).run s).domOn d = s.domOn d := by
    rw [State.domOn, hkept _ (List.mem_cons_of_mem _ (domFld_mem d).1), State.domOn]
  have hpg (d : Fin 48) : ((Act.setF f v).run s).domPg d = s.domPg d := by
    rw [State.domPg, hkept _ (List.mem_cons_of_mem _ (domFld_mem d).2), State.domPg]
  have hefuse (n : Fin 8) : ((Act.setF f v).run s).efuseOn n = s.efuseOn n := by
    rw [State.efuseOn, hkept _ (by simp [enableFlds]), State.efuseOn]
  exact {
    beside := rfl, grps := rfl, gprs := fun _ => rfl, input := fun _ => rfl, orders := fun _ => rfl, others := fun _ _ => rfl
    flds := FldsKept.setF (List.mem_append_right _ hf) h hl s
    gateOff := fun hs => hgate.trans hs
    domOff := fun d hs => (hdom d).trans hs
    pgOff := fun d hs => (hpg d).trans hs
    efuseOff := fun n hs => (hefuse n).trans hs
    doms := fun d _ => hdom d
    efuses := fun n _ => hefuse n }

/-- The gate request goes off. -/
theorem gateReq : (Act.setB F.SEQ_STATUS.gate_req false).Within (Drove 8) := fun s => by
  have hkept (g : Fd) (hg : g ∈ enableFlds) : ((Act.setB F.SEQ_STATUS.gate_req false).run s).fld g = s.fld g :=
    State.fld_setF_other s _ g _ (by decide) (by decide) (by revert g; decide)
  have hdom (d : Fin 48) : ((Act.setB F.SEQ_STATUS.gate_req false).run s).domOn d = s.domOn d := by
    rw [State.domOn, hkept _ (domFld_mem d).1, State.domOn]
  have hpg (d : Fin 48) : ((Act.setB F.SEQ_STATUS.gate_req false).run s).domPg d = s.domPg d := by
    rw [State.domPg, hkept _ (domFld_mem d).2, State.domPg]
  have hefuse (n : Fin 8) : ((Act.setB F.SEQ_STATUS.gate_req false).run s).efuseOn n = s.efuseOn n := by
    rw [State.efuseOn, hkept _ (by simp [enableFlds]), State.efuseOn]
  exact {
    beside := rfl, grps := rfl, gprs := fun _ => rfl, input := fun _ => rfl, orders := fun _ => rfl, others := fun _ _ => rfl
    flds := FldsKept.setF (by decide) (by decide) (by decide) s
    gateOff := fun _ => State.flag_setB_same _ _ _ (by decide) (by decide)
    domOff := fun d hs => (hdom d).trans hs
    pgOff := fun d hs => (hpg d).trans hs
    efuseOff := fun n hs => (hefuse n).trans hs
    doms := fun d _ => hdom d
    efuses := fun n _ => hefuse n }

theorem enableFlds_pairwise : ∀ f ∈ enableFlds, f.hi < 32 ∧ f.lo ≤ f.hi ∧ f.apart F.SEQ_STATUS.gate_req = true ∧
    ∀ g ∈ enableFlds, g = f ∨ f.apart g = true := by
  decide

/-- A bit of an enable of the target itself, or of a power-good, goes off. -/
theorem clearBit {f : Fd} {i : Nat} (hf : f ∈ enableFlds)
    (hd : ∀ d : Fin 48, s.domOwner d ≠ x → F.SEQ_DOM_EN.en (d / 32) = f → d % 32 ≠ i)
    (hn : ∀ n : Fin 8, n.val ≠ x → F.SEQ_EFUSE_STATUS.en = f → n.val ≠ i) : Drove x s ((Act.setFBit f i false).run s) := by
  obtain ⟨h, hl, hgate, hpair⟩ := enableFlds_pairwise f hf
  exact {
    beside := rfl, grps := rfl, gprs := fun _ => rfl, input := fun _ => rfl, orders := fun _ => rfl, others := fun _ _ => rfl
    flds := FldsKept.setFBit (by simp [drivenFlds, hf]) h hl s
    gateOff := fun hs => (State.flag_of_fld (State.fld_setF_other _ _ _ _ h hl hgate)).trans hs
    domOff := fun d => s.bit_clear_of_false h hl (hpair _ (domFld_mem d).1)
    pgOff := fun d => s.bit_clear_of_false h hl (hpair _ (domFld_mem d).2)
    efuseOff := fun n => s.bit_clear_of_false h hl (hpair _ (by simp [enableFlds]))
    doms := fun d ho => s.bit_clear_other h hl (hpair _ (domFld_mem d).1) (hd d ho)
    efuses := fun n hx => s.bit_clear_other h hl (hpair _ (by simp [enableFlds])) (hn n hx) }

theorem enableFld_ne : ∀ d : Fin 48, F.SEQ_EFUSE_STATUS.en ≠ F.SEQ_DOM_EN.en (d / 32) ∧
    F.SEQ_EFUSE_STATUS.en ≠ F.SEQ_DOM_PG.pg (d / 32) ∧ F.SEQ_DOM_EN.en (d / 32) ≠ F.SEQ_EFUSE_STATUS.pg ∧
    F.SEQ_DOM_EN.en (d / 32) ≠ F.SEQ_EFUSE_STATUS.en := by
  decide

theorem domFld_ne : ∀ e d : Fin 48, F.SEQ_DOM_EN.en (e / 32) ≠ F.SEQ_DOM_PG.pg (d / 32) := by decide +kernel

theorem domBit_ne : ∀ e d : Fin 48, e ≠ d → F.SEQ_DOM_EN.en (e / 32) = F.SEQ_DOM_EN.en (d / 32) → e.val % 32 ≠ d % 32 := by
  decide +kernel

theorem domPgOff {d : Fin 48} : (Act.setFBit (F.SEQ_DOM_PG.pg (d / 32)) (d % 32) false).Within (Drove x) := fun _ =>
  clearBit (domFld_mem d).2 (fun e _ he => absurd he (domFld_ne e d)) fun _ _ he => absurd he (enableFld_ne d).2.1

theorem efusePgOff {n : Fin 8} : (Act.setFBit F.SEQ_EFUSE_STATUS.pg n false).Within (Drove x) := fun _ =>
  clearBit (by simp [enableFlds]) (fun d _ he => absurd he (enableFld_ne d).2.2.1) fun _ _ he => absurd he (by decide)

theorem domEnOff {d : Fin 48} (hd : s.domOwner d = x) :
    Drove x s ((Act.setFBit (F.SEQ_DOM_EN.en (d / 32)) (d % 32) false).run s) :=
  clearBit (domFld_mem d).1 (fun e ho he => domBit_ne e d (fun h => ho (h ▸ hd)) he) fun _ _ he => absurd he (enableFld_ne d).1

theorem efuseEnOff {n : Fin 8} (hn : n.val = x) : (Act.setFBit F.SEQ_EFUSE_STATUS.en n false).Within (Drove x) := fun _ =>
  clearBit (by simp [enableFlds]) (fun d _ he => absurd he (enableFld_ne d).2.2.2) fun _ hm _ h => hm (h.trans hn)

/-! ## Enables -/

theorem domOff_run {d : Fin 48} (hd : s.domOwner d = x) : Drove x s ((Act.domOff d).run s) := by
  rw [Act.domOff, Act.run_get, Act.run_ite]
  split
  · rw [Act.run_seq_cons, Act.run_seq_cons, Act.run_seq_cons, Act.run_seq_nil]
    exact frame.trans (frame.trans (domEnOff hd) (domPgOff _)) (dom _)
  · exact frame.refl s

/-- The target's own domains go off one after another. -/
theorem ownedOff (h : Drove x s t) : Drove x s ((Act.each (s.ownedDomains x) Act.domOff).run t) := by
  refine Act.each_induct (Drove x s) _ _ t (fun d hd v hv => ?_) h
  have ho : s.domOwner d = x := by simpa [State.ownedDomains] using hd
  exact frame.trans hv (domOff_run (by rw [hv.domOwner, ho]))

theorem slotFld {n : Fin 8} (hn : n.val = x) : ∀ f ∈ [F.SLT_STAT.rst n, F.SLT_STAT.busy n, F.SLT_STAT.pg n, F.CMA_STATUS.state n,
    F.CMA_STATUS.lane_fail n], f ∈ targetFlds x := by
  have h8 : x ≠ 8 := fun h => by have := congrArg Fin.val h; omega
  rw [targetFlds, if_neg h8, hn]
  exact fun f hf => List.mem_cons_of_mem _ hf

theorem efuseOff_own {n : Fin 8} (hn : n.val = x) : (Act.efuseOff n).Within (Drove x) := by
  have hcount : (Act.invCount n).Within (Drove x) := .get fun s => by
    split
    · exact frame.skip
    · exact invx
  exact frame.cons (efuseEnOff hn) <| frame.cons efusePgOff <| frame.cons (setF (slotFld hn _ (by simp))) <|
    frame.cons hcount <| frame.cons invx frame.skip

theorem lapsedEnd : Act.lapsedEnd.Within (Drove 8) := by
  have hduty (n : Fin 8) : ∀ f ∈ [F.BUF_RAMP_STAT.duty n, F.BUF_RAMP_STAT.active n], f ∈ targetFlds 8 := by
    revert n
    decide
  exact frame.each fun n _ => .get fun s => .ite (fun _ => frame.cons ramp <|
    frame.cons (setF (hduty n _ (by simp))) <| frame.cons (setF (hduty n _ (by simp))) frame.skip) fun _ => frame.skip

theorem gateOff_own : Act.gateOff.Within (Drove 8) :=
  frame.cons gateReq <| frame.cons (seqx fun h => absurd rfl h) <| frame.cons lapsedEnd frame.skip

/-! ## Clauses and down-paths -/

theorem endRun : (Act.endRun x).Within (Drove x) := by
  refine frame.andThen (target fun _ => rfl) ?_
  split
  · next h => exact setF (slotFld (n := ⟨x, h⟩) rfl _ (by simp))
  · exact frame.skip

theorem leaveP {k : Fin 13} : (Act.leaveP k).Within (Drove x) :=
  .get fun _ => .ite (fun _ => frame.cons (putCore fun _ => rfl) <| frame.cons (putCore fun _ => rfl) <|
    frame.cons (putCore fun _ => rfl) frame.skip) fun _ => frame.skip

theorem stopClause : (Act.stopClause x).Within (Drove x) := .get fun s => by
  split
  · exact frame.andThen endRun leaveP
  · exact frame.skip

theorem due {d : Due} : (Act.due x d).Within (Drove x) :=
  .get fun _ => .ite (fun _ => target fun _ => rfl) fun _ => frame.andThen (target fun _ => rfl) (seqx fun _ _ => rfl)

theorem bindState {v : Nat} : (Act.bindState x v).Within (Drove x) := setF (List.mem_cons_self ..)

theorem linkDown {n : Fin 8} (hn : n.val = x) : (Act.linkDown n).Within (Drove x) :=
  frame.andThen (setF (slotFld hn _ (by simp))) link

theorem linkTrain {n : Fin 8} (hn : n.val = x) : (Act.linkTrain n).Within (Drove x) :=
  frame.cons (setF (slotFld hn _ (by simp))) <| frame.cons (setF (slotFld hn _ (by simp))) <| frame.cons link frame.skip

theorem rstDrive {n : Fin 8} {low : Bool} (hn : n.val = x) : (Act.rstDrive n low).Within (Drove x) :=
  frame.andThen slotPins <| .get fun _ => frame.andThen (setF (slotFld hn _ (by simp))) <|
    .ite (fun _ => linkDown hn) fun _ => .ite (fun _ => linkTrain hn) fun _ => frame.skip

theorem pmicOffNow {m : Nat} : (Act.pmicOffNow m).Within (Drove x) := seqx fun _ _ => rfl

theorem slotDownPath {n : Fin 8} (hn : n.val = x) : (Act.slotDownPath n).Within (Drove x) := fun s => by
  rw [Act.slotDownPath, Act.run_get, Act.run_seq_cons, Act.run_seq_cons, Act.run_seq_cons, Act.run_seq_cons, Act.run_seq_nil, hn]
  have hstart : Drove x s ((Act.each [2, 1, 0] fun m => Act.pmicOffNow (3 * x + m)).run ((Act.rstDrive n true).run s)) :=
    frame.trans (rstDrive hn s) (frame.each (fun m _ => pmicOffNow (m := 3 * x + m)) _)
  exact frame.trans (ownedOff hstart) (frame.when (fun _ => efuseOff_own hn) _)

theorem trayDownPath : Act.trayDownPath.Within (Drove 8) := fun s => by
  have howned : Drove 8 s ((Act.each (s.ownedDomains 8) Act.domOff).run s) := ownedOff (x := 8) (frame.refl s)
  rw [Act.trayDownPath, Act.run_get, Act.run_andThen]
  exact frame.trans howned (gateOff_own _)

theorem downPath : (Act.downPath x).Within (Drove x) := by
  rw [Act.downPath]
  split
  · exact slotDownPath rfl
  · next h =>
    have hx : x = 8 := Fin.ext (by have := x.isLt; omega)
    rw [hx]
    exact trayDownPath

theorem targetFault : (Act.targetFault x).Within (Drove x) :=
  frame.cons stopClause <| frame.cons (target fun _ => rfl) <| frame.cons downPath <| frame.cons bindState frame.skip

theorem targetFails : (Act.targetFails x).Within (Drove x) :=
  .get fun _ => .ite (fun _ => frame.cons stopClause <| frame.cons (target fun _ => rfl) <| frame.cons due <|
    frame.cons bindState frame.skip) fun _ => targetFault

theorem startDown : (Act.startDown x).Within (Drove x) :=
  .get fun _ => .ite (fun _ => due) fun _ => frame.cons due <| frame.cons downPath <| frame.cons bindState frame.skip

/-- Bringing one target to its orders drives that target. -/
theorem settleOne : (Act.settleOne x).Within (Drove x) := by
  refine .get fun s => .ite (fun _ => frame.andThen stopClause startDown) fun _ => .ite (fun _ => .ite (fun _ => ?_) fun _ =>
    frame.skip) fun _ => ?_
  · exact frame.cons (target fun _ => rfl) <| frame.cons due <| frame.cons (frame.when fun _ => bindState) frame.skip
  · dsimp only
    split
    · exact .ite (fun _ => .ite (fun _ => target fun _ => rfl) fun _ => frame.andThen stopClause startDown) fun _ => frame.skip
    · refine .ite (fun _ => .ite (fun _ => startDown) fun _ => due) fun _ => .ite (fun _ => startDown) fun _ => .ite (fun h => ?_)
        fun _ => .ite (fun _ => downPath) fun _ => frame.skip
      simp only [Bool.and_eq_true, decide_eq_true_eq] at h
      obtain ⟨⟨⟨⟨hx, -⟩, -⟩, -⟩, -⟩ := h
      rw [hx]
      exact gateOff_own

end Drove
end Sys2Proof.Machine
end

section
/-!
SUPPORT. What the change of the emergency duties and overrides around an action leaves, and what settling every target leaves
(R73, R75, R104, R105, R282).
-/
namespace Sys2Proof.Machine

variable {s t u : State}

/-! ## Lines of cores -/

theorem LinesRaised.csr (h : LinesRaised s u) : u.csr = s.csr := by
  obtain ⟨⟨_, rfl⟩, -⟩ := h
  rfl

theorem LinesRaised.perLine : Act.perLine.Within LinesRaised :=
  frame.each (l := [0, 1]) (f := fun k => Act.raiseLine k 5) fun _ _ => raiseLine

/-! ## Emergency duties and overrides -/

/-- The outputs that are loaded where an override ends. -/
def forcedFlds : List Fd := forcedChannels.map F.QUA_OUT.out

/-- From s to u outputs of the Qualifier were loaded, an event was recorded and the groups were told. -/
structure Forced (s u : State) : Prop where
  rest : ∃ csr frac evr grps, u = { s with csr := csr, quaFrac := frac, evr := evr, grps := grps }
  grps : GrpsKept s u
  flds : FldsKept forcedFlds s u

theorem lookup_map_snd {α : Type} (f : α → α) (l : List (Nat × α)) (i : Nat) :
    (l.map fun p => (p.1, f p.2)).lookup i = (l.lookup i).map f := by
  induction l with
  | nil => rfl
  | cons p l ih => cases h : i == p.1 <;> simp [List.lookup, h, ih]

/-- A group as it is once told of an emergency duty. -/
def Grp.noted (x : Grp) : Grp := { x with selfEmerg := true }

namespace Forced

theorem frame : FrameRel Forced where
  refl s := ⟨⟨s.csr, s.quaFrac, s.evr, s.grps, rfl⟩, fun _ => rfl, fun _ _ => rfl⟩
  trans := by
    rintro s _ _ ⟨⟨_, _, _, _, rfl⟩, hg, hf⟩ ⟨⟨_, _, _, _, rfl⟩, hg', hf'⟩
    exact ⟨⟨_, _, _, _, rfl⟩, fun i => (hg' i).trans (hg i), FldsKept.frame.trans hf hf'⟩

theorem quaLoad {c v : Nat} (hc : c ∈ forcedChannels) : (Act.quaLoad c v).Within Forced := fun s =>
  ⟨⟨_, _, s.evr, s.grps, rfl⟩, fun _ => rfl, FldsKept.setF (List.mem_map_of_mem hc) (by simp) (by simp) s⟩

theorem emitBy {hw : Bool} {src code sev : Nat} {p : List Nat} : (Act.emitBy hw src code sev p).Within Forced := fun s =>
  ⟨⟨s.csr, s.quaFrac, _, s.grps, rfl⟩, fun _ => rfl, fun _ _ => rfl⟩

theorem noteEmergency : Act.noteEmergency.Within Forced := fun s => by
  refine ⟨⟨s.csr, s.quaFrac, s.evr, _, rfl⟩, fun i => ?_, fun _ _ => rfl⟩
  show ((s.grps.map fun p => (p.1, p.2.noted)).lookup i).map _ = (s.grps.lookup i).map _
  rw [lookup_map_snd, Option.map_map]
  rfl

/-- What running an action with its effect on the duties adds to the action. -/
theorem withForce (cause : Nat) (a : Act) (s : State) : Forced (a.run s) ((Act.withForce cause a).run s) := by
  rw [Act.withForce, Act.run_get, Act.run_andThen]
  refine Act.Within.get (fun _ => ?_) _
  exact frame.cons (frame.each fun c hc => quaLoad (List.mem_filter.mp hc).1) <|
    frame.cons (frame.when fun _ => noteEmergency) <| frame.cons (frame.when fun _ => emitBy) frame.skip

theorem withFeeds (a : Act) (s : State) : Forced (a.run s) ((Act.withFeeds a).run s) := withForce s.paceSource a s

section
variable (h : Forced s u)
include h

theorem onlyPower : OnlyPower s u := by
  refine onlyPower_iff.mpr ⟨h.grps, ?_⟩
  obtain ⟨_, _, _, _, rfl⟩ := h.rest
  rfl

theorem targets : u.targets = s.targets := by
  obtain ⟨_, _, _, _, rfl⟩ := h.rest
  rfl

theorem target (x : Fin 9) : u.target x = s.target x := by rw [State.target, h.targets, State.target]

theorem cores : u.cores = s.cores := by
  obtain ⟨_, _, _, _, rfl⟩ := h.rest
  rfl

theorem core (k : Fin 13) : u.core k = s.core k := by rw [State.core, h.cores, State.core]

theorem seq : u.seq = s.seq := by
  obtain ⟨_, _, _, _, rfl⟩ := h.rest
  rfl

theorem doms : u.doms = s.doms := by
  obtain ⟨_, _, _, _, rfl⟩ := h.rest
  rfl

/-- A register below the outputs of the Qualifier. -/
theorem fld_off {f : Fd} (hf : f.off < R.QUA_OUT 0) : u.fld f = s.fld f :=
  h.flds.fld fun g hg => Fd.apart_of_off fun he => by
    obtain ⟨c, -, rfl⟩ := List.mem_map.mp hg
    simp only [R.QUA_OUT] at hf he
    omega

theorem flag_off {f : Fd} (hf : f.off < R.QUA_OUT 0) : u.flag f = s.flag f := State.flag_of_fld (h.fld_off hf)

end

end Forced

/-! ## Settling -/

/-- The fields that settling may write. -/
def settledFlds : List Fd := (List.finRange 9).flatMap drivenFlds ++ forcedFlds

/-- From s to u targets were driven to where the standing orders have them, the orders being kept. -/
structure Settled (s u : State) : Prop where
  only : OnlyPower s u
  orders : ∀ x, (u.target x).orders = (s.target x).orders
  flds : FldsKept settledFlds s u

theorem Settled.frame : FrameRel Settled where
  refl s := ⟨OnlyPower.frame.refl s, fun _ => rfl, fun _ _ => rfl⟩
  trans h g := ⟨OnlyPower.frame.trans h.only g.only, fun x => (g.orders x).trans (h.orders x), FldsKept.frame.trans h.flds g.flds⟩

theorem Drove.settled {x : Fin 9} (h : Drove x s u) : Settled s u :=
  ⟨h.onlyPower, h.orders, h.flds.mono fun _ hg =>
    List.mem_append_left _ (List.mem_flatMap.mpr ⟨x, List.mem_finRange x, hg⟩)⟩

theorem Forced.settled (h : Forced s u) : Settled s u :=
  ⟨h.onlyPower, fun x => congrArg Target.orders (h.target x), h.flds.mono fun _ hg => List.mem_append_right _ hg⟩

theorem Settled.settle : Act.settle.Within Settled := fun s => by
  have hone : (Act.each (List.finRange 9) Act.settleOne).Within Settled := Settled.frame.each fun x _ s => (Drove.settleOne (x := x) s).settled
  exact Settled.frame.trans (Settled.frame.andThen hone hone s) (Forced.withFeeds _ s).settled

/-- What settling keeps, one target after another. -/
theorem Act.settle_induct {q : State → Prop} (hforce : ∀ s u, Forced s u → q s → q u)
    (hone : ∀ x s, q s → q ((Act.settleOne x).run s)) (hs : q s) : q (Act.settle.run s) := by
  refine hforce _ _ (Forced.withFeeds _ s) ?_
  rw [Act.run_andThen]
  exact Act.each_induct q _ _ _ (fun x _ => hone x) (Act.each_induct q _ _ _ (fun x _ => hone x) hs)

end Sys2Proof.Machine
end

section
/-!
SUPPORT. POWER_ORDER: what an order changes of the standing orders, and that what follows it leaves them (R74 to R78).
-/
namespace Sys2Proof.Machine

variable {s t u : State} {g : Fin 9} {m : Fin 16} {src st capW : Nat}

/-! ## The orders of a target -/

theorem Target.st_of_orders {x y : Target} (h : y.orders = x.orders) (src : Nat) : y.st src = x.st src := by
  simp only [Target.orders, Prod.mk.injEq] at h
  obtain ⟨hM, hH, -⟩ := h
  rw [Target.st, Target.st, hM, hH]

theorem Target.cap_of_orders {x y : Target} (h : y.orders = x.orders) (src : Nat) : y.cap src = x.cap src := by
  simp only [Target.orders, Prod.mk.injEq] at h
  obtain ⟨-, -, hM, hH, hnM, hnH⟩ := h
  rw [Target.cap, Target.cap, hM, hH, hnM, hnH]

/-- The effective state of a target of which the order of one source and that of the other are known. -/
theorem State.effOn_iff (h : src = 1 ∨ src = 2) : s.effOn g = true ↔ (s.target g).st src ≠ 2 ∧ (s.target g).st (otherSource src) ≠ 2 ∧
    ((s.target g).st src = 1 ∨ (s.target g).st (otherSource src) = 1 ∨ s.flag F.SEQ_CTL.auto_on = true) := by
  rcases h with rfl | rfl
  · simp [State.effOn, otherSource, Target.st, or_assoc, and_assoc]
  · simp [State.effOn, otherSource, Target.st]
    tauto

theorem State.effOn_congr (h : (t.target g).orders = (s.target g).orders) (ha : t.flag F.SEQ_CTL.auto_on = s.flag F.SEQ_CTL.auto_on) :
    t.effOn g = s.effOn g := by
  rw [Bool.eq_iff_iff, State.effOn_iff (.inl rfl), State.effOn_iff (.inl rfl), Target.st_of_orders h, Target.st_of_orders h, ha]

/-! ## One source's order and cap replaced -/

section
variable (x : Target) {a b : Nat} (v : Nat) (c : Option Nat)

theorem otherSource_ne (h : a = 1 ∨ a = 2) : (otherSource a = 1 ∨ otherSource a = 2) ∧ otherSource (otherSource a) = a := by
  rcases h with rfl | rfl <;> decide

@[simp] theorem Target.st_setSt_same : (x.setSt a v).st a = v := by
  rw [Target.setSt, Target.st]
  split <;> rfl

theorem Target.st_setSt_other : (x.setSt a v).st (otherSource a) = x.st (otherSource a) := by
  by_cases h : a = 1 <;> simp [Target.setSt, Target.st, otherSource, h]

@[simp] theorem Target.cap_setSt : (x.setSt a v).cap b = x.cap b := by
  rw [Target.setSt]
  split <;> rfl

@[simp] theorem Target.st_setCap : (x.setCap a c).st b = x.st b := by
  rw [Target.setCap]
  split <;> rfl

@[simp] theorem Target.cap_setCap_same : (x.setCap a c).cap a = c := by
  rw [Target.setCap, Target.cap]
  split <;> rfl

theorem Target.cap_setCap_other : (x.setCap a c).cap (otherSource a) = x.cap (otherSource a) := by
  by_cases h : a = 1 <;> simp [Target.setCap, Target.cap, otherSource, h]

/-- The caps that are in force. -/
def Target.inForce (x : Target) : Option Nat × Option Nat := (x.capM, x.capH)

@[simp] theorem Target.inForce_setSt : (x.setSt a v).inForce = x.inForce := by
  rw [Target.setSt]
  split <;> rfl

@[simp] theorem Target.inForce_setCap : (x.setCap a c).inForce = x.inForce := by
  rw [Target.setCap]
  split <;> rfl

end

theorem Target.inForce_of_orders {x y : Target} (h : y.orders = x.orders) : y.inForce = x.inForce := by
  simp only [Target.orders, Prod.mk.injEq] at h
  obtain ⟨-, -, hM, hH, -⟩ := h
  rw [Target.inForce, Target.inForce, hM, hH]

/-- What stands after a source's own order. -/
theorem Target.order_stands (x : Target) (src st capW : Nat) : let y := x.order src st capW
    y.st src = (if st = 3 then x.st src else st) ∧ y.st (otherSource src) = x.st (otherSource src) ∧
    y.cap src = (if capW = 0 then x.cap src else if capW = 65535 then none else some capW) ∧
    y.cap (otherSource src) = x.cap (otherSource src) ∧ y.inForce = x.inForce := by
  intro y
  by_cases hst : st = 3 <;> by_cases hcap : capW = 0 <;>
    simp [y, Target.order, hst, hcap, Target.st_setSt_other, Target.cap_setCap_other]

/-- The target after the other source's order was cleared, or not. -/
theorem Target.clearedSt_stands (w : Target) (hsrc : src = 1 ∨ src = 2) (p : Prop) [Decidable p] :
    let o := otherSource src
    let z := if p then w.setSt o 0 else w
    z.st src = w.st src ∧ z.st o = (if p then 0 else w.st o) ∧ (∀ b, z.cap b = w.cap b) ∧ z.inForce = w.inForce := by
  intro o z
  have hsame := w.st_setSt_other (a := o) 0
  rw [(otherSource_ne hsrc).2] at hsame
  by_cases hp : p <;> simp [z, hp, hsame]

/-- The target after the other source's cap was cleared, or not. -/
theorem Target.clearedCap_stands (w : Target) (hsrc : src = 1 ∨ src = 2) (p : Prop) [Decidable p] :
    let o := otherSource src
    let z := if p then w.setCap o none else w
    (∀ b, z.st b = w.st b) ∧ z.cap src = w.cap src ∧ z.cap o = (if p then none else w.cap o) ∧ z.inForce = w.inForce := by
  intro o z
  have hsame := w.cap_setCap_other (a := o) none
  rw [(otherSource_ne hsrc).2] at hsame
  by_cases hp : p <;> simp [z, hp, hsame]

/-- The target after an order of a source and after what precedence clears of the other's (R74, R76, R78). -/
def Target.ordered (x : Target) (auth : Bool) (src st capW : Nat) : Target :=
  let c := x.cleared auth src st capW
  let o := otherSource src
  let y := x.order src st capW
  let z := if c.1 then y.setSt o 0 else y
  if c.2 then z.setCap o none else z

/-- What stands after an order: the source's own order and cap, the other's, and the caps in force. -/
theorem Target.ordered_stands (x : Target) (auth : Bool) (hsrc : src = 1 ∨ src = 2) (st capW : Nat) :
    let y := x.ordered auth src st capW
    let o := otherSource src
    y.st src = (if st = 3 then x.st src else st) ∧
    y.cap src = (if capW = 0 then x.cap src else if capW = 65535 then none else some capW) ∧
    y.st o = (if auth = true ∧ st = 1 ∧ x.st o = 2 then 0 else x.st o) ∧
    y.cap o = (if auth = true ∧ capW ≠ 0 ∧ capW ≠ 65535 then none else x.cap o) ∧
    y.inForce = x.inForce := by
  intro y o
  obtain ⟨hst, hsto, hcap, hcapo, hforce⟩ := x.order_stands src st capW
  obtain ⟨hst1, hsto1, hcap1, hforce1⟩ := (x.order src st capW).clearedSt_stands hsrc ((x.cleared auth src st capW).1 = true)
  set z := if (x.cleared auth src st capW).1 = true then (x.order src st capW).setSt o 0 else x.order src st capW
  obtain ⟨hst2, hcap2, hcapo2, hforce2⟩ := z.clearedCap_stands hsrc ((x.cleared auth src st capW).2 = true)
  refine ⟨(hst2 _).trans (hst1.trans hst), hcap2.trans ((hcap1 _).trans hcap), ((hst2 _).trans hsto1).trans ?_, hcapo2.trans ?_,
    hforce2.trans (hforce1.trans hforce)⟩
  · rw [hsto]
    simp [Target.cleared, o, and_assoc]
  · rw [hcap1, hcapo]
    cases hc : x.cap o <;> simp [Target.cleared, o, hc, and_assoc]

/-! ## The order as it is carried out -/

theorem State.target_other {x y : Fin 9} (h : y ≠ x) (f : Target → Target) (s : State) :
    ((Act.target x f).run s).target y = s.target y := Vector.getElem_set_ne x.isLt _ fun e => h (Fin.ext e.symm)

/-- An order of a source for target g: nothing but that target, who is to be told, and the recorder changes. -/
structure Ordering (g : Fin 9) (src : Nat) (s u : State) : Prop where
  rest : ∃ targets seq evr, u = { s with targets := targets, seq := seq, evr := evr }
  others : ∀ j, j ≠ g → u.target j = s.target j
  told : u.toTell src = s.toTell src

namespace Ordering

theorem frame : FrameRel (Ordering g src) where
  refl s := ⟨⟨s.targets, s.seq, s.evr, rfl⟩, fun _ _ => rfl, rfl⟩
  trans := by
    rintro s _ _ ⟨⟨_, _, _, rfl⟩, ho, ht⟩ ⟨⟨_, _, _, rfl⟩, ho', ht'⟩
    exact ⟨⟨_, _, _, rfl⟩, fun j hj => (ho' j hj).trans (ho j hj), ht'.trans ht⟩

theorem target {f : Target → Target} : (Act.target g f).Within (Ordering g src) := fun s =>
  ⟨⟨_, s.seq, s.evr, rfl⟩, fun _ hj => State.target_other hj f s, rfl⟩

theorem emit {source code sev : Nat} {p : List Nat} : (Act.emit source code sev p).Within (Ordering g src) := fun s =>
  ⟨⟨s.targets, s.seq, _, rfl⟩, fun _ _ => rfl, rfl⟩

theorem tell (hsrc : src = 1 ∨ src = 2) : (Act.tell (otherSource src)).Within (Ordering g src) := fun s =>
  ⟨⟨s.targets, _, s.evr, rfl⟩, fun _ _ => rfl, by rcases hsrc with rfl | rfl <;> rfl⟩

theorem precedence (hsrc : src = 1 ∨ src = 2) {c : Bool × Bool} : (Act.precedence g (otherSource src) c).Within (Ordering g src) :=
  frame.cons (frame.when fun _ => frame.cons target <| frame.cons (tell hsrc) <| frame.cons emit frame.skip) <|
    frame.cons (frame.when fun _ => frame.cons target <| frame.cons (tell hsrc) <| frame.cons emit frame.skip) frame.skip

end Ordering

/-- What precedence clears of the other source's order and cap. -/
theorem Act.precedence_target (g : Fin 9) (o : Nat) (c : Bool × Bool) (s : State) :
    ((Act.precedence g o c).run s).target g =
      let z := if c.1 then (s.target g).setSt o 0 else s.target g
      if c.2 then z.setCap o none else z := by
  have htell (u : State) (p : List Nat) : ((Act.emit 0x02 0x0102 2 p).run ((Act.tell o).run u)).target g = u.target g := rfl
  simp only [Act.precedence, Act.run_seq_cons, Act.run_seq_nil, Act.run_when]
  split <;> split <;> simp only [htell, State.target_same]

/-- The state right after an order and what precedence clears of the other source's. -/
def State.orderedBy (s : State) (src : Nat) (g : Fin 9) (st capW : Nat) : State :=
  (Act.precedence g (otherSource src) ((s.target g).cleared (s.fld F.SEQ_PREC.raise_auth = src) src st capW)).run
    ((Act.target g fun x => x.order src st capW).run s)

/-- What follows from an order: records, the lift of a FAULT, the end of the hold after a loss, and settling. -/
def Act.orderFollows (s : State) (src : Nat) (g : Fin 9) (st capW : Nat) : Act :=
  let held := st = 1 && !s.effOn g
  Act.seq [
    Act.emit 0x02 0x0100 1 (s.orderPayload g src st capW),
    Act.when held (Act.emit 0x02 0x0101 2 (s.orderPayload g src st capW)),
    Act.when (st = 1 && s.bindState g = 3) (Act.target g fun x => { x with lift := true }),
    Act.when (st = 1 && g = 8) (Act.rstx fun r => { r with lossHold := false }),
    Act.settle]

theorem Act.powerOrderAs_run (src : Nat) (g : Fin 9) (st capW : Nat) (answer : Bool → State → Act) (s : State) :
    (Act.powerOrderAs src g st capW answer).run s =
      (answer (st = 1 && !(s.orderedBy src g st capW).effOn g) (s.orderedBy src g st capW)).run
        ((Act.orderFollows (s.orderedBy src g st capW) src g st capW).run (s.orderedBy src g st capW)) := by
  rw [Act.powerOrderAs, Act.run_get, Act.run_seq_cons, Act.run_seq_cons, Act.run_seq_cons, Act.run_seq_nil, Act.run_get,
    ← State.orderedBy]
  generalize s.orderedBy src g st capW = u
  simp only [Act.orderFollows, Act.run_seq_cons, Act.run_seq_nil]

theorem State.orderedBy_target (s : State) (src : Nat) (g : Fin 9) (st capW : Nat) :
    (s.orderedBy src g st capW).target g =
      (s.target g).ordered (s.fld F.SEQ_PREC.raise_auth = src) src st capW := by
  rw [State.orderedBy, Act.precedence_target, State.target_same]
  rfl

/-- From s to u what follows from an order has come: standing orders, memory and what stands of auto_on are kept, and the hold
after a loss of the main supply has ended where an ON order was for the tray. -/
structure OrderFollowed (on : Bool) (s u : State) : Prop where
  orders : ∀ x, (u.target x).orders = (s.target x).orders
  mem : u.mem = s.mem
  auto : u.flag F.SEQ_CTL.auto_on = s.flag F.SEQ_CTL.auto_on
  hold : u.rst.lossHold = (s.rst.lossHold && !on)

theorem autoOn_apart : ∀ g ∈ settledFlds, F.SEQ_CTL.auto_on.apart g = true := by decide +kernel

theorem Settled.followed (h : Settled s u) : OrderFollowed false s u where
  orders := h.orders
  mem := by rw [h.only.2]
  auto := h.flds.flag autoOn_apart
  hold := by rw [h.only.2, Bool.not_false, Bool.and_true]

namespace OrderFollowed

theorem refl (s : State) : OrderFollowed false s s := Settled.followed (Settled.frame.refl s)

theorem trans {a b : Bool} (h : OrderFollowed a s t) (h' : OrderFollowed b t u) : OrderFollowed (a || b) s u where
  orders x := (h'.orders x).trans (h.orders x)
  mem := h'.mem.trans h.mem
  auto := h'.auto.trans h.auto
  hold := by rw [h'.hold, h.hold, Bool.not_or, Bool.and_assoc]

theorem emit (source code sev : Nat) (p : List Nat) (s : State) : OrderFollowed false s ((Act.emit source code sev p).run s) :=
  ⟨fun _ => rfl, rfl, rfl, (Bool.and_true _).symm⟩

theorem lift (g : Fin 9) (s : State) : OrderFollowed false s ((Act.target g fun x => { x with lift := true }).run s) where
  orders x := by
    by_cases h : x = g
    · rw [h, State.target_same]
      rfl
    · rw [State.target_other h]
  mem := rfl
  auto := rfl
  hold := (Bool.and_true _).symm

theorem release (s : State) : OrderFollowed true s ((Act.rstx fun r => { r with lossHold := false }).run s) :=
  ⟨fun _ => rfl, rfl, rfl, (Bool.and_false _).symm⟩

theorem of_when {a : Act} {b : Bool} (p : Bool) (h : ∀ s, OrderFollowed b s (a.run s)) (s : State) :
    OrderFollowed (p && b) s ((Act.when p a).run s) := by
  cases p with
  | false => exact refl s
  | true => exact h s

theorem cons {a : Act} {l : List Act} {b c : Bool} (h : ∀ s, OrderFollowed b s (a.run s)) (hl : ∀ s, OrderFollowed c s ((Act.seq l).run s))
    (s : State) : OrderFollowed (b || c) s ((Act.seq (a :: l)).run s) := (h s).trans (hl _)

end OrderFollowed

/-- What follows from an order keeps what `OrderFollowed` says. -/
theorem Act.orderFollows_follows (v : State) (src : Nat) (g : Fin 9) (st capW : Nat) (s : State) :
    OrderFollowed (st = 1 && g = 8) s ((Act.orderFollows v src g st capW).run s) := by
  have hon : (st = 1 && g = 8 : Bool) = (false || ((st = 1 && !v.effOn g) && false ||
      ((st = 1 && v.bindState g = 3) && false || ((st = 1 && g = 8) && true || (false || false))))) := by simp
  rw [hon, Act.orderFollows]
  refine OrderFollowed.cons (fun s => OrderFollowed.emit _ _ _ _ s) ?_ s
  refine OrderFollowed.cons (OrderFollowed.of_when _ fun s => OrderFollowed.emit _ _ _ _ s) ?_
  refine OrderFollowed.cons (OrderFollowed.of_when _ fun s => OrderFollowed.lift g s) ?_
  refine OrderFollowed.cons (OrderFollowed.of_when _ fun s => OrderFollowed.release s) ?_
  exact OrderFollowed.cons (fun s => (Settled.settle s).followed) OrderFollowed.refl

end Sys2Proof.Machine
end

section
/-!
SUPPORT. A served POWER_ORDER: the standing orders and the answer (R74 to R78).
-/
namespace Sys2Proof.Machine

variable {s t u : State} {g : Fin 9} {m : Fin 16} {src st capW : Nat}

theorem targetOf_val (g : Fin 9) : targetOf g = some g := dif_pos g.isLt

/-- Answering a mailbox keeps targets, the reset machinery's own state and what stands of auto_on. -/
theorem Act.respondItems_keeps (m : Fin 16) (cls cmd status : Nat) (items : List Nat) (u : State) :
    let t := (Act.respondItems m cls cmd status items).run u
    t.targets = u.targets ∧ t.rst = u.rst ∧ t.flag F.SEQ_CTL.auto_on = u.flag F.SEQ_CTL.auto_on := by
  have honly := Act.respondWith_only m cls cmd status 0 0 (itemBytes cls cmd items) u
  have hreg := Act.respondWith_reg m cls cmd status 0 0 (itemBytes cls cmd items) u F.SEQ_CTL.auto_on.off (by decide)
  exact ⟨by rw [Act.respondItems, Act.respond, honly], by rw [Act.respondItems, Act.respond, honly], State.flag_of_fld (State.fld_congr hreg)⟩

/-- An answer of values in no stated layout, after a change that memory does not see. -/
theorem Act.respondItems_replied {cls : Nat} (hc : cls ≠ 5) (hu : u.mem = s.mem) (cmd status : Nat) (items : List Nat) :
    Replied s ((Act.respondItems m cls cmd status items).run u) m cls cmd status := by
  refine Act.respond_replied hu cls cmd status ?_
  rw [kindByte, if_neg fun h => hc h.1, List.nil_append]
  exact itemBytes_length_le cls cmd items

/-- Right after an order nothing has changed but its target, who is to be told, and the recorder. -/
theorem State.orderedBy_ordering (s : State) (hsrc : src = 1 ∨ src = 2) : Ordering g src s (s.orderedBy src g st capW) :=
  Ordering.frame.trans (Ordering.target s) (Ordering.precedence hsrc _)

/-- What a power order leaves, answered: the standing orders as ordered, and of no other target another order. -/
theorem Act.powerOrderBody_leaves (hsrc : src = 1 ∨ src = 2) (s : State) :
    let t := (Act.powerOrderBody m src g st capW).run s
    (t.target g).orders = ((s.target g).ordered (s.fld F.SEQ_PREC.raise_auth = src) src st capW).orders ∧
    (∀ j, j ≠ g → (t.target j).orders = (s.target j).orders) ∧
    t.flag F.SEQ_CTL.auto_on = s.flag F.SEQ_CTL.auto_on ∧ t.rst.lossHold = (s.rst.lossHold && !(st = 1 && g = 8)) ∧
    Replied s t m 2 1 (if st = 1 ∧ t.effOn g = false then 1 else if s.toTell src then 2 else 0) := by
  rw [Act.powerOrderBody, Act.powerOrderAs_run]
  obtain ⟨⟨_, _, _, hrest⟩, hother, htold⟩ := s.orderedBy_ordering (g := g) (st := st) (capW := capW) hsrc
  have htarget := s.orderedBy_target src g st capW
  generalize s.orderedBy src g st capW = u at *
  obtain ⟨horders, hmem, hauto, hhold⟩ := Act.orderFollows_follows u src g st capW u
  generalize (Act.orderFollows u src g st capW).run u = w at *
  intro t
  obtain ⟨htargets, hrst, hauto'⟩ := Act.respondItems_keeps m 2 1
    (if (st = 1 && !u.effOn g) = true then 1 else if u.toTell src then 2 else 0) (u.orderShown g) w
  have hkept (x : Fin 9) : (t.target x).orders = (u.target x).orders := by
    rw [State.target, htargets]
    exact horders x
  have hon : t.effOn g = u.effOn g := State.effOn_congr (hkept g) (hauto'.trans hauto)
  have hreplied : Replied s t m 2 1 (if (st = 1 && !u.effOn g) = true then 1 else if u.toTell src then 2 else 0) :=
    Act.respondItems_replied (by decide) (hmem.trans (by rw [hrest])) 1 _ _
  refine ⟨(hkept g).trans (congrArg Target.orders htarget), fun j hj => (hkept j).trans (congrArg Target.orders (hother j hj)),
    hauto'.trans (hauto.trans (by rw [hrest]; rfl)), by rw [hrst, hhold, hrest], ?_⟩
  rw [hon, ← htold]
  simpa using hreplied

theorem Act.powerOrder_served (h : Served s m 2 1 src) (hst : st < 4) :
    (Act.powerOrder m g st capW).run s = (Act.powerOrderBody m src g st (capW % 65536)).run s := by
  rw [Act.powerOrder, Act.command_served h, targetOf_val]
  simp only [if_neg (Nat.not_lt.mpr (Nat.le_of_lt_succ hst))]

end Sys2Proof.Machine
end

section
/-!
O32: the effective state and cap, an OFF of either source, and a forbidden ON that takes effect when the OFF is withdrawn (R75).
-/
namespace Sys2Proof.Machine

variable {s t u : State} {g : Fin 9} {m : Fin 16} {src st capW : Nat}

theorem lowerCap_eq_some {a b : Option Nat} {w : Nat} :
    lowerCap a b = some w ↔ (a = some w ∨ b = some w) ∧ (∀ v, a = some v → w ≤ v) ∧ ∀ v, b = some v → w ≤ v := by
  cases a with
  | none => cases b <;> simp [lowerCap]; omega
  | some a => cases b <;> simp [lowerCap] <;> omega

/-- auto_on is one bit. -/
theorem State.autoOn_true_iff : s.flag F.SEQ_CTL.auto_on = true ↔ s.fld F.SEQ_CTL.auto_on ≠ 0 := by
  have hbit : s.fld F.SEQ_CTL.auto_on < 2 := Nat.mod_lt _ (by decide)
  simp only [State.flag, beq_iff_eq]
  omega

/-- A target is effective OFF exactly where an order is OFF or none is ON and auto_on is 0. -/
theorem State.effOn_false_iff : s.effOn g = false ↔ (s.target g).stM = 2 ∨ (s.target g).stH = 2 ∨
    ((s.target g).stM ≠ 1 ∧ (s.target g).stH ≠ 1 ∧ s.fld F.SEQ_CTL.auto_on = 0) := by
  rw [← Bool.not_eq_true, State.effOn_iff (.inl rfl), State.autoOn_true_iff]
  show ¬((s.target g).stM ≠ 2 ∧ (s.target g).stH ≠ 2 ∧ ((s.target g).stM = 1 ∨ (s.target g).stH = 1 ∨ _)) ↔ _
  tauto

/-- An OFF of one source keeps the target OFF. -/
theorem State.effOn_of_off (hsrc : src = 1 ∨ src = 2) (h : (s.target g).st src = 2) : s.effOn g = false := by
  rw [← Bool.not_eq_true, State.effOn_iff hsrc]
  exact fun hon => hon.1 h

end Sys2Proof.Machine

open Sys2Proof Sys2Proof.Machine

/-- Settles O32, from what a served POWER_ORDER leaves of both sources' orders. -/
theorem reduceOrdersAlwaysWin : Obligations.ReduceOrdersAlwaysWin := by
  unfold Obligations.ReduceOrdersAlwaysWin
  refine fun s g => ⟨State.effOn_false_iff, fun w => lowerCap_eq_some, fun m src cap hsrc hs => ⟨?_, fun hoff hauth => ?_⟩⟩
  · refine ⟨_, rfl, State.effOn_of_off hsrc ?_⟩
    rw [Act.powerOrder_served hs (by decide)]
    obtain ⟨horders, -⟩ := Act.powerOrderBody_leaves (m := m) (g := g) (st := 2) (capW := cap % 65536) hsrc s
    rw [Target.st_of_orders horders]
    exact ((s.target g).ordered_stands _ hsrc 2 _).1
  · obtain ⟨hother, hback⟩ := otherSource_ne hsrc
    refine ⟨_, rfl, ?_⟩
    rw [Act.powerOrder_served hs (by decide)]
    obtain ⟨horders, -, -, -, hreplied⟩ := Act.powerOrderBody_leaves (m := m) (g := g) (st := 1) (capW := cap % 65536) hsrc s
    generalize (Act.powerOrderBody m src g 1 (cap % 65536)).run s = t at *
    obtain ⟨hown, -, hoth, -⟩ := (s.target g).ordered_stands (decide (s.fld F.SEQ_PREC.raise_auth = src)) hsrc 1 (cap % 65536)
    rw [← Target.st_of_orders horders, if_neg (by decide)] at hown
    rw [← Target.st_of_orders horders, if_neg (by simp [hauth]), hoff] at hoth
    have heff : t.effOn g = false := State.effOn_of_off hother hoth
    rw [if_pos ⟨rfl, heff⟩] at hreplied
    refine ⟨heff, hown, hreplied.1, fun n c ht => ⟨_, rfl, ?_⟩⟩
    rw [Act.powerOrder_served ht (by decide)]
    obtain ⟨horders', -⟩ := Act.powerOrderBody_leaves (m := n) (g := g) (st := 0) (capW := c % 65536) hother t
    obtain ⟨hown', -, hoth', -⟩ :=
      (t.target g).ordered_stands (decide (t.fld F.SEQ_PREC.raise_auth = otherSource src)) hother 0 (c % 65536)
    rw [← Target.st_of_orders horders', if_neg (by decide)] at hown'
    rw [← Target.st_of_orders horders', if_neg (by simp), hback, hown] at hoth'
    refine (State.effOn_iff hsrc).mpr ⟨?_, ?_, .inl hoth'⟩
    · rw [hoth']
      decide
    · rw [hown']
      decide

end

section
/-!
SUPPORT. The other commands of class 0x02: what an answer, a cleared fault and a released ABORT line leave (R63, R78, R434).
-/
namespace Sys2Proof.Machine

variable {s t u : State} {g : Fin 9} {m : Fin 16} {n : Fin 8}

/-! ## An answer -/

/-- An answer writes no field but MBX_PENDING. -/
theorem FldsKept.respond {cls cmd status : Nat} {p : List Byte} :
    (Act.respond m cls cmd status p).Within (FldsKept [F.MBX_PENDING.pending]) := by
  have hbytes {a : Nat} {l : List Byte} : (Act.setBytes a l).Within (FldsKept [F.MBX_PENDING.pending]) := fun s =>
    FldsKept.of_csr (by rw [Act.setBytes_only])
  have hpush : (Act.mbxPush m).Within (FldsKept [F.MBX_PENDING.pending]) := fun s => by
    obtain ⟨_, h⟩ := Act.mbxPush_ethOnly m s
    exact FldsKept.of_csr (by rw [h])
  have htell {src : Nat} : (Act.tellDone src).Within (FldsKept [F.MBX_PENDING.pending]) := fun _ => FldsKept.of_csr rfl
  have hdone : (Act.mbxDone m).Within (FldsKept [F.MBX_PENDING.pending]) :=
    FldsKept.setFBit (List.mem_singleton.mpr rfl) (by decide) (by decide)
  exact .get fun _ => FldsKept.frame.cons hbytes <| FldsKept.frame.cons hbytes <| FldsKept.frame.cons hbytes <|
    FldsKept.frame.cons htell <| FldsKept.frame.cons hdone <| FldsKept.frame.cons hpush FldsKept.frame.skip

theorem Act.respond_only (m : Fin 16) (cls cmd status : Nat) (p : List Byte) (s : State) :
    let t := (Act.respond m cls cmd status p).run s
    t = { s with mem := t.mem, csr := t.csr, seq := t.seq, eth := t.eth } := Act.respondWith_only m cls cmd status 0 0 p s

/-! ## The latched fault of a feed -/

/-- From s to u the fault of a feed was cleared: only fields, outputs, records, lines of cores and what groups are told differ. -/
def FeedCleared (s u : State) : Prop :=
  GrpsKept s u ∧ ∃ csr evr frac cores grps, u = { s with csr := csr, evr := evr, quaFrac := frac, cores := cores, grps := grps }

namespace FeedCleared

theorem frame : FrameRel FeedCleared where
  refl s := ⟨fun _ => rfl, s.csr, s.evr, s.quaFrac, s.cores, s.grps, rfl⟩
  trans := by
    rintro s _ _ ⟨hg, _, _, _, _, _, rfl⟩ ⟨hg', _, _, _, _, _, rfl⟩
    exact ⟨fun i => (hg' i).trans (hg i), _, _, _, _, _, rfl⟩

theorem setFBit {f : Fd} {i : Nat} {b : Bool} : (Act.setFBit f i b).Within FeedCleared := fun s =>
  ⟨fun _ => rfl, _, s.evr, s.quaFrac, s.cores, s.grps, rfl⟩

theorem emitHw {source code sev : Nat} {p : List Nat} : (Act.emitHw source code sev p).Within FeedCleared := fun s =>
  ⟨fun _ => rfl, s.csr, _, s.quaFrac, s.cores, s.grps, rfl⟩

theorem of_lines (h : LinesRaised s u) : FeedCleared s u := by
  obtain ⟨⟨_, rfl⟩, -⟩ := h
  exact ⟨fun _ => rfl, s.csr, s.evr, s.quaFrac, _, s.grps, rfl⟩

theorem of_forced (h : Forced s u) : FeedCleared s u := by
  obtain ⟨_, _, _, _, hu⟩ := h.rest
  exact ⟨h.grps, _, _, _, s.cores, _, hu⟩

end FeedCleared

/-- The latched fault of feed n cleared, before what follows of the duties. -/
def Act.efuseUnlatch (n : Nat) : Act :=
  Act.seq [Act.setFBit F.SEQ_EFUSE_STATUS.fault n false, Act.emitHw 0x20 0x0704 1 [8], Act.perLine]

theorem State.csr_emitHw (s : State) (source code sev : Nat) (p : List Nat) :
    ((Act.emitHw source code sev p).run s).csr = s.csr := rfl

theorem Act.efuseUnlatch_clears (n : Nat) (s : State) : FeedCleared s ((Act.efuseUnlatch n).run s) ∧
    ((Act.efuseUnlatch n).run s).fld F.SEQ_EFUSE_STATUS.fault = clrBit (s.fld F.SEQ_EFUSE_STATUS.fault) n := by
  have hcleared : (Act.efuseUnlatch n).Within FeedCleared := FeedCleared.frame.cons .setFBit <| FeedCleared.frame.cons .emitHw <|
    FeedCleared.frame.cons (fun s => .of_lines (.perLine s)) FeedCleared.frame.skip
  refine ⟨hcleared s, ?_⟩
  rw [← s.fld_clear n (by decide) (by decide), Act.efuseUnlatch, Act.run_seq_cons]
  generalize (Act.setFBit F.SEQ_EFUSE_STATUS.fault n false).run s = u
  rw [Act.run_seq_cons, Act.run_seq_cons, Act.run_seq_nil]
  exact State.fld_of_csr ((LinesRaised.perLine _).csr.trans (u.csr_emitHw 0x20 0x0704 1 [8])) _

/-- The latched fault of a feed is cleared unless the feed still reports the fault, and of no other feed. -/
theorem Act.efuseFaultClear_clears (n : Fin 8) (s : State) : let u := (Act.efuseFaultClear n).run s
    FeedCleared s u ∧ bitOf (u.fld F.SEQ_EFUSE_STATUS.fault) n =
      (bitOf (s.fld F.SEQ_EFUSE_STATUS.fault) n && bitOf (s.fld F.SEQ_EFUSE_STATUS.flt) n) ∧
    ∀ j, j ≠ n.val → bitOf (u.fld F.SEQ_EFUSE_STATUS.fault) j = bitOf (s.fld F.SEQ_EFUSE_STATUS.fault) j := by
  rw [Act.efuseFaultClear, Act.run_get, ← Act.efuseUnlatch]
  by_cases hfault : bitOf (s.fld F.SEQ_EFUSE_STATUS.fault) n = true
  · rw [if_neg (by simp [hfault])]
    by_cases hflt : bitOf (s.fld F.SEQ_EFUSE_STATUS.flt) n = true
    · rw [if_pos hflt]
      exact ⟨.emitHw s, (State.fld_of_csr rfl _ ▸ hfault).trans (by rw [hfault, hflt]; rfl), fun _ _ => rfl⟩
    · rw [if_neg hflt]
      obtain ⟨hcleared, hfld⟩ := Act.efuseUnlatch_clears n s
      have hforced := Forced.withForce 8 (Act.efuseUnlatch n) s
      refine ⟨FeedCleared.frame.trans hcleared (.of_forced hforced), ?_, fun j hj => ?_⟩
      · rw [hforced.fld_off (by decide), hfld, bitOf_clrBit]
        simp [hflt]
      · rw [hforced.fld_off (by decide), hfld, bitOf_clrBit_other _ hj]
  · rw [if_pos (by simp [hfault])]
    exact ⟨FeedCleared.frame.refl s, by simp [hfault], fun _ _ => rfl⟩

/-! ## ABORT lines -/

/-- From s to u the ABORT lines of the listed slots were released. -/
structure AbortsReleased (l : List Nat) (s u : State) : Prop where
  noted : Noted [F.RST_ABORT.asserted, F.RST_ABORT.failed] s u
  asserted : ∀ j, bitOf (u.fld F.RST_ABORT.asserted) j = (bitOf (s.fld F.RST_ABORT.asserted) j && !l.contains j)
  failed : ∀ j, bitOf (u.fld F.RST_ABORT.failed) j = (bitOf (s.fld F.RST_ABORT.failed) j && !l.contains j)

theorem bitOf_clrBit_eq (v i j : Nat) : bitOf (clrBit v i) j = (bitOf v j && !decide (j = i)) := by
  by_cases h : j = i
  · simp [h, bitOf_clrBit]
  · simp [h, bitOf_clrBit_other v h]

namespace AbortsReleased

theorem refl (s : State) : AbortsReleased [] s s :=
  ⟨Noted.frame.refl s, fun _ => (Bool.and_true _).symm, fun _ => (Bool.and_true _).symm⟩

/-- The line of one slot is released. -/
theorem release (n : Nat) (s : State) : AbortsReleased [n] s
    (((Act.setFBit F.RST_ABORT.asserted n false).andThen (Act.setFBit F.RST_ABORT.failed n false)).run s) := by
  have hf : (Act.setFBit F.RST_ABORT.failed n false).Within (FldsKept [F.RST_ABORT.failed]) := .setFBit (by simp) (by decide) (by decide)
  have ha : (Act.setFBit F.RST_ABORT.asserted n false).Within (FldsKept [F.RST_ABORT.asserted]) :=
    .setFBit (by simp) (by decide) (by decide)
  refine ⟨Noted.frame.andThen (Noted.setFBit (by simp) (by decide) (by decide)) (Noted.setFBit (by simp) (by decide) (by decide)) s,
    fun j => ?_, fun j => ?_⟩
  · rw [Act.run_andThen, (hf _).fld (by decide), s.fld_clear n (by decide) (by decide), bitOf_clrBit_eq]
    simp
  · rw [Act.run_andThen, State.fld_clear _ n (by decide) (by decide), (ha _).fld (by decide), bitOf_clrBit_eq]
    simp

theorem append {l r : List Nat} (h : AbortsReleased l s t) (h' : AbortsReleased r t u) : AbortsReleased (l ++ r) s u where
  noted := Noted.frame.trans h.noted h'.noted
  asserted j := by rw [h'.asserted, h.asserted, List.contains_append, Bool.not_or, Bool.and_assoc]
  failed j := by rw [h'.failed, h.failed, List.contains_append, Bool.not_or, Bool.and_assoc]

/-- The lines of the listed slots are released, with a record. -/
theorem abortUp (l : List Nat) (s : State) : AbortsReleased l s ((Act.abortUp l).run s) := by
  have heach : ∀ (l : List Nat) (s : State), AbortsReleased l s ((Act.each l fun n =>
      (Act.setFBit F.RST_ABORT.asserted n false).andThen (Act.setFBit F.RST_ABORT.failed n false)).run s) := by
    intro l
    induction l with
    | nil => exact refl
    | cons n l ih => exact fun s => (release n s).append (ih _)
  rw [Act.abortUp, Act.run_andThen, Act.run_when]
  have h := heach l s
  generalize (Act.each l _).run s = u at *
  split
  · exact ⟨Noted.frame.trans h.noted (Noted.emit u), fun j => by rw [State.fld_emit]; exact h.asserted j,
      fun j => by rw [State.fld_emit]; exact h.failed j⟩
  · exact h

end AbortsReleased

/-- The slots whose lines an ABORT_RELEASE releases are those it names that are not FAULT and whose line stands. -/
theorem State.mem_abortReleases (s : State) (mask : Nat) (n : Fin 8) : (n : Nat) ∈ s.abortReleases mask ↔
    ((mask % 256 = 0 ∨ bitOf mask n = true) ∧ s.bindState n ≠ 3) ∧ bitOf (s.fld F.RST_ABORT.asserted) n = true := by
  have hall : ∀ n : Fin 8, bitOf 255 n = true := by decide
  have hnamed : bitOf (if mask % 256 = 0 then 255 else mask) n = true ↔ mask % 256 = 0 ∨ bitOf mask n = true := by
    by_cases hm : mask % 256 = 0 <;> simp [hm, hall n]
  simp only [State.abortReleases, bitsOf, List.mem_filter, List.mem_range, n.isLt, true_and, hnamed, Bool.and_eq_true,
    decide_eq_true_eq, and_assoc]

theorem State.effCap_of_inForce (h : (t.target g).inForce = (s.target g).inForce) : t.effCap g = s.effCap g := by
  rw [Target.inForce, Target.inForce, Prod.mk.injEq] at h
  rw [State.effCap, State.effCap, h.1, h.2]

end Sys2Proof.Machine

open Sys2Proof Sys2Proof.Machine

/-- Settles O33: what each command of class 0x02 leaves, and its answer. -/
theorem powerOrdersAreKeptPerSource : Obligations.PowerOrdersAreKeptPerSource := by
  unfold Obligations.PowerOrdersAreKeptPerSource
  refine fun s m src hsrc => ⟨fun g st cap hst hcap h => ?_, fun g h => ?_, fun g h => ?_, fun h => ?_, fun mask h => ?_⟩
  · refine ⟨_, rfl, ?_⟩
    rw [Act.powerOrder_served h hst, Nat.mod_eq_of_lt hcap]
    obtain ⟨horders, hothers, -, hhold, hreplied⟩ := Act.powerOrderBody_leaves (m := m) (g := g) (st := st) (capW := cap) hsrc s
    obtain ⟨hown, hcapOwn, hoth, hcapOth, hforce⟩ :=
      (s.target g).ordered_stands (decide (s.fld F.SEQ_PREC.raise_auth = src)) hsrc st cap
    rw [← Target.st_of_orders horders] at hoth
    simp only [decide_eq_true_eq] at hoth hcapOth
    rw [← Target.cap_of_orders horders] at hcapOth
    refine ⟨(Target.st_of_orders horders _).trans hown, (Target.cap_of_orders horders _).trans hcapOwn, fun hp => hoth.trans (if_pos hp),
      fun hp => hoth.trans (if_neg hp), fun hp => hcapOth.trans (if_pos hp), fun hp => hcapOth.trans (if_neg hp), fun j hj => ?_,
      fun j => ?_, hhold, hreplied⟩
    · exact ⟨Target.st_of_orders (hothers j hj) 1, Target.st_of_orders (hothers j hj) 2, Target.cap_of_orders (hothers j hj) 1,
        Target.cap_of_orders (hothers j hj) 2⟩
    · refine State.effCap_of_inForce ?_
      by_cases hj : j = g
      · rw [hj, Target.inForce_of_orders horders, hforce]
      · exact Target.inForce_of_orders (hothers j hj)
  · refine ⟨_, rfl, ?_⟩
    rw [Act.query, Act.command_served h, Act.run_get, targetOf_val]
    exact Act.respond_replies m (by decide) 2 0 (itemBytes_length_le 2 2 _) s
  · refine ⟨_, rfl, ?_⟩
    rw [Act.clearFault, Act.command_served h, if_pos g.isLt, Act.run_andThen]
    obtain ⟨⟨hgrps, csr, evr, frac, cores, grps, hu⟩, hbit, hothers⟩ := Act.efuseFaultClear_clears g s
    generalize (Act.efuseFaultClear g).run s = u at *
    have hfault : ((Act.respond m 2 3 0 []).run u).fld F.SEQ_EFUSE_STATUS.fault = u.fld F.SEQ_EFUSE_STATUS.fault :=
      (FldsKept.respond u).fld (by decide)
    have honly := Act.respond_only m 2 3 0 [] u
    refine ⟨by rw [hfault, hbit], fun n hn => by rw [hfault, hothers n (Fin.val_ne_of_ne hn)],
      Act.respond_replied (by rw [hu]) 2 3 0 (by decide), fun i => ?_, ?_⟩
    · rw [← hgrps i, honly]
      rfl
    · rw [honly, hu]
  · refine ⟨_, rfl, ?_⟩
    rw [Act.clearFault, Act.command_served h, if_neg (by decide), if_pos rfl, Act.run_andThen]
    have hflds : FldsKept [F.SEQ_STATUS.gate_fail] s ((Act.setB F.SEQ_STATUS.gate_fail false).run s) :=
      FldsKept.setF (by simp) (by decide) (by decide) s
    have hfail : ((Act.setB F.SEQ_STATUS.gate_fail false).run s).flag F.SEQ_STATUS.gate_fail = false :=
      s.flag_setB_same _ _ (by decide) (by decide)
    obtain ⟨csr, hu⟩ : ∃ csr, (Act.setB F.SEQ_STATUS.gate_fail false).run s = { s with csr := csr } := ⟨_, rfl⟩
    generalize (Act.setB F.SEQ_STATUS.gate_fail false).run s = u at *
    have hrest := FldsKept.respond (m := m) (cls := 2) (cmd := 3) (status := 0) (p := []) u
    refine ⟨(hrest.flag (by decide)).trans hfail, FldsKept.frame.trans (hflds.mono (by simp)) (hrest.mono (by simp)),
      Act.respond_replied (by rw [hu]) 2 3 0 (by decide), ?_⟩
    rw [Act.respond_only m 2 3 0 [] u, hu]
  · refine ⟨_, rfl, ?_⟩
    rw [Act.abortRelease, Act.command_served h, Act.run_get, Act.run_andThen]
    have hlist (n : Fin 8) := s.mem_abortReleases mask n
    obtain ⟨⟨⟨csr, evr, hu⟩, hflds⟩, hasserted, hfailed⟩ := AbortsReleased.abortUp (s.abortReleases mask) s
    generalize (Act.abortUp (s.abortReleases mask)).run s = u at *
    have hrest := FldsKept.respond (m := m) (cls := 2) (cmd := 4) (status := 0) (p := []) u
    refine ⟨fun n => ⟨fun hup => ?_, fun hup => ?_⟩, Act.respond_replied (by rw [hu]) 2 4 0 (by decide),
      FldsKept.frame.trans (hflds.mono (by simp)) (hrest.mono (by simp)), ?_⟩
    · rw [hrest.fld (by decide), hasserted]
      by_cases ha : bitOf (s.fld F.RST_ABORT.asserted) n = true
      · simp [(hlist n).mpr ⟨hup, ha⟩]
      · simp [ha]
    · have hn : (s.abortReleases mask).contains (n : Nat) = false := by
        simpa using fun hmem => hup ((hlist n).mp hmem).1
      rw [hrest.fld (by decide), hrest.fld (by decide), hasserted, hfailed, hn]
      simp
    · rw [Act.respond_only m 2 4 0 [] u, hu]

end

section
/-!
SUPPORT. What a target that fails leaves, and changes that drive no target (R62, R63, R68, R72).
-/
namespace Sys2Proof.Machine

variable {s t u : State} {x : Fin 9}

/-! ## The enables -/

/-- The fields that show the enables. -/
def enFlds : List Fd := [F.SEQ_STATUS.gate_req, F.SEQ_EFUSE_STATUS.en, F.SEQ_DOM_EN.en 0, F.SEQ_DOM_EN.en 1]

theorem domEn_mem (d : Fin 48) : F.SEQ_DOM_EN.en (d / 32) ∈ enFlds := by
  revert d
  decide

end Sys2Proof.Machine

namespace Sys2Proof
open Machine

variable {s t u : State}

theorem EnablesKept.of_flds (h : ∀ f ∈ enFlds, u.fld f = s.fld f) : EnablesKept s u := by
  refine ⟨State.flag_of_fld (h _ (by simp [enFlds])), fun n => ?_, fun d => ?_⟩
  · rw [State.efuseOn, h _ (by simp [enFlds]), State.efuseOn]
  · rw [State.domOn, h _ (domEn_mem d), State.domOn]

theorem EnablesKept.of_kept {l : List Fd} (h : FldsKept l s u) (hl : ∀ f ∈ enFlds, ∀ g ∈ l, f.apart g = true) : EnablesKept s u :=
  .of_flds fun f hf => h.fld (hl f hf)

theorem EnablesKept.frame : FrameRel EnablesKept where
  refl _ := ⟨rfl, fun _ => rfl, fun _ => rfl⟩
  trans h g := ⟨g.1.trans h.1, fun n => (g.2.1 n).trans (h.2.1 n), fun d => (g.2.2 d).trans (h.2.2 d)⟩

theorem EnablesKept.setF {f : Fd} {v : Nat} (h : f.hi < 32) (hl : f.lo ≤ f.hi) (ha : ∀ g ∈ enFlds, f.apart g = true) :
    (Act.setF f v).Within EnablesKept := fun s => .of_flds fun g hg => State.fld_setF_other s f g v h hl (ha g hg)

theorem EnablesKept.of_csr (h : u.csr = s.csr) : EnablesKept s u := .of_kept (l := []) (.of_csr h) (by simp)

end Sys2Proof

namespace Sys2Proof.Machine

variable {s t u : State} {x : Fin 9}

/-! ## Changes that drive no target -/

/-- From s to u no target was driven: beside the listed fields only what cores, feeds and outputs show of it differs. -/
structure Aside (l : List Fd) (s u : State) : Prop where
  beside : u.besidePower = s.besidePower
  targets : u.targets = s.targets
  gprs : ∀ k, (u.core k).gpr = (s.core k).gpr
  grps : GrpsKept s u
  flds : FldsKept l s u

namespace Aside

variable {l : List Fd}

theorem frame : FrameRel (Aside l) where
  refl _ := ⟨rfl, rfl, fun _ => rfl, fun _ => rfl, fun _ _ => rfl⟩
  trans h g := ⟨g.beside.trans h.beside, g.targets.trans h.targets, fun k => (g.gprs k).trans (h.gprs k),
    fun i => (g.grps i).trans (h.grps i), FldsKept.frame.trans h.flds g.flds⟩

theorem setF {f : Fd} {v : Nat} (hf : f ∈ l) (h : f.hi < 32) (hl : f.lo ≤ f.hi) : (Act.setF f v).Within (Aside l) := fun s =>
  ⟨rfl, rfl, fun _ => rfl, fun _ => rfl, FldsKept.setF hf h hl s⟩

theorem setFBit {f : Fd} {i : Nat} {b : Bool} (hf : f ∈ l) (h : f.hi < 32) (hl : f.lo ≤ f.hi) :
    (Act.setFBit f i b).Within (Aside l) := .get fun _ => setF hf h hl

theorem emitBy {hw : Bool} {source code sev : Nat} {p : List Nat} : (Act.emitBy hw source code sev p).Within (Aside l) := fun _ =>
  ⟨rfl, rfl, fun _ => rfl, fun _ => rfl, fun _ _ => rfl⟩

theorem emit {source code sev : Nat} {p : List Nat} : (Act.emit source code sev p).Within (Aside l) := emitBy

theorem invx {f : Inv → Inv} : (Act.invx f).Within (Aside l) := fun _ => ⟨rfl, rfl, fun _ => rfl, fun _ => rfl, fun _ _ => rfl⟩

theorem dom {d : Fin 48} {f : Dom → Dom} : (Act.dom d f).Within (Aside l) := fun _ =>
  ⟨rfl, rfl, fun _ => rfl, fun _ => rfl, fun _ _ => rfl⟩

theorem of_lines (h : LinesRaised s u) : Aside l s u := by
  obtain ⟨⟨cores, rfl⟩, hgpr⟩ := h
  exact ⟨rfl, rfl, hgpr, fun _ => rfl, fun _ _ => rfl⟩

theorem of_forced (h : Forced s u) : Aside forcedFlds s u :=
  ⟨(onlyPower_iff.mp h.onlyPower).2, h.targets, fun k => by rw [h.core k], h.grps, h.flds⟩

theorem mono {l' : List Fd} (h : Aside l s u) (hl : ∀ g ∈ l, g ∈ l') : Aside l' s u :=
  ⟨h.beside, h.targets, h.gprs, h.grps, h.flds.mono hl⟩

theorem onlyPower (h : Aside l s u) : OnlyPower s u := onlyPower_iff.mpr ⟨h.grps, h.beside⟩

theorem target (h : Aside l s u) (x : Fin 9) : u.target x = s.target x := by rw [State.target, h.targets, State.target]

end Aside

/-! ## Off -/

theorem Act.gateOff_off (s : State) : (Act.gateOff.run s).gateOn = false := by
  have hoff : ((Act.setB F.SEQ_STATUS.gate_req false).run s).gateOn = false := State.flag_setB_same _ _ _ (by decide) (by decide)
  rw [Act.gateOff, Act.run_seq_cons, Act.run_seq_cons, Act.run_seq_cons, Act.run_seq_nil]
  exact (Drove.lapsedEnd _).gateOff ((Drove.seqx (fun h => absurd rfl h) _).gateOff hoff)

/-- A domain that is off stays off where another is driven off. -/
theorem Act.domOff_keeps_off (d e : Fin 48) (s : State) (h : s.domOn d = false) : ((Act.domOff e).run s).domOn d = false := by
  have hclear (f : Fd) (i : Nat) (s : State) (hf : f ∈ enableFlds) (hs : s.domOn d = false) :
      ((Act.setFBit f i false).run s).domOn d = false := by
    obtain ⟨h, hl, -, hpair⟩ := Drove.enableFlds_pairwise f hf
    exact s.bit_clear_of_false h hl (hpair _ (Drove.domFld_mem d).1) hs
  rw [Act.domOff, Act.run_get, Act.run_ite]
  split
  · rw [Act.run_seq_cons, Act.run_seq_cons, Act.run_seq_cons, Act.run_seq_nil]
    exact (Drove.dom (x := 8) _).domOff d (hclear _ _ _ (Drove.domFld_mem e).2 (hclear _ _ _ (Drove.domFld_mem e).1 h))
  · exact h

/-- A domain that was driven off is off. -/
theorem Act.domOff_off (d : Fin 48) (s : State) : ((Act.domOff d).run s).domOn d = false := by
  rw [Act.domOff, Act.run_get, Act.run_ite]
  split
  · have hoff : ((Act.setFBit (F.SEQ_DOM_EN.en (d / 32)) (d % 32) false).run s).domOn d = false := by
      refine State.bit_setFBit_same _ _ _ _ (by simp) ?_
      simp
      omega
    rw [Act.run_seq_cons, Act.run_seq_cons, Act.run_seq_cons, Act.run_seq_nil]
    exact (Drove.dom (x := 8) _).domOff d ((Drove.domPgOff (x := 8) _).domOff d hoff)
  · next h => exact Bool.eq_false_iff.mpr h

/-- Once its domains were driven off one after another, a target's domains are off. -/
theorem Act.ownedOff_off (s t : State) (d : Fin 48) (hd : s.domOwner d = x) :
    ((Act.each (s.ownedDomains x) Act.domOff).run t).domOn d = false :=
  Act.each_establishes (q := fun (d : Fin 48) s => s.domOn d = false) Act.domOff_off Act.domOff_keeps_off t d
    (by simpa [State.ownedDomains] using hd)

/-- The default down-path of a target leaves its domains off. -/
theorem Act.downPath_off (s : State) (d : Fin 48) (hd : s.domOwner d = x) : ((Act.downPath x).run s).domOn d = false := by
  rw [Act.downPath]
  split
  · next h =>
    rw [Act.slotDownPath, Act.run_get, Act.run_seq_cons, Act.run_seq_cons, Act.run_seq_cons, Act.run_seq_cons, Act.run_seq_nil]
    exact ((Drove.frame (x := x)).when (fun _ => Drove.efuseOff_own (n := ⟨x, h⟩) rfl) _).domOff d (Act.ownedOff_off (x := x) s _ d hd)
  · next h =>
    have hx : x = 8 := Fin.ext (by have := x.isLt; omega)
    rw [Act.trayDownPath, Act.run_get, Act.run_andThen]
    exact (Drove.gateOff_own _).domOff d (Act.ownedOff_off (x := 8) s s d (hx ▸ hd))

/-! ## A target that fails -/

theorem State.bindState_same (x : Fin 9) (s : State) {v : Nat} (hv : v < 4) : ((Act.bindState x v).run s).bindState x = v := by
  rw [State.bindState, Act.bindState, State.fld_setF_same _ _ _ (by simp) (by simp)]
  exact Nat.mod_eq_of_lt hv

/-- A clause that is stopped no longer runs. -/
theorem Act.stopClause_none (x : Fin 9) (s : State) : (((Act.stopClause x).run s).target x).run = none := by
  have hend (s : State) : ((Act.endRun x).run s).targets = ((Act.target x fun x => { x with run := none }).run s).targets := by
    rw [Act.endRun, Act.run_andThen]
    split
    · rfl
    · rfl
  rw [Act.stopClause, Act.run_get]
  split
  · rw [Act.run_andThen, State.target, Act.leaveP_targets, hend, ← State.target, State.target_same]
  · next h => exact h

theorem busyFld_apart : ∀ n : Fin 8, ∀ g ∈ enFlds, (F.SLT_STAT.busy n).apart g = true := by decide

theorem stateFld_apart : ∀ x : Fin 9, ∀ g ∈ enFlds, (F.SEQ_CLAUSE_STAT.state x).apart g = true := by decide

theorem EnablesKept.stopClause : (Act.stopClause x).Within EnablesKept := .get fun s => by
  have hend : (Act.endRun x).Within EnablesKept := EnablesKept.frame.andThen (fun _ => .of_csr rfl) (by
    split
    · exact .setF (by simp) (by simp) (busyFld_apart _)
    · exact EnablesKept.frame.skip)
  have hcore {k : Fin 13} {f : Core → Core} {hf} : (Act.putCore k f hf).Within EnablesKept := fun _ => .of_csr rfl
  have hleave {k : Fin 13} : (Act.leaveP k).Within EnablesKept := .get fun _ => .ite (fun _ => EnablesKept.frame.cons hcore <|
    EnablesKept.frame.cons hcore <| EnablesKept.frame.cons hcore EnablesKept.frame.skip) fun _ => EnablesKept.frame.skip
  split
  · exact EnablesKept.frame.andThen hend hleave
  · exact EnablesKept.frame.skip

theorem EnablesKept.due {d : Due} : (Act.due x d).Within EnablesKept :=
  .get fun _ => .ite (fun _ _ => .of_csr rfl) fun _ => EnablesKept.frame.andThen (fun _ => .of_csr rfl) fun _ => .of_csr rfl

theorem EnablesKept.bindState {v : Nat} : (Act.bindState x v).Within EnablesKept := .setF (by simp) (by simp) (stateFld_apart x)

/-- The targets are as before. -/
def TargetsKept (s u : State) : Prop := u.targets = s.targets

theorem TargetsKept.frame : FrameRel TargetsKept where
  refl _ := rfl
  trans h g := Eq.trans g h

theorem TargetsKept.setF {f : Fd} {v : Nat} : (Act.setF f v).Within TargetsKept := fun _ => rfl

theorem TargetsKept.setFBit {f : Fd} {i : Nat} {b : Bool} : (Act.setFBit f i b).Within TargetsKept := fun _ => rfl

theorem TargetsKept.domOff {d : Fin 48} : (Act.domOff d).Within TargetsKept :=
  .get fun _ => .ite (fun _ => frame.cons setFBit <| frame.cons setFBit <| frame.cons (fun _ => rfl) frame.skip)
    fun _ => frame.skip

theorem TargetsKept.gateOff : Act.gateOff.Within TargetsKept := by
  have hlapsed : Act.lapsedEnd.Within TargetsKept := frame.each fun n _ => .get fun s => .ite (fun _ =>
    frame.cons (fun _ => rfl) <| frame.cons setF <| frame.cons setF frame.skip) fun _ => frame.skip
  exact frame.cons setF <| frame.cons (fun _ => rfl) <| frame.cons hlapsed frame.skip

/-- The default down-path keeps the target itself. -/
theorem Act.downPath_target (x : Fin 9) (s : State) : ((Act.downPath x).run s).target x = s.target x := by
  rw [Act.downPath]
  split
  · next h =>
    obtain ⟨⟨-, htarget, -⟩, -⟩ := Act.slotDownPath_downs ⟨x, h⟩ s
    exact htarget
  · have hkept : Act.trayDownPath.Within TargetsKept :=
      .get fun _ => TargetsKept.frame.andThen (TargetsKept.frame.each fun _ _ => TargetsKept.domOff) TargetsKept.gateOff
    exact congrArg (fun l : Vector Target 9 => l[x]) (hkept s)

/-- A target that is FAULT at once: no clause runs, nothing is due, and its domains are off. -/
theorem Act.targetFault_leaves (x : Fin 9) (s : State) : let u := (Act.targetFault x).run s
    u.bindState x = 3 ∧ (u.target x).run = none ∧ (u.target x).due = .none ∧ ∀ d : Fin 48, s.domOwner d = x → u.domOn d = false := by
  rw [Act.targetFault, Act.run_seq_cons, Act.run_seq_cons, Act.run_seq_cons, Act.run_seq_cons, Act.run_seq_nil]
  have hstop := Drove.stopClause (x := x) s
  have hnone := Act.stopClause_none x s
  generalize (Act.stopClause x).run s = a at *
  have hclear : Drove x a _ := Drove.target (f := fun x => { x with due := .none, lift := false }) (fun _ => rfl) a
  have hsame := State.target_same x (fun x => { x with due := .none, lift := false }) a
  generalize (Act.target x fun x => { x with due := .none, lift := false }).run a = b at *
  have htarget : ((Act.bindState x 3).run ((Act.downPath x).run b)).target x = b.target x := Act.downPath_target x b
  rw [hsame] at htarget
  refine ⟨State.bindState_same x _ (by decide), (congrArg Target.run htarget).trans hnone, congrArg Target.due htarget,
    fun d hd => (Drove.bindState _).domOff d (Act.downPath_off b d ?_)⟩
  rw [hclear.domOwner, hstop.domOwner, hd]

/-- A target that fails outside its clauses is FAULT, and its down-clause is due or its domains are off. -/
theorem Act.targetFails_leaves (x : Fin 9) (s : State) : let u := (Act.targetFails x).run s
    u.bindState x = 3 ∧ (u.target x).run = none ∧
      if s.flag (F.SEQ_BIND.down_valid x) then (u.target x).due = .downFault ∧ EnablesKept s u
      else ∀ d : Fin 48, s.domOwner d = x → u.domOn d = false := by
  rw [Act.targetFails, Act.run_get, Act.run_ite]
  split
  · rw [Act.run_seq_cons, Act.run_seq_cons, Act.run_seq_cons, Act.run_seq_cons, Act.run_seq_nil]
    have hkept := EnablesKept.stopClause (x := x) s
    have hnone := Act.stopClause_none x s
    generalize (Act.stopClause x).run s = a at *
    have hlift : EnablesKept a ((Act.target x fun x => { x with lift := false }).run a) := .of_csr rfl
    have hsame := State.target_same x (fun x => { x with lift := false }) a
    generalize (Act.target x fun x => { x with lift := false }).run a = b at *
    obtain ⟨hdue, hrun⟩ := Act.due_run x .downFault b
    have hstep := EnablesKept.due (x := x) (d := .downFault) b
    generalize (Act.due x .downFault).run b = c at *
    refine ⟨State.bindState_same x c (by decide), hrun.trans ((congrArg Target.run hsame).trans hnone), hdue, ?_⟩
    exact EnablesKept.frame.trans hkept <| EnablesKept.frame.trans hlift <| EnablesKept.frame.trans hstep <| EnablesKept.bindState c
  · obtain ⟨hbind, hrun, -, hoff⟩ := Act.targetFault_leaves x s
    exact ⟨hbind, hrun, hoff⟩

end Sys2Proof.Machine
end

section
/-!
SUPPORT. The gate request: turned on, and withdrawn when the input does not come up in time (R61, R62).
-/
namespace Sys2Proof.Machine

variable {s u : State}

theorem Act.gateRequestOn_requests (hp : s.powered = true) (h : s.gateMay = true) : let u := Act.gateRequestOn.run s
    u.gateOn = true ∧ u.seq = { s.seq with gateAt := s.tns.tick, inputGood := false } ∧ FldsKept [F.SEQ_STATUS.gate_req] s u ∧
      u = { s with csr := u.csr, seq := u.seq } := by
  rw [Act.gateRequestOn, Act.run_get, if_pos (by rw [hp, h]; rfl), Act.run_andThen]
  have hon := State.flag_setB_same s F.SEQ_STATUS.gate_req true (by decide) (by decide)
  have hflds : FldsKept [F.SEQ_STATUS.gate_req] s ((Act.setB F.SEQ_STATUS.gate_req true).run s) :=
    FldsKept.setF (by simp) (by decide) (by decide) s
  obtain ⟨csr, ha⟩ : ∃ csr, (Act.setB F.SEQ_STATUS.gate_req true).run s = { s with csr := csr } := ⟨_, rfl⟩
  rw [ha] at hon hflds ⊢
  exact ⟨hon, rfl, hflds, rfl⟩

theorem Act.gateRequestOn_refused (h : s.gateMay = false) : Act.gateRequestOn.run s = s := by
  rw [Act.gateRequestOn, Act.run_get, if_neg (by simp [h]), Act.run_skip]

theorem gateFail_apart : (∀ g ∈ drivenFlds 8, F.SEQ_STATUS.gate_fail.apart g = true) ∧
    F.SEQ_STATUS.gate_fail.apart F.SEQ_STATUS.gate_req = true ∧ F.SEQ_STATUS.gate_fail.off < R.QUA_OUT 0 ∧
    F.SEQ_STATUS.gate_req.off < R.QUA_OUT 0 ∧ (F.SEQ_CLAUSE_STAT.state 8).off < R.QUA_OUT 0 := by
  decide +kernel

/-- The withdrawal of the gate request at the timeout. -/
def Act.gateWithdrawn (s : State) : Act :=
  Act.seq [Act.gateOff, Act.setB F.SEQ_STATUS.gate_fail true, Act.emit 0x02 0x0103 3 [s.vin56 / 100, s.vsnsIn / 100],
    Act.targetFault 8]

theorem Act.gateWithdrawn_leaves (s : State) : let u := (Act.gateWithdrawn s).run s
    u.gateOn = false ∧ u.flag F.SEQ_STATUS.gate_fail = true ∧ u.bindState 8 = 3 ∧ (∀ x, (u.target x).orders = (s.target x).orders) ∧
      OnlyPower s u := by
  obtain ⟨hflds8, hreq, -⟩ := gateFail_apart
  rw [Act.gateWithdrawn, Act.run_seq_cons, Act.run_seq_cons, Act.run_seq_cons, Act.run_seq_cons, Act.run_seq_nil]
  have hoff := Act.gateOff_off s
  have hdrove := Drove.gateOff_own s
  generalize Act.gateOff.run s = a at *
  have hfail := State.flag_setB_same a F.SEQ_STATUS.gate_fail true (by decide) (by decide)
  have haside : Aside [F.SEQ_STATUS.gate_fail] a ((Act.setB F.SEQ_STATUS.gate_fail true).run a) :=
    Aside.setF (by simp) (by decide) (by decide) a
  generalize (Act.setB F.SEQ_STATUS.gate_fail true).run a = b at *
  have hemit : Aside [] b ((Act.emit 0x02 0x0103 3 [s.vin56 / 100, s.vsnsIn / 100]).run b) := Aside.emit b
  generalize (Act.emit 0x02 0x0103 3 [s.vin56 / 100, s.vsnsIn / 100]).run b = c at *
  have hfault := Drove.targetFault (x := 8) c
  obtain ⟨hstate, -⟩ := Act.targetFault_leaves 8 c
  generalize (Act.targetFault 8).run c = d at *
  have hgate : c.gateOn = false := by
    rw [State.gateOn, hemit.flds.flag (by simp), haside.flds.flag (by decide)]
    exact hoff
  have hfail' : c.flag F.SEQ_STATUS.gate_fail = true := by rw [hemit.flds.flag (by simp), hfail]
  refine ⟨hfault.gateOff hgate, (hfault.flds.flag hflds8).trans hfail', hstate, fun x => ?_, ?_⟩
  · rw [hfault.orders, hemit.target, haside.target, hdrove.orders]
  · exact OnlyPower.frame.trans hdrove.onlyPower <| OnlyPower.frame.trans haside.onlyPower <|
      OnlyPower.frame.trans hemit.onlyPower hfault.onlyPower

/-- The request that times out is withdrawn, and the tray is FAULT with its orders kept. -/
theorem Act.gateTimeout_leaves (hp : s.powered = true) (hon : s.gateOn = true) (hgood : s.seq.inputGood = false)
    (hlate : s.seq.gateAt + s.fld F.SEQ_INPUT_CFG.gate_timeout * 10000 ≤ s.tns.tick) : let u := Act.gateTimeout.run s
    u.gateOn = false ∧ u.flag F.SEQ_STATUS.gate_fail = true ∧ u.bindState 8 = 3 ∧ (∀ x, (u.target x).orders = (s.target x).orders) ∧
      OnlyPower s u := by
  rw [Act.gateTimeout, Act.run_get, if_pos (by simp [hp, hon, hgood, hlate]), ← Act.gateWithdrawn]
  obtain ⟨hoff, hfail, hbind, horders, honly⟩ := Act.gateWithdrawn_leaves s
  have hforced := Forced.withFeeds (Act.gateWithdrawn s) s
  obtain ⟨-, -, hlow, hlow', hlow''⟩ := gateFail_apart
  exact ⟨(hforced.flag_off hlow').trans hoff, (hforced.flag_off hlow).trans hfail, (hforced.fld_off hlow'').trans hbind,
    fun x => (congrArg Target.orders (hforced.target x)).trans (horders x), OnlyPower.frame.trans honly hforced.onlyPower⟩

end Sys2Proof.Machine
end

section
/-!
SUPPORT. A slot device that fails and the feed fault that cuts a slot (R63, R161, R162, R422).
-/
namespace Sys2Proof.Machine

variable {s t u a c : State} {n : Fin 8}

/-! ## A failed slot device -/

/-- The fields that the failure of a slot device writes beside its target. -/
def failFlds : List Fd := [F.RST_ABORT.failed, F.RST_ABORT.asserted]

/-- The failure of a slot device is the failure of its target, with the device's failed bit and the ABORT lines. -/
theorem Act.slotFail_leaves (n : Fin 8) (cause : Nat) (s : State) : let u := (Act.slotFail n cause).run s
    Aside failFlds ((Act.targetFails (slotTarget n)).run s) u ∧ bitOf (u.fld F.RST_ABORT.failed) n = true := by
  rw [Act.slotFail, Act.run_get, Act.run_seq_cons, ← slotTarget]
  generalize (Act.targetFails (slotTarget n)).run s = a
  rw [Act.run_seq_cons]
  have hbit := State.bit_setFBit_same a F.RST_ABORT.failed n true (by decide) (by simp; omega)
  have hfailed : Aside failFlds a ((Act.setFBit F.RST_ABORT.failed n true).run a) :=
    Aside.setFBit (by simp [failFlds]) (by decide) (by decide) a
  generalize (Act.setFBit F.RST_ABORT.failed n true).run a = b at *
  have hwhole {v : Nat} : (Act.setF F.RST_ABORT.asserted v).Within (Aside [F.RST_ABORT.asserted]) :=
    Aside.setF (by simp) (by decide) (by decide)
  have hone : (Act.setFBit F.RST_ABORT.asserted n true).Within (Aside [F.RST_ABORT.asserted]) := .get fun _ => hwhole
  intro u
  have hrest : Aside [F.RST_ABORT.asserted] b u := (Aside.frame.cons (.get fun _ => Aside.invx) <| Aside.frame.cons
    (.ite (fun _ => Aside.frame.when fun _ => hwhole) fun _ => hone) <| Aside.frame.cons Aside.emitBy Aside.frame.skip) b
  exact ⟨Aside.frame.trans hfailed (hrest.mono (by simp [failFlds])), by rw [hrest.flds.fld (by decide)]; exact hbit⟩

/-! ## What a cut slot leaves -/

/-- The fields that show a latched fault of a feed. -/
def feedFlds : List Fd := [F.SEQ_EFUSE_STATUS.flt, F.SEQ_EFUSE_STATUS.fault]

/-- The fields that are written after a slot was cut: those of failed devices and of outputs. -/
def afterCutFlds : List Fd := failFlds ++ forcedFlds

theorem feedFlds_apart : (∀ f ∈ enFlds, ∀ g ∈ feedFlds, f.apart g = true) ∧
    (∀ j : Fin 9, ∀ g ∈ feedFlds, (F.SEQ_CLAUSE_STAT.state j).apart g = true) ∧
    (∀ d : Fin 48, ∀ g ∈ feedFlds, (F.SEQ_DOM_CFG.owner d).apart g = true) := by
  decide +kernel

theorem afterCutFlds_apart : (∀ f ∈ enFlds ++ feedFlds, ∀ g ∈ afterCutFlds, f.apart g = true) ∧
    ∀ n : Fin 9, (∀ g ∈ afterCutFlds, (F.SEQ_CLAUSE_STAT.state n).apart g = true) ∧
      ∀ g ∈ afterCutFlds, (F.SLT_STAT.rst n).apart g = true := by
  decide +kernel

theorem slotDriven_apart : ∀ n : Fin 8, (∀ g ∈ drivenFlds (slotTarget n), ∀ f ∈ F.SEQ_STATUS.gate_req :: feedFlds, f.apart g = true) ∧
    ∀ j : Fin 8, j ≠ n → ∀ g ∈ drivenFlds (slotTarget n), (F.SEQ_CLAUSE_STAT.state j).apart g = true := by
  decide +kernel

/-- Memory and what else clauses must not touch are as before where only power differs. -/
theorem sheltered_of (h : u.besidePower = s.besidePower) (hg : ∀ k, (u.core k).gpr = (s.core k).gpr) : Sheltered s u :=
  ⟨congrArg (·.fuses) h, congrArg (·.flash) h, congrArg (·.tags) h, congrArg (·.its) h, congrArg (·.tns) h, congrArg (·.clauses) h,
    congrArg (·.caps) h, congrArg (·.powered) h, hg, fun b _ _ => by
      have hmem : u.mem = s.mem := congrArg (·.mem) h
      rw [State.byte, hmem, State.byte]⟩

/-- The link of a slot whose feed has failed carries emergency duty 1023. -/
theorem State.applied_of_fault (s : State) (n : Fin 8) (h : bitOf (s.fld F.SEQ_EFUSE_STATUS.fault) n = true) : 1023 ≤ s.applied n := by
  have hmem : 1023 ∈ s.emergencies n := by simp [State.emergencies, State.efuseCause, State.slotCause, h]
  have hforce : 1023 ≤ (s.quaForce n).getD 0 := by
    rw [State.quaForce, if_pos n.isLt]
    cases hmax : (s.emergencies n).max? with
    | none => simp [List.max?_eq_none_iff.mp hmax] at hmem
    | some v => exact (List.max?_le_iff hmax).mp (Nat.le_refl _) _ hmem
  rw [State.applied, if_pos n.isLt]
  omega

/-- What a cut slot leaves: its target was driven down after its feed's fault was latched, and then its device failed. -/
theorem slotCut_of (ha : Aside feedFlds s a) (hc : Drove (slotTarget n) a c) (hu : Aside afterCutFlds c u)
    (hefuse : c.efuseOn n = false) (hdoms : ∀ d : Fin 48, a.domOwner d = n → c.domOn d = false) (hstate : c.bindState n = 3)
    (hdue : s.flag (F.SEQ_BIND.down_valid n) = true → (c.target (slotTarget n)).due = .downFault)
    (hrst : s.flag (F.SEQ_BIND.down_valid n) = false → c.flag (F.SLT_STAT.rst n) = true)
    (hfailed : bitOf (u.fld F.RST_ABORT.failed) n = true) (hfault : bitOf (u.fld F.SEQ_EFUSE_STATUS.fault) n = true) :
    SlotCut s u n := by
  obtain ⟨hen, hbind, howner⟩ := feedFlds_apart
  obtain ⟨hlate, hshown⟩ := afterCutFlds_apart
  obtain ⟨hgate, hstates⟩ := slotDriven_apart n
  have hkept : EnablesKept c u := .of_kept hu.flds fun f hf => hlate f (List.mem_append_left _ hf)
  have hfirst : EnablesKept s a := .of_kept ha.flds hen
  have hown (d : Fin 48) : a.domOwner d = s.domOwner d := ha.flds.fld (howner d)
  refine ⟨(hkept.2.1 n).trans hefuse, fun d hd => (hkept.2.2 d).trans (hdoms d ((hown d).trans hd)),
    (hu.flds.fld (hshown (slotTarget n)).1).trans hstate, ?_, hfailed, State.applied_of_fault u n hfault, ?_, fun j hj => ⟨?_, ?_⟩,
    fun d hd => ?_, sheltered_of (hu.beside.trans (hc.beside.trans ha.beside)) fun k => ?_⟩
  · split
    · next hv =>
      intro x hx
      rw [show x = slotTarget n from Fin.ext hx, hu.target]
      exact hdue hv
    · next hv => exact (hu.flds.flag (hshown (slotTarget n)).2).trans (hrst (Bool.eq_false_iff.mpr hv))
  · rw [hkept.1, ← hfirst.1]
    exact hc.flds.flag fun g hg => hgate g hg _ (by simp)
  · rw [hkept.2.1, hc.efuses j (Fin.val_ne_of_ne hj), hfirst.2.1]
  · exact (hu.flds.fld (hshown (slotTarget j)).1).trans ((hc.flds.fld (hstates j hj)).trans (ha.flds.fld (hbind (slotTarget j))))
  · rw [hkept.2.2, hc.doms d (by rw [hown]; exact hd), hfirst.2.2]
  · rw [hu.gprs, hc.gprs, ha.gprs]

theorem downValid_apart : ∀ x : Fin 9, ∀ g ∈ drivenFlds x ++ feedFlds, (F.SEQ_BIND.down_valid x).apart g = true := by
  decide +kernel

/-- What a cut of slot n drives before its device fails, and what the failure adds. -/
theorem Act.cutSlot_leaves (n : Fin 8) (cause : Nat) (a : State) : let u := (Act.cutSlot n cause).run a
    ∃ c, Drove (slotTarget n) a c ∧ Aside failFlds c u ∧ c.efuseOn n = false ∧ (∀ d : Fin 48, a.domOwner d = n → c.domOn d = false) ∧
      c.bindState n = 3 ∧ (a.flag (F.SEQ_BIND.down_valid n) = true → (c.target (slotTarget n)).due = .downFault) ∧
      (a.flag (F.SEQ_BIND.down_valid n) = false → c.flag (F.SLT_STAT.rst n) = true) ∧
      bitOf (u.fld F.RST_ABORT.failed) n = true := by
  rw [Act.cutSlot, Act.run_get, Act.run_seq_cons, Act.run_seq_cons, Act.run_seq_cons, Act.run_seq_nil]
  have hefuse : Drove (slotTarget n) a ((Act.efuseOff n).run a) := Drove.efuseOff_own rfl a
  have hfeed := Act.efuseOff_off n a
  generalize (Act.efuseOff n).run a = b at *
  have hcut : Drove (slotTarget n) a ((Act.each (a.ownedDomains n) Act.domOff).run b) := Drove.ownedOff hefuse
  have hdoms (d : Fin 48) : a.domOwner d = n → ((Act.each (a.ownedDomains n) Act.domOff).run b).domOn d = false :=
    Act.ownedOff_off (x := slotTarget n) a b d
  have hfeed' : ((Act.each (a.ownedDomains n) Act.domOff).run b).efuseOn n = false :=
    ((SlotKept.frame (n := n)).each (fun _ _ => SlotKept.domOff) b).2.2 hfeed
  generalize (Act.each (a.ownedDomains n) Act.domOff).run b = c at *
  have hdown : c.flag (F.SEQ_BIND.down_valid n) = a.flag (F.SEQ_BIND.down_valid n) :=
    hcut.flds.flag fun g hg => downValid_apart (slotTarget n) g (List.mem_append_left _ hg)
  obtain ⟨hfail, hbit⟩ := Act.slotFail_leaves n cause c
  obtain ⟨hstate, -, hthen⟩ := Act.targetFails_leaves (slotTarget n) c
  have hlow (h : c.flag (F.SEQ_BIND.down_valid n) = false) := (Act.targetFails_down h).2.1
  have hdrove : Drove (slotTarget n) c ((Act.targetFails (slotTarget n)).run c) := Drove.targetFails c
  generalize (Act.targetFails (slotTarget n)).run c = e at *
  refine ⟨e, Drove.frame.trans hcut hdrove, hfail, hdrove.efuseOff n hfeed', fun d hd => hdrove.domOff d (hdoms d hd), hstate,
    fun h => ?_, fun h => hlow (hdown.trans h), hbit⟩
  have hvalid : c.flag (F.SEQ_BIND.down_valid (slotTarget n)) = true := hdown.trans h
  rw [if_pos hvalid] at hthen
  exact hthen.1

/-- The records and the lines of a cut of slot n. -/
def Act.cutRecords (n : Fin 8) (cause input : Nat) : Act := (Act.emitHw 0x20 0x0700 4 [2, cause, n, input]).andThen Act.perLine

theorem Act.period_slot (n : Fin 8) (cause input : Nat) (s : State) :
    (Act.period (.slot n) cause input).run s = (Act.cutRecords n cause input).run ((Act.cutSlot n cause).run s) := by
  rw [Act.period, Act.run_seq_cons, Act.run_seq_cons, Act.run_seq_cons, Act.run_seq_nil, Act.cutRecords, Act.run_andThen]
  rfl

theorem Aside.cutRecords {l : List Fd} {cause input : Nat} : (Act.cutRecords n cause input).Within (Aside l) :=
  frame.andThen emitBy fun s => of_lines (.perLine s)

/-- The faulting feed's bits, the cut of its slot and the records of it. -/
def Act.feedFails (s : State) (n : Fin 8) : Act :=
  Act.seq [Act.setFBit F.SEQ_EFUSE_STATUS.flt n true, Act.setFBit F.SEQ_EFUSE_STATUS.fault n true, Act.period (.slot n) 8 0,
    Act.emit (s.clauseSource n) 0x0204 3 [n]]

theorem Act.feedFault_latches (n : Fin 8) (s : State) :
    let a := (Act.setFBit F.SEQ_EFUSE_STATUS.fault n true).run ((Act.setFBit F.SEQ_EFUSE_STATUS.flt n true).run s)
    Aside feedFlds s a ∧ bitOf (a.fld F.SEQ_EFUSE_STATUS.flt) n = true ∧ bitOf (a.fld F.SEQ_EFUSE_STATUS.fault) n = true := by
  intro a
  have hflt : Aside feedFlds s ((Act.setFBit F.SEQ_EFUSE_STATUS.flt n true).run s) :=
    Aside.setFBit (by simp [feedFlds]) (by decide) (by decide) s
  have hbit := State.bit_setFBit_same s F.SEQ_EFUSE_STATUS.flt n true (by decide) (by simp; omega)
  have hfault : Aside [F.SEQ_EFUSE_STATUS.fault] _ a := Aside.setFBit (by simp) (by decide) (by decide) _
  exact ⟨Aside.frame.trans hflt (hfault.mono (by simp [feedFlds])), by rw [hfault.flds.fld (by decide)]; exact hbit,
    State.bit_setFBit_same _ _ _ _ (by decide) (by simp; omega)⟩

/-- A feed that faults is latched off, and its slot is cut. -/
theorem Act.efuseFault_cuts (hp : s.powered = true) (n : Fin 8) : let u := (Act.efuseFault n).run s
    bitOf (u.fld F.SEQ_EFUSE_STATUS.fault) n = true ∧ bitOf (u.fld F.SEQ_EFUSE_STATUS.flt) n = true ∧ SlotCut s u n := by
  rw [Act.efuseFault, Act.run_get, if_pos hp, ← Act.feedFails]
  have hforced := Aside.of_forced (Forced.withForce 8 (Act.feedFails s n) s)
  generalize (Act.withForce 8 (Act.feedFails s n)).run s = u at *
  rw [Act.feedFails, Act.run_seq_cons, Act.run_seq_cons] at hforced
  obtain ⟨ha, hflt, hfault⟩ := Act.feedFault_latches n s
  generalize (Act.setFBit F.SEQ_EFUSE_STATUS.fault n true).run ((Act.setFBit F.SEQ_EFUSE_STATUS.flt n true).run s) = a at *
  obtain ⟨c, hdrove, hfail, hefuse, hdoms, hstate, hdue, hrst, hbit⟩ := Act.cutSlot_leaves n 8 a
  have hdown : a.flag (F.SEQ_BIND.down_valid n) = s.flag (F.SEQ_BIND.down_valid n) :=
    ha.flds.flag fun g hg => downValid_apart (slotTarget n) g (List.mem_append_right _ hg)
  rw [hdown] at hdue hrst
  generalize hv : (Act.cutSlot n 8).run a = v at *
  rw [Act.run_seq_cons, Act.run_seq_cons, Act.run_seq_nil, Act.period_slot, hv] at hforced
  have hrecords : Aside [] v _ := Aside.frame.andThen (Aside.cutRecords (n := n) (cause := 8) (input := 0))
    (Aside.emit (source := s.clauseSource n) (code := 0x0204) (sev := 3) (p := [n.val])) v
  have hu : Aside afterCutFlds c u := Aside.frame.trans
    ((Aside.frame.trans hfail (hrecords.mono (by simp))).mono fun g hg => List.mem_append_left _ hg)
    (hforced.mono fun g hg => List.mem_append_right _ hg)
  have hkept (f : Fd) (hf : f ∈ feedFlds) : u.fld f = a.fld f :=
    (hu.flds.fld (afterCutFlds_apart.1 f (List.mem_append_right _ hf))).trans
      (hdrove.flds.fld fun g hg => (slotDriven_apart n).1 g hg f (List.mem_cons_of_mem _ hf))
  have hfault' : bitOf (u.fld F.SEQ_EFUSE_STATUS.fault) n = true := by rw [hkept _ (by simp [feedFlds])]; exact hfault
  have hfailed : bitOf (u.fld F.RST_ABORT.failed) n = true := by
    rw [hforced.flds.fld (by decide), ← hbit]
    exact congrArg (bitOf · n) (hrecords.flds.fld (by simp))
  exact ⟨hfault', by rw [hkept _ (by simp [feedFlds])]; exact hflt, slotCut_of ha hdrove hu hefuse hdoms hstate hdue hrst
    hfailed hfault'⟩

end Sys2Proof.Machine
end

section
/-!
SUPPORT. The loss of a power-good and the domain's fault action (R68).
-/
namespace Sys2Proof.Machine

variable {s u a v : State} {d : Fin 48} {x : Fin 9}

theorem targetOf_eq_some {m : Nat} : targetOf m = some x ↔ m = x := by
  rw [targetOf]
  split
  · rw [Option.some.injEq, Fin.ext_iff]
  · constructor
    · simp
    · have := x.isLt
      omega

/-- The fault action of a domain as the number that its field holds. -/
def State.faultAction (s : State) (d : Fin 48) : Nat := s.fld (F.SEQ_DOM_CFG.fault_action d)

/-- What the fault action of a domain drives: one target at most, whose slot device may fail with it. -/
theorem Act.domFault_drives (d : Fin 48) (a : State) : ∃ x c, Drove x a c ∧ Aside failFlds c ((Act.domFault d).run a) := by
  have hsame : ∃ x c, Drove x a c ∧ Aside failFlds c a := ⟨8, a, Drove.frame.refl a, Aside.frame.refl a⟩
  rw [Act.domFault, Act.run_get]
  split
  · exact hsame
  · next x hx =>
    rw [targetOf_eq_some] at hx
    split
    · exact hsame
    · exact ⟨x, _, Drove.domOff_run hx, Aside.frame.refl _⟩
    · exact ⟨x, _, Drove.targetFails a, Aside.frame.refl _⟩
    · split
      · next h => exact ⟨x, _, Drove.targetFails a, (Act.slotFail_leaves ⟨x, h⟩ 14 a).1⟩
      · exact ⟨x, _, Drove.targetFails a, Aside.frame.refl _⟩

theorem Act.domFault_none (h : a.faultAction d = 0) : (Act.domFault d).run a = a := by
  rw [State.faultAction] at h
  rw [Act.domFault, Act.run_get]
  split
  · rfl
  · rw [h]
    rfl

theorem Act.domFault_off (hx : a.domOwner d = x) (h : a.faultAction d = 1) :
    (Act.domFault d).run a = (Act.domOff d).run a := by
  rw [State.faultAction] at h
  rw [Act.domFault, Act.run_get, targetOf_eq_some.mpr hx, h]
  rfl

theorem Act.domFault_fails (hx : a.domOwner d = x) (h : 2 ≤ a.faultAction d) :
    Aside failFlds ((Act.targetFails x).run a) ((Act.domFault d).run a) ∧
      (a.faultAction d = 3 → x.val < 8 → bitOf (((Act.domFault d).run a).fld F.RST_ABORT.failed) x = true) := by
  rw [State.faultAction] at *
  rw [Act.domFault, Act.run_get, targetOf_eq_some.mpr hx]
  simp only
  split
  · next h0 => omega
  · next h1 => omega
  · next h2 => exact ⟨Aside.frame.refl _, fun h3 => by omega⟩
  · split
    · next h8 =>
      obtain ⟨haside, hbit⟩ := Act.slotFail_leaves ⟨x, h8⟩ 14 a
      exact ⟨haside, fun _ _ => hbit⟩
    · next h8 => exact ⟨Aside.frame.refl _, fun _ hlt => absurd hlt h8⟩

/-- Driving a domain off changes no field but its enable and its power-good. -/
theorem FldsKept.domOff : (Act.domOff d).Within (FldsKept [F.SEQ_DOM_EN.en (d / 32), F.SEQ_DOM_PG.pg (d / 32)]) :=
  .get fun _ => .ite (fun _ => FldsKept.frame.cons (.setFBit (by simp) (by simp) (by simp)) <|
    FldsKept.frame.cons (.setFBit (by simp) (by simp) (by simp)) <| FldsKept.frame.cons (fun _ => .of_csr rfl) FldsKept.frame.skip)
    fun _ => FldsKept.frame.skip

/-! ## The loss -/

/-- The fields that show the loss of domain d's power-good. -/
def lostFlds (d : Fin 48) : List Fd := [F.SEQ_DOM_PG.pg (d / 32), F.SEQ_DOM_FAULT.fault (d / 32)]

theorem lostFlds_apart : ∀ d : Fin 48, (F.SEQ_DOM_PG.pg (d / 32)).apart (F.SEQ_DOM_FAULT.fault (d / 32)) = true ∧
    (∀ f ∈ [F.SEQ_DOM_CFG.owner d, F.SEQ_DOM_CFG.fault_action d] ++ enFlds, ∀ g ∈ lostFlds d, f.apart g = true) ∧
    (∀ x : Fin 9, ∀ f ∈ [F.SEQ_BIND.down_valid x, F.SEQ_CLAUSE_STAT.state x], ∀ g ∈ lostFlds d, f.apart g = true) ∧
    ∀ f ∈ lostFlds d, ∀ g ∈ afterCutFlds, f.apart g = true := by
  decide +kernel

theorem lostFault_apart : ∀ (d : Fin 48) (x : Fin 9), (∀ g ∈ drivenFlds x, (F.SEQ_DOM_FAULT.fault (d / 32)).apart g = true) ∧
    ∀ g ∈ [F.SEQ_DOM_EN.en (d / 32), F.SEQ_DOM_PG.pg (d / 32)], (F.SEQ_CLAUSE_STAT.state x).apart g = true := by
  decide +kernel

theorem Act.pgLoss_latches (d : Fin 48) (s : State) :
    let a := (Act.setFBit (F.SEQ_DOM_FAULT.fault (d / 32)) (d % 32) true).run
      ((Act.setFBit (F.SEQ_DOM_PG.pg (d / 32)) (d % 32) false).run s)
    Aside (lostFlds d) s a ∧ a.domPg d = false ∧ bitOf (a.fld (F.SEQ_DOM_FAULT.fault (d / 32))) (d % 32) = true := by
  intro a
  have hpg : Aside (lostFlds d) s ((Act.setFBit (F.SEQ_DOM_PG.pg (d / 32)) (d % 32) false).run s) :=
    Aside.setFBit (by simp [lostFlds]) (by simp) (by simp) s
  have hoff := State.bit_setFBit_same s (F.SEQ_DOM_PG.pg (d / 32)) (d % 32) false (by simp) (by simp; omega)
  have hfault : Aside [F.SEQ_DOM_FAULT.fault (d / 32)] _ a := Aside.setFBit (by simp) (by simp) (by simp) _
  refine ⟨Aside.frame.trans hpg (hfault.mono (by simp [lostFlds])), ?_, State.bit_setFBit_same _ _ _ _ (by simp) (by simp; omega)⟩
  rw [State.domPg, hfault.flds.fld]
  · exact hoff
  · simpa using (lostFlds_apart d).1

/-- The power-good that is lost, the domain's fault, its fault action and the record. -/
def Act.pgFails (s : State) (d : Fin 48) : Act :=
  Act.seq [Act.setFBit (F.SEQ_DOM_PG.pg (d / 32)) (d % 32) false, Act.setFBit (F.SEQ_DOM_FAULT.fault (d / 32)) (d % 32) true,
    Act.domFault d, Act.emit (s.clauseSource (s.domOwner d)) 0x0203 3 [d, s.fld (F.SEQ_DOM_CFG.fault_action d)]]

/-- The loss of an enabled domain's power-good latches its fault and then does what its fault action asks for. -/
theorem Act.domPgLost_leaves (hp : s.powered = true) (hon : s.domOn d = true) (hseen : s.doms[d].pgSeen = true)
    (hpg : s.domPg d = true) : ∃ a, Aside (lostFlds d) s a ∧ a.domPg d = false ∧
      bitOf (a.fld (F.SEQ_DOM_FAULT.fault (d / 32))) (d % 32) = true ∧
      Aside forcedFlds ((Act.domFault d).run a) ((Act.domPgLost d).run s) := by
  rw [Act.domPgLost, Act.run_get, if_pos (by simpa [hp, hon, hpg] using hseen), ← Act.pgFails]
  have hforced := Aside.of_forced (Forced.withFeeds (Act.pgFails s d) s)
  generalize (Act.withFeeds (Act.pgFails s d)).run s = u at *
  rw [Act.pgFails, Act.run_seq_cons, Act.run_seq_cons, Act.run_seq_cons, Act.run_seq_cons, Act.run_seq_nil] at hforced
  obtain ⟨ha, hoff, hfault⟩ := Act.pgLoss_latches d s
  exact ⟨_, ha, hoff, hfault, Aside.frame.trans (Aside.emit _) hforced⟩

/-- The enables are beside what is written after a target failed. -/
theorem Aside.enables (h : Aside afterCutFlds s u) : EnablesKept s u :=
  .of_kept h.flds fun f hf => afterCutFlds_apart.1 f (List.mem_append_left _ hf)

theorem Aside.of_fail (h : Aside failFlds s u) : Aside afterCutFlds s u := h.mono fun _ hg => List.mem_append_left _ hg

theorem Aside.of_duties (h : Aside forcedFlds s u) : Aside afterCutFlds s u := h.mono fun _ hg => List.mem_append_right _ hg

theorem Aside.bindState (h : Aside afterCutFlds s u) (x : Fin 9) : u.bindState x = s.bindState x :=
  h.flds.fld (afterCutFlds_apart.2 x).1

theorem lost_enables (h : Aside (lostFlds d) s a) : EnablesKept s a :=
  .of_kept h.flds fun f hf => (lostFlds_apart d).2.1 f (List.mem_append_right _ hf)

section
variable (ha : Aside (lostFlds d) s a) (hv : Aside forcedFlds ((Act.domFault d).run a) u)
include ha hv

theorem domPgLost_shows (hoff : a.domPg d = false) (hfault : bitOf (a.fld (F.SEQ_DOM_FAULT.fault (d / 32))) (d % 32) = true) :
    u.domPg d = false ∧ bitOf (u.fld (F.SEQ_DOM_FAULT.fault (d / 32))) (d % 32) = true ∧ OnlyPower s u := by
  obtain ⟨-, -, -, hlost⟩ := lostFlds_apart d
  obtain ⟨x, c, hdrove, hfail⟩ := Act.domFault_drives d a
  have hu : Aside afterCutFlds c u := Aside.frame.trans hfail.of_fail hv.of_duties
  refine ⟨?_, ?_, OnlyPower.frame.trans ha.onlyPower (OnlyPower.frame.trans hdrove.onlyPower hu.onlyPower)⟩
  · rw [State.domPg, hu.flds.fld (hlost _ (by simp [lostFlds]))]
    exact hdrove.pgOff d hoff
  · rw [hu.flds.fld (hlost _ (by simp [lostFlds])), hdrove.flds.fld (lostFault_apart d x).1]
    exact hfault

theorem domPgLost_idle (h : s.faultAction d = 0) : EnablesKept s u := by
  have hact : a.faultAction d = s.faultAction d := ha.flds.fld ((lostFlds_apart d).2.1 _ (by simp))
  rw [Act.domFault_none (hact.trans h)] at hv
  exact EnablesKept.frame.trans (lost_enables ha) hv.of_duties.enables

theorem domPgLost_acts (hx : s.domOwner d = x) :
    (s.faultAction d = 1 → u.domOn d = false ∧ u.bindState x = s.bindState x) ∧
    (2 ≤ s.faultAction d → u.bindState x = 3 ∧ (u.target x).run = none ∧
      (if s.flag (F.SEQ_BIND.down_valid x) then (u.target x).due = .downFault ∧ EnablesKept s u else u.domOn d = false)) ∧
    (s.faultAction d = 3 → x.val < 8 → bitOf (u.fld F.RST_ABORT.failed) x = true) := by
  obtain ⟨-, hown, hkept, -⟩ := lostFlds_apart d
  have hx' : a.domOwner d = x := (ha.flds.fld (hown _ (by simp))).trans hx
  have hact : a.faultAction d = s.faultAction d := ha.flds.fld (hown _ (by simp))
  have hdown : a.flag (F.SEQ_BIND.down_valid x) = s.flag (F.SEQ_BIND.down_valid x) := ha.flds.flag (hkept x _ (by simp))
  refine ⟨fun h1 => ?_, fun h2 => ?_, fun h3 hlt => ?_⟩
  · rw [Act.domFault_off hx' (hact.trans h1)] at hv
    have hsame : ((Act.domOff d).run a).bindState x = a.bindState x := (FldsKept.domOff a).fld (lostFault_apart d x).2
    exact ⟨(hv.of_duties.enables.2.2 d).trans (Act.domOff_off d a),
      (hv.of_duties.bindState x).trans (hsame.trans (ha.flds.fld (hkept x _ (by simp))))⟩
  · obtain ⟨hfail, -⟩ := Act.domFault_fails hx' (hact ▸ h2)
    obtain ⟨hstate, hrun, hthen⟩ := Act.targetFails_leaves x a
    have hafter := Aside.frame.trans hfail.of_fail hv.of_duties
    rw [hafter.bindState, hafter.target]
    refine ⟨hstate, hrun, ?_⟩
    rw [hdown] at hthen
    by_cases hvalid : s.flag (F.SEQ_BIND.down_valid x) = true
    · rw [if_pos hvalid] at hthen ⊢
      exact ⟨hthen.1, EnablesKept.frame.trans (lost_enables ha) (EnablesKept.frame.trans hthen.2 hafter.enables)⟩
    · rw [if_neg hvalid] at hthen ⊢
      exact (hafter.enables.2.2 d).trans (hthen d hx')
  · rw [hv.flds.fld (by decide)]
    exact (Act.domFault_fails hx' (by omega)).2 (hact.trans h3) hlt

end

end Sys2Proof.Machine
end

section
/-!
SUPPORT. The input is good: the tray's up-clause becomes due while the slots are settled (R62, R70, R73).
-/
namespace Sys2Proof.Machine

variable {s t u : State} {x : Fin 9}

/-- The tray is OFF and may come up: its gate request is on, its input good, it is ordered ON, and nothing but its up-clause is
due. -/
structure TrayMayRise (s : State) : Prop where
  gate : s.gateOn = true
  good : s.seq.inputGood = true
  on : s.effOn 8 = true
  valid : s.flag (F.SEQ_BIND.up_valid 8) = true
  off : s.bindState 8 = 0
  idle : (s.target 8).run = none
  due : (s.target 8).due = .none ∨ (s.target 8).due = .up

/-- The fields that show how the tray stands, and how the orders want it. -/
def trayFlds : List Fd := [F.SEQ_STATUS.gate_req, F.SEQ_BIND.up_valid 8, F.SEQ_CLAUSE_STAT.state 8, F.SEQ_CTL.auto_on]

theorem trayFlds_apart : ∀ f ∈ trayFlds, (∀ x : Fin 9, x ≠ 8 → ∀ g ∈ drivenFlds x, f.apart g = true) ∧
    f.off < R.QUA_OUT 0 := by
  decide +kernel

namespace TrayMayRise

/-- A tray that may rise still may where its target and what shows it are as before. -/
theorem congr (h : TrayMayRise s) (ht : u.target 8 = s.target 8) (hi : u.seq.inputGood = s.seq.inputGood)
    (hf : ∀ f ∈ trayFlds, u.fld f = s.fld f) : TrayMayRise u where
  gate := (State.flag_of_fld (hf _ (by simp [trayFlds]))).trans h.gate
  good := hi.trans h.good
  on := (State.effOn_congr (congrArg Target.orders ht) (State.flag_of_fld (hf _ (by simp [trayFlds])))).trans h.on
  valid := (State.flag_of_fld (hf _ (by simp [trayFlds]))).trans h.valid
  off := (hf _ (by simp [trayFlds])).trans h.off
  idle := by rw [ht, h.idle]
  due := by rw [ht]; exact h.due

theorem of_drove (h : TrayMayRise s) (hx : x ≠ 8) (hd : Drove x s u) : TrayMayRise u ∧ u.target 8 = s.target 8 :=
  have ht := hd.others 8 (Ne.symm hx)
  ⟨h.congr ht (hd.input hx) fun f hf => hd.flds.fld ((trayFlds_apart f hf).1 x hx), ht⟩

theorem of_forced (h : TrayMayRise s) (hf : Forced s u) : TrayMayRise u ∧ u.target 8 = s.target 8 :=
  ⟨h.congr (hf.target 8) (by rw [hf.seq]) fun f hm => hf.fld_off (trayFlds_apart f hm).2, hf.target 8⟩

/-- The up-clause becoming due keeps that the tray may rise. -/
theorem due_up (h : TrayMayRise s) :
    TrayMayRise ((Act.due 8 .up).run ((Act.target 8 fun x => { x with lift := false }).run s)) := by
  set a := (Act.target 8 fun x => { x with lift := false }).run s with ha
  have htarget : a.target 8 = { s.target 8 with lift := false } := State.target_same 8 _ s
  obtain ⟨hdue, hrun⟩ := Act.due_run 8 .up a
  have hcsr : ((Act.due 8 .up).run a).csr = s.csr ∧ ((Act.due 8 .up).run a).seq.inputGood = s.seq.inputGood := by
    rw [Act.due, Act.run_get]
    split <;> exact ⟨rfl, rfl⟩
  have hlift : Drove 8 s a := Drove.target (f := fun x => { x with lift := false }) (fun _ => rfl) s
  have horders : (((Act.due 8 .up).run a).target 8).orders = (s.target 8).orders :=
    ((Drove.due a).orders 8).trans (hlift.orders 8)
  exact {
    gate := (State.flag_of_csr hcsr.1 _).trans h.gate
    good := hcsr.2.trans h.good
    on := (State.effOn_congr horders (State.flag_of_csr hcsr.1 _)).trans h.on
    valid := (State.flag_of_csr hcsr.1 _).trans h.valid
    off := (State.fld_of_csr hcsr.1 _).trans h.off
    idle := hrun.trans ((congrArg Target.run htarget).trans h.idle)
    due := .inr hdue }

/-- Settling the tray makes its up-clause due. -/
theorem settleOne_tray (h : TrayMayRise s) : TrayMayRise ((Act.settleOne 8).run s) ∧
    (((Act.settleOne 8).run s).target 8).due = .up := by
  obtain hdue | hdue := h.due
  · have hrun : (Act.settleOne 8).run s = (Act.due 8 .up).run ((Act.target 8 fun x => { x with lift := false }).run s) := by
      simp [Act.settleOne, State.quiet, h.idle, h.on, h.off, h.valid, h.good, hdue]
    rw [hrun]
    exact ⟨h.due_up, (Act.due_run 8 .up _).1⟩
  · have hrun : (Act.settleOne 8).run s = s := by
      simp [Act.settleOne, State.quiet, h.idle, h.on, hdue]
    rw [hrun]
    exact ⟨h, hdue⟩

/-- Settling a list of targets keeps that the tray may rise, and makes its up-clause due where the tray is among them. -/
theorem each (l : List (Fin 9)) (h : TrayMayRise s) : TrayMayRise ((Act.each l Act.settleOne).run s) ∧
    (8 ∈ l ∨ (s.target 8).due = .up → (((Act.each l Act.settleOne).run s).target 8).due = .up) := by
  induction l generalizing s with
  | nil => exact ⟨h, fun hd => hd.resolve_left (by simp)⟩
  | cons x l ih =>
    rw [Act.run_each_cons]
    by_cases hx : x = 8
    · subst hx
      obtain ⟨hrise, hdue⟩ := h.settleOne_tray
      obtain ⟨hall, hup⟩ := ih hrise
      exact ⟨hall, fun _ => hup (.inr hdue)⟩
    · obtain ⟨hrise, hsame⟩ := h.of_drove hx (Drove.settleOne s)
      obtain ⟨hall, hup⟩ := ih hrise
      refine ⟨hall, fun hd => hup ?_⟩
      rw [hsame]
      exact hd.imp_left fun hm => (List.mem_cons.mp hm).resolve_left (Ne.symm hx)

/-- Settling makes the up-clause of a tray that may rise due. -/
theorem settle (h : TrayMayRise s) : TrayMayRise (Act.settle.run s) ∧ ((Act.settle.run s).target 8).due = .up := by
  rw [Act.settle]
  have hforced := Forced.withFeeds ((Act.each (List.finRange 9) Act.settleOne).andThen (Act.each (List.finRange 9) Act.settleOne)) s
  obtain ⟨hfirst, hdue⟩ := h.each (List.finRange 9)
  obtain ⟨hsecond, hup⟩ := hfirst.each (List.finRange 9)
  rw [Act.run_andThen] at hforced
  obtain ⟨hlast, hsame⟩ := hsecond.of_forced hforced
  exact ⟨hlast, (congrArg Target.due hsame).trans (hup (.inl (List.mem_finRange 8)))⟩

end TrayMayRise

/-- INPUT_GOOD makes the tray's up-clause due. -/
theorem Act.inputIsGood_rises (hp : s.powered = true) (hgate : s.gateOn = true) (hgood : s.seq.inputGood = false)
    (hnear : s.inputNear = true) (hon : s.effOn 8 = true) (hquiet : s.quiet 8 = true) (hoff : s.bindState 8 = 0)
    (hvalid : s.flag (F.SEQ_BIND.up_valid 8) = true) : let u := Act.inputIsGood.run s
    u.seq.inputGood = true ∧ (u.target 8).due = .up ∧ u.gateOn = true ∧ OnlyPower s u := by
  rw [Act.inputIsGood, Act.run_get, if_pos (by simp [hp, hgate, hgood, hnear]), Act.run_andThen]
  simp only [State.quiet, Bool.and_eq_true, Option.isNone_iff_eq_none, decide_eq_true_eq] at hquiet
  have hgood' : OnlyPower s ((Act.seqx fun q => { q with inputGood := true }).run s) := onlyPower_iff.mpr ⟨fun _ => rfl, rfl⟩
  have hrise : TrayMayRise ((Act.seqx fun q => { q with inputGood := true }).run s) :=
    ⟨hgate, rfl, hon, hvalid, hoff, hquiet.1, .inl hquiet.2⟩
  obtain ⟨hlast, hdue⟩ := hrise.settle
  exact ⟨hlast.good, hdue, hlast.gate, OnlyPower.frame.trans hgood' (Settled.settle _).only⟩

end Sys2Proof.Machine
end

section
/-!
SUPPORT. Settling where every target is where its orders have it: nothing but duties change (R73).
-/
namespace Sys2Proof.Machine

variable {s t u : State} {x : Fin 9}

theorem State.target_id {f : Target → Target} (h : f (s.target x) = s.target x) : (Act.target x f).run s = s := by
  have hset : s.targets.set x (f s.targets[x]) = s.targets := by
    rw [show f s.targets[x] = s.targets[x] from h]
    exact Vector.set_getElem_self x.isLt
  show { s with targets := s.targets.set x (f s.targets[x]) } = s
  rw [hset]

/-- Where a target whose clause runs is where the orders have it, settling it changes nothing. -/
theorem Act.settleOne_of_calm_run {r : ClauseRun} (hrun : (s.target x).run = some r) (h : calmAt s x = true) :
    (Act.settleOne x).run s = s := by
  have hquiet : s.quiet x = false := by simp [State.quiet, hrun]
  rw [calmAt] at h
  rw [Act.settleOne, Act.run_get]
  simp only [hrun, hquiet] at h ⊢
  generalize (s.effOn x && (decide (x = 8) || s.effOn 8 && decide (s.bindState 8 = 2))) = want at *
  generalize (decide (x ≠ 8) || (List.finRange 8).all _) = down at *
  rw [Bool.and_eq_true, Bool.not_eq_true'] at h
  obtain ⟨hstop, hstays⟩ := h
  rw [if_neg (by rw [hstop]; exact Bool.false_ne_true)]
  by_cases hwant : want = true
  · rw [if_pos hwant, if_neg (by simp), Act.run_skip]
  · rw [if_neg hwant]
    split
    · next hup =>
      have htransfer : r.inTransfer = true ∧ r.stop = true := by simpa [hwant, (Bool.and_eq_true _ _).mp hup] using hstays
      rw [if_pos htransfer.1]
      refine State.target_id ?_
      have hsame : { r with stop := true } = r := by rw [← htransfer.2]
      rw [hsame, ← hrun]
    · exact Act.run_skip s

/-- Where a target that runs no clause is where the orders have it, settling it changes nothing. -/
theorem Act.settleOne_of_calm_idle (hrun : (s.target x).run = none) (h : calmAt s x = true) : (Act.settleOne x).run s = s := by
  have hquiet : s.quiet x = decide ((s.target x).due = .none) := by simp [State.quiet, hrun]
  rw [calmAt] at h
  rw [Act.settleOne, Act.run_get]
  simp only [hrun, hquiet] at h ⊢
  generalize (s.effOn x && (decide (x = 8) || s.effOn 8 && decide (s.bindState 8 = 2))) = want at *
  generalize (decide (x ≠ 8) || (List.finRange 8).all _) = down at *
  rw [if_neg Bool.false_ne_true]
  by_cases hwant : want = true
  · rw [if_pos hwant, Bool.not_eq_true'] at h
    rw [if_pos hwant, h, if_neg Bool.false_ne_true, Act.run_skip]
  · rw [if_neg hwant, Bool.and_eq_true, decide_eq_true_eq] at h
    obtain ⟨hup, hstays⟩ := h
    rw [if_neg hwant, if_neg hup]
    by_cases hwaits : (s.target x).due ≠ .none ∨ down = false
    · rw [if_neg (by rcases hwaits with h | h <;> simp [h]), if_neg (by rcases hwaits with h | h <;> simp [h]),
        if_neg (by rcases hwaits with h | h <;> simp [h]), Act.run_skip]
    · have hat : (if (decide (x = 8) && decide (s.bindState x = 0)) = true then !s.gateOn
          else decide (s.bindState x = 0) || s.effOn x && s.effOn 8) = true := by
        simpa [not_or.mp hwaits] using hstays
      split at hat
      · next h8 =>
        obtain ⟨-, hoff⟩ := (Bool.and_eq_true _ _).mp h8
        rw [decide_eq_true_eq] at hoff
        rw [Bool.not_eq_true'] at hat
        rw [if_neg (by simp [hoff]), if_neg (by simp [hat]), if_neg (by simp [hoff]), Act.run_skip]
      · next h8 =>
        have hnot : ¬(x = 8 ∧ s.bindState x = 0) := by simpa using h8
        obtain hoff | ⟨honx, hon8⟩ : s.bindState x = 0 ∨ s.effOn x = true ∧ s.effOn 8 = true := by simpa using hat
        · rw [if_neg (by simp [hoff]), if_neg (by simpa [hoff] using fun hx => absurd ⟨hx, hoff⟩ hnot), if_neg (by simp [hoff]),
            Act.run_skip]
        · rw [if_neg (by simp [honx, hon8]), if_neg (by simp_all), if_neg (by simp [honx, hon8]), Act.run_skip]

/-- Where a target is where the orders have it, settling it changes nothing. -/
theorem Act.settleOne_of_calmAt (h : calmAt s x = true) : (Act.settleOne x).run s = s := by
  cases hrun : (s.target x).run with
  | some r => exact Act.settleOne_of_calm_run hrun h
  | none => exact Act.settleOne_of_calm_idle hrun h

/-- Where every target is where its orders have it, settling changes only duties. -/
theorem Act.settle_of_calm (h : calm s = true) : Forced s (Act.settle.run s) := by
  have hat : ∀ x : Fin 9, calmAt s x = true := by simpa [calm] using h
  have heach : (Act.each (List.finRange 9) Act.settleOne).run s = s :=
    Act.each_induct (· = s) _ _ _ (fun x _ u hu => by rw [hu, Act.settleOne_of_calmAt (hat x)]) rfl
  have hforced := Forced.withFeeds ((Act.each (List.finRange 9) Act.settleOne).andThen (Act.each (List.finRange 9) Act.settleOne)) s
  rwa [Act.run_andThen, heach, heach] at hforced

/-! ## What a calm state shows of its targets -/

/-- What settling sees of a target. -/
def Target.seen (x : Target) : Nat × Nat × Due × Bool × Option (Bool × Bool × Bool) :=
  (x.stM, x.stH, x.due, x.lift, x.run.map fun r => (r.up, r.stop, r.inTransfer))

/-- The fields that settling sees of target x. -/
def seenFlds (x : Fin 9) : List Fd :=
  [F.SEQ_CLAUSE_STAT.state x, F.SEQ_BIND.up_valid x, F.SEQ_CTL.auto_on, F.SEQ_STATUS.gate_req]

theorem seenFlds_low : ∀ x : Fin 9, ∀ f ∈ seenFlds x, f.off < R.QUA_OUT 0 := by decide

/-- Two states that settling does not tell apart. -/
structure SeenSame (s u : State) : Prop where
  targets : ∀ x, (u.target x).seen = (s.target x).seen
  input : u.seq.inputGood = s.seq.inputGood
  flds : ∀ x, ∀ f ∈ seenFlds x, u.fld f = s.fld f

namespace SeenSame

theorem effOn (h : SeenSame s u) (x : Fin 9) : u.effOn x = s.effOn x := by
  have hx := h.targets x
  simp only [Target.seen, Prod.mk.injEq] at hx
  obtain ⟨hM, hH, -⟩ := hx
  rw [State.effOn, State.effOn, hM, hH, State.flag_of_fld (h.flds x _ (by simp [seenFlds]))]

theorem quiet (h : SeenSame s u) (x : Fin 9) : u.quiet x = s.quiet x := by
  have hx := h.targets x
  simp only [Target.seen, Prod.mk.injEq] at hx
  obtain ⟨-, -, hdue, -, hrun⟩ := hx
  have hnone := congrArg Option.isNone hrun
  rw [Option.isNone_map, Option.isNone_map] at hnone
  rw [State.quiet, State.quiet, hdue, hnone]

theorem bindState (h : SeenSame s u) (x : Fin 9) : u.bindState x = s.bindState x := h.flds x _ (by simp [seenFlds])

theorem gateOn (h : SeenSame s u) : u.gateOn = s.gateOn := State.flag_of_fld (h.flds 8 _ (by simp [seenFlds]))

theorem upValid (h : SeenSame s u) (x : Fin 9) : u.flag (F.SEQ_BIND.up_valid x) = s.flag (F.SEQ_BIND.up_valid x) :=
  State.flag_of_fld (h.flds x _ (by simp [seenFlds]))

theorem calmAt (h : SeenSame s u) (x : Fin 9) : calmAt u x = calmAt s x := by
  have hx := h.targets x
  simp only [Target.seen, Prod.mk.injEq] at hx
  obtain ⟨-, -, hdue, hlift, hrun⟩ := hx
  have hslots (n : Fin 8) : u.bindState n = s.bindState n := h.bindState (slotTarget n)
  have htray : u.bindState 8 = s.bindState 8 := h.bindState 8
  rw [Sys2Proof.calmAt, Sys2Proof.calmAt]
  simp only [h.effOn, h.quiet, h.bindState, hslots, htray, h.gateOn, h.input, h.upValid, hdue, hlift]
  cases hs : (s.target x).run with
  | none =>
    rw [hs, Option.map_none, Option.map_eq_none_iff] at hrun
    rw [hrun]
  | some r =>
    rw [hs, Option.map_some, Option.map_eq_some_iff] at hrun
    obtain ⟨q, hq, hseen⟩ := hrun
    simp only [Prod.mk.injEq] at hseen
    obtain ⟨hup, hstop, htransfer⟩ := hseen
    rw [hq]
    simp only [hup, hstop, htransfer]

theorem calm (h : SeenSame s u) (hs : calm s = true) : calm u = true := by
  rw [Sys2Proof.calm, List.all_eq_true] at *
  exact fun x hx => (h.calmAt x).trans (hs x hx)

theorem trans (h : SeenSame s t) (g : SeenSame t u) : SeenSame s u :=
  ⟨fun x => (g.targets x).trans (h.targets x), g.input.trans h.input, fun x f hf => (g.flds x f hf).trans (h.flds x f hf)⟩

theorem of_forced (h : Forced s u) : SeenSame s u where
  targets x := by rw [h.target]
  input := by rw [h.seq]
  flds x f hf := h.fld_off (seenFlds_low x f hf)

end SeenSame

end Sys2Proof.Machine
end

section
/-!
SUPPORT. A clause that goes on: the return from its service, and the power-good that it waited for (R66, R71, R229, R232).
-/
namespace Sys2Proof.Machine

variable {s t u : State} {x : Fin 9} {r : ClauseRun} {status : Nat}

/-! ## Cores after one was changed -/

theorem State.core_setPc (k j : Fin 13) (a : Nat) (s : State) : ((Act.setPc k a).run s).core j =
    if j = k then { s.core k with pc := Machine.pcOf a } else s.core j := State.core_putCore s k j _ _

theorem State.core_setMode (k j : Fin 13) (p ppm pie ie exl : Bool) (s : State) : ((Act.setMode k p ppm pie ie exl).run s).core j =
    if j = k then { s.core k with p := p && 3 ≤ k.val, ppm := ppm && 3 ≤ k.val, pie := pie, ie := ie, exl := exl } else s.core j :=
  State.core_putCore s k j _ _

theorem State.core_setGpr (k j : Fin 13) (d : Fin 32) (v : Word) (s : State) : ((Act.setGpr k d v).run s).core j =
    if j = k then (if d = 0 then s.core k else { s.core k with gpr := (s.core k).gpr.set d v }) else s.core j :=
  State.core_putCore s k j _ _

theorem State.core_core (k j : Fin 13) (f : Core → Core) (hf) (s : State) : ((Act.core k f hf).run s).core j =
    if j = k then f (s.core k) else s.core j := State.core_putCore s k j _ _

/-! ## A clause that goes on -/

/-- The core of a clause as it goes on with a status. -/
def Core.resumed (c : Core) (k : Fin 13) (status budget : Nat) : Core :=
  { c with gpr := c.gpr.set 10 (BitVec.ofNat 64 status), pbudget := budget, p := c.ppm && 3 ≤ k.val, ppm := c.ppm && 3 ≤ k.val,
           ie := c.pie, exl := false, pc := pcOf (c.epc.toNat + 4) }

theorem Act.svcReturn_core (r : ClauseRun) (status : Nat) (s : State) (j : Fin 13) : ((Act.svcReturn r status).run s).core j =
    if j = r.core ∧ s.inService r.core = true then
      (s.core r.core).resumed r.core status (s.clauseBudget (clauseBank r.slot r.bank))
    else s.core j := by
  rw [Act.svcReturn, Act.run_get]
  dsimp only
  split
  · next h =>
    rw [Act.run_seq_cons, Act.run_seq_cons, Act.run_seq_cons, Act.run_seq_cons, Act.run_seq_nil]
    by_cases hj : j = r.core
    · rw [if_pos ⟨hj, h⟩, hj, State.core_setPc, if_pos rfl, State.core_setMode, if_pos rfl, State.core_core, if_pos rfl,
        State.core_setGpr, if_pos rfl]
      rfl
    · simp only [State.core_setPc, State.core_setMode, State.core_core, State.core_setGpr, hj, if_false, false_and]
  · next h => simp [h]

theorem Act.svcReturn_cores (r : ClauseRun) (status : Nat) (s : State) : ∃ cores, (Act.svcReturn r status).run s = { s with cores := cores } := by
  rw [Act.svcReturn, Act.run_get]
  dsimp only
  split
  · exact ⟨_, rfl⟩
  · exact ⟨s.cores, rfl⟩

/-- A return from a service lets the clause go on with the status. -/
theorem Act.svcReturn_returns (r : ClauseRun) (status : Nat) (s : State) : Returned s ((Act.svcReturn r status).run s) r status := by
  have hin : s.inService r.core = true ↔ (s.core r.core).exl = true ∧ (s.core r.core).causeIrq = false ∧ (s.core r.core).causeCode = 7 := by
    simp [State.inService, and_assoc]
  refine ⟨fun j hj => ?_, fun hsvc => ?_, fun hsvc => ?_⟩
  · rw [Act.svcReturn_core, if_neg fun h => hj h.1]
  · rw [Act.svcReturn_core, if_pos ⟨rfl, hin.mpr hsvc⟩]
    exact ⟨rfl, rfl, rfl, rfl⟩
  · rw [Act.svcReturn_core, if_neg fun h => hsvc (hin.mp h.2)]

/-- Whether a clause was let go on is seen in the cores, and of the state before in memory and the cores. -/
theorem returned_congr {s' u' : State} (h : Returned s u r status) (hm : s'.mem = s.mem) (hs : s'.cores = s.cores) (hu : u'.cores = u.cores) :
    Returned s' u' r status := by
  have hcore (j : Fin 13) : s'.core j = s.core j := by rw [State.core, hs, State.core]
  have hcore' (j : Fin 13) : u'.core j = u.core j := by rw [State.core, hu, State.core]
  have hbudget (a : Nat) : s'.clauseBudget a = s.clauseBudget a := by
    have hbyte (b : Nat) : s'.byte b = s.byte b := by rw [State.byte, hm, State.byte]
    have hhdr : s'.hdr a 16 4 = s.hdr a 16 4 := by simp only [State.hdr, State.nat, State.bytes, hbyte]
    rw [State.clauseBudget, State.clauseBudget, hhdr]
  simpa only [Returned, hcore, hcore', hbudget] using h

/-- The run of a clause whose wait for a power-good ends: a domain's has counted its discharge waits (R67). -/
def ClauseRun.woken (r : ClauseRun) (w : ClauseWait) : ClauseRun := match w with | .pg d => r.counted d | _ => r

/-- A power-good lets a clause that waits for it go on. -/
def Act.goOn (x : Fin 9) (r : ClauseRun) (w : ClauseWait) : Act :=
  (Act.modRun x fun r => r.woken w).andThen (Act.clauseOk x r)

theorem Act.pgWake_eq (x : Fin 9) (w : ClauseWait) :
    Act.pgWake x w = Act.clauseWake x fun _ r v => Act.when (v = w) (Act.goOn x r w) := by
  cases w <;> rfl

/-- The run of a clause once its wait has ended. -/
def ClauseRun.goneOn (r : ClauseRun) (w : ClauseWait) : ClauseRun := { r.woken w with wait := none }

theorem ClauseRun.goneOn_seen (r : ClauseRun) (w : ClauseWait) :
    (r.goneOn w).up = r.up ∧ (r.goneOn w).stop = r.stop ∧ (r.goneOn w).inTransfer = false := by
  cases w <;> exact ⟨rfl, rfl, rfl⟩

/-- From s to u the clause of target x went on from its wait w. -/
structure WentOn (x : Fin 9) (r : ClauseRun) (w : ClauseWait) (s u : State) : Prop where
  run : (u.target x).run = some (r.goneOn w)
  returned : Returned s u r 0
  seen : SeenSame s u
  rest : ∃ targets cores, u = { s with targets := targets, cores := cores }

/-- A change of the target's clause that settling does not tell apart. -/
theorem SeenSame.target {f : Target → Target} (hf : (f (s.target x)).seen = (s.target x).seen) : SeenSame s ((Act.target x f).run s) where
  targets y := by
    by_cases hy : y = x
    · rw [hy, State.target_same, hf]
    · rw [State.target_other hy]
  input := rfl
  flds _ _ _ := rfl

theorem State.target_target (f g : Target → Target) (s : State) :
    (Act.target x g).run ((Act.target x f).run s) = (Act.target x fun y => g (f y)).run s := by
  show { s with targets := (s.targets.set x (f s.targets[x])).set x (g (s.targets.set x (f s.targets[x]))[x]) } =
    { s with targets := s.targets.set x (g (f s.targets[x])) }
  rw [Vector.set_set]
  simp

/-- A change of a target depends on that target alone. -/
theorem State.target_congr {f g : Target → Target} (h : f (s.target x) = g (s.target x)) :
    (Act.target x f).run s = (Act.target x g).run s := by
  show { s with targets := s.targets.set x (f (s.target x)) } = { s with targets := s.targets.set x (g (s.target x)) }
  rw [h]

theorem Act.goOn_goesOn {w : ClauseWait} (hrun : (s.target x).run = some r) (hw : r.inTransfer = false) :
    WentOn x r w s ((Act.goOn x r w).run s) := by
  obtain ⟨hup, hstop, hidle⟩ := r.goneOn_seen w
  have hwoken : (Act.goOn x r w).run s =
      (Act.svcReturn r 0).run ((Act.target x fun y => { y with run := some (r.goneOn w) }).run s) := by
    rw [Act.goOn, Act.run_andThen, Act.clauseOk, Act.run_andThen, Act.modRun, Act.modRun, State.target_target]
    exact congrArg (Act.svcReturn r 0).run (State.target_congr (by simp [hrun, ClauseRun.goneOn]))
  rw [hwoken]
  set b := (Act.target x fun y => { y with run := some (r.goneOn w) }).run s with hb
  have hsame : b.target x = { s.target x with run := some (r.goneOn w) } := State.target_same ..
  obtain ⟨cores, hcores⟩ := Act.svcReturn_cores r 0 b
  have hreturned := Act.svcReturn_returns r 0 b
  have hseen : SeenSame s b := SeenSame.target (by simp only [Target.seen, hrun, Option.map_some, hidle, hw, hup, hstop])
  rw [hcores] at hreturned ⊢
  exact ⟨congrArg Target.run hsame, returned_congr hreturned rfl rfl rfl, ⟨hseen.targets, hseen.input, hseen.flds⟩, _, _, rfl⟩

/-! ## A power-good that a clause waits for -/

theorem State.run_of_clauseLive (h : s.clauseLive x = some r) : (s.target x).run = some r := by
  rw [State.clauseLive] at h
  split at h
  · exact (Option.filter_eq_some_iff.mp h).1
  · simp at h

/-- From s to u a power-good was told to the clause of target x: nothing but clauses, cores and duties changed, and a clause that
waited for it went on. -/
structure Told (x : Fin 9) (w : ClauseWait) (s u : State) : Prop where
  only : OnlyPower s u
  flds : FldsKept forcedFlds s u
  doms : u.doms = s.doms
  goes : ∀ r, s.clauseLive x = some r → r.wait = some w → (u.target x).run = some (r.goneOn w) ∧ Returned s u r 0

theorem Told.of_idle {w : ClauseWait} (h : ∀ r, s.clauseLive x = some r → r.wait ≠ some w) (hf : Forced s u) : Told x w s u :=
  ⟨hf.onlyPower, hf.flds, hf.doms, fun r hr hw => absurd hw (h r hr)⟩

theorem Told.of_wentOn {w : ClauseWait} (hlive : s.clauseLive x = some r) (h : WentOn x r w s t) (hf : Forced t u) : Told x w s u where
  only := by
    obtain ⟨_, _, rfl⟩ := h.rest
    exact OnlyPower.frame.trans (onlyPower_iff.mpr ⟨fun _ => rfl, rfl⟩) hf.onlyPower
  flds := by
    obtain ⟨_, _, rfl⟩ := h.rest
    exact fun f hf' => hf.flds f hf'
  doms := by
    obtain ⟨_, _, rfl⟩ := h.rest
    exact hf.doms
  goes q hq _ := by
    obtain rfl : r = q := Option.some.inj (hlive.symm.trans hq)
    exact ⟨(congrArg Target.run (hf.target x)).trans h.run, returned_congr h.returned rfl rfl hf.cores⟩

/-- A power-good is told where every target is where its orders have it. -/
theorem Act.pgWake_tells {w : ClauseWait} (hc : calm s = true) (hw : w.isTransfer = false) : Told x w s ((Act.pgWake x w).run s) := by
  rw [Act.pgWake_eq, Act.clauseWake, Act.run_get]
  split
  · next r hr =>
    split
    · next v hv =>
      have hforced := Forced.withFeeds (Act.when (v = w) (Act.goOn x r w)) s
      rw [Act.run_andThen]
      generalize (Act.withFeeds _).run s = a at *
      rw [Act.run_when] at hforced
      by_cases hvw : v = w
      · rw [if_pos (by simpa using hvw)] at hforced
        have hidle : r.inTransfer = false := by rw [ClauseRun.inTransfer, hv, hvw]; exact hw
        have hwent := Act.goOn_goesOn (w := w) (State.run_of_clauseLive hr) hidle
        have hcalm := (hwent.seen.trans (.of_forced hforced)).calm hc
        exact .of_wentOn hr hwent (Forced.frame.trans hforced (Act.settle_of_calm hcalm))
      · rw [if_neg (by simpa using hvw)] at hforced
        have hcalm := (SeenSame.of_forced hforced).calm hc
        refine .of_idle (fun q hq hwait => ?_) (Forced.frame.trans hforced (Act.settle_of_calm hcalm))
        obtain rfl : r = q := Option.some.inj (hr.symm.trans hq)
        exact hvw (Option.some.inj (hv.symm.trans hwait))
    · next hv =>
      refine .of_idle (fun q hq hwait => ?_) (Forced.frame.refl s)
      obtain rfl : r = q := Option.some.inj (hr.symm.trans hq)
      rw [hv] at hwait
      simp at hwait
  · next hr => exact .of_idle (fun q hq => by rw [hr] at hq; simp at hq) (Forced.frame.refl s)

end Sys2Proof.Machine
end

section
/-!
SUPPORT. Power-goods that turn good (R66, R71).
-/
namespace Sys2Proof.Machine

variable {s t u a : State} {x : Fin 9} {f : Fd} {w : ClauseWait}

/-- The fields that show power-goods. -/
def goodFlds : List Fd := [F.SEQ_DOM_PG.pg 0, F.SEQ_DOM_PG.pg 1, F.SEQ_EFUSE_STATUS.pg] ++ (List.range 8).map F.SLT_STAT.pg

theorem goodFlds_apart : ∀ f ∈ goodFlds, (∀ g ∈ enFlds, g.apart f = true) ∧ (∀ x : Fin 9, ∀ g ∈ seenFlds x, g.apart f = true) ∧
    f.hi < 32 ∧ f.lo ≤ f.hi ∧ ∀ g ∈ forcedFlds, f.apart g = true := by
  decide +kernel

theorem goodFlds_mem : (∀ d : Fin 48, F.SEQ_DOM_PG.pg (d / 32) ∈ goodFlds) ∧ F.SEQ_EFUSE_STATUS.pg ∈ goodFlds ∧
    ∀ n : Fin 8, F.SLT_STAT.pg n ∈ goodFlds := by
  decide

/-- From s to a a power-good was shown. -/
structure GoodShown (f : Fd) (s a : State) : Prop where
  mem : f ∈ goodFlds
  aside : Aside [f] s a
  cores : a.cores = s.cores
  seq : a.seq = s.seq

namespace GoodShown

theorem setFBit {i : Nat} (hf : f ∈ goodFlds) (s : State) : GoodShown f s ((Act.setFBit f i true).run s) :=
  have ⟨_, _, h, hl, _⟩ := goodFlds_apart f hf
  ⟨hf, Aside.setFBit (by simp) h hl s, rfl, rfl⟩

theorem setB (hf : f ∈ goodFlds) (s : State) : GoodShown f s ((Act.setB f true).run s) :=
  have ⟨_, _, h, hl, _⟩ := goodFlds_apart f hf
  ⟨hf, Aside.setF (by simp) h hl s, rfl, rfl⟩

variable (h : GoodShown f s a)
include h

theorem enables : EnablesKept s a :=
  .of_kept h.aside.flds fun g hg => by simpa using (goodFlds_apart f h.mem).1 g hg

theorem calm (hc : calm s = true) : calm a = true := by
  have hseen : SeenSame s a := ⟨fun x => by rw [h.aside.target], by rw [h.seq], fun x g hg =>
    h.aside.flds.fld (by simpa using (goodFlds_apart f h.mem).2.1 x g hg)⟩
  exact hseen.calm hc

theorem clauseLive (x : Fin 9) : a.clauseLive x = s.clauseLive x := by
  have hpow : a.powered = s.powered := congrArg (·.powered) h.aside.beside
  have hup (k : Fin 13) : a.coreUp k = s.coreUp k := by rw [State.coreUp, State.core, h.cores, ← State.core, State.coreUp]
  simp only [State.clauseLive, hpow, h.aside.target, hup]

/-- What stands once the clause that waits for the power-good was told. -/
theorem told (ht : Told x w a u) : u.fld f = a.fld f ∧ EnablesKept s u ∧ OnlyPower s u ∧
    ∀ r, s.clauseLive x = some r → r.wait = some w → (u.target x).run = some (r.goneOn w) ∧ Returned s u r 0 := by
  have hduties : EnablesKept a u := .of_kept ht.flds fun g hg g' hg' =>
    afterCutFlds_apart.1 g (List.mem_append_left _ hg) g' (List.mem_append_right _ hg')
  refine ⟨ht.flds.fld (goodFlds_apart f h.mem).2.2.2.2, EnablesKept.frame.trans h.enables hduties,
    OnlyPower.frame.trans h.aside.onlyPower ht.only, fun r hr hw => ?_⟩
  obtain ⟨hrun, hreturned⟩ := ht.goes r ((h.clauseLive x).trans hr) hw
  exact ⟨hrun, returned_congr hreturned (congrArg (·.mem) h.aside.beside).symm h.cores.symm rfl⟩

end GoodShown

theorem Act.efuseGood_leaves (hp : s.powered = true) (hc : calm s = true) (n : Fin 8) (hon : s.efuseOn n = true) :
    let u := (Act.domPgGood (.efuse n)).run s
    bitOf (u.fld F.SEQ_EFUSE_STATUS.pg) n = true ∧ EnablesKept s u ∧ OnlyPower s u ∧ ∀ r, s.clauseLive (slotTarget n) = some r →
      r.wait = some .efuse → (u.target (slotTarget n)).run = some (r.goneOn .efuse) ∧ Returned s u r 0 := by
  have hrun : (Act.domPgGood (.efuse n)).run s =
      (Act.pgWake (slotTarget n) .efuse).run ((Act.setFBit F.SEQ_EFUSE_STATUS.pg n true).run s) := by
    rw [Act.domPgGood, Act.run_get, if_neg (by simp [hp])]
    simp only [hon, Act.run_when, if_true]
    rfl
  have hshown := GoodShown.setFBit (i := n) goodFlds_mem.2.1 s
  have hbit := State.bit_setFBit_same s F.SEQ_EFUSE_STATUS.pg n true (by decide) (by simp; omega)
  rw [hrun]
  obtain ⟨hfld, hrest⟩ := hshown.told (Act.pgWake_tells (x := slotTarget n) (w := .efuse) (hshown.calm hc) rfl)
  exact ⟨by rw [hfld]; exact hbit, hrest⟩

theorem Act.slotGood_leaves (hp : s.powered = true) (hc : calm s = true) (n : Fin 8) :
    let u := (Act.domPgGood (.slot n)).run s
    u.flag (F.SLT_STAT.pg n) = true ∧ EnablesKept s u ∧ OnlyPower s u ∧ ∀ r, s.clauseLive (slotTarget n) = some r →
      r.wait = some .slotPg → (u.target (slotTarget n)).run = some (r.goneOn .slotPg) ∧ Returned s u r 0 := by
  have hrun : (Act.domPgGood (.slot n)).run s =
      (Act.pgWake (slotTarget n) .slotPg).run ((Act.setB (F.SLT_STAT.pg n) true).run s) := by
    rw [Act.domPgGood, Act.run_get, if_neg (by simp [hp])]
    rfl
  have hshown := GoodShown.setB (goodFlds_mem.2.2 n) s
  have hbit := State.flag_setB_same s (F.SLT_STAT.pg n) true (by simp) (by simp)
  rw [hrun]
  obtain ⟨hfld, hrest⟩ := hshown.told (Act.pgWake_tells (x := slotTarget n) (w := .slotPg) (hshown.calm hc) rfl)
  exact ⟨(State.flag_of_fld hfld).trans hbit, hrest⟩

/-- The power-good of domain d is shown, and once it has been seen. -/
def Act.domShown (d : Fin 48) : Act :=
  (Act.setFBit (F.SEQ_DOM_PG.pg (d / 32)) (d % 32) true).andThen (Act.dom d fun x => { x with pgSeen := true })

theorem State.csr_dom (d : Fin 48) (f : Dom → Dom) (s : State) : ((Act.dom d f).run s).csr = s.csr := rfl

theorem GoodShown.dom (h : GoodShown f s a) {d : Fin 48} {g : Dom → Dom} : GoodShown f s ((Act.dom d g).run a) :=
  ⟨h.mem, Aside.frame.trans h.aside (Aside.dom a), h.cores, h.seq⟩

theorem Act.domShown_shows (d : Fin 48) (s : State) : let a := (Act.domShown d).run s
    GoodShown (F.SEQ_DOM_PG.pg (d / 32)) s a ∧ a.domPg d = true ∧ a.doms[d].pgSeen = true := by
  have hshown := GoodShown.setFBit (i := d % 32) (goodFlds_mem.1 d) s
  have hbit := State.bit_setFBit_same s (F.SEQ_DOM_PG.pg (d / 32)) (d % 32) true (by simp) (by simp; omega)
  rw [Act.domShown, Act.run_andThen]
  generalize (Act.setFBit (F.SEQ_DOM_PG.pg (d / 32)) (d % 32) true).run s = b at *
  refine ⟨hshown.dom, ?_, ?_⟩
  · rw [State.domPg, State.fld_of_csr (State.csr_dom ..)]
    exact hbit
  have hdom : ((Act.dom d fun x => { x with pgSeen := true }).run b).doms[d] = { b.doms[d] with pgSeen := true } :=
    Vector.getElem_set_self d.isLt
  rw [hdom]

theorem Act.domGood_leaves (hp : s.powered = true) (hc : calm s = true) (d : Fin 48) (hon : s.domOn d = true) :
    let u := (Act.domPgGood (.dom d)).run s
    u.domPg d = true ∧ u.doms[d].pgSeen = true ∧ EnablesKept s u ∧ OnlyPower s u ∧ ∀ (x : Fin 9) (r : ClauseRun),
      s.domOwner d = x → s.clauseLive x = some r → r.wait = some (.pg d) →
        (u.target x).run = some (r.goneOn (.pg d)) ∧ Returned s u r 0 := by
  have hrun : (Act.domPgGood (.dom d)).run s = (match targetOf (s.domOwner d) with
      | some t => Act.pgWake t (.pg d)
      | none => Act.skip).run ((Act.domShown d).run s) := by
    rw [Act.domPgGood, Act.run_get, if_neg (by simp [hp])]
    simp only [hon, Act.run_when, if_true]
    rfl
  obtain ⟨hshown, hbit, hseen⟩ := Act.domShown_shows d s
  rw [hrun]
  generalize (Act.domShown d).run s = a at *
  cases hx : targetOf (s.domOwner d) with
  | some x =>
    rw [targetOf_eq_some] at hx
    have htold := Act.pgWake_tells (x := x) (w := .pg d) (hshown.calm hc) rfl
    obtain ⟨hfld, hen, honly, hgoes⟩ := hshown.told htold
    refine ⟨by rw [State.domPg, hfld]; exact hbit, by rw [htold.doms]; exact hseen, hen, honly, fun y r hy => ?_⟩
    rw [show y = x from Fin.ext (hy.symm.trans hx)]
    exact hgoes r
  | none =>
    refine ⟨hbit, hseen, hshown.enables, hshown.aside.onlyPower, fun y r hy => ?_⟩
    rw [targetOf_eq_some.mpr hy] at hx
    simp at hx

end Sys2Proof.Machine
end

section
/-!
SUPPORT. A due down-clause that is not bound: the default down-path runs instead (R72).
-/
namespace Sys2Proof.Machine

variable {s t u : State} {x y : Fin 9} {v : Nat}

/-! ## The binding state -/

/-- The binding state of a target is as before. -/
def StateKept (x : Fin 9) (s u : State) : Prop := u.bindState x = s.bindState x

namespace StateKept

theorem frame : FrameRel (StateKept x) where
  refl _ := rfl
  trans h g := Eq.trans g h

theorem of_csr (h : u.csr = s.csr) : StateKept x s u := State.fld_of_csr h _

theorem setF {f : Fd} (h : f.hi < 32) (hl : f.lo ≤ f.hi) (ha : f.apart (F.SEQ_CLAUSE_STAT.state x) = true) :
    (Act.setF f v).Within (StateKept x) := fun s => State.fld_setF_other s f _ v h hl ha

theorem domOff {d : Fin 48} : (Act.domOff d).Within (StateKept x) := fun s =>
  (FldsKept.domOff s).fld (lostFault_apart d x).2

theorem gateFlds_apart : ∀ x : Fin 9, F.SEQ_STATUS.gate_req.apart (F.SEQ_CLAUSE_STAT.state x) = true ∧ ∀ n : Fin 8,
    (F.BUF_RAMP_STAT.duty n).apart (F.SEQ_CLAUSE_STAT.state x) = true ∧
    (F.BUF_RAMP_STAT.active n).apart (F.SEQ_CLAUSE_STAT.state x) = true := by
  decide

theorem gateOff : Act.gateOff.Within (StateKept x) := by
  have hlapsed : Act.lapsedEnd.Within (StateKept x) := frame.each fun n _ => .get fun s => .ite (fun _ =>
    frame.cons (fun _ => of_csr rfl) <| frame.cons (setF (by simp) (by simp) ((gateFlds_apart x).2 n).1) <|
      frame.cons (setF (by simp) (by simp) ((gateFlds_apart x).2 n).2) frame.skip) fun _ => frame.skip
  exact frame.cons (setF (by decide) (by decide) (gateFlds_apart x).1) <| frame.cons (fun _ => of_csr rfl) <|
    frame.cons hlapsed frame.skip

/-- The default down-path of a target keeps its binding state. -/
theorem downPath : (Act.downPath x).Within (StateKept x) := fun s => by
  rw [Act.downPath]
  split
  · next h =>
    obtain ⟨⟨-, -, hstate, -⟩, -⟩ := Act.slotDownPath_downs ⟨x, h⟩ s
    exact hstate
  · have hkept : Act.trayDownPath.Within (StateKept x) := .get fun _ => frame.andThen (frame.each fun _ _ => domOff) gateOff
    exact hkept s

end StateKept

/-! ## A target that is down -/

/-- Target x runs no clause and is OFF or FAULT for good: it is in state v, from which no order lifts it. -/
structure Downed (x : Fin 9) (v : Nat) (s : State) : Prop where
  state : s.bindState x = v
  idle : (s.target x).run = none
  stays : (s.target x).lift = false

namespace Downed

theorem congr (h : Downed x v s) (ht : u.target x = s.target x) (hs : StateKept x s u) : Downed x v u :=
  ⟨hs.trans h.state, by rw [ht, h.idle], by rw [ht, h.stays]⟩

theorem stateFld_apart : ∀ x y : Fin 9, x ≠ y → ∀ g ∈ drivenFlds y, (F.SEQ_CLAUSE_STAT.state x).apart g = true := by
  decide +kernel

theorem stateFld_low : ∀ x : Fin 9, (F.SEQ_CLAUSE_STAT.state x).off < R.QUA_OUT 0 := by decide

theorem of_drove (h : Downed x v s) (hy : x ≠ y) (hd : Drove y s u) : Downed x v u :=
  h.congr (hd.others x hy) (hd.flds.fld (stateFld_apart x y hy))

theorem of_forced (h : Downed x v s) (hf : Forced s u) : Downed x v u := h.congr (hf.target x) (hf.fld_off (stateFld_low x))

theorem due {d : Due} (h : Downed x v s) : Downed x v ((Act.due x d).run s) := by
  have hcsr : ((Act.due x d).run s).csr = s.csr := by
    rw [Act.due, Act.run_get]
    split <;> rfl
  have hlift : (((Act.due x d).run s).target x).lift = (s.target x).lift := by
    rw [Act.due, Act.run_get, Act.run_ite]
    split
    · rw [State.target_same]
    · rw [Act.run_andThen, State.target_seqx, State.target_same]
  exact ⟨(StateKept.of_csr hcsr).trans h.state, (Act.due_run x d s).2.trans h.idle, hlift.trans h.stays⟩

theorem downPath (h : Downed x v s) : Downed x v ((Act.downPath x).run s) := h.congr (Act.downPath_target x s) (StateKept.downPath s)

theorem gateOff (h : Downed x v s) : Downed x v (Act.gateOff.run s) :=
  h.congr (congrArg (fun l : Vector Target 9 => l[x]) (TargetsKept.gateOff s)) (StateKept.gateOff s)

/-- Settling a target that is OFF or FAULT leaves it so. -/
theorem settleOne_own (hv : v = 0 ∨ v = 3) (h : Downed x v s) : Downed x v ((Act.settleOne x).run s) := by
  have hdown : (decide (v = 1) || decide (v = 2)) = false := by
    rcases hv with rfl | rfl <;> rfl
  rw [Act.settleOne, Act.run_get]
  simp only [h.idle, h.state, h.stays, hdown]
  rw [if_neg Bool.false_ne_true]
  split
  · split
    · next h0 =>
      have hv0 : v = 0 := by
        rcases hv with rfl | rfl
        · rfl
        · simp at h0
      have hlift : Downed x v ((Act.target x fun y => { y with lift := false }).run s) :=
        ⟨h.state, by rw [State.target_same]; exact h.idle, by rw [State.target_same]⟩
      rw [Act.run_seq_cons, Act.run_seq_cons, Act.run_seq_cons, Act.run_seq_nil, Act.run_when, if_neg (by simp [hv0])]
      exact hlift.due
    · exact h
  · split
    · rw [if_neg Bool.false_ne_true]
      exact h.due
    · rw [if_neg (by simp)]
      split
      · exact h.gateOff
      · split
        · exact h.downPath
        · exact h

/-- Settling leaves a target that is OFF or FAULT so. -/
theorem settle (hv : v = 0 ∨ v = 3) (h : Downed x v s) : Downed x v (Act.settle.run s) := by
  refine Act.settle_induct (fun _ _ hf h => h.of_forced hf) (fun y s h => ?_) h
  by_cases hy : x = y
  · exact hy ▸ h.settleOne_own hv
  · exact h.of_drove hy (Drove.settleOne s)

end Downed

/-- The default down-path of a target in place of its down-clause, and then settling. -/
def Act.takenDown (x : Fin 9) (v : Nat) : Act := Act.seq [Act.due x .none, Act.downPath x, Act.bindState x v, Act.settle]

theorem Act.takenDown_downs (hv : v = 0 ∨ v = 3) (hrun : (s.target x).run = none) (hlift : (s.target x).lift = false) :
    Downed x v ((Act.takenDown x v).run s) ∧ OnlyPower s ((Act.takenDown x v).run s) := by
  rw [Act.takenDown, Act.run_seq_cons, Act.run_seq_cons, Act.run_seq_cons, Act.run_seq_cons, Act.run_seq_nil]
  have hstart : Downed x (s.bindState x) s := ⟨rfl, hrun, hlift⟩
  have hdown := (hstart.due (d := .none)).downPath
  have hdrove : Drove x s ((Act.downPath x).run ((Act.due x .none).run s)) := Drove.frame.andThen Drove.due Drove.downPath s
  generalize (Act.downPath x).run ((Act.due x .none).run s) = a at *
  have hstate : Downed x v ((Act.bindState x v).run a) := ⟨State.bindState_same x a (by omega), hdown.idle, hdown.stays⟩
  have hdrove' : Drove x a ((Act.bindState x v).run a) := Drove.bindState a
  exact ⟨hstate.settle hv, OnlyPower.frame.trans hdrove.onlyPower (OnlyPower.frame.trans hdrove'.onlyPower (Settled.settle _).only)⟩

end Sys2Proof.Machine
end

section
/-!
SUPPORT. A clause that starts on its core (R70, R229).
-/
namespace Sys2Proof.Machine

variable {s t u : State} {x : Fin 9} {k : Fin 13}

/-! ## The core as the clause enters -/

theorem State.core_setGprs (k : Fin 13) (f : Fin 32 → Word) (s : State) (g : Fin 32) (hg : g ≠ 0) :
    (((Act.each (List.finRange 32) fun g => Act.setGpr k g (f g)).run s).core k).gpr[g] = f g := by
  refine Act.each_establishes (q := fun g s => g ≠ 0 → (s.core k).gpr[g] = f g) (fun g s hg => ?_) (fun g j s h hg => ?_) s g
    (List.mem_finRange g) hg
  · rw [State.gpr_setGpr, if_pos ⟨rfl, hg⟩]
  · rw [State.gpr_setGpr]
    split
    · next he => rw [he.1]
    · exact h hg

/-- Core k runs the clause of bank b of slot n from its entry, in mode P, with its registers cleared and its own stack, regions and
budget (R229). -/
structure Entered (k : Fin 13) (n b : Nat) (s u : State) : Prop where
  mode : (u.core k).p = true
  pc : (u.core k).pc = pcOf (clauseBank n b + 64 + s.hdr (clauseBank n b) 12 2)
  gprs : ∀ g : Fin 32, g ≠ 0 → (u.core k).gpr[g] = if g = 2 then BitVec.ofNat 64 (clauseBank n b + 0x4000) else 0#64
  budget : (u.core k).pbudget = s.clauseBudget (clauseBank n b)
  code : (u.core k).regions[0] = ⟨clauseBank n b / 4096, clauseBank n b / 4096 + 2, 11⟩
  stack : (u.core k).regions[1] = ⟨clauseBank n b / 4096 + 3, clauseBank n b / 4096 + 3, 7⟩

/-- The core of a clause as it enters, but for its general registers. -/
def Core.entered (c : Core) (a budget entry : Nat) (pie ie : Bool) : Core :=
  { c with
    regions := Vector.ofFn fun i : Fin 4 =>
      if i = 0 then ⟨a / 4096, a / 4096 + 2, 11⟩ else if i = 1 then ⟨a / 4096 + 3, a / 4096 + 3, 7⟩ else Region.reset
    pbudget := budget, wait := none, run := .running, p := true, ppm := true, pie := pie, ie := ie, exl := false
    pc := pcOf (a + 64 + entry) }

theorem Act.clauseEnter_core (hk : 3 ≤ k.val) (n b : Nat) (s : State) : ∃ c : Core,
    (∀ g : Fin 32, g ≠ 0 → c.gpr[g] = if g = 2 then BitVec.ofNat 64 (clauseBank n b + 0x4000) else 0#64) ∧
    ((Act.clauseEnter k n b).run s).core k = c.entered (clauseBank n b) (s.clauseBudget (clauseBank n b))
      (s.hdr (clauseBank n b) 12 2) (s.core k).pie (s.core k).ie := by
  rw [Act.clauseEnter, Act.run_get]
  dsimp only
  rw [Act.run_seq_cons, Act.run_seq_cons, Act.run_seq_cons, Act.run_seq_cons, Act.run_seq_cons, Act.run_seq_nil]
  generalize (Act.store _ _).run s = w
  have hgpr := State.core_setGprs k (fun g => if g = 2 then BitVec.ofNat 64 (clauseBank n b + 0x4000) else 0#64) w
  generalize (Act.each _ _).run w = v at *
  refine ⟨v.core k, hgpr, ?_⟩
  rw [State.core_setPc, if_pos rfl, State.core_setMode, if_pos rfl, State.core_core, if_pos rfl]
  simp only [Core.entered, hk, decide_true, Bool.and_self]

/-- From s to u registers, targets and fuses are as before. -/
structure Spared (s u : State) : Prop where
  csr : u.csr = s.csr
  targets : u.targets = s.targets
  fuses : u.fuses = s.fuses

namespace Spared

theorem frame : FrameRel Spared where
  refl _ := ⟨rfl, rfl, rfl⟩
  trans h g := ⟨g.csr.trans h.csr, g.targets.trans h.targets, g.fuses.trans h.fuses⟩

theorem setBytes {a : Nat} {l : List Byte} : (Act.setBytes a l).Within Spared := fun s => by
  rw [Act.setBytes_only]
  exact ⟨rfl, rfl, rfl⟩

theorem setTag {w : Nat} {b : Bool} : (Act.setTag w b).Within Spared := fun _ => ⟨rfl, rfl, rfl⟩

theorem putCore {f : Core → Core} {hf} : (Act.putCore k f hf).Within Spared := fun _ => ⟨rfl, rfl, rfl⟩

theorem grant {a : Agent} {status : Nat} {v : Word} : (Act.grant a status v).Within Spared := fun _ => by
  cases a <;> exact ⟨rfl, rfl, rfl⟩

/-- Serving the waiters of a word changes memory, tags and waits. -/
theorem serveWord {w : Nat} (n : Nat) : (Act.serveWord w n).Within Spared := by
  induction n with
  | zero => exact frame.skip
  | succ n ih =>
    refine .get fun s => .ite (fun _ => frame.skip) fun _ => ?_
    dsimp only
    refine .ite (fun _ => .ite (fun _ => frame.each fun _ _ => grant) fun _ => frame.andThen (frame.each fun _ _ => grant) ?_)
      fun _ => ?_
    · split
      · exact frame.skip
      · exact frame.cons grant <| frame.cons setTag <| frame.cons ih frame.skip
    · split
      · exact frame.skip
      · exact frame.cons setBytes <| frame.cons setTag <| frame.cons grant <| frame.cons ih frame.skip

theorem store {a : Nat} {l : List Byte} : (Act.store a l).Within Spared :=
  frame.andThen setBytes <| .ite (fun _ => frame.each fun _ _ => .get fun _ => .ite (fun _ => frame.skip) fun _ =>
    frame.andThen setTag (.get fun _ => serveWord _)) fun _ => frame.skip

theorem clauseEnter {n b : Nat} : (Act.clauseEnter k n b).Within Spared :=
  .get fun _ => frame.cons store <| frame.cons (frame.each fun _ _ => putCore) <| frame.cons putCore <| frame.cons putCore <|
    frame.cons putCore frame.skip

end Spared

theorem Act.clauseEnter_enters (hk : 3 ≤ k.val) (n b : Nat) (s : State) : Entered k n b s ((Act.clauseEnter k n b).run s) := by
  obtain ⟨c, hgpr, hcore⟩ := Act.clauseEnter_core hk n b s
  constructor <;> rw [hcore]
  · rfl
  · rfl
  · exact hgpr
  · rfl
  · rfl
  · rfl

end Sys2Proof.Machine
end

section
/-!
SUPPORT. CLAUSE_START of a due clause (R70, R229, R422).
-/
namespace Sys2Proof.Machine

variable {s t u : State} {x : Fin 9} {k : Fin 13}

/-- The clause of slot n that starts for target x on core k. -/
def State.startedRun (s : State) (x : Fin 9) (k : Fin 13) (n : Fin 32) (up : Bool) : ClauseRun :=
  ⟨k, n, (s.clauseSlot n).bank, up, (s.target x).due = .downFault, false, s.tns.tick, none, s.tns.tick, [], false⟩

theorem Entered.congr {n b : Nat} {v : State} (h : Entered k n b s u) (hm : s.mem = v.mem) : Entered k n b v u := by
  have hbyte (a : Nat) : s.byte a = v.byte a := by rw [State.byte, hm, State.byte]
  have hhdr (a off m : Nat) : s.hdr a off m = v.hdr a off m := by simp only [State.hdr, State.nat, State.bytes, hbyte]
  have hbudget (a : Nat) : s.clauseBudget a = v.clauseBudget a := by rw [State.clauseBudget, State.clauseBudget, hhdr]
  exact ⟨h.mode, hhdr _ _ _ ▸ h.pc, h.gprs, h.budget.trans (hbudget _), h.code, h.stack⟩

/-- What a started clause changes before it enters its core, after its target: the fields that show it, and a record. -/
def Act.startShown (s : State) (x : Fin 9) (k : Fin 13) (n : Fin 32) (up : Bool) : Act :=
  Act.seq [Act.setF (F.SEQ_CLAUSE_STAT.clause x) n,
    Act.when up (Act.seq [Act.bindState x 1,
      Act.when (x.val < 8 && bitOf (s.fld F.RST_ABORT.asserted) x && bitOf (s.fld F.RST_ABORT.failed) x) (Act.abortUp [x.val])]),
    Act.emit (coreSource k) 0x0200 1 [x, n]]

/-- The fields that show a started clause. -/
def startFlds (x : Fin 9) : List Fd :=
  [F.SEQ_CLAUSE_STAT.clause x, F.SEQ_CLAUSE_STAT.state x, F.RST_ABORT.asserted, F.RST_ABORT.failed]

theorem startFlds_apart : ∀ x : Fin 9, (∀ f ∈ enFlds, ∀ g ∈ startFlds x, f.apart g = true) ∧
    (F.SEQ_CLAUSE_STAT.clause x).apart (F.SEQ_CLAUSE_STAT.state x) = true ∧
    (F.SEQ_CLAUSE_STAT.state x).apart (F.SEQ_CLAUSE_STAT.clause x) = true ∧
    ∀ g ∈ [F.RST_ABORT.asserted, F.RST_ABORT.failed], (F.SEQ_CLAUSE_STAT.clause x).apart g = true ∧
      (F.SEQ_CLAUSE_STAT.state x).apart g = true := by
  decide +kernel

theorem Noted.abortUp {l : List Nat} : (Act.abortUp l).Within (Noted [F.RST_ABORT.asserted, F.RST_ABORT.failed]) := fun s =>
  (AbortsReleased.abortUp l s).noted

/-- The state that an up-clause is in as it starts, and the ABORT line that it releases. -/
def Act.sequencing (x : Fin 9) (released : Bool) : Act := Act.seq [Act.bindState x 1, Act.when released (Act.abortUp [x.val])]

theorem Act.sequencing_shows (released : Bool) (s : State) : let u := (Act.sequencing x released).run s
    Noted [F.SEQ_CLAUSE_STAT.state x, F.RST_ABORT.asserted, F.RST_ABORT.failed] s u ∧ u.bindState x = 1 := by
  rw [Act.sequencing, Act.run_seq_cons, Act.run_seq_cons, Act.run_seq_nil]
  obtain ⟨-, -, -, hlines⟩ := startFlds_apart x
  have hstate : Noted [F.SEQ_CLAUSE_STAT.state x] s ((Act.bindState x 1).run s) := Noted.setF (by simp) (by simp) (by simp) s
  have hone := State.bindState_same x s (v := 1) (by decide)
  generalize (Act.bindState x 1).run s = a at *
  have habort := Noted.frame.when (b := released) (fun _ => Noted.abortUp (l := [x.val])) a
  exact ⟨Noted.frame.trans (hstate.mono (by simp)) (habort.mono (by simp)),
    (habort.2.fld fun g hg => (hlines g hg).2).trans hone⟩

theorem Act.startShown_shows (v : State) (n : Fin 32) (up : Bool) (s : State) : let u := (Act.startShown v x k n up).run s
    Noted (startFlds x) s u ∧ u.fld (F.SEQ_CLAUSE_STAT.clause x) = n ∧ u.bindState x = if up then 1 else s.bindState x := by
  rw [Act.startShown, ← Act.sequencing, Act.run_seq_cons, Act.run_seq_cons, Act.run_seq_cons, Act.run_seq_nil, Act.run_when]
  generalize (decide (x.val < 8) && bitOf (v.fld F.RST_ABORT.asserted) x && bitOf (v.fld F.RST_ABORT.failed) x) = released
  obtain ⟨-, hclause, hstate, hlines⟩ := startFlds_apart x
  have hshown : Noted [F.SEQ_CLAUSE_STAT.clause x] s ((Act.setF (F.SEQ_CLAUSE_STAT.clause x) n).run s) :=
    Noted.setF (by simp) (by simp) (by simp) s
  have hfld : ((Act.setF (F.SEQ_CLAUSE_STAT.clause x) n).run s).fld (F.SEQ_CLAUSE_STAT.clause x) = n :=
    (State.fld_setF_same s _ _ (by simp) (by simp)).trans (Nat.mod_eq_of_lt n.isLt)
  generalize (Act.setF (F.SEQ_CLAUSE_STAT.clause x) n).run s = a at *
  have hkept : a.bindState x = s.bindState x := hshown.2.fld (by simpa using hstate)
  have hseq : Noted [F.SEQ_CLAUSE_STAT.state x, F.RST_ABORT.asserted, F.RST_ABORT.failed] a
      (if up = true then (Act.sequencing x released).run a else a) ∧
      (if up = true then (Act.sequencing x released).run a else a).bindState x = if up then 1 else s.bindState x := by
    by_cases hup : up = true
    · rw [if_pos hup, if_pos hup]
      exact Act.sequencing_shows released a
    · rw [if_neg hup, if_neg hup]
      exact ⟨Noted.frame.refl a, hkept⟩
  generalize (if up = true then (Act.sequencing x released).run a else a) = b at *
  obtain ⟨hnoted, hbind⟩ := hseq
  have hemit : Noted [] b ((Act.emit (coreSource k) 0x0200 1 [x, n]).run b) := Noted.emit b
  refine ⟨Noted.frame.trans (hshown.mono (by simp [startFlds])) (Noted.frame.trans (hnoted.mono (by simp [startFlds]))
    (hemit.mono (by simp))), ?_, (hemit.2.fld (by simp)).trans hbind⟩
  rw [hemit.2.fld (by simp), hnoted.2.fld (by simpa [hclause] using fun g hg => (hlines g hg).1), hfld]

/-- The clause that is due for target x starts. -/
structure Starts (x : Fin 9) (k : Fin 13) (n : Fin 32) (up : Bool) (s u : State) : Prop where
  run : (u.target x).run = some (s.startedRun x k n up)
  due : (u.target x).due = .none
  clause : u.fld (F.SEQ_CLAUSE_STAT.clause x) = n
  state : u.bindState x = if up then 1 else s.bindState x
  entered : Entered k n (s.clauseSlot n).bank s u
  enables : EnablesKept s u
  fuses : u.fuses = s.fuses

/-- A clause's start: its target, what shows it, and the entry on its core. -/
def Act.clauseStarts (s : State) (x : Fin 9) (k : Fin 13) (n : Fin 32) (up : Bool) : Act :=
  (Act.target x fun y => { y with due := .none, run := some (s.startedRun x k n up) }).andThen
    ((Act.startShown s x k n up).andThen (Act.clauseEnter k n (s.clauseSlot n).bank))

theorem Act.clauseStarts_starts (hk : 3 ≤ k.val) (n : Fin 32) (up : Bool) (s : State) :
    Starts x k n up s ((Act.clauseStarts s x k n up).run s) := by
  rw [Act.clauseStarts, Act.run_andThen, Act.run_andThen]
  have htarget := State.target_same x (fun y => { y with due := .none, run := some (s.startedRun x k n up) }) s
  have hcsr : ((Act.target x fun y => { y with due := .none, run := some (s.startedRun x k n up) }).run s).csr = s.csr := rfl
  obtain ⟨targets, ha⟩ : ∃ targets, (Act.target x fun y => { y with due := .none, run := some (s.startedRun x k n up) }).run s =
    { s with targets := targets } := ⟨_, rfl⟩
  generalize (Act.target x fun y => { y with due := .none, run := some (s.startedRun x k n up) }).run s = a at *
  obtain ⟨hnoted, hclause, hstate⟩ := Act.startShown_shows (x := x) (k := k) s n up a
  generalize (Act.startShown s x k n up).run a = b at *
  have hspared := Spared.clauseEnter (k := k) (n := n) (b := (s.clauseSlot n).bank) b
  have hentered := Act.clauseEnter_enters hk n (s.clauseSlot n).bank b
  generalize (Act.clauseEnter k n (s.clauseSlot n).bank).run b = u at *
  have hmem : b.mem = s.mem := by rw [hnoted.eq, ha]
  have hsame : u.target x = a.target x := by rw [State.target, hspared.targets, hnoted.eq, State.target]
  rw [htarget] at hsame
  refine ⟨congrArg Target.run hsame, congrArg Target.due hsame, (State.fld_of_csr hspared.csr _).trans hclause,
    (State.fld_of_csr hspared.csr _).trans (hstate.trans ?_), hentered.congr hmem, ?_, ?_⟩
  · rw [State.bindState, State.fld_of_csr hcsr, State.bindState]
  · exact EnablesKept.frame.trans (.of_csr hcsr) (EnablesKept.frame.trans (.of_kept hnoted.2 (startFlds_apart x).1) (.of_csr hspared.csr))
  · rw [hspared.fuses, hnoted.eq, ha]

/-- CLAUSE_START, where nothing keeps a due clause from its core. -/
theorem Act.clauseStart_run {n : Fin 32} (hp : s.powered = true) (hcore : s.clauseCore x = k) (hk : 3 ≤ k.val) (hup : s.coreUp k = true)
    (hfree : s.clauseFree k = true) (hfirst : s.dueFirst x = true) (hrun : (s.target x).run = none) (hdue : (s.target x).due ≠ .none)
    (hn : (if (s.target x).due = .up then s.fld (F.SEQ_BIND.up x) else s.fld (F.SEQ_BIND.down x)) = n) :
    (Act.clauseStart x).run s =
      if (s.target x).due ≠ .up ∧ s.flag (F.SEQ_BIND.down_valid x) = false then
        (Act.withFeeds (Act.takenDown x (if (s.target x).due = .downFault then 3 else 0))).run s
      else if (s.clauseSlot n).loaded = true then (Act.clauseStarts s x k n (decide ((s.target x).due = .up))).run s
      else s := by
  have hk' : coreNo (s.clauseCore x) = some k := by rw [hcore]; exact dif_pos k.isLt
  have hn' : clauseNo n = some n := dif_pos n.isLt
  rw [Act.clauseStart, Act.run_get]
  simp only [hk', hn, hn']
  have hcond : (!s.powered || decide ((s.target x).due = .none) || (s.target x).run.isSome || decide (k.val < 3) || !s.coreUp k ||
      !s.clauseFree k || !s.dueFirst x) = false := by
    simp [hp, hdue, hrun, hk, hup, hfree, hfirst]
  rw [hcond, if_neg Bool.false_ne_true]
  by_cases hdown : (s.target x).due ≠ .up ∧ s.flag (F.SEQ_BIND.down_valid x) = false
  · rw [if_pos hdown, if_pos (by simpa using hdown), ← Act.takenDown]
  · rw [if_neg hdown, if_neg (by simpa using hdown)]
    by_cases hloaded : (s.clauseSlot n).loaded = true
    · rw [if_pos hloaded, if_neg (by simp [hloaded]), Act.run_seq_cons, State.target_congr (g := fun y =>
        { y with due := .none, run := some (s.startedRun x k n (decide ((s.target x).due = .up))) }) rfl]
      simp only [Act.clauseStarts, Act.startShown, Act.run_andThen, Act.run_seq_cons, Act.run_seq_nil]
    · rw [if_neg hloaded, if_pos (by simpa using hloaded), Act.run_skip]

end Sys2Proof.Machine
end

section
/-!
O47: the gate request, the input, feed faults, power-goods and the start of a clause (R61, R62, R63, R66, R68, R70, R72, R229, R422).
-/
namespace Sys2Proof.Machine

variable {s t u : State} {x : Fin 9} {k : Fin 13} {n : Fin 32}

theorem Target.sameOrders {x y : Target} (h : y.orders = x.orders) : y.stM = x.stM ∧ y.stH = x.stH :=
  ⟨congrArg Prod.fst h, congrArg (fun o => o.2.1) h⟩

theorem Due.falls {d : Due} (h : d = .down ∨ d = .downFault) : d ≠ .up ∧ d ≠ .none := by
  rcases h with rfl | rfl <;> decide

section
variable (hp : s.powered = true) (hcore : s.clauseCore x = k) (hk : 3 ≤ k.val) (hup : s.coreUp k = true)
  (hfree : s.clauseFree k = true) (hfirst : s.dueFirst x = true) (hrun : (s.target x).run = none)
include hp hcore hk hup hfree hfirst hrun

/-- A due up-clause starts. -/
theorem Act.clauseStart_up (hdue : (s.target x).due = .up) (hn : s.fld (F.SEQ_BIND.up x) = n) (hloaded : (s.clauseSlot n).loaded = true) :
    Starts x k n true s ((Act.clauseStart x).run s) := by
  rw [Act.clauseStart_run hp hcore hk hup hfree hfirst hrun (by rw [hdue]; decide) ((if_pos hdue).trans hn),
    if_neg fun h => h.1 hdue, if_pos hloaded, decide_eq_true hdue]
  exact Act.clauseStarts_starts hk n true s

variable (hdue : (s.target x).due = .down ∨ (s.target x).due = .downFault) (hn : s.fld (F.SEQ_BIND.down x) = n)
include hdue hn

/-- A due down-clause that is bound starts. -/
theorem Act.clauseStart_down (hvalid : s.flag (F.SEQ_BIND.down_valid x) = true) (hloaded : (s.clauseSlot n).loaded = true) :
    Starts x k n false s ((Act.clauseStart x).run s) := by
  obtain ⟨hnot, hnone⟩ := Due.falls hdue
  rw [Act.clauseStart_run hp hcore hk hup hfree hfirst hrun hnone ((if_neg hnot).trans hn), if_neg (by simp [hvalid]),
    if_pos hloaded, decide_eq_false hnot]
  exact Act.clauseStarts_starts hk n false s

/-- In place of a due down-clause that is not bound the default down-path runs. -/
theorem Act.clauseStart_unbound (hvalid : s.flag (F.SEQ_BIND.down_valid x) = false) (hlift : (s.target x).lift = false) :
    Downed x (if (s.target x).due = .down then 0 else 3) ((Act.clauseStart x).run s) ∧ OnlyPower s ((Act.clauseStart x).run s) := by
  obtain ⟨hnot, hnone⟩ := Due.falls hdue
  have hstate : (if (s.target x).due = .downFault then 3 else 0) = if (s.target x).due = .down then 0 else 3 := by
    rcases hdue with h | h <;> rw [h] <;> rfl
  rw [Act.clauseStart_run hp hcore hk hup hfree hfirst hrun hnone ((if_neg hnot).trans hn), if_pos (And.intro hnot hvalid), hstate]
  have hv : (if (s.target x).due = .down then 0 else 3) = 0 ∨ (if (s.target x).due = .down then 0 else 3) = 3 := by
    rcases hdue with h | h <;> rw [h] <;> decide
  generalize (if (s.target x).due = .down then 0 else 3) = v at *
  obtain ⟨hdown, honly⟩ := Act.takenDown_downs hv hrun hlift
  have hforced := Forced.withFeeds (Act.takenDown x v) s
  exact ⟨hdown.of_forced hforced, OnlyPower.frame.trans honly hforced.onlyPower⟩

end

/-- What starts, as it is seen of the core, the target and the enables. -/
theorem Starts.seen {up : Bool} (h : Starts x k n up s u) :
    let a := clauseBank n (s.clauseSlot n).bank
    (∃ r, (u.target x).run = some r ∧ r.core = k ∧ r.slot = n.val ∧ r.bank = (s.clauseSlot n).bank ∧ r.up = up ∧
      r.toFault = decide ((s.target x).due = .downFault) ∧ r.onFail = false ∧ r.wait = none) ∧
    (u.target x).due = .none ∧ u.fld (F.SEQ_CLAUSE_STAT.clause x) = n ∧ u.bindState x = (if up then 1 else s.bindState x) ∧
    (u.core k).p = true ∧ (u.core k).pc = pcOf (a + 64 + s.hdr a 12 2) ∧
    (∀ g : Fin 32, g ≠ 0 → (u.core k).gpr[g] = if g = 2 then BitVec.ofNat 64 (a + 0x4000) else 0#64) ∧
    (u.core k).pbudget = s.clauseBudget a ∧ (u.core k).regions[0] = ⟨a / 4096, a / 4096 + 2, 11⟩ ∧
    (u.core k).regions[1] = ⟨a / 4096 + 3, a / 4096 + 3, 7⟩ ∧ EnablesKept s u ∧ s.fuses = u.fuses :=
  ⟨⟨_, h.run, rfl, rfl, rfl, rfl, rfl, rfl, rfl⟩, h.due, h.clause, h.state, h.entered.mode, h.entered.pc, h.entered.gprs,
    h.entered.budget, h.entered.code, h.entered.stack, h.enables, h.fuses.symm⟩

end Sys2Proof.Machine

open Sys2Proof Sys2Proof.Machine

/-- Settles O47, clause by clause: each command drives one target at most, and what it drives stands once the others are settled. -/
theorem theGateTheFeedsAndTheClausesStart : Obligations.TheGateTheFeedsAndTheClausesStart := by
  unfold Obligations.TheGateTheFeedsAndTheClausesStart
  refine fun s hp => ⟨fun h => ⟨_, rfl, Act.gateRequestOn_requests hp h⟩, fun h => ?_,
    fun hgate hgood hnear hon hquiet hoff hvalid => ⟨_, rfl, Act.inputIsGood_rises hp hgate hgood hnear hon hquiet hoff hvalid⟩,
    fun hon hgood hlate => ?_, fun n => ⟨_, rfl, Act.efuseFault_cuts hp n⟩, fun hc => ⟨fun d hon => ?_, fun n x hx => ?_⟩,
    fun d hon hseen hpg => ?_, fun x k n hcore hk hup hfree hfirst hrun => ?_⟩
  · exact congrArg Host.Outcome.next (Act.gateRequestOn_refused h)
  · obtain ⟨hoff, hfail, hstate, horders, honly⟩ := Act.gateTimeout_leaves hp hon hgood hlate
    exact ⟨_, rfl, hoff, hfail, hstate, fun x => Target.sameOrders (horders x), honly⟩
  · obtain ⟨hgood, hseen, hen, honly, hgoes⟩ := Act.domGood_leaves hp hc d hon
    exact ⟨_, rfl, hgood, hseen, hen, honly, fun x r hx hr hw => hgoes x r hx hr hw⟩
  · obtain rfl : x = slotTarget n := Fin.ext hx
    exact ⟨fun hon => ⟨_, rfl, Act.efuseGood_leaves hp hc n hon⟩, _, rfl, Act.slotGood_leaves hp hc n⟩
  · obtain ⟨a, ha, hoff, hfault, hv⟩ := Act.domPgLost_leaves hp hon hseen hpg
    obtain ⟨hpgOff, hshown, honly⟩ := domPgLost_shows ha hv hoff hfault
    refine ⟨_, rfl, hpgOff, hshown, honly, domPgLost_idle ha hv, fun x hx => domPgLost_acts ha hv hx⟩
  · exact ⟨fun hdue hn hloaded => ⟨_, rfl, (Act.clauseStart_up hp hcore hk hup hfree hfirst hrun hdue hn hloaded).seen⟩,
      fun hdue hn => ⟨fun hvalid hloaded =>
        ⟨_, rfl, (Act.clauseStart_down hp hcore hk hup hfree hfirst hrun hdue hn hvalid hloaded).seen⟩, fun hvalid hlift =>
        have h := Act.clauseStart_unbound hp hcore hk hup hfree hfirst hrun hdue hn hvalid hlift
        ⟨_, rfl, h.1.state, h.1.idle, h.2⟩⟩⟩

end

section
/-!
O46, refuted: END of the tray's up-clause need not leave the tray ON. `calm` does not keep the tray's up-clause from standing as due
again while it runs: once it has ended, settling finds the due clause, the order OFF and no down-clause bound, and takes the tray down.
-/
namespace Sys2Proof.Machine

/-- The tray's up-clause runs on core 3, to which no order but OFF applies any more, while the tray's up-clause stands as due
again and slot 0's down-clause is still due. -/
def upDueAgain : State :=
  { State.reset with
    cores := State.reset.cores.set 3 { State.reset.cores[3] with run := .running }
    targets := (State.reset.targets.set 0 { Target.reset with due := .down }).set 8
      { Target.reset with stM := 2, due := .up, run := some ⟨3, 0, 0, true, false, false, 0, none, 0, [], false⟩ } }

theorem upDueAgain_calm : calm upDueAgain = true := by decide +kernel

theorem upDueAgain_live : upDueAgain.clauseLive 8 = some ⟨3, 0, 0, true, false, false, 0, none, 0, [], false⟩ := by decide +kernel

theorem upDueAgain_end : ((Act.clauseEnd 8).run upDueAgain).bindState 8 = 0 := by decide +kernel

end Sys2Proof.Machine

open Sys2Proof Sys2Proof.Machine

/-- Refutes O46: the tray is OFF, not ON, after END of its up-clause, where that clause stood as due again and the order is OFF. -/
theorem not_clauseInstructionsActAsStated : ¬ Obligations.ClauseInstructionsActAsStated := by
  unfold Obligations.ClauseInstructionsActAsStated
  intro h
  obtain ⟨⟨-, -, -, -, -, -, hend⟩, -⟩ := And.imp_left (fun f => f rfl) (h upDueAgain 8 _ upDueAgain_calm upDueAgain_live)
  obtain ⟨u, hu, -, hstate, -⟩ := hend rfl
  obtain rfl : (Act.clauseEnd 8).run upDueAgain = u := Host.Outcome.next.inj hu
  exact absurd (upDueAgain_end.symm.trans hstate) (by decide)

end
